-- ==== Sys2Proof/Word.lean ====
section
/-! DEFINITION. Word.lean: the word types of the device. Every register is 32 bits wide (R9 and the
introduction of its chapter, spec/00_scope.md); memory is addressed by bytes and is little-endian (R8). -/
namespace Sys2Proof

/-- A 32-bit register word. -/
abbrev Word := BitVec 32

/-- One byte of memory. -/
abbrev Byte := BitVec 8

/-- A 40-bit accumulator (R67, R171). -/
abbrev Acc40 := BitVec 40

end Sys2Proof
end

