-- ==== Sys2Proof/Config.lean ====
section
/-! DEFINITION. Config.lean: what the spec leaves open. Each constant here has no body, so nothing can be proved of its
value; the assumption log names every use (notes/assumptions/). -/
namespace Sys2Proof.Config

/-- A fresh value of `w` bits the spec leaves open, drawn by the counter `State.free` (log entry 1). -/
opaque freeBits (w : Nat) : Nat → BitVec w

/-- A fresh choice between two behaviours that the spec allows, drawn by the counter `State.free` (log entry 1). -/
opaque freeBool : Nat → Bool

end Sys2Proof.Config
end

