-- ==== Sys2Proof/Syntax.lean ====
section
/-! DEFINITION. Syntax.lean: the commands of the device, one constructor of Instr per row of spec/opcode_table.json, with the data types of
their operands. Numbers of units are the global numbers of R28; times and addresses are plain numbers. -/
namespace Sys2Proof

/-- What the network, or fabric logic at a NAP window, answers where the device's own state does not decide it: `status` is 0
when the access is delivered, else the response code of R259 that the network imposes (R275, R276); `data` and `ok` are what
fabric logic answers to an access of its NAP window (R271). -/
structure Net where
  status : Nat
  data : Nat
  ok : Bool
  deriving DecidableEq, Repr

/-- A request packet as it reaches a target port (R256, R258). -/
structure Packet where
  src : Nat
  sport : Nat
  tc : Nat
  tag : Nat
  pa : Nat
  size : Nat
  dev : Bool
  dbg : Bool
  age : Nat
  deriving DecidableEq, Repr

/-- A source of the island routing (R50), as an image selects it for an input. Ports of an edge are numbered N 0, E 1, S 2,
W 3 as in R123; hard units' port causeways are numbered as the model's log says (log entry 20). -/
inductive Src where
  | zero
  | y (block cell : Nat)
  | q (block cell : Nat)
  | sliceOut (slice bit : Nat)
  | sliceMsat (slice : Nat)
  | sliceAv (slice : Nat)
  | sliceSat (slice : Nat)
  | storeData (store port bit : Nat)
  | storeCe (store port : Nat)
  | storeUe (store port : Nat)
  | chanData (edge chan bit : Nat)
  | chanValid (edge chan : Nat)
  | chanFull (edge chan : Nat)
  | chanSlk (edge chan : Nat)
  | slack (edge line : Nat)
  | portLine (line : Nat)
  | gpio (line : Nat)
  deriving DecidableEq, Repr

/-- One product term (R51, R52): the inputs whose true and whose complement literal it selects, bit i for input Ii, and its
steering value TSEL. -/
structure TermCfg where
  pos : Nat
  neg : Nat
  tsel : Nat
  deriving DecidableEq, Repr

/-- One macrocell (R54, R55, R57, R58, R60, R61). `xsel` is 0 for 0, 1 for 1, 2 for the private term; `ce` is 0 always 1, 1 CTL0,
2 CTL1, 3 private term; `sr` is 0 none, 1 CTL2, 2 private term; `ar` is 0 none, 1 CTL3, 2 private term. -/
structure MacroCfg where
  mode : Nat
  pvt : Bool
  ch : Bool
  xsel : Nat
  ce : Nat
  sr : Nat
  ar : Nat
  init : Bool
  rval : Bool
  deriving DecidableEq, Repr

/-- One logic block (R51 to R60): its 48 inputs, its 80 terms, its 16 macrocells, the chain head that takes CIN, its four control
inputs and its edge select. -/
structure BlockCfg where
  inputs : List Src
  terms : List TermCfg
  macros : List MacroCfg
  head : Option Nat
  ctl : List Src
  fall : Bool
  deriving DecidableEq, Repr

/-- One arithmetic slice (R64 to R67). -/
structure SliceCfg where
  a : List Src
  b : List Src
  c : List Src
  xsel : List Src
  sub : Src
  pz : Src
  ce : Src
  rst : Src
  fclr : Src
  areg : Bool
  breg : Bool
  preg : Bool
  oreg : Bool
  mmode : Nat
  frac : Bool
  shift : Nat
  rnd : Bool
  wide : Bool
  uns : Bool
  deriving DecidableEq, Repr

/-- One port of an island store (R72 to R76). `shape` is the number of bits of a word: 1, 2, 4, 9, 18 or 36. -/
structure StorePortCfg where
  shape : Nat
  addr : List Src
  data : List Src
  we : List Src
  re : Src
  wmode : Nat
  outreg : Bool
  orst : Nat
  deriving DecidableEq, Repr

/-- One island store: `mode` is 0 single port, 1 simple dual port, 2 true dual port (R73). -/
structure StoreCfg where
  mode : Nat
  a : StorePortCfg
  b : StorePortCfg
  deriving DecidableEq, Repr

/-- One causeway end of an island (R96, R100): its edge and channel, whether the island holds the source end, and what drives
PUSH and DATA, or POP. An edge of 4 and above names a port causeway of a hard unit. -/
structure ChanCfg where
  edge : Nat
  chan : Nat
  source : Bool
  strobe : Src
  data : List Src
  deriving DecidableEq, Repr

/-- One slack line that the island drives (R103, R104). -/
structure SlackCfg where
  edge : Nat
  line : Nat
  src : Src
  park : Bool
  deriving DecidableEq, Repr

/-- One general I/O port line that the island drives (R535). -/
structure GpioCfg where
  line : Nat
  out : Src
  oe : Src
  deriving DecidableEq, Repr

/-- What the configuration cells of an island say, as the image's CELLS record sets them (R430); the cells' bit layout is the
design tool's and is not given by the spec (log entry 21). -/
structure IslandCfg where
  blocks : List (Nat × BlockCfg)
  slices : List (Nat × SliceCfg)
  stores : List (Nat × StoreCfg)
  chans : List ChanCfg
  slacks : List SlackCfg
  gpios : List GpioCfg
  deriving DecidableEq, Repr

/-- A master request as fabric logic pushes it to a NAP (R269): a 64-byte line of data with its byte enables goes with a write. -/
structure MasterReq where
  write : Bool
  size : Nat
  tag : Nat
  va : Nat
  data : Nat
  be : Nat
  deriving DecidableEq, Repr

/-- What a MAC's PCS and FEC report (R339, R349): every lane of the port that does not align by blocks holds its PCS lock, the FEC
is locked, a local fault, a remote fault, a high bit-error rate, and the codewords corrected and uncorrectable since the last report. -/
structure MacReport where
  pcs : Bool
  fec : Bool
  localFault : Bool
  remoteFault : Bool
  hiBer : Bool
  corr : Nat
  unc : Nat
  deriving DecidableEq, Repr

/-- A CAN or CAN FD frame (R345). -/
structure CanFrame where
  id : Nat
  ide : Bool
  rtr : Bool
  dlc : Nat
  fdf : Bool
  brs : Bool
  esi : Bool
  data : List (BitVec 8)
  deriving DecidableEq, Repr

/-- What the sensors of a quadrant read at an update (R473, R479, R480): its 16 temperatures in 0.125 °C as 12-bit codes, its load power in 0.1 W,
and, for Q0, the supply die's input voltage in mV, input current in 10 mA, IBUS in mV and input power in 0.1 W. -/
structure Sensors where
  temps : List (BitVec 12)
  load : Nat
  vin : Nat
  iin : Nat
  ibus : Nat
  pin : Nat
  deriving DecidableEq, Repr


/-! ## The object dictionary and the system link (spec/11_object_dictionary.md) -/

/-- Where a Clanex request comes from (R389, R401): the PF0 mailbox, a UDP endpoint behind a MAC (with the Ethernet address that the answer goes to),
a node on the bus of a CAN FD controller, or a device of the system link. -/
inductive Origin where
  | pf0
  | udp (mac ip port eth : Nat)
  | can (n node : Nat)
  | link (la : Nat)
  deriving DecidableEq, Repr

/-- The header of a Clanex request as far as it is not fixed by its operation (R402). -/
structure ClHead where
  dst : Nat
  src : Nat
  seq : Nat
  session : Nat
  via : Bool
  linkDst : Nat
  deriving DecidableEq, Repr

/-- A Clanex record (R403): index, sub-index, type code, length in bytes and value. -/
structure ClRec where
  index : Nat
  sub : Nat
  type : Nat
  len : Nat
  val : Nat
  deriving DecidableEq, Repr

/-- How a global operation meets the device (R414): it originates here, or a GLOBAL block with its GSEQ and ARG arrives from above or below. -/
inductive GlobIn where
  | origin
  | down (port gseq arg : Nat)
  | up (port gseq arg : Nat)
  deriving DecidableEq, Repr

/-- A packet of the system link (R408): TYPE, DST LA, SRC LA and the payload. -/
structure LinkPkt where
  type : Nat
  dst : Nat
  src : Nat
  bytes : List (BitVec 8)
  deriving DecidableEq, Repr

/-! ## Images (R427, R430, spec/12_configuration.md) -/

/-- The image header (R427) with the outcomes of its cryptographic checks (R429): whether the hash of PUBKEY is the fused one, whether SIG verifies,
and whether WK0 decrypts. -/
structure ImgHeader where
  magic : Nat
  fmt : Nat
  kind : Nat
  qmask : Nat
  part : Nat
  cls : Nat
  minFl : Nat
  rsv : Nat
  imageId : Nat
  segments : Nat
  len : Nat
  hashOk : Bool
  sigOk : Bool
  wkOk : Bool
  deriving DecidableEq, Repr

/-- An entry of the dictionary that the image publishes (R430): index, sub-index, type code, access code of R404, FRAME class, length and the
physical address of the value. -/
structure UserObj where
  index : Nat
  sub : Nat
  type : Nat
  access : Nat
  frame : Bool
  len : Nat
  pa : Nat
  deriving DecidableEq, Repr

/-- An interleave set of a MEMMAP record (R321, R430): IL_CFG, IL_BASE, IL_SIZE and IL_CHOFF. -/
structure MapSet where
  cfg : Nat
  base : Nat
  size : Nat
  choff : Nat
  deriving DecidableEq, Repr

/-- The commands, one per row of the table in its order. -/
inductive Instr where
  /-- REGISTER_WRITE (R11): A write to a register that has no row of its own updates its fields according to their access codes, subject to R9, R12 and R14. -/
  | registerWrite (addr : Nat) (value : BitVec 32)
  /-- READ_CLEAR (R11): A non-debug read of an RC field returns the value and then clears it. -/
  | readClear (addr : Nat)
  /-- DEBUG_PEEK (R491): A debug read of an RC or POP field returns the value without its side effect; a debug read of a NOPEEK field returns zero and sets DEBUG_PEEK_DENIED. -/
  | debugPeek (addr : Nat)
  /-- RD_REQ (R258): A read request packet reaches its target port, which decodes and serves it and answers with an RD_RSP. -/
  | rdReq (p : Packet) (net : Net)
  /-- WR_REQ (R258): A two-flit write request reaches its target, which writes the enabled bytes and answers with a WR_RSP. -/
  | wrReq (p : Packet) (be data : Nat) (net : Net)
  /-- RD_RSP (R259): A read response reaches its initiator port, which matches it by TAG, or discards it as late under R276. -/
  | rdRsp (port tag : Nat)
  /-- WR_RSP (R259): A write response reaches its initiator port, which matches it by TAG and completes the write. -/
  | wrRsp (port tag : Nat)
  /-- MSG (R257): A posted message packet reaches its destination unit, which acts on it as that unit defines. -/
  | msg (src dest dport payload : Nat)
  /-- HOST_READ (R425): A PCIe memory read through a BAR is translated under the BAR's TCTX and served, or completed with Completer Abort or Unsupported Request. -/
  | hostRead (f bar addr len : Nat) (net : Net)
  /-- HOST_WRITE (R425): A PCIe memory write through a BAR is translated under the BAR's TCTX and performed, or discarded and recorded. -/
  | hostWrite (f bar addr len data be : Nat) (net : Net)
  /-- PCIE_CONFIG_REQUEST (R420): A PCIe configuration request is answered by PF0, or with Configuration Request Retry Status by PF1–PF7 before CONFIGURED. -/
  | pcieConfigRequest (f offset : Nat) (write : Bool) (value : Nat)
  /-- PCIE_LINK_UP (R420): The PCIe link reaches L0 at t_L. -/
  | pcieLinkUp
  /-- FLR (R423): A function-level reset clears the function's PCIe state and resets no unit of the device. -/
  | flr (f : Nat)
  /-- VIN_START (R451): VIN rising through the start threshold begins the power-on steps under a power-on reset. -/
  | vinStart
  /-- POWER_ON_STEPS_DONE (R419): The power-on steps complete, after supply start, oscillator settle, fuse read, strap latching, bridge training and the class check. -/
  | powerOnStepsDone
  /-- VIN_WARNING (R451): VIN below 5.7 V for 10 µs sets VIN_WARN and raises event 672. -/
  | vinWarning
  /-- VIN_WARNING_END (R451): VIN above 5.9 V for 10 µs clears VIN_WARN and raises event 673. -/
  | vinWarningEnd
  /-- BROWNOUT (R451): VIN below 5.2 V for 2 µs applies a power-on reset and sets BROWNOUT in the sticky record. -/
  | brownout
  /-- RECORD_LOSS (R454): VIN below 2.0 V clears the sticky power record and sets VIN_FRESH. -/
  | recordLoss
  /-- IBUS_UNDERVOLTAGE (R453): IBUS below 1.62 V for 5 µs applies a power-on reset and sets IBUS_UV. -/
  | ibusUndervoltage
  /-- REG_FAULT (R479): A supply-die phase or on-die regulator fault forces a power-on reset and sets REG_FAULT. -/
  | regFault
  /-- INPUT_CURRENT_LIMIT (R453): The supply die starts limiting the input current to 42 A, sets ILIM_ACTIVE and raises event 674 once per episode. -/
  | inputCurrentLimit
  /-- SB_OVERCURRENT (R472): A standby current above 250 mA for 50 µs browns out the always-on group, causes a cold start and sets SB_OVERCURRENT. -/
  | sbOvercurrent
  /-- PERST_ASSERT (R43): PERST_N asserted starts a device reset, or acts only as a wake source during S3. -/
  | perstAssert
  /-- PERST_RELEASE (R420): The release of PERST_N starts the full start-up timing. -/
  | perstRelease
  /-- DEVICE_RESET (R388): A write of 0xD5 to object 0x0140 sub 0x02 is answered OK and commands a device reset with cause HOST_DEVICE. -/
  | deviceReset (o : Origin) (h : ClHead)
  /-- DEVICE_RESET_DONE (R43): The internal device reset ends 2 ms after it starts, and the PCIe link and PF0 then follow R420. -/
  | deviceResetDone
  /-- QUADRANT_RESET (R387): A quadrant-reset command for Q1–Q3 starts a reset of that die, or is refused with QUADRANT_RESET_DENIED, RANGE or CFG_BUSY. -/
  | quadrantReset (o : Origin) (h : ClHead) (q : Nat)
  /-- QUADRANT_RESET_DONE (R43): A quadrant leaves reset, copies the translation and interleave tables from Q0, and starts retraining its bridges. -/
  | quadrantResetDone (q : Nat)
  /-- DEEP_STORE_READ (R85): A READ command on a deep-store port returns one word into RDATA four store edges later. -/
  | deepStoreRead (d : Nat) (b : Bool)
  /-- DEEP_STORE_READ4 (R85): A READ4 command returns four consecutive words into RDATA. -/
  | deepStoreRead4 (d : Nat) (b : Bool)
  /-- DEEP_STORE_WRITE (R83): A WRITE command writes one WDATA word under its byte enables, with a partial write as read-modify-write. -/
  | deepStoreWrite (d : Nat) (b : Bool)
  /-- DEEP_STORE_WRITE4 (R83): A WRITE4 command writes four WDATA words to consecutive addresses. -/
  | deepStoreWrite4 (d : Nat) (b : Bool)
  /-- STORE_FILL_DONE (R87): The zero fill of the stores being configured completes, which allows stage 2 and the writing of STORE_INIT data. -/
  | storeFillDone
  /-- ISL_CLK_WRITE (R92): A write of a new clock or level target for an island, bay or deep store starts or redirects the divider ramp and the level sequence. -/
  | islClkWrite (gen : Nat) (value : BitVec 32)
  /-- DIVIDER_RAMP_STEP (R92): When the hold interval at the current divider expires, the generator steps D by one toward its target, switching rails at D = 64 where needed. -/
  | dividerRampStep (gen : Nat)
  /-- LEVEL_VOLTAGE_DONE (R94): A core-voltage move of a level change completes, and the next part of the sequence proceeds. -/
  | levelVoltageDone (gen : Nat)
  /-- ISLAND_FENCE (R108): A FENCE command puts the island in FENCING and waits for its edges to drain. -/
  | islandFence (i : Nat)
  /-- ISLAND_FENCE_DRAINED (R108): Every channel at the island's edges has drained, so the clock stops and the island enters SLACK. -/
  | islandFenceDrained (i : Nat)
  /-- ISLAND_FENCE_TIMEOUT (R108): DRAIN_LIMIT expires, so the island enters SLACK with FENCE_TIMEOUT set and event 688 raised. -/
  | islandFenceTimeout (i : Nat)
  /-- ISLAND_UNFENCE (R108): An UNFENCE command returns the island to RUN from FENCING or SLACK with no word lost. -/
  | islandUnfence (i : Nat)
  /-- ISLAND_RESET (R43): An island reset command forces INIT into the user flip-flops and clears the channels whose sink is in the island. -/
  | islandReset (i : Nat)
  /-- ISLAND_RESET_DONE (R111): The island reset completes, and the island enters RUN or SLACK under R111. -/
  | islandResetDone (i : Nat)
  /-- BIST_START (R113): BIST_START on an island in SLACK resets it and runs the self-test, or is refused with NOT_FENCED. -/
  | bistStart (i : Nat)
  /-- BIST_DONE (R113): The island self-test ends with PASS or a failure code and raises event 689. -/
  | bistDone (i result unit : Nat)
  /-- BCAST_CAPTURE (R116): A CAPTURE broadcast snapshots the user state of every acting island and bay. -/
  | bcastCapture
  /-- BCAST_STOP (R116): A STOP broadcast puts the islands of the masked groups in STOPPED. -/
  | bcastStop (mask : Nat)
  /-- BCAST_GO (R116): A GO broadcast returns stopped islands of the masked groups to RUN. -/
  | bcastGo (mask : Nat)
  /-- BAY_RESET (R132): A bay reset command or watchdog RESET action starts a bay reset. -/
  | bayReset (b : Nat)
  /-- BAY_RESET_DONE (R131): A bay reset ends, and the bay enters RUN with its image values. -/
  | bayResetDone (b : Nat)
  /-- BAY_OFFLINE (R131): The OFFLINE command puts the bay's pins in hold and stops its front end within 20 capture cycles. -/
  | bayOffline (b : Nat)
  /-- BAY_ONLINE (R165): The ONLINE command returns the bay to RUN, with RESYNC records, restarted stuck timers and a reloaded watchdog. -/
  | bayOnline (b : Nat)
  /-- PIN_MODE_WRITE (R136): A change of pin mode applies the mode, and a pin leaving OFF takes its zone from the ball and gets a RESYNC record. -/
  | pinModeWrite (b k : Nat) (value : BitVec 32)
  /-- PIN_THR_WRITE (R139): A threshold change settles within 50 ns, marks the edges that follow with THR_SETTLE, and may set THR_ORDER. -/
  | pinThrWrite (b k : Nat) (value : BitVec 32)
  /-- PIN_STK_WRITE (R148): A change of stuck zone or timeout restarts or clears the pin's stuck timer. -/
  | pinStkWrite (b k : Nat) (value : BitVec 32)
  /-- PIN_NEXT_WRITE (R138): A write to PIN_NEXT stores the drive pattern for the next boundary and sets ARMED. -/
  | pinNextWrite (b : Nat) (value : BitVec 32)
  /-- STUCK_REARM (R148): Writing REARM unmasks a pin's stuck detection and restarts its timer if the pin is in the stuck zone. -/
  | stuckRearm (b mask : Nat)
  /-- THRESHOLD_CROSSING (R140): The ball voltage crosses a comparator threshold and changes the raw HI or LO output, which starts the deglitch filter. -/
  | thresholdCrossing (b k : Nat) (hi val : Bool) (frac : Nat)
  /-- DEGLITCH_ACCEPT (R141): A comparator change that persists for DGL is accepted, feeding capture, stuck detection, reflex rules and the zone outputs. -/
  | deglitchAccept (b k : Nat) (hi : Bool)
  /-- DEAD_TIME_END (R144): The 2 ns dead time of a comparator output ends, and a RESYNC record is written if the output has changed. -/
  | deadTimeEnd (b k : Nat) (hi : Bool)
  /-- CAPTURE_RECORD_STORE (R147): A staged capture record is written to the ring in bay SRAM, or dropped and counted when the ring is full. -/
  | captureRecordStore (b : Nat)
  /-- STUCK_TIMEOUT (R148): A pin's stuck timer reaches its timeout, which sets PIN_STUCK and STUCK, writes a STUCK record and masks detection. -/
  | stuckTimeout (b k : Nat)
  /-- ADC_SAMPLE (R150): At a grid instant the ADC takes a sample, updates ADC_LAST and the threshold literals, and adds the sample to the open block. -/
  | adcSample (b : Nat) (code : BitVec 16) (clip : Bool)
  /-- ADC_BLOCK_CLOSE (R151): An ADC block closes at its 12th sample, at a break in the block rule, at a DIV change or when sampling stops. -/
  | adcBlockClose (b : Nat)
  /-- ADC_BLOCK_STORE (R151): A closed block is written to the ADC ring, or dropped and counted in ADC_DROP. -/
  | adcBlockStore (b : Nat)
  /-- WDOG_KICK (R161): A write to WDOG_KICK reloads REMAIN with the kick value, or sets BADKICK and counts as an expiry. -/
  | wdogKick (b : Nat) (value : BitVec 32)
  /-- WDOG_EXPIRY (R161): The bay watchdog reaches zero, sets EXPIRED, raises event 4b + 3 and takes its ACTION. -/
  | wdogExpiry (b : Nat)
  /-- BAY_FRAME_BOUNDARY (R157): At a boundary a bay loads FRAME_NO, writes FRAME_MARK, restarts the ADC grid and applies PIN_NEXT and the committed settings. -/
  | bayFrameBoundary (b : Nat)
  /-- VCCIO_LOSS (R537): VCCIO below 1.00 V for 1 µs releases the bank's balls, turns its comparators off and sets VCCIO_LOST. -/
  | vccioLoss (bank : Nat)
  /-- VCCIO_RESTORE (R537): VCCIO above 1.10 V for 100 µs sets VCCIO_OK, restores the pins and writes RESYNC records. -/
  | vccioRestore (bank zones : Nat)
  /-- ADD (R190): ADD writes wa + wb modulo 2^32 to wd. -/
  | add (b c wd wa wb : Nat)
  /-- SUB (R190): SUB writes wa - wb modulo 2^32 to wd. -/
  | sub (b c wd wa wb : Nat)
  /-- AND (R190): AND writes the bitwise AND of wa and wb to wd. -/
  | and (b c wd wa wb : Nat)
  /-- OR (R190): OR writes the bitwise OR of wa and wb to wd. -/
  | or (b c wd wa wb : Nat)
  /-- XOR (R190): XOR writes the bitwise XOR of wa and wb to wd. -/
  | xor (b c wd wa wb : Nat)
  /-- SHL (R190): SHL shifts wa left by wb[4:0]. -/
  | shl (b c wd wa wb : Nat)
  /-- SHR (R190): SHR shifts wa right by wb[4:0] with zero fill. -/
  | shr (b c wd wa wb : Nat)
  /-- SAR (R190): SAR shifts wa right by wb[4:0] with sign fill. -/
  | sar (b c wd wa wb : Nat)
  /-- ROR (R190): ROR rotates wa right by wb[4:0]. -/
  | ror (b c wd wa wb : Nat)
  /-- SLT (R190): SLT writes 1 to wd if wa < wb signed, else 0. -/
  | slt (b c wd wa wb : Nat)
  /-- SLTU (R190): SLTU writes 1 to wd if wa < wb unsigned, else 0. -/
  | sltu (b c wd wa wb : Nat)
  /-- MIN (R190): MIN writes the signed minimum of wa and wb. -/
  | min (b c wd wa wb : Nat)
  /-- MAX (R190): MAX writes the signed maximum of wa and wb. -/
  | max (b c wd wa wb : Nat)
  /-- MINU (R190): MINU writes the unsigned minimum of wa and wb. -/
  | minu (b c wd wa wb : Nat)
  /-- MAXU (R190): MAXU writes the unsigned maximum of wa and wb. -/
  | maxu (b c wd wa wb : Nat)
  /-- MUL (R190): MUL writes the low 32 bits of wa × wb. -/
  | mul (b c wd wa wb : Nat)
  /-- MULH (R190): MULH writes the high 32 bits of the signed product of wa and wb. -/
  | mulh (b c wd wa wb : Nat)
  /-- MULHU (R190): MULHU writes the high 32 bits of the unsigned product of wa and wb. -/
  | mulhu (b c wd wa wb : Nat)
  /-- CLZ (R190): CLZ writes the number of leading zero bits of wa. -/
  | clz (b c wd wa wb : Nat)
  /-- ADDI (R191): ADDI writes wa plus the sign-extended immediate. -/
  | addi (b c wd wa : Nat) (imm : BitVec 16)
  /-- ANDI (R191): ANDI writes wa AND the zero-extended immediate. -/
  | andi (b c wd wa : Nat) (imm : BitVec 16)
  /-- ORI (R191): ORI writes wa OR the zero-extended immediate. -/
  | ori (b c wd wa : Nat) (imm : BitVec 16)
  /-- XORI (R191): XORI writes wa XOR the zero-extended immediate. -/
  | xori (b c wd wa : Nat) (imm : BitVec 16)
  /-- SLTI (R191): SLTI compares wa with the sign-extended immediate as signed values. -/
  | slti (b c wd wa : Nat) (imm : BitVec 16)
  /-- SLTUI (R191): SLTUI compares wa with the zero-extended immediate as unsigned values. -/
  | sltui (b c wd wa : Nat) (imm : BitVec 16)
  /-- MOVHI (R191): MOVHI writes imm16 << 16 to wd. -/
  | movhi (b c wd wa : Nat) (imm : BitVec 16)
  /-- SHI (R191): SHI shifts or rotates wa by an immediate amount, in the kind that imm16[6:5] selects. -/
  | shi (b c wd wa : Nat) (imm : BitVec 16)
  /-- LDW (R192): LDW loads a word from wa + offset. -/
  | ldw (b c wd wa : Nat) (imm : BitVec 16)
  /-- LDH (R192): LDH loads a sign-extended halfword. -/
  | ldh (b c wd wa : Nat) (imm : BitVec 16)
  /-- LDHU (R192): LDHU loads a zero-extended halfword. -/
  | ldhu (b c wd wa : Nat) (imm : BitVec 16)
  /-- LDB (R192): LDB loads a sign-extended byte. -/
  | ldb (b c wd wa : Nat) (imm : BitVec 16)
  /-- LDBU (R192): LDBU loads a zero-extended byte. -/
  | ldbu (b c wd wa : Nat) (imm : BitVec 16)
  /-- STW (R192): STW stores a word at wa + offset. -/
  | stw (b c wd wa : Nat) (imm : BitVec 16)
  /-- STH (R192): STH stores a halfword. -/
  | sth (b c wd wa : Nat) (imm : BitVec 16)
  /-- STB (R192): STB stores a byte. -/
  | stb (b c wd wa : Nat) (imm : BitVec 16)
  /-- LDP (R192): LDP loads through a pointer with an offset or a post-modify. -/
  | ldp (b c w p size : Nat) (x pm : Bool) (off : BitVec 14)
  /-- STP (R192): STP stores through a pointer with an offset or a post-modify. -/
  | stp (b c w p size : Nat) (x pm : Bool) (off : BitVec 14)
  /-- LDL (R193): LDL loads a bay SRAM word and sets the context's reservation on it. -/
  | ldl (b c wd wa : Nat) (imm : BitVec 16)
  /-- STC (R193): STC stores only if the reservation is valid for the word, and writes success or failure to wd. -/
  | stc (b c wd wa wb : Nat)
  /-- MOVP (R194): MOVP copies a w register into a pointer. -/
  | movp (b c p w : Nat)
  /-- MFP (R194): MFP copies a pointer into a w register. -/
  | mfp (b c w p : Nat)
  /-- ADDP (R194): ADDP adds an immediate to a pointer under the linear or modulo rule. -/
  | addp (b c p : Nat) (imm : BitVec 16)
  /-- MAC (R195): MAC multiplies two halfwords, adds the product to an accumulator and performs up to two post-modified loads. -/
  | mac (b c acc wa wb la pa lb pb : Nat) (ldA ldB : Bool)
  /-- MSU (R195): MSU subtracts the product from an accumulator, with the optional loads of MAC. -/
  | msu (b c acc wa wb la pa lb pb : Nat) (ldA ldB : Bool)
  /-- CLRA (R196): CLRA clears an accumulator. -/
  | clra (b c acc : Nat)
  /-- SAC (R196): SAC writes the store-unit result of an accumulator, shifted, rounded and saturated. -/
  | sac (b c w acc n : Nat) (rnd wide uns : Bool)
  /-- MTA (R196): MTA loads an accumulator from a w register shifted left. -/
  | mta (b c acc w sh : Nat)
  /-- MFAG (R196): MFAG reads the guard bits of an accumulator, sign-extended. -/
  | mfag (b c w acc : Nat)
  /-- MFAL (R196): MFAL reads the low 32 bits of an accumulator. -/
  | mfal (b c w acc : Nat)
  /-- BEQ (R197): BEQ branches when wa equals wb. -/
  | beq (b c wa wb : Nat) (off : BitVec 13)
  /-- BNE (R197): BNE branches when wa differs from wb. -/
  | bne (b c wa wb : Nat) (off : BitVec 13)
  /-- BLT (R197): BLT branches when wa < wb signed. -/
  | blt (b c wa wb : Nat) (off : BitVec 13)
  /-- BGE (R197): BGE branches when wa ≥ wb signed. -/
  | bge (b c wa wb : Nat) (off : BitVec 13)
  /-- BLTU (R197): BLTU branches when wa < wb unsigned. -/
  | bltu (b c wa wb : Nat) (off : BitVec 13)
  /-- BGEU (R197): BGEU branches when wa ≥ wb unsigned. -/
  | bgeu (b c wa wb : Nat) (off : BitVec 13)
  /-- BDEC (R197): BDEC decrements wa and branches if the result is nonzero, optionally advancing the window. -/
  | bdec (b c wa : Nat) (rotb : Bool) (off : BitVec 20)
  /-- JMP (R197): JMP jumps PC-relative. -/
  | jmp (b c : Nat) (off : BitVec 26)
  /-- CALL (R197): CALL saves the return address in w15 and jumps. -/
  | call (b c : Nat) (off : BitVec 26)
  /-- JR (R197): JR jumps to the address in wa. -/
  | jr (b c wa : Nat)
  /-- LOOP (R198): LOOP sets up a zero-overhead hardware loop over the following 1–32 instructions. -/
  | loop (b c wa len : Nat) (rotl : Bool)
  /-- ROT (R172): ROT with Z = 0 advances the rotating window by K steps. -/
  | rot (b c k : Nat)
  /-- ROT_Z (R199): ROT with Z = 1 waits for in-flight writes, zeros the window registers and sets RB to 0. -/
  | rotZ (b c : Nat)
  /-- QPUSH (R200): QPUSH copies a 32-byte descriptor into a queue, or reports NOT_READY or REFUSED, or waits when W = 1. -/
  | qpush (b c wd wq wa : Nat) (w : Bool)
  /-- QPOP (R200): QPOP removes the oldest queue entry into bay SRAM, or reports NOT_READY or REFUSED, or waits when W = 1. -/
  | qpop (b c wd wq wa : Nat) (w : Bool)
  /-- QUEUE_WAIT_DONE (R225): A context waiting in QPUSH or QPOP with W = 1 is served, or is released with REFUSED when the queue is disabled, and becomes READY. -/
  | queueWaitDone (b c : Nat)
  /-- TIME (R201): TIME latches the device time, writing the nanoseconds to wd and the seconds and fraction to TSEC, TSECH and TFRAC. -/
  | time (b c wd : Nat)
  /-- FSYNC (R203): FSYNC makes the context wait for the next frame boundary at the bay. -/
  | fsync (b c wd : Nat)
  /-- FSYNC_WAKE (R203): A boundary reaches the bay, so a waiting FSYNC writes FRAME_NO to wd and its context becomes eligible. -/
  | fsyncWake (b c : Nat)
  /-- WFE (R202): WFE takes the selected pending event bits at once, or makes the context wait. -/
  | wfe (b c wd wa wb : Nat)
  /-- WFE_EVENT (R202): A selected EPEND bit sets during a wait, so WFE completes with the bits and clears them. -/
  | wfeEvent (b c : Nat)
  /-- WFE_TIMEOUT (R202): The wb × 64 ns limit expires, so WFE completes with wd = 0. -/
  | wfeTimeout (b c : Nat)
  /-- STIM (R204): STIM writes a value to a stimulus port, which forms a trace packet if the port is enabled. -/
  | stim (b c port wa size : Nat)
  /-- BRK (R496): BRK halts the engine when BRK halting is enabled, and raises BREAK otherwise. -/
  | brk (b c : Nat) (code : BitVec 16)
  /-- FENCE (R180): FENCE waits until every older translated access of the context is complete. -/
  | fence (b c : Nat)
  /-- IDLE (R204): IDLE waits for outstanding translated accesses, then leaves the set of runnable contexts. -/
  | idle (b c : Nat)
  /-- NOP (R204): NOP has no effect. -/
  | nop (b c : Nat)
  /-- MFS (R175): MFS reads a special register into wd. -/
  | mfs (b c wd num : Nat)
  /-- MTS (R175): MTS writes a special register, serialising, with write-1-to-clear for EPEND. -/
  | mts (b c wa num : Nat)
  /-- TRANSLATED_LOAD_RETURN (R218): The data or fault of a translated load returns, which completes the load or faults the context. -/
  | translatedLoadReturn (b c : Nat) (net : Net)
  /-- TRANSLATED_STORE_POST (R218): The translation of a store that needed a table walk succeeds or faults, and the store is posted or the context faults. -/
  | translatedStorePost (b c : Nat) (net : Net)
  /-- POSTED_STORE_ERROR (R219): A posted store receives an error response, which sets PEND_ERR and faults the context imprecisely, or sets MULTI. -/
  | postedStoreError (b c : Nat)
  /-- FENCE_COMPLETE (R180): The last older translated access completes, so a waiting FENCE or IDLE finishes. -/
  | fenceComplete (b c : Nat) (net : Net)
  /-- CONTEXT_SWITCH (R212): The scheduler selects the next READY context under R211, which issues 3 cycles after the outgoing one. -/
  | contextSwitch (b : Nat)
  /-- QUANTUM_EXPIRY (R215): A running context uses up its time slice while a context of the same priority is READY, and gives way. -/
  | quantumExpiry (b : Nat)
  /-- CTX_CFG_WRITE (R209): A write to CTX_CFG enables or disables the context, or sets CMD_IGN, and updates TCTX only in the allowed states. -/
  | ctxCfgWrite (b c : Nat) (value : BitVec 32)
  /-- CTX_PC_WRITE (R209): A write to CTX_PC sets the PC in DISABLED, IDLE or FAULTED, and is ignored with CMD_IGN otherwise. -/
  | ctxPcWrite (b c : Nat) (value : BitVec 32)
  /-- CTX_START (R209): START moves an IDLE context to READY at CTX_PC. -/
  | ctxStart (b c : Nat)
  /-- CTX_RESUME (R209): RESUME moves a FAULTED context to READY, which reissues the instruction at CTX_PC. -/
  | ctxResume (b c : Nat)
  /-- CTX_ABORT (R217): ABORT stops the context and enters ABORTING, discarding load data and clearing the loop state and reservation. -/
  | ctxAbort (b c : Nat)
  /-- ABORT_COMPLETE (R217): The last outstanding access of an aborting context completes, and the context enters IDLE. -/
  | abortComplete (b c : Nat) (net : Net)
  /-- QUEUE_ENABLE (R222): A write of EN from 0 to 1 enables the queue and clears HEAD and TAIL, or sets RING_ERR for a misplaced ring. -/
  | queueEnable (b q : Nat) (value : BitVec 32)
  /-- Q_TAIL_WRITE (R224): A software write of TAIL produces entries, or is ignored with OVERRUN. -/
  | qTailWrite (b q : Nat) (value : BitVec 32)
  /-- Q_HEAD_WRITE (R224): A software write of HEAD consumes entries, or is ignored with UNDERRUN. -/
  | qHeadWrite (b q : Nat) (value : BitVec 32)
  /-- MOVER_DESCRIPTOR_START (R231): An enabled idle mover takes the next command descriptor from its CMDQ and starts issuing chunks, or completes it with FORMAT. -/
  | moverDescriptorStart (b n : Nat)
  /-- MOVER_DESCRIPTOR_DONE (R231): Every write of a descriptor completes, so the mover writes its completion where required and advances the CMDQ HEAD. -/
  | moverDescriptorDone (b n : Nat) (net : Net)
  /-- MOVER_COMPLETION_WRITE (R231): A completion blocked by its CPLQ is written once the CPLQ is enabled with PROD = MOVER and has room. -/
  | moverCompletionWrite (b n : Nat)
  /-- MOVER_FAULT (R232): After a translation fault or error response, the issued chunks complete and the mover enters FAULTED with its record. -/
  | moverFault (b n : Nat) (at_ : Option (Nat × Bool)) (net : Net)
  /-- MOVER_RESUME (R234): RESUME makes a faulted mover translate again and continue from BYTES_DONE. -/
  | moverResume (b n : Nat)
  /-- MOVER_ABORT (R234): ABORT makes a faulted mover write an ABORTED completion and take the next descriptor. -/
  | moverAbort (b n : Nat)
  /-- MOVER_CFG_WRITE (R234): A write to MV_CFG enables the mover, or disables it now or when it next becomes idle. -/
  | moverCfgWrite (b n : Nat) (value : BitVec 32)
  /-- TCTX_WRITE (R236): A write to a translation-context register updates every present copy before it completes. -/
  | tctxWrite (addr : Nat) (value : BitVec 32)
  /-- XU_INVALIDATE (R241): A write to XU_INV_CTL starts invalidation of ALL, CONTEXT or PAGE scope in every unit, or starts nothing for scope 0b11. -/
  | xuInvalidate (q : Nat) (value : BitVec 32)
  /-- XU_INV_DONE (R241): The entries in scope are discarded and their accesses complete, so BUSY falls and event 733 is raised. -/
  | xuInvDone
  /-- NAP_MASTER_REQUEST (R270): An outbound master bundle word is translated and injected, or answered at once with TAG_IN_USE, ERROR or XLATE. -/
  | napMasterRequest (r : Nat) (req : MasterReq)
  /-- NAP_TARGET_RESPONSE (R271): Fabric logic pushes a target response, which the NAP returns to the initiator, or discards with LATE_RSP. -/
  | napTargetResponse (r ttag status data : Nat)
  /-- NAP_RESUME (R243): RESUME translates the held requests of a NAP again and carries them out in order. -/
  | napResume (r : Nat)
  /-- NAP_ABORT (R243): ABORT answers every request held at a NAP with an error response. -/
  | napAbort (r : Nat)
  /-- NAP_HOLD_EXPIRY (R243): HOLD × 1 µs passes while requests are held, so the NAP aborts them and sets HOLD_EXPIRED. -/
  | napHoldExpiry (r : Nat)
  /-- USER_EVENT_EDGE (R273): A rising edge of UEV0 or UEV1 at a NAP is one occurrence of a user event. -/
  | userEventEdge (r k : Nat)
  /-- EVT_SWSET (R247): A write of 1 to an EVT_SWSET bit makes one occurrence of that event. -/
  | evtSwset (k : Nat) (value : BitVec 32)
  /-- EVENT_DELIVERY (R249): When the coalescing and spacing conditions are met, the undelivered occurrences of an event are delivered to the host and engine routes. -/
  | eventDelivery (e : Nat)
  /-- ROUTER_FENCE (R274): A FENCE command puts the router in DRAINING, or is refused with FENCE_DENIED. -/
  | routerFence (r : Nat)
  /-- ROUTER_FENCED (R274): A draining router's buffers empty, so it enters FENCED and raises event 512 + q. -/
  | routerFenced (r : Nat)
  /-- ROUTER_UNFENCE (R274): UNFENCE returns the router to RUN, and held packets proceed. -/
  | routerUnfence (r : Nat)
  /-- RT_CFG_WRITE (R277): A write to RT_CFG is taken only while the router is FENCED, and otherwise sets CFG_IGN. -/
  | rtCfgWrite (r : Nat) (value : BitVec 32)
  /-- HOLD_LIMIT_EXPIRY (R275): A packet held at a blocked hop for HOLD_LIMIT is discarded, and a request is answered ROUTE_FENCED. -/
  | holdLimitExpiry (r : Nat)
  /-- RSP_TIMEOUT_EXPIRY (R276): An initiator port receives no response within RSP_TIMEOUT and completes the request with TIMEOUT. -/
  | rspTimeoutExpiry (port tag : Nat)
  /-- THROTTLE (R306): A THROTTLE message makes an initiator port space its requests to a channel for THR_TIME. -/
  | throttle (port ch gap time : Nat)
  /-- THROTTLE_EXPIRY (R306): THR_TIME passes, and the port stops spacing its requests to that channel. -/
  | throttleExpiry (port ch : Nat)
  /-- PROBE_CLEAR (R281): CLR clears the four probe counters in one cycle. -/
  | probeClear (q p : Nat)
  /-- PROBE_TRACE_RECORD (R282): A staged probe trace record is written to the ring in external memory, or dropped and counted. -/
  | probeTraceRecord (q p : Nat)
  /-- MC_CFG_WRITE (R289): A write to MC_CFG is taken only in OFF, and otherwise sets CMD_IGN. -/
  | mcCfgWrite (ch : Nat) (value : BitVec 32)
  /-- MC_INIT (R296): INIT starts training of a channel in OFF or FAILED. -/
  | mcInit (ch : Nat)
  /-- MC_TRAINING_DONE (R549): Training ends with the channel in FILLING or READY, or in FAILED with TRAIN_FAIL. -/
  | mcTrainingDone (ch : Nat) (ok : Bool)
  /-- MC_FILL (R296): FILL starts a zero fill of a READY channel. -/
  | mcFill (ch : Nat)
  /-- MC_FILL_DONE (R312): A channel fill completes, the channel enters READY and event 604 + q is raised. -/
  | mcFillDone (ch : Nat)
  /-- MC_OFFLINE (R296): OFFLINE lets the queued requests complete, then puts the devices in self-refresh. -/
  | mcOffline (ch : Nat)
  /-- MC_OFFLINE_DONE (R296): The queued requests are done and the devices are in self-refresh, so the controller is OFFLINE. -/
  | mcOfflineDone (ch : Nat)
  /-- MC_ONLINE (R296): ONLINE takes an OFFLINE channel out of self-refresh into READY. -/
  | mcOnline (ch : Nat)
  /-- INTERLEAVE_ENABLE (R291): A write of EN from 0 to 1 enables an interleave set, or is refused with IL_ERR. -/
  | interleaveEnable (q set : Nat) (value : BitVec 32)
  /-- REFRESH_DUE (R302): A refresh interval expires and a same-bank refresh is issued, postponed by at most four tREFI. -/
  | refreshDue (ch bank : Nat) (busy : Bool)
  /-- REFRESH_RATE_POLL (R302): Every 1 ms the controller reads each rank's refresh-rate indication and sets the refresh rate. -/
  | refreshRatePoll (ch : Nat) (hot0 hot1 : Bool)
  /-- SELF_REFRESH_ENTRY (R303): SR_IDLE passes with no access to the channel, so both subchannels enter self-refresh. -/
  | selfRefreshEntry (ch : Nat)
  /-- SELF_REFRESH_EXIT (R303): A request wakes a channel from idle self-refresh within 600 ns. -/
  | selfRefreshExit (ch : Nat)
  /-- TRACKER_CLEAR (R304): Every 32 ms all row-disturb trackers of a channel are cleared. -/
  | trackerClear (ch : Nat)
  /-- SCRUB_READ (R313): The scrubber reads the next line, corrects and writes back a CE or logs a UE, and restarts at the end of a pass. -/
  | scrubRead (ch : Nat)
  /-- SCRUB_PARITY_MISMATCH (R314): A SCRUB_CTL parity mismatch stops the scrubber and sets SCRUB_HALT. -/
  | scrubParityMismatch (ch : Nat)
  /-- SCRUB_RESTART (R314): RESTART resumes a halted scrubber from SCRUB_POS once SCRUB_CTL has been rewritten. -/
  | scrubRestart (ch : Nat)
  /-- LOG_CLEAR (R316): CLR sets NEXT and FILLED of an error log to 0. -/
  | logClear (q log : Nat)
  /-- ECC_TEST_WRITE (R317): GO_WR writes the 80 raw symbols to the test line, unencoded. -/
  | eccTestWrite (ch : Nat)
  /-- ECC_TEST_READ (R317): GO_RD reads the 80 stored symbols of the test line into the buffer, undecoded. -/
  | eccTestRead (ch : Nat)
  /-- ECC_TEST_DONE (R317): A raw access completes and BUSY falls. -/
  | eccTestDone (ch : Nat)
  /-- SG_TEST_WRITE (R318): GO_WR writes raw data and check bits to the store-group target, or sets BAD_TARGET or NOT_FENCED. -/
  | sgTestWrite (q : Nat)
  /-- SG_TEST_READ (R318): GO_RD reads raw data and check bits from the store-group target. -/
  | sgTestRead (q : Nat)
  /-- VDDQ_LOSS (R547): VDDQ below 0.90 V for 1 µs puts the channel's controller in FAILED. -/
  | vddqLoss (ch : Nat)
  /-- LANE_CFG_WRITE (R327): A change of MODE, RATE, PRECODE or polarity restarts both directions of a lane, and a LOOP change restarts the receiver. -/
  | laneCfgWrite (l : Nat) (value : BitVec 32)
  /-- LANE_TX_SLEEP (R333): Setting or clearing TX_SLEEP puts the transmitter to sleep or wakes it. -/
  | laneTxSleep (l : Nat) (sleep : Bool)
  /-- LANE_RX_SLEEP (R333): Setting or clearing RX_SLEEP puts the receiver to sleep or wakes it. -/
  | laneRxSleep (l : Nat) (sleep inFrame : Bool)
  /-- LREFCLK_LOSS (R325): LREFCLK goes missing, which clears REF_OK so that no lane of the quadrant acquires lock. -/
  | lrefclkLoss (q : Nat)
  /-- CDR_LOCK_ACQUIRE (R333): Clock and data recovery locks on a valid incoming signal, and the block hunt starts. -/
  | cdrLockAcquire (l : Nat)
  /-- CDR_LOCK_LOSS (R330): Clock and data recovery loses lock, so the lane returns to HUNT and sets LOCK_LOST. -/
  | cdrLockLoss (l : Nat)
  /-- BLOCK_RECEIVE (R330): A received 66-bit block's sync header is tested by the hunt or lock counter, and the block is delivered in LOCK. -/
  | blockReceive (l hdr payload : Nat)
  /-- BLOCK_TRANSMIT (R331): At a block time a RAW66 lane sends a popped TXA and TXB pair, or an idle block counted in TX_UNDER. -/
  | blockTransmit (l : Nat)
  /-- MAC_CFG_WRITE (R339): A write to MAC_CFG enables or disables the MAC, and port, FEC and address fields are taken only while EN = 0. -/
  | macCfgWrite (e reg : Nat) (value : BitVec 32)
  /-- MAC_LINK_CHANGE (R339): LINK changes with PCS, FEC and fault status, which sets LINK_CHG. -/
  | macLinkChange (e : Nat) (report : MacReport)
  /-- MAC_FRAME_RECEIVE (R338): A received frame is filtered, checked, stamped and written to an RX slot, or taken by the agent, PTP or PAUSE, or discarded and counted. -/
  | macFrameReceive (e : Nat) (frame : List (BitVec 8)) (fcsOk : Bool) (net : Net)
  /-- MAC_TX_ENTRY (R341): A TX entry reaching the ring head is sent, held for its launch, or completed as LINK_DOWN or FORMAT. -/
  | macTxEntry (e : Nat) (net : Net)
  /-- MAC_LAUNCH (R366): The device time reaches the launch instant of a held TX entry, and the frame is sent. -/
  | macLaunch (e : Nat)
  /-- MAC_TX_COMPLETE (R341): A frame transmission ends, so the completion and stamp are written and RD advances. -/
  | macTxComplete (e : Nat) (net : Net)
  /-- MAC_PAUSE_SEND (R338): SEND transmits one PAUSE frame with QUANTA. -/
  | macPauseSend (e : Nat)
  /-- RING_ENABLE (R340): A write of EN from 0 to 1 enables a frame ring and clears WR and RD, or sets RING_ERR. -/
  | ringEnable (ring : Nat) (value : BitVec 32)
  /-- TX_RING_WR_WRITE (R340): A write of a TX ring's WR produces entries, or is ignored with OVERRUN. -/
  | txRingWrWrite (ring : Nat) (value : BitVec 32)
  /-- CAN_CFG_WRITE (R343): A write to CAN_CFG enables the controller or sets its mode, and bit timing is taken only while EN = 0. -/
  | canCfgWrite (n reg : Nat) (value : BitVec 32)
  /-- CAN_FRAME_RECEIVE (R346): A received CAN frame is taken by the agent, or filtered and stored in the RX ring with its stamp. -/
  | canFrameReceive (n : Nat) (frame : CanFrame) (error : Bool) (net : Net)
  /-- CAN_TX_ENTRY (R346): The head TX entry is sent in ring order, held for its launch, or retried after lost arbitration or an error unless SINGLE. -/
  | canTxEntry (n : Nat) (net : Net)
  /-- CAN_TX_COMPLETE (R345): A CAN transmission ends, and the entry's status and stamp are written. -/
  | canTxComplete (n result : Nat) (net : Net)
  /-- CAN_BUS_OFF (R346): The controller enters bus-off, the head entry completes with BUS_OFF and the ring holds. -/
  | canBusOff (n : Nat) (net : Net)
  /-- CAN_RESTART (R346): RESTART starts bus-off recovery when AUTO_REC = 0. -/
  | canRestart (n : Nat)
  /-- CAN_BUS_OFF_RECOVERY (R346): 128 occurrences of 11 recessive bits complete bus-off recovery. -/
  | canBusOffRecovery (n : Nat)
  /-- DOM_OFS_LOAD (R359): A write of DOM_OFS2 loads OFS_d from the three words as one step. -/
  | domOfsLoad (d : Nat) (value : BitVec 32)
  /-- DOM_ADJ (R359): A write of DOM_ADJ_HI adds the signed adjustment to OFS_d as a step. -/
  | domAdj (d : Nat) (value : BitVec 32)
  /-- DOM_RATE_WRITE (R359): A write of DOM_RATE loads RATE_d without a time step, unless the servo is on. -/
  | domRateWrite (d : Nat) (value : BitVec 32)
  /-- HOST_SAMPLE (R360): A write of DOM_SMP_HI submits a HOST offset sample to the servo. -/
  | hostSample (d : Nat) (value : BitVec 32)
  /-- DOMAIN_SAMPLE_TIMEOUT (R361): No sample arrives for 4 s, which clears VALID and LOCKED. -/
  | domainSampleTimeout (d : Nat)
  /-- TIME_CHANGE_APPLY (R354): A change of OFS or RATE takes effect at one counter value C0 in every quadrant. -/
  | timeChangeApply
  /-- DOMAIN_SWITCH (R362): A write that changes ACT starts a switch that completes at once, steps, or slews. -/
  | domainSwitch (value : BitVec 32)
  /-- SWITCH_COMPLETE (R362): The slewed time reaches the new domain's time, SWITCHING clears and event 641 is raised. -/
  | switchComplete
  /-- PTP_MESSAGE_RECEIVE (R364): The ordinary clock takes a PTP message of its domain on its MAC ahead of the RX ring. -/
  | ptpMessageReceive (d e : Nat) (theta : Option (BitVec 64))
  /-- TD_STREAM_LOSS (R367): The time-distribution stream to a follower is absent for 2 µs, which clears TD_LOCK and sets TD_LOST. -/
  | tdStreamLoss (q : Nat)
  /-- TD_STREAM_RETURN (R367): The stream returns, the follower adopts the leader's phase, offset, rate and schedule, and TD_LOCK sets. -/
  | tdStreamReturn (q : Nat)
  /-- FRAME_ENABLE (R368): A write of FR_CTRL.EN starts or stops boundary generation. -/
  | frameEnable (value : BitVec 32)
  /-- FR_PERIOD_WRITE (R369): A write of FR_PERIOD sets the period of the first frame not yet noticed. -/
  | frPeriodWrite (value : BitVec 32)
  /-- FRAME_NOTICE (R368): The tide clock generates boundary B_n and sends its notice to the bays and the agent, raising event 648. -/
  | frameNotice (q : Nat)
  /-- TIME_SNAPSHOT (R374): A write of SNAP latches the quadrant's counter and device time. -/
  | timeSnapshot (q : Nat)
  /-- READ (R404): A Clanex READ returns each record's value, staged or in force. -/
  | read (o : Origin) (h : ClHead) (recs : List ClRec)
  /-- WRITE (R404): A Clanex WRITE applies or stages each record independently. -/
  | write (o : Origin) (h : ClHead) (recs : List ClRec)
  /-- BEGIN (R389): BEGIN opens a session for the requester's origin, or answers SESSION_LIMIT. -/
  | begin (o : Origin) (h : ClHead)
  /-- COMMIT (R393): COMMIT checks the staged values and applies them at once, or accepts them for a boundary, or refuses them. -/
  | commit (o : Origin) (h : ClHead) (mode frame : Nat)
  /-- COMMIT_APPLY (R395): At the boundary the shadows take effect, the user and AGENT entries are written, the session closes and event 724 is raised. -/
  | commitApply (n : Nat)
  /-- ROLLBACK (R397): ROLLBACK discards the staged values and closes the session, or answers TOO_LATE. -/
  | rollback (o : Origin) (h : ClHead)
  /-- DESCRIBE (R404): DESCRIBE returns the type, access and class of each entry. -/
  | describe (o : Origin) (h : ClHead) (recs : List ClRec)
  /-- SESSION_TIMEOUT (R399): An idle session reaches SESSION_TIMEOUT and is rolled back, raising event 725. -/
  | sessionTimeout (n : Nat)
  /-- CLANEX_SEGMENT_TIMEOUT (R406): A CAN FD Clanex message with a gap of more than 10 ms between segments is discarded. -/
  | clanexSegmentTimeout (n node : Nat)
  /-- BROADCAST_FRAME (R414): The global operation sets the frame schedule of every device from the root's values. -/
  | broadcastFrame (g : GlobIn) (ns sec period first : Nat)
  /-- BARRIER (R415): A barrier travels down the tree and answers upward when all live down-ports have answered. -/
  | barrier (g : GlobIn)
  /-- BARRIER_TIMEOUT (R415): BARRIER_TIMEOUT passes, so the root ends the barrier, records LAST_MISSING and raises event 730. -/
  | barrierTimeout
  /-- SNAPSHOT_AT (R416): A scheduled snapshot is held for instant t_S, or counted late with event 729. -/
  | snapshotAt (g : GlobIn)
  /-- RESET_AT (R416): A scheduled device reset is held for instant t_S, or counted late. -/
  | resetAt (g : GlobIn)
  /-- GLOBAL_INSTANT (R416): The device time reaches t_S, and the scheduled CAPTURE or SYNC_RESET takes effect. -/
  | globalInstant
  /-- ENUM (R410): Enumeration counts the devices up the tree, then assigns link addresses down it and raises event 728 at the root. -/
  | enum (g : GlobIn)
  /-- SYSLINK_PACKET (R408): A packet between START and END is checked by CRC, acknowledged or NAKed, and routed by DST LA. -/
  | syslinkPacket (port seq : Nat) (p : LinkPkt) (crcOk : Bool)
  /-- ACK (R408): An ACK frees acknowledged packets from the send window. -/
  | ack (port seq : Nat)
  /-- NAK (R408): A NAK makes the sender resend from the oldest unacknowledged packet. -/
  | nak (port seq : Nat)
  /-- SYSLINK_RESEND_TIMEOUT (R408): 4 µs pass without an ACK, so the sender resends, setting the port FAILED after 8 resends. -/
  | syslinkResendTimeout (port : Nat)
  /-- TICK_SEND (R413): Every 1 ms a parent sends a stamped TICK down each port. -/
  | tickSend (port : Nat)
  /-- TICK (R413): A TICK or TICK RESP block is stamped and answered, and the child forms a SYSLINK servo sample. -/
  | tick (port : Nat) (resp : Bool) (stamp : Nat)
  /-- UP_PORT_FAILOVER (R411): U fails or loses block lock for 2 µs, so traffic moves to R and event 727 is raised. -/
  | upPortFailover
  /-- LINK_RESET_SEND (R412): A write of a port's LINK_RESET sends LINK_RESET blocks for 10 µs. -/
  | linkResetSend (port : Nat)
  /-- LINK_RESET (R412): A child receiving LINK_RESET blocks applies a device reset with cause SYNC_RESET. -/
  | linkReset (port : Nat)
  /-- IMAGE_HEADER (R429): The image header is checked in order, and is accepted or fails with its error. -/
  | imageHeader (h : ImgHeader)
  /-- SEGMENT_TAG (R428): A segment's GCM tag is checked, and a failure gives AUTH. -/
  | segmentTag (ok : Bool)
  /-- CELLS (R430): A CELLS record writes the configuration cells of its unit and puts the unit in HOLD. -/
  | cells (tgt len : Nat) (cfg : Option IslandCfg)
  /-- STORE_INIT (R430): A STORE_INIT record writes initial store contents after the fill. -/
  | storeInit (tgt first : Nat) (data : List (BitVec 8))
  /-- REG (R432): A REG record writes registers in order, with lane, MAC and CAN writes stored until stage 1. -/
  | reg (entries : List (Nat × Nat))
  /-- MEM (R430): A MEM record sets MC_CFG of a channel for INIT. -/
  | mem (ch value : Nat)
  /-- MEMMAP (R430): A MEMMAP record sets MEM_TOP and the interleave sets. -/
  | memmap (top : Nat) (sets : List MapSet)
  /-- RELEASE_RECORD (R430): A RELEASE record sets the release gaps and compatibility mode. -/
  | releaseRecord (value : Nat)
  /-- OBJECTS (R430): An OBJECTS record publishes user objects, and a frame-class entry that breaks R396 gives FORMAT. -/
  | objects (entries : List UserObj)
  /-- KEY (R430): A KEY record supplies the key of the next segment. -/
  | key
  /-- END (R431): An END record ends the image and is checked against the record count. -/
  | endImage (count : Nat)
  /-- START_PULL (R433): START_PULL starts a load that reads the descriptor list at CFG_SRC, or is ignored with CMD_IGN. -/
  | startPull
  /-- PULL_READ_COMPLETION (R433): The data of a pull read arrives and feeds the load, or an error completion ends the load with SOURCE. -/
  | pullReadCompletion (ok : Bool) (n : Nat)
  /-- START_PUSH (R433): START_PUSH opens the configuration port for a pushed load. -/
  | startPush
  /-- CFG_DATA_WRITE (R433): A write of CFG_DATA appends 4 image bytes, waiting while the buffer is full. -/
  | cfgDataWrite (value : BitVec 32)
  /-- FINISH (R433): FINISH ends the stream, which is TRUNCATED if it is short. -/
  | finish
  /-- ABORT (R433): ABORT ends the stream early. -/
  | abort
  /-- CLEARING_DONE (R435): The clearing after a failed load completes and CFG_ERR_N is pulled low. -/
  | clearingDone
  /-- DEVICE_LOADED (R437): All loading conditions are met, so the device releases CFG_DONE. -/
  | deviceLoaded
  /-- WINDOW_MISSED (R422): The readiness window closes before the image completes, setting WINDOW_MISSED with event 708. -/
  | windowMissed
  /-- CFG_DONE_HIGH (R438): The filtered CFG_DONE goes high, and STAGE1 is issued. -/
  | cfgDoneHigh
  /-- RELEASE_NOW (R439): RELEASE_NOW in WAIT_DONE starts the release without CFG_DONE. -/
  | releaseNow
  /-- STAGE2_ISSUE (R438): GAP12 elapses and STAGE2 enables store writes. -/
  | stage2Issue
  /-- STAGE3_ISSUE (R438): GAP23 elapses and STAGE3 releases user resets and bays, then CONFIGURED, LOCK and event 704 follow. -/
  | stage3Issue
  /-- PARTIAL_RELEASE (R440): After a partial or quadrant load, the three stages are applied to the targets and event 706 is raised. -/
  | partialRelease
  /-- MAILBOX_TX (R445): A write to a side's TX register appends a word, replaces the newest with COLLISION, or is discarded with TIMEOUT. -/
  | mailboxTx (q k : Nat) (sideB : Bool) (value : BitVec 32)
  /-- MAILBOX_RX (R445): A read of a side's RX register returns and removes the oldest word. -/
  | mailboxRx (q k : Nat) (sideB : Bool)
  /-- MAILBOX_TIMEOUT (R445): The oldest word waits TIMEOUT_US unread, so TIMEOUT of its sender is set. -/
  | mailboxTimeout (q k : Nat) (fromB : Bool)
  /-- MAILBOX_FLUSH (R446): FLUSH empties both directions of a mailbox. -/
  | mailboxFlush (q k : Nat)
  /-- SLEEP_EXIT (R461): GO with STATE 0 commands the target to exit to S0. -/
  | sleepExit (target : BitVec 32)
  /-- SLEEP_S1 (R461): GO with STATE S1 checks and enters S1 for the target. -/
  | sleepS1 (target : BitVec 32)
  /-- SLEEP_S2 (R463): GO with STATE S2 checks the target and fences it toward S2. -/
  | sleepS2 (target : BitVec 32)
  /-- SLEEP_S3 (R468): GO with STATE S3 checks the device and starts the S3 entry. -/
  | sleepS3 (target : BitVec 32)
  /-- SLEEP_S4 (R461): GO with STATE S4 turns the device off and sets OFF_CMD. -/
  | sleepS4 (target : BitVec 32)
  /-- SLEEP_COMMIT_POINT (R463): Every fence of an entry drains, so the entry reaches its commit point and GO is answered OK. -/
  | sleepCommitPoint
  /-- SLEEP_ENTRY_DONE (R468): An entry completes and event 675 is raised. -/
  | sleepEntryDone
  /-- WAKE_EVENT (R465): An event named in an enabled wake slot exits the slot's target from S1–S3. -/
  | wakeEvent (e : Nat)
  /-- WAKE_TIMER (R465): The wake timer expires and fires event 692. -/
  | wakeTimer
  /-- WAKE_PIN (R465): A filtered rising edge on a WAKE ball raises its event. -/
  | wakePin (k : Nat)
  /-- SLEEP_EXIT_DONE (R469): An exit completes, the retained state is restored and event 676 is raised. -/
  | sleepExitDone
  /-- FR_CFG_WRITE (R457): A write of a fabric-rail MHZ relocks the rail, or is ignored with CMD_IGN while the rail is in use. -/
  | frCfgWrite (q n : Nat) (value : BitVec 32)
  /-- RAIL_LOCK (R457): A fabric rail relocks and sets LOCKED, releasing the generators that wait on it. -/
  | railLock (q n : Nat)
  /-- RAIL_UNLOCK (R457): A rail in use loses lock, which sets UNLOCK, raises event 701 and holds its clock low. -/
  | railUnlock (q n : Nat)
  /-- NOC_CLK_WRITE (R458): A write of NOC_CLK changes the NoC voltage and clock in sequence. -/
  | nocClkWrite (q : Nat) (value : BitVec 32)
  /-- NOC_CLK_DONE (R458): A NoC clock change completes and BUSY falls. -/
  | nocClkDone (q : Nat)
  /-- SENSOR_UPDATE (R473): The temperature sensors update every 100 µs, and WARN may set with event 680 + q. -/
  | sensorUpdate (q : Nat) (sensors : Sensors)
  /-- CAP_DROP (R475): Every 1 ms while temperature or load is over its limit, the level cap drops one level. -/
  | capDrop (q : Nat)
  /-- CAP_RISE (R475): Every 10 ms while below the limits with margin, the level cap rises one level. -/
  | capRise (q : Nat)
  /-- THERMAL_SHUTDOWN (R476): A sensor at 125 °C or more for 10 µs switches every rail off into S4 and sets THERM_SHUTDOWN. -/
  | thermalShutdown
  /-- THERMAL_RESTART (R477): 1 s after the supply-die sensor falls below 85 °C the device restarts, or stays in S4 with THERM_REPEAT. -/
  | thermalRestart
  /-- PWR_LOG_CLEAR (R464): CLR of the refusal log sets NEXT and FILLED to 0. -/
  | pwrLogClear (q : Nat)
  /-- DEVICE_WDOG_EXPIRY (R504): The device watchdog expires and applies a device reset with cause DEVICE_WDOG. -/
  | deviceWdogExpiry
  /-- ENGINE_HALT (R496): HALT halts the engine at an instruction boundary, or is deferred while a reservation is valid. -/
  | engineHalt (b : Nat)
  /-- DEFER_EXPIRY (R497): A deferred halt waits 64 cycles, and is then taken with DEFER_EXPIRED set. -/
  | deferExpiry (b : Nat)
  /-- ENGINE_RELEASE (R499): RELEASE returns halted contexts to their previous states and applies the release effects of R162. -/
  | engineRelease (b : Nat)
  /-- ENGINE_STEP (R498): STEP issues exactly one instruction from the selected context, then halts again with REASON = STEP. -/
  | engineStep (b : Nat)
  /-- CTXDATA_ACCESS (R501): A DBG_CTXDATA access reads or writes the selected context state while the engine is halted, and sets CMD_IGN otherwise. -/
  | ctxdataAccess (b : Nat) (write : Bool) (value : BitVec 32)
  /-- DEBUG_UNLOCK (R488): A write of DBG_UNLOCK starts the signature check of an unlock request. -/
  | debugUnlock (value : BitVec 32)
  /-- UNLOCK_CHECK_DONE (R489): The unlock check ends, raising the level with event 736, or counting a failure with event 737. -/
  | unlockCheckDone (ok : Bool)
  /-- DBM_GO (R494): GO issues one untranslated access from a DBM port, or is ignored while BUSY. -/
  | dbmGo (p : Nat)
  /-- IDCODE (R492): The IDCODE instruction selects the 32-bit identification register. -/
  | idcode
  /-- SAMPLE_PRELOAD (R492): SAMPLE/PRELOAD selects the boundary-scan register without taking the balls. -/
  | samplePreload
  /-- EXTEST (R545): EXTEST takes the covered balls from their functional drive to the boundary-scan register. -/
  | extest
  /-- CLAMP (R492): CLAMP drives the outputs from the boundary-scan register and selects bypass. -/
  | clamp
  /-- HIGHZ (R492): HIGHZ puts every user output in high impedance. -/
  | highz
  /-- DAP (R493): At Update-DR the DAP register starts a read or write to the Q0 debug block. -/
  | dap (op offset data : Nat)
  /-- DEVRESET (R492): DEVRESET at Update-IR applies a device reset with cause JTAG. -/
  | devreset
  /-- BYPASS (R492): BYPASS, or an unlisted or denied instruction, selects the 1-bit bypass register. -/
  | bypass
  /-- XT_PULSE (R502): PULSE signals a cross-trigger group, which halts member engines and may CAPTURE or STOP. -/
  | xtPulse (g : Nat)
  /-- XT_RELEASE (R502): RELEASE of a group releases its halted engines and may issue GO. -/
  | xtRelease (g : Nat)
  /-- TRACE_PACKET (R507): A quadrant's trace sink takes a staged packet into its FIFO or ring, or drops it with event 740 + q. -/
  | tracePacket (b : Nat) (net : Net)
  /-- TRC_POP (R510): A non-debug read of TRC_POP removes the oldest trace packet and latches words 1–3. -/
  | trcPop (q : Nat)
  /-- RETRAIN (R518): RETRAIN drains the bridge and starts training. -/
  | retrain (q k : Nat)
  /-- BRIDGE_TRAINING_DONE (R517): Bridge training ends with the masks exchanged, IN_USE adopted, the bridge UP, FENCED or DOWN, and event 760 + b. -/
  | bridgeTrainingDone (b : Nat) (codeOk : Bool) (good0 good1 spare0 spare1 : Nat)
  /-- BRIDGE_BAD_FRAME (R516): A bad bridge frame is resent from the replay buffer, and a group with 16 bad frames in 1 ms is removed. -/
  | bridgeBadFrame (b side group : Nat)
  /-- TELEMETRY_SEND (R522): Every 100 µs the follower code of Q1–Q3 sends a telemetry MSG to the Q0 manager. -/
  | telemetrySend (q : Nat)
  /-- TELEMETRY_LOST (R523): Three consecutive missing records set LOST[q], raise event 764 + q and may reset the quadrant. -/
  | telemetryLost (q : Nat)
  /-- ISLAND_CLOCK_EDGE (R59): At each active edge of an island clock, the island's macrocell flip-flops, arithmetic slices, island-store ports, causeway ends and general I/O registers act. -/
  | islandClockEdge (i : Nat) (rising : Bool) (gpio : Nat)
  /-- ILLEGAL_INSTRUCTION (R189): An engine instruction word with an opcode, func, cond or sub value that no table lists, such as 0x0000_0000 or 0xFFFF_FFFF, raises ILLEGAL. -/
  | illegalInstruction (b c : Nat) (word : BitVec 32)
  /-- LREFCLK_RETURN (R325): LREFCLK returns, REF_OK sets again and the lanes of the quadrant can acquire lock. -/
  | lrefclkReturn (q : Nat)
  /-- INPUT_LIMIT_END (R453): The input current falls back below the limit, the supply die stops limiting and ILIM_ACTIVE clears, ending the limiting episode. -/
  | inputLimitEnd
  /-- CAN_LAUNCH (R366): The device time reaches the launch instant of a held CAN FD TX entry, and its start-of-frame bit starts when the bus allows. -/
  | canLaunch (n : Nat)
  /-- PAUSE_TIMER_EXPIRY (R338): The pause time that an honoured PAUSE frame imposed runs out, and the MAC resumes transmission. -/
  | pauseTimerExpiry (e : Nat)
  /-- PRBS_CHECKER (R335): In TEST mode the checker tests received bits, sets CHK_LOCK after 64 error-free bits, counts errors in LN_PRBSERR and loses lock after 64 errors in 256 bits. -/
  | prbsChecker (l : Nat) (syms : List Nat)
  deriving DecidableEq, Repr

end Sys2Proof
end

