-- ==== Sys2Proof/Decode.lean ====
section
/-! DEFINITION. Decode.lean: no row of spec/opcode_table.json gives bits, so no word spells a command. The words of engine instructions, which the spec
encodes, are read by Machine/EngineStep.lean. -/
namespace Sys2Proof

/-- The command that a word of `nbits` bits spells by the table: none, for the table gives no row any bits. -/
def decodeTableWord (_nbits _w : Nat) : Option Instr := none

end Sys2Proof
end

