-- ==== Sys2Proof/Machine/Base.lean ====
section
/-! DEFINITION. Machine/Base.lean: the two data shapes the whole state is built from: a sparse table in one canonical form
(strictly rising keys, no entry equal to what an unlisted key reads as) and a register field (its place in a register). -/
namespace Sys2Proof.Machine

/-- A sparse table by number: register fields, memory bytes, contexts, channels and so on. -/
abbrev Tab (α : Type) := List (Nat × α)

/-- The value an entry `k` holds; `d` says what an unlisted key reads as. -/
def Tab.get {α : Type} (d : Nat → α) : Tab α → Nat → α
  | [], k => d k
  | (k', v) :: t, k => if k' = k then v else Tab.get d t k

/-- Insert an entry for a key that the table does not list, keeping the keys rising. -/
def Tab.ins {α : Type} (k : Nat) (v : α) : Tab α → Tab α
  | [] => [(k, v)]
  | (k', v') :: t => if k < k' then (k, v) :: (k', v') :: t else (k', v') :: Tab.ins k v t

/-- Forget what the table says of `k`. -/
def Tab.erase {α : Type} (k : Nat) : Tab α → Tab α
  | [] => []
  | (k', v') :: t => if k' = k then Tab.erase k t else (k', v') :: Tab.erase k t

/-- Write `v` at `k`; writing what an unlisted key reads as removes the entry. -/
def Tab.put {α : Type} [DecidableEq α] (d : Nat → α) (t : Tab α) (k : Nat) (v : α) : Tab α :=
  if v = d k then Tab.erase k t else Tab.ins k v (Tab.erase k t)

/-- Forget every entry whose key a reset reaches. -/
def Tab.drop {α : Type} (p : Nat → Bool) : Tab α → Tab α
  | [] => []
  | (k, v) :: t => if p k then Tab.drop p t else (k, v) :: Tab.drop p t

/-- The keys rise strictly from `lo` on. -/
def Tab.rising {α : Type} : Nat → Tab α → Bool
  | _, [] => true
  | lo, (k, _) :: t => decide (lo ≤ k) && Tab.rising (k + 1) t

/-- No entry equals what an unlisted key reads as. -/
def Tab.lean {α : Type} [DecidableEq α] (d : Nat → α) : Tab α → Bool
  | [] => true
  | (k, v) :: t => decide (v ≠ d k) && Tab.lean d t

/-- The canonical form. -/
def Tab.wf {α : Type} [DecidableEq α] (d : Nat → α) (t : Tab α) : Bool :=
  Tab.rising 0 t && Tab.lean d t

/-- The place of a field: the byte offset of its register in its unit's register group, and its bits [hi:lo]. -/
structure Fld where
  off : Nat
  hi : Nat
  lo : Nat
  deriving DecidableEq, Repr

/-- The number of bits of a field. -/
def Fld.width (f : Fld) : Nat := f.hi + 1 - f.lo

/-- The same field of the register `n` bytes further on (the registers of an array). -/
def Fld.shift (f : Fld) (n : Nat) : Fld := ⟨f.off + n, f.hi, f.lo⟩

/-- The access codes of R11 (spec/00_scope.md); RSV fields are in no table, so they read zero and ignore writes. -/
inductive Acc where
  | rw | ro | wo | w1c | w1s | rc | pop | rwl | nopeek
  deriving DecidableEq, Repr

/-- The reset domains of R17 and R43 (spec/01_organisation.md); `vin` is the supply die's record, which only the loss of VIN
clears (R454, spec/13_power.md). -/
inductive Dom where
  | vin | powerOn | device | quadrant | bay | island
  deriving DecidableEq, Repr

/-- The values that an enumerated field lists (R14): any value of the width, 0 to n, or a to b. -/
inductive Legal where
  | any
  | le (n : Nat)
  | range (a b : Nat)
  deriving DecidableEq, Repr

/-- One field of a register table of the spec: where it is, how often its register is repeated, how it is accessed, its reset
value, the domain that resets it, and the values it may be given. -/
structure RegField where
  fld : Fld
  cnt : Nat
  stride : Nat
  acc : Acc
  reset : Nat
  dom : Dom
  legal : Legal
  deriving DecidableEq, Repr

end Sys2Proof.Machine
end

