-- ==== Sys2Proof/Machine/RegMap.lean ====
section
/-! DEFINITION. Machine/RegMap.lean: every register field of the spec's register tables: its place, its access code, its reset
value and domain, and the values it may be given. R.<register>.<field> names a field; a group is one unit's block of registers
(R33, R34 of spec/01_organisation.md). Rules are named beside each group. -/
namespace Sys2Proof.Machine

/-- The register groups: one per kind of unit. -/
inductive RegGroup where
  | ident
  | island
  | deep
  | clkblk
  | power
  | router
  | noc
  | probe
  | mc
  | memmap
  | ecc
  | sg
  | maint
  | pam
  | nrz
  | lnattn
  | mac
  | can
  | time
  | dom
  | frame
  | dbgeng
  | dbg
  | trc
  | xt
  | cfg
  | pf
  | snap
  | mbx
  | mbpend
  | evt
  | evtset
  | tctx
  | xu
  | nap
  | hflt
  | iopin
  | iogen
  | iobank
  | brg
  | bay
  | rfx
  | pin
  | sched
  | mover
  | ctx
  | queue
  deriving DecidableEq, Repr

/-! Fields of the group ident: R40, R41, R42, R374, R521, R552 of spec/01_organisation.md. -/
abbrev R.IDENT.VENDOR_TAG : Fld := ⟨0x0, 31, 24⟩
abbrev R.IDENT.DIE_TYPE : Fld := ⟨0x0, 23, 16⟩
abbrev R.IDENT.STEPPING : Fld := ⟨0x0, 15, 12⟩
abbrev R.IDENT.FEATURE_LEVEL : Fld := ⟨0x0, 11, 8⟩
abbrev R.IDENT.COMPAT_CLASS : Fld := ⟨0x0, 7, 4⟩
abbrev R.IDENT.LEADER : Fld := ⟨0x0, 3, 3⟩
abbrev R.IDENT.QUAD : Fld := ⟨0x0, 1, 0⟩
abbrev R.PRESENCE.TIME_PRESENT : Fld := ⟨0x4, 9, 9⟩
abbrev R.PRESENCE.ADC_PRESENT : Fld := ⟨0x4, 8, 8⟩
abbrev R.PRESENCE.BRIDGE_PRESENT : Fld := ⟨0x4, 7, 4⟩
abbrev R.PRESENCE.QUAD_PRESENT : Fld := ⟨0x4, 3, 0⟩
abbrev R.DIE_STEP.STEP : Fld := ⟨0x8, 15, 0⟩
abbrev R.DIE_FL.CLASS_OK : Fld := ⟨0xC, 20, 20⟩
abbrev R.DIE_FL.FL_NOW : Fld := ⟨0xC, 19, 16⟩
abbrev R.DIE_FL.FL : Fld := ⟨0xC, 15, 0⟩
abbrev R.RST_CAUSE.COUNT : Fld := ⟨0x10, 31, 16⟩
abbrev R.RST_CAUSE.CAUSE : Fld := ⟨0x10, 7, 0⟩
abbrev R.UID_LO.UID : Fld := ⟨0x14, 31, 0⟩
abbrev R.UID_HI.UID : Fld := ⟨0x18, 31, 0⟩
abbrev R.LT_SNAP.SNAP : Fld := ⟨0x20, 0, 0⟩
abbrev R.LT_FRAC.FRAC : Fld := ⟨0x24, 31, 16⟩
abbrev R.LT_NS.NS : Fld := ⟨0x28, 31, 0⟩
abbrev R.LT_SEC_LO.SEC : Fld := ⟨0x2C, 31, 0⟩
abbrev R.LT_SEC_HI.SEC : Fld := ⟨0x30, 31, 0⟩
abbrev R.LT_C_LO.C : Fld := ⟨0x34, 31, 0⟩
abbrev R.LT_C_HI.C : Fld := ⟨0x38, 31, 0⟩

/-! Fields of the group island: R118, R119, R120, R121, R122, R123, R124 of spec/03_islands_causeways.md. -/
abbrev R.ISL_CLK.RAMP : Fld := ⟨0x0, 23, 16⟩
abbrev R.ISL_CLK.RAIL : Fld := ⟨0x0, 15, 14⟩
abbrev R.ISL_CLK.PLVL : Fld := ⟨0x0, 10, 8⟩
abbrev R.ISL_CLK.DIV : Fld := ⟨0x0, 5, 0⟩
abbrev R.ISL_CLKSTAT.RAMPING : Fld := ⟨0x4, 31, 31⟩
abbrev R.ISL_CLKSTAT.VBUSY : Fld := ⟨0x4, 30, 30⟩
abbrev R.ISL_CLKSTAT.CLAMPED : Fld := ⟨0x4, 29, 29⟩
abbrev R.ISL_CLKSTAT.RAIL_NOW : Fld := ⟨0x4, 28, 27⟩
abbrev R.ISL_CLKSTAT.PLVL_NOW : Fld := ⟨0x4, 26, 24⟩
abbrev R.ISL_CLKSTAT.DIV_NOW : Fld := ⟨0x4, 5, 0⟩
abbrev R.ISL_CTRL.GRP : Fld := ⟨0x8, 7, 4⟩
abbrev R.ISL_CTRL.BIST_START : Fld := ⟨0x8, 3, 3⟩
abbrev R.ISL_CTRL.RESET : Fld := ⟨0x8, 2, 2⟩
abbrev R.ISL_CTRL.UNFENCE : Fld := ⟨0x8, 1, 1⟩
abbrev R.ISL_CTRL.FENCE : Fld := ⟨0x8, 0, 0⟩
abbrev R.ISL_STATE.DIR_MISMATCH : Fld := ⟨0xC, 4, 4⟩
abbrev R.ISL_STATE.FENCE_TIMEOUT : Fld := ⟨0xC, 3, 3⟩
abbrev R.ISL_STATE.STATE : Fld := ⟨0xC, 2, 0⟩
abbrev R.ISL_DRAIN.DRAIN_LIMIT : Fld := ⟨0x10, 15, 0⟩
abbrev R.ISL_BIST.FAIL_UNIT : Fld := ⟨0x14, 23, 16⟩
abbrev R.ISL_BIST.RESULT : Fld := ⟨0x14, 3, 0⟩
abbrev R.ISL_LOSTCNT.LOST_N : Fld := ⟨0x18, 31, 24⟩
abbrev R.ISL_LOSTCNT.LOST_E : Fld := ⟨0x18, 23, 16⟩
abbrev R.ISL_LOSTCNT.LOST_S : Fld := ⟨0x18, 15, 8⟩
abbrev R.ISL_LOSTCNT.LOST_W : Fld := ⟨0x18, 7, 0⟩
abbrev R.CW_PUSHLOST.PUSH_LOST : Fld := ⟨0x20, 31, 0⟩
abbrev R.CW_UNDERRUN.UNDERRUN : Fld := ⟨0x30, 31, 0⟩

/-! Fields of the group deep: R125 of spec/03_islands_causeways.md. -/
abbrev R.DS_CLK.RAMP : Fld := ⟨0x0, 23, 16⟩
abbrev R.DS_CLK.RAIL : Fld := ⟨0x0, 15, 14⟩
abbrev R.DS_CLK.PLVL : Fld := ⟨0x0, 10, 8⟩
abbrev R.DS_CLK.DIV : Fld := ⟨0x0, 5, 0⟩
abbrev R.DS_CLKSTAT.RAMPING : Fld := ⟨0x4, 31, 31⟩
abbrev R.DS_CLKSTAT.VBUSY : Fld := ⟨0x4, 30, 30⟩
abbrev R.DS_CLKSTAT.CLAMPED : Fld := ⟨0x4, 29, 29⟩
abbrev R.DS_CLKSTAT.RAIL_NOW : Fld := ⟨0x4, 28, 27⟩
abbrev R.DS_CLKSTAT.PLVL_NOW : Fld := ⟨0x4, 26, 24⟩
abbrev R.DS_CLKSTAT.DIV_NOW : Fld := ⟨0x4, 5, 0⟩

/-! Fields of the group clkblk: R126, R478 of spec/03_islands_causeways.md. -/
abbrev R.BCAST_CTRL.GMASK : Fld := ⟨0x0, 7, 4⟩
abbrev R.BCAST_CTRL.CODE : Fld := ⟨0x0, 3, 0⟩
abbrev R.BCAST_STATUS.MISS : Fld := ⟨0x4, 11, 8⟩
abbrev R.BCAST_STATUS.BUSY : Fld := ⟨0x4, 7, 7⟩
abbrev R.BCAST_STATUS.LAST_CODE : Fld := ⟨0x4, 3, 0⟩
abbrev R.ISL_ATTN.ATTN : Fld := ⟨0x10, 31, 0⟩
abbrev R.FR_CFG0.LOCKED : Fld := ⟨0x1000, 31, 31⟩
abbrev R.FR_CFG0.MHZ : Fld := ⟨0x1000, 11, 0⟩
abbrev R.FR_CFG1.LOCKED : Fld := ⟨0x1004, 31, 31⟩
abbrev R.FR_CFG1.MHZ : Fld := ⟨0x1004, 11, 0⟩
abbrev R.FR_CFG2.LOCKED : Fld := ⟨0x1008, 31, 31⟩
abbrev R.FR_CFG2.MHZ : Fld := ⟨0x1008, 11, 0⟩
abbrev R.FR_CFG3.LOCKED : Fld := ⟨0x100C, 31, 31⟩
abbrev R.FR_CFG3.MHZ : Fld := ⟨0x100C, 11, 0⟩
abbrev R.NOC_CLK.BUSY : Fld := ⟨0x1010, 31, 31⟩
abbrev R.NOC_CLK.PLVL : Fld := ⟨0x1010, 26, 24⟩
abbrev R.NOC_CLK.MHZ : Fld := ⟨0x1010, 11, 0⟩
abbrev R.CLK_STAT.CMD_IGN : Fld := ⟨0x1014, 5, 5⟩
abbrev R.CLK_STAT.UNLOCK : Fld := ⟨0x1014, 4, 0⟩

/-! Fields of the group power: R479, R480, R481, R482, R483, R524 of spec/13_power.md. -/
abbrev R.PWR_STICKY.THERM_SHUTDOWN : Fld := ⟨0x0, 7, 7⟩
abbrev R.PWR_STICKY.IBUS_UV : Fld := ⟨0x0, 6, 6⟩
abbrev R.PWR_STICKY.SB_OVERCURRENT : Fld := ⟨0x0, 5, 5⟩
abbrev R.PWR_STICKY.BROWNOUT : Fld := ⟨0x0, 4, 4⟩
abbrev R.PWR_STICKY.REG_FAULT : Fld := ⟨0x0, 3, 3⟩
abbrev R.PWR_STICKY.OFF_CMD : Fld := ⟨0x0, 2, 2⟩
abbrev R.PWR_STICKY.THERM_REPEAT : Fld := ⟨0x0, 1, 1⟩
abbrev R.PWR_STICKY.VIN_FRESH : Fld := ⟨0x0, 0, 0⟩
abbrev R.PWR_VIN.IIN : Fld := ⟨0x4, 31, 16⟩
abbrev R.PWR_VIN.VIN : Fld := ⟨0x4, 15, 0⟩
abbrev R.PWR_PIN.IBUS : Fld := ⟨0x8, 31, 16⟩
abbrev R.PWR_PIN.PIN : Fld := ⟨0x8, 15, 0⟩
abbrev R.PWR_LIMIT.ILIM_ACTIVE : Fld := ⟨0xC, 31, 31⟩
abbrev R.PWR_LIMIT.VIN_WARN : Fld := ⟨0xC, 30, 30⟩
abbrev R.PWR_LIMIT.LIMIT : Fld := ⟨0xC, 15, 0⟩
abbrev R.PWR_LOAD.LOAD : Fld := ⟨0x10, 15, 0⟩
abbrev R.PWR_CAP.THERM : Fld := ⟨0x14, 7, 7⟩
abbrev R.PWR_CAP.LIMIT : Fld := ⟨0x14, 6, 6⟩
abbrev R.PWR_CAP.CAP : Fld := ⟨0x14, 2, 0⟩
abbrev R.TS.VALID : Fld := ⟨0x100, 31, 31⟩
abbrev R.TS.TEMP : Fld := ⟨0x100, 11, 0⟩
abbrev R.THERM_CFG.WARN_T : Fld := ⟨0x140, 31, 24⟩
abbrev R.THERM_CFG.THROT_T : Fld := ⟨0x140, 23, 16⟩
abbrev R.THERM_STAT.TMAX : Fld := ⟨0x144, 31, 20⟩
abbrev R.THERM_STAT.SMAX : Fld := ⟨0x144, 19, 16⟩
abbrev R.THERM_STAT.WARN : Fld := ⟨0x144, 0, 0⟩
abbrev R.PWR_ISLRET.RET : Fld := ⟨0x200, 31, 0⟩
abbrev R.PWR_BAYRET.RET : Fld := ⟨0x218, 31, 0⟩
abbrev R.PWR_BAYSLP.SLP : Fld := ⟨0x220, 31, 0⟩
abbrev R.PWR_DSSLP.SLP : Fld := ⟨0x228, 31, 0⟩
abbrev R.PWR_SBEST.EST : Fld := ⟨0x230, 15, 0⟩
abbrev R.PWR_SBLIM.SB_LIMIT : Fld := ⟨0x234, 15, 0⟩
abbrev R.PWR_REFI.COUNT : Fld := ⟨0x300, 31, 0⟩
abbrev R.PWR_REFB.COUNT : Fld := ⟨0x360, 31, 0⟩
abbrev R.PWR_REFD.COUNT : Fld := ⟨0x380, 31, 0⟩
abbrev R.PWR_REFQ.DEVICE : Fld := ⟨0x390, 23, 16⟩
abbrev R.PWR_REFQ.GROUP : Fld := ⟨0x390, 15, 8⟩
abbrev R.PWR_REFQ.QUAD : Fld := ⟨0x390, 7, 0⟩
abbrev R.PWR_LOG.WORD : Fld := ⟨0x400, 31, 0⟩
abbrev R.PWR_LOGSTAT.LOG_WRAPPED : Fld := ⟨0x500, 31, 31⟩
abbrev R.PWR_LOGSTAT.CLR : Fld := ⟨0x500, 30, 30⟩
abbrev R.PWR_LOGSTAT.FILLED : Fld := ⟨0x500, 20, 16⟩
abbrev R.PWR_LOGSTAT.NEXT : Fld := ⟨0x500, 3, 0⟩
abbrev R.WAKE_EVT.EN : Fld := ⟨0x600, 31, 31⟩
abbrev R.WAKE_EVT.EVENT : Fld := ⟨0x600, 9, 0⟩
abbrev R.WAKE_TGT.TARGET : Fld := ⟨0x604, 31, 0⟩
abbrev R.WAKE_TIMER.MS : Fld := ⟨0xA00, 31, 0⟩
abbrev R.TELEM_CFG.FAULT_RESET : Fld := ⟨0xB00, 3, 1⟩
abbrev R.TELEM_STAT.LOST : Fld := ⟨0xB04, 3, 1⟩

/-! Fields of the group router: R283 of spec/07_noc.md. -/
abbrev R.RT_CTRL.UNFENCE : Fld := ⟨0x0, 1, 1⟩
abbrev R.RT_CTRL.FENCE : Fld := ⟨0x0, 0, 0⟩
abbrev R.RT_STATE.CFG_IGN : Fld := ⟨0x4, 4, 4⟩
abbrev R.RT_STATE.FENCE_DENIED : Fld := ⟨0x4, 3, 3⟩
abbrev R.RT_STATE.STATE : Fld := ⟨0x4, 1, 0⟩
abbrev R.RT_CFG.VCD3 : Fld := ⟨0x8, 11, 9⟩
abbrev R.RT_CFG.VCD2 : Fld := ⟨0x8, 8, 6⟩
abbrev R.RT_CFG.VCD1 : Fld := ⟨0x8, 5, 3⟩
abbrev R.RT_CFG.VCD0 : Fld := ⟨0x8, 2, 0⟩
abbrev R.RT_HOLDCNT.FENCED : Fld := ⟨0xC, 31, 16⟩
abbrev R.RT_HOLDCNT.DROP : Fld := ⟨0xC, 15, 0⟩
abbrev R.NAP_CFG.TGT_EN : Fld := ⟨0x10, 31, 31⟩
abbrev R.NAP_CFG.MST_EN : Fld := ⟨0x10, 30, 30⟩
abbrev R.NAP_CFG.TC : Fld := ⟨0x10, 29, 28⟩
abbrev R.NAP_CFG.TGT_OUT : Fld := ⟨0x10, 21, 16⟩
abbrev R.NAP_STAT.LATE_RSP : Fld := ⟨0x14, 1, 1⟩
abbrev R.NAP_STAT.TAG_IN_USE : Fld := ⟨0x14, 0, 0⟩

/-! Fields of the group noc: R284 of spec/07_noc.md. -/
abbrev R.NOC_HOLD.HOLD_LIMIT : Fld := ⟨0x0, 13, 0⟩
abbrev R.NOC_RSPTO.RSP_TIMEOUT : Fld := ⟨0x4, 15, 0⟩
abbrev R.NOC_ARB0.BASE : Fld := ⟨0x10, 15, 8⟩
abbrev R.NOC_ARB0.STEP : Fld := ⟨0x10, 7, 0⟩
abbrev R.NOC_ARB1.BASE : Fld := ⟨0x14, 15, 8⟩
abbrev R.NOC_ARB1.STEP : Fld := ⟨0x14, 7, 0⟩
abbrev R.NOC_ARB2.BASE : Fld := ⟨0x18, 15, 8⟩
abbrev R.NOC_ARB2.STEP : Fld := ⟨0x18, 7, 0⟩
abbrev R.NOC_ARB3.BASE : Fld := ⟨0x1C, 15, 8⟩
abbrev R.NOC_ARB3.STEP : Fld := ⟨0x1C, 7, 0⟩
abbrev R.NOC_ATTN0.ATTN : Fld := ⟨0x20, 31, 0⟩
abbrev R.NOC_ATTN1.ATTN : Fld := ⟨0x24, 3, 0⟩
abbrev R.NOC_LATE.COUNT : Fld := ⟨0x28, 31, 0⟩

/-! Fields of the group probe: R285 of spec/07_noc.md. -/
abbrev R.PRB_CTRL.EN : Fld := ⟨0x0, 31, 31⟩
abbrev R.PRB_CTRL.TRACE : Fld := ⟨0x0, 30, 30⟩
abbrev R.PRB_CTRL.ADDR_EN : Fld := ⟨0x0, 29, 29⟩
abbrev R.PRB_CTRL.ROUTER : Fld := ⟨0x0, 27, 22⟩
abbrev R.PRB_CTRL.PORT : Fld := ⟨0x0, 21, 19⟩
abbrev R.PRB_CTRL.TCMASK : Fld := ⟨0x0, 15, 12⟩
abbrev R.PRB_CTRL.TYPEMASK : Fld := ⟨0x0, 11, 7⟩
abbrev R.PRB_CTRL.CLR : Fld := ⟨0x0, 0, 0⟩
abbrev R.PRB_MATCH.SRCV : Fld := ⟨0x4, 31, 24⟩
abbrev R.PRB_MATCH.SRC_MASK : Fld := ⟨0x4, 23, 16⟩
abbrev R.PRB_MATCH.DESTV : Fld := ⟨0x4, 15, 8⟩
abbrev R.PRB_MATCH.DEST_MASK : Fld := ⟨0x4, 7, 0⟩
abbrev R.PRB_ADDR_LO.BASE : Fld := ⟨0x8, 31, 6⟩
abbrev R.PRB_ADDR_LO.SZ : Fld := ⟨0x8, 5, 0⟩
abbrev R.PRB_ADDR_HI.BASE : Fld := ⟨0xC, 15, 0⟩
abbrev R.PRB_PKT.PKT : Fld := ⟨0x10, 31, 0⟩
abbrev R.PRB_FLIT.FLIT : Fld := ⟨0x14, 31, 0⟩
abbrev R.PRB_WAIT.WAIT : Fld := ⟨0x18, 31, 0⟩
abbrev R.PRB_AGEMAX.AGEMAX : Fld := ⟨0x1C, 7, 0⟩
abbrev R.PRB_TRING_LO.BASE : Fld := ⟨0x20, 31, 5⟩
abbrev R.PRB_TRING_HI.LEN : Fld := ⟨0x24, 31, 28⟩
abbrev R.PRB_TRING_HI.BASE : Fld := ⟨0x24, 15, 0⟩
abbrev R.PRB_TWR.WR : Fld := ⟨0x28, 21, 0⟩
abbrev R.PRB_TRD.RD : Fld := ⟨0x2C, 21, 0⟩
abbrev R.PRB_TDROP.DROP : Fld := ⟨0x30, 31, 0⟩
abbrev R.PRB_THR.THR : Fld := ⟨0x34, 31, 0⟩

/-! Fields of the group mc: R320 of spec/08_memory.md. -/
abbrev R.MC_CFG.DRAM_FILL_BEFORE_RELEASE : Fld := ⟨0x0, 31, 31⟩
abbrev R.MC_CFG.CE_WB : Fld := ⟨0x0, 30, 30⟩
abbrev R.MC_CFG.RDIMM : Fld := ⟨0x0, 29, 29⟩
abbrev R.MC_CFG.ORG : Fld := ⟨0x0, 27, 26⟩
abbrev R.MC_CFG.SPEED : Fld := ⟨0x0, 25, 24⟩
abbrev R.MC_CFG.SR_IDLE : Fld := ⟨0x0, 15, 0⟩
abbrev R.MC_CMD.ONLINE : Fld := ⟨0x4, 3, 3⟩
abbrev R.MC_CMD.OFFLINE : Fld := ⟨0x4, 2, 2⟩
abbrev R.MC_CMD.FILL : Fld := ⟨0x4, 1, 1⟩
abbrev R.MC_CMD.INIT : Fld := ⟨0x4, 0, 0⟩
abbrev R.MC_STATE.CMD_IGN : Fld := ⟨0x8, 4, 4⟩
abbrev R.MC_STATE.TRAIN_FAIL : Fld := ⟨0x8, 3, 3⟩
abbrev R.MC_STATE.STATE : Fld := ⟨0x8, 2, 0⟩
abbrev R.MC_SCHED.HIT_LIMIT : Fld := ⟨0xC, 31, 24⟩
abbrev R.MC_SCHED.WR_HI : Fld := ⟨0xC, 15, 8⟩
abbrev R.MC_SCHED.WR_LO : Fld := ⟨0xC, 7, 0⟩
abbrev R.MC_RDIST.RD_THRESH : Fld := ⟨0x10, 15, 0⟩
abbrev R.MC_THROTTLE.THR_TIME : Fld := ⟨0x14, 31, 16⟩
abbrev R.MC_THROTTLE.THR_GAP : Fld := ⟨0x14, 7, 0⟩
abbrev R.MC_RDLAST.SRC : Fld := ⟨0x18, 31, 24⟩
abbrev R.MC_RDLAST.SPORT : Fld := ⟨0x18, 23, 22⟩
abbrev R.MC_RDLAST.SCRUB : Fld := ⟨0x18, 21, 21⟩
abbrev R.MC_RDLAST.SUBCH : Fld := ⟨0x18, 20, 20⟩
abbrev R.MC_RDLAST.RANK : Fld := ⟨0x18, 19, 19⟩
abbrev R.MC_RDLAST.BANK : Fld := ⟨0x18, 18, 14⟩
abbrev R.MC_RDROW.ROW : Fld := ⟨0x1C, 16, 0⟩
abbrev R.MC_RDCNT.COUNT : Fld := ⟨0x20, 31, 0⟩

/-! Fields of the group memmap: R321 of spec/08_memory.md. -/
abbrev R.MEM_TOP.TOP : Fld := ⟨0x0, 11, 0⟩
abbrev R.IL_STAT.IL_ERR : Fld := ⟨0x4, 0, 0⟩
abbrev R.IL_CFG.EN : Fld := ⟨0x100, 31, 31⟩
abbrev R.IL_CFG.GRAIN : Fld := ⟨0x100, 12, 8⟩
abbrev R.IL_CFG.CHMASK : Fld := ⟨0x100, 7, 0⟩
abbrev R.IL_BASE.BASE : Fld := ⟨0x104, 11, 0⟩
abbrev R.IL_SIZE.SIZE : Fld := ⟨0x108, 11, 0⟩
abbrev R.IL_CHOFF.CHOFF : Fld := ⟨0x10C, 11, 0⟩

/-! Fields of the group ecc: R322 of spec/08_memory.md. -/
abbrev R.CE_CNT.COUNT : Fld := ⟨0x0, 31, 0⟩
abbrev R.UE_CNT.COUNT : Fld := ⟨0x4, 31, 0⟩
abbrev R.CE_THR.THR : Fld := ⟨0x8, 31, 0⟩
abbrev R.LOG_STAT.LOG_WRAPPED : Fld := ⟨0xC, 31, 31⟩
abbrev R.LOG_STAT.CLR : Fld := ⟨0xC, 30, 30⟩
abbrev R.LOG_STAT.FILLED : Fld := ⟨0xC, 20, 16⟩
abbrev R.LOG_STAT.NEXT : Fld := ⟨0xC, 3, 0⟩
abbrev R.SCRUB_CTL.EN : Fld := ⟨0x10, 31, 31⟩
abbrev R.SCRUB_CTL.RESTART : Fld := ⟨0x10, 30, 30⟩
abbrev R.SCRUB_CTL.PERIOD : Fld := ⟨0x10, 7, 0⟩
abbrev R.SCRUB_STAT.SCRUB_HALT : Fld := ⟨0x14, 31, 31⟩
abbrev R.SCRUB_STAT.RUNNING : Fld := ⟨0x14, 30, 30⟩
abbrev R.SCRUB_STAT.PASS_DONE : Fld := ⟨0x14, 29, 29⟩
abbrev R.SCRUB_STAT.PASSES : Fld := ⟨0x14, 15, 0⟩
abbrev R.SCRUB_POS.LINE : Fld := ⟨0x18, 29, 0⟩
abbrev R.ECC_TEST_CTL.EN : Fld := ⟨0x20, 31, 31⟩
abbrev R.ECC_TEST_CTL.GO_RD : Fld := ⟨0x20, 2, 2⟩
abbrev R.ECC_TEST_CTL.GO_WR : Fld := ⟨0x20, 1, 1⟩
abbrev R.ECC_TEST_CTL.BUSY : Fld := ⟨0x20, 0, 0⟩
abbrev R.ECC_TEST_ADDR.LINE : Fld := ⟨0x24, 29, 0⟩
abbrev R.ECC_TEST_RAW.RAW : Fld := ⟨0x40, 31, 0⟩
abbrev R.LOG_W.WORD : Fld := ⟨0x100, 31, 0⟩

/-! Fields of the group sg: R322 of spec/08_memory.md. -/
abbrev R.SG_SCRUB_CTL.PERIOD : Fld := ⟨0x10, 7, 0⟩
abbrev R.SG_TEST_CTL.EN : Fld := ⟨0x20, 31, 31⟩
abbrev R.SG_TEST_CTL.RESULT : Fld := ⟨0x20, 5, 4⟩
abbrev R.SG_TEST_CTL.GO_RD : Fld := ⟨0x20, 2, 2⟩
abbrev R.SG_TEST_CTL.GO_WR : Fld := ⟨0x20, 1, 1⟩
abbrev R.SG_TEST_CTL.BUSY : Fld := ⟨0x20, 0, 0⟩
abbrev R.SG_TEST_TGT.KIND : Fld := ⟨0x24, 31, 30⟩
abbrev R.SG_TEST_TGT.UNIT : Fld := ⟨0x24, 29, 19⟩
abbrev R.SG_TEST_TGT.ROW : Fld := ⟨0x24, 18, 2⟩
abbrev R.SG_TEST_DATA.DATA : Fld := ⟨0x28, 31, 0⟩
abbrev R.SG_TEST_DATAH.CHECK : Fld := ⟨0x2C, 14, 8⟩
abbrev R.SG_TEST_DATAH.DATA : Fld := ⟨0x2C, 3, 0⟩

/-! Fields of the group maint: R323 of spec/08_memory.md. -/
abbrev R.ECC_MAINT.SG_LOG_WRAPPED : Fld := ⟨0x0, 11, 11⟩
abbrev R.ECC_MAINT.LOG_WRAPPED0 : Fld := ⟨0x0, 10, 10⟩
abbrev R.ECC_MAINT.SCRUB_HALT0 : Fld := ⟨0x0, 9, 9⟩
abbrev R.ECC_MAINT.PASS_DONE0 : Fld := ⟨0x0, 8, 8⟩
abbrev R.ECC_MAINT.FILL_DONE0 : Fld := ⟨0x0, 7, 7⟩
abbrev R.ECC_MAINT.TRAIN_FAIL0 : Fld := ⟨0x0, 6, 6⟩
abbrev R.ECC_MAINT.LOG_WRAPPED1 : Fld := ⟨0x0, 5, 5⟩
abbrev R.ECC_MAINT.SCRUB_HALT1 : Fld := ⟨0x0, 4, 4⟩
abbrev R.ECC_MAINT.PASS_DONE1 : Fld := ⟨0x0, 3, 3⟩
abbrev R.ECC_MAINT.FILL_DONE1 : Fld := ⟨0x0, 2, 2⟩
abbrev R.ECC_MAINT.TRAIN_FAIL1 : Fld := ⟨0x0, 1, 1⟩

/-! Fields of the group pam: R347 of spec/09_lanes.md. -/
abbrev R.LN_CFG.MODE : Fld := ⟨0x0, 31, 28⟩
abbrev R.LN_CFG.RATE : Fld := ⟨0x0, 27, 24⟩
abbrev R.LN_CFG.LOOP : Fld := ⟨0x0, 23, 22⟩
abbrev R.LN_CFG.PRECODE : Fld := ⟨0x0, 21, 21⟩
abbrev R.LN_CFG.TXQUIET : Fld := ⟨0x0, 20, 20⟩
abbrev R.LN_CFG.PRBS : Fld := ⟨0x0, 19, 18⟩
abbrev R.LN_CFG.TX_INV : Fld := ⟨0x0, 17, 17⟩
abbrev R.LN_CFG.RX_INV : Fld := ⟨0x0, 16, 16⟩
abbrev R.LN_CFG.TXEQ : Fld := ⟨0x0, 11, 8⟩
abbrev R.LN_CTRL.TX_SLEEP : Fld := ⟨0x4, 1, 1⟩
abbrev R.LN_CTRL.RX_SLEEP : Fld := ⟨0x4, 0, 0⟩
abbrev R.LN_STAT.REF_OK : Fld := ⟨0x8, 31, 31⟩
abbrev R.LN_STAT.TX_ON : Fld := ⟨0x8, 30, 30⟩
abbrev R.LN_STAT.RX_ON : Fld := ⟨0x8, 29, 29⟩
abbrev R.LN_STAT.CDR_LOCK : Fld := ⟨0x8, 28, 28⟩
abbrev R.LN_STAT.BLOCK_LOCK : Fld := ⟨0x8, 27, 27⟩
abbrev R.LN_STAT.CHK_LOCK : Fld := ⟨0x8, 26, 26⟩
abbrev R.LN_STAT.LOCK_LOST : Fld := ⟨0x8, 25, 25⟩
abbrev R.LN_STAT.SLIPS : Fld := ⟨0x8, 7, 0⟩
abbrev R.LN_BADSH.COUNT : Fld := ⟨0xC, 31, 0⟩
abbrev R.LN_PRBSERR.COUNT : Fld := ⟨0x10, 31, 0⟩

/-! Fields of the group nrz: R347 of spec/09_lanes.md. -/
abbrev R.LN_RAWCNT.TX_UNDER : Fld := ⟨0x14, 31, 16⟩
abbrev R.LN_RAWCNT.RX_OVF : Fld := ⟨0x14, 15, 0⟩

/-! Fields of the group lnattn: R347 of spec/09_lanes.md. -/
abbrev R.LN_ATTN.ATTN : Fld := ⟨0x0, 29, 0⟩

/-! Fields of the group mac: R348, R349 of spec/09_lanes.md. -/
abbrev R.MAC_CFG.EN : Fld := ⟨0x0, 31, 31⟩
abbrev R.MAC_CFG.PROMISC : Fld := ⟨0x0, 30, 30⟩
abbrev R.MAC_CFG.MCAST : Fld := ⟨0x0, 29, 29⟩
abbrev R.MAC_CFG.KEEPBAD : Fld := ⟨0x0, 28, 28⟩
abbrev R.MAC_CFG.FEC : Fld := ⟨0x0, 27, 26⟩
abbrev R.MAC_CFG.PORT : Fld := ⟨0x0, 23, 20⟩
abbrev R.MAC_CFG.MAXLEN : Fld := ⟨0x0, 13, 0⟩
abbrev R.MAC_ADDR_LO.ADDR : Fld := ⟨0x4, 31, 0⟩
abbrev R.MAC_ADDR_HI.ADDR : Fld := ⟨0x8, 15, 0⟩
abbrev R.MAC_PAUSE.QUANTA : Fld := ⟨0xC, 31, 16⟩
abbrev R.MAC_PAUSE.RX_PAUSE_EN : Fld := ⟨0xC, 1, 1⟩
abbrev R.MAC_PAUSE.SEND : Fld := ⟨0xC, 0, 0⟩
abbrev R.MAC_STAT.LINK : Fld := ⟨0x10, 31, 31⟩
abbrev R.MAC_STAT.LINK_CHG : Fld := ⟨0x10, 30, 30⟩
abbrev R.MAC_STAT.LANES_NOT_READY : Fld := ⟨0x10, 29, 29⟩
abbrev R.MAC_STAT.LOCAL_FAULT : Fld := ⟨0x10, 28, 28⟩
abbrev R.MAC_STAT.REMOTE_FAULT : Fld := ⟨0x10, 27, 27⟩
abbrev R.MAC_STAT.HI_BER : Fld := ⟨0x10, 26, 26⟩
abbrev R.MAC_RXERR.CRC : Fld := ⟨0x14, 31, 16⟩
abbrev R.MAC_RXERR.OVERSIZE : Fld := ⟨0x14, 15, 0⟩
abbrev R.MAC_TXFRM.COUNT : Fld := ⟨0x18, 31, 0⟩
abbrev R.MAC_RXFRM.COUNT : Fld := ⟨0x1C, 31, 0⟩
abbrev R.MAC_FECCORR.COUNT : Fld := ⟨0x20, 31, 0⟩
abbrev R.MAC_FECUNC.COUNT : Fld := ⟨0x24, 31, 0⟩
abbrev R.MAC_TXDROP.RX_DROP : Fld := ⟨0x28, 31, 16⟩
abbrev R.MAC_TXDROP.LINK_DOWN : Fld := ⟨0x28, 15, 0⟩
abbrev R.TX_BASE.BASE : Fld := ⟨0x40, 31, 5⟩
abbrev R.TX_CFG.EN : Fld := ⟨0x44, 31, 31⟩
abbrev R.TX_CFG.RING_ERR : Fld := ⟨0x44, 30, 30⟩
abbrev R.TX_CFG.OVERRUN : Fld := ⟨0x44, 29, 29⟩
abbrev R.TX_CFG.LEN : Fld := ⟨0x44, 23, 20⟩
abbrev R.TX_CFG.BASE : Fld := ⟨0x44, 15, 0⟩
abbrev R.TX_WR.WR : Fld := ⟨0x48, 14, 0⟩
abbrev R.TX_RD.RD : Fld := ⟨0x4C, 14, 0⟩
abbrev R.TX_DROP.COUNT : Fld := ⟨0x50, 31, 0⟩
abbrev R.RX_BASE.BASE : Fld := ⟨0x60, 31, 5⟩
abbrev R.RX_CFG.EN : Fld := ⟨0x64, 31, 31⟩
abbrev R.RX_CFG.RING_ERR : Fld := ⟨0x64, 30, 30⟩
abbrev R.RX_CFG.OVERRUN : Fld := ⟨0x64, 29, 29⟩
abbrev R.RX_CFG.SLOT : Fld := ⟨0x64, 25, 24⟩
abbrev R.RX_CFG.LEN : Fld := ⟨0x64, 23, 20⟩
abbrev R.RX_CFG.BASE : Fld := ⟨0x64, 15, 0⟩
abbrev R.RX_WR.WR : Fld := ⟨0x68, 14, 0⟩
abbrev R.RX_RD.RD : Fld := ⟨0x6C, 14, 0⟩
abbrev R.RX_DROP.COUNT : Fld := ⟨0x70, 31, 0⟩

/-! Fields of the group can: R350 of spec/09_lanes.md. -/
abbrev R.CAN_CFG.EN : Fld := ⟨0x0, 31, 31⟩
abbrev R.CAN_CFG.MODE : Fld := ⟨0x0, 30, 29⟩
abbrev R.CAN_CFG.FD_EN : Fld := ⟨0x0, 28, 28⟩
abbrev R.CAN_CFG.AUTO_REC : Fld := ⟨0x0, 27, 27⟩
abbrev R.CAN_NBT.NBRP : Fld := ⟨0x4, 31, 24⟩
abbrev R.CAN_NBT.NTSEG1 : Fld := ⟨0x4, 23, 16⟩
abbrev R.CAN_NBT.NTSEG2 : Fld := ⟨0x4, 15, 8⟩
abbrev R.CAN_NBT.NSJW : Fld := ⟨0x4, 7, 0⟩
abbrev R.CAN_DBT.DBRP : Fld := ⟨0x8, 31, 24⟩
abbrev R.CAN_DBT.DTSEG1 : Fld := ⟨0x8, 23, 16⟩
abbrev R.CAN_DBT.DTSEG2 : Fld := ⟨0x8, 15, 8⟩
abbrev R.CAN_DBT.DSJW : Fld := ⟨0x8, 7, 0⟩
abbrev R.CAN_TDC.TDC_EN : Fld := ⟨0xC, 31, 31⟩
abbrev R.CAN_TDC.TDCO : Fld := ⟨0xC, 7, 0⟩
abbrev R.CAN_STAT.STATE : Fld := ⟨0x10, 31, 30⟩
abbrev R.CAN_STAT.STATE_CHG : Fld := ⟨0x10, 29, 29⟩
abbrev R.CAN_STAT.REC : Fld := ⟨0x10, 23, 16⟩
abbrev R.CAN_STAT.TEC : Fld := ⟨0x10, 15, 8⟩
abbrev R.CAN_CMD.RESTART : Fld := ⟨0x14, 0, 0⟩
abbrev R.CAN_ERRCNT.PROTO : Fld := ⟨0x18, 31, 16⟩
abbrev R.CAN_ERRCNT.ARB_LOST : Fld := ⟨0x18, 15, 0⟩
abbrev R.CAN_FID.EN : Fld := ⟨0x80, 31, 31⟩
abbrev R.CAN_FID.FIDE : Fld := ⟨0x80, 30, 30⟩
abbrev R.CAN_FID.FID : Fld := ⟨0x80, 28, 0⟩
abbrev R.CAN_FMASK.MASK : Fld := ⟨0x84, 28, 0⟩

/-! Fields of the group time: R375 of spec/10_time.md. -/
abbrev R.TU_CTRL.ACT : Fld := ⟨0x0, 0, 0⟩
abbrev R.TU_SWCFG.SW_STEP_MAX : Fld := ⟨0x4, 31, 16⟩
abbrev R.TU_SWCFG.SW_SLEW : Fld := ⟨0x4, 15, 0⟩
abbrev R.TU_STAT.SWITCHING : Fld := ⟨0x8, 31, 31⟩
abbrev R.TU_STAT.STEPPED : Fld := ⟨0x8, 30, 30⟩
abbrev R.TU_STAT.TD_LOST : Fld := ⟨0x8, 7, 4⟩
abbrev R.TU_STAT.TD_LOCK : Fld := ⟨0x8, 3, 0⟩
abbrev R.TU_RATE_NOW.RATE : Fld := ⟨0xC, 31, 0⟩
abbrev R.TU_OFS_NOW.OFS : Fld := ⟨0x10, 31, 0⟩

/-! Fields of the group dom: R376 of spec/10_time.md. -/
abbrev R.DOM_CFG.SVO_EN : Fld := ⟨0x0, 31, 31⟩
abbrev R.DOM_CFG.SRC : Fld := ⟨0x0, 30, 29⟩
abbrev R.DOM_CFG.KP : Fld := ⟨0x0, 27, 24⟩
abbrev R.DOM_CFG.KI : Fld := ⟨0x0, 23, 20⟩
abbrev R.DOM_CFG.DOMAIN : Fld := ⟨0x0, 15, 8⟩
abbrev R.DOM_CFG.PORT : Fld := ⟨0x0, 7, 4⟩
abbrev R.DOM_CFG.DELAY : Fld := ⟨0x0, 3, 3⟩
abbrev R.DOM_CFG.XPORT : Fld := ⟨0x0, 2, 2⟩
abbrev R.DOM_CFG.TWOSTEP : Fld := ⟨0x0, 1, 1⟩
abbrev R.DOM_CFG.PTP_EN : Fld := ⟨0x0, 0, 0⟩
abbrev R.DOM_OFS.OFS : Fld := ⟨0x4, 31, 0⟩
abbrev R.DOM_RATE.RATE : Fld := ⟨0x10, 31, 0⟩
abbrev R.DOM_ADJ_LO.ADJ : Fld := ⟨0x14, 31, 0⟩
abbrev R.DOM_ADJ_HI.ADJ : Fld := ⟨0x18, 31, 0⟩
abbrev R.DOM_SMP_LO.THETA : Fld := ⟨0x1C, 31, 0⟩
abbrev R.DOM_SMP_HI.THETA : Fld := ⟨0x20, 31, 0⟩
abbrev R.DOM_LAST_LO.THETA : Fld := ⟨0x24, 31, 0⟩
abbrev R.DOM_LAST_HI.THETA : Fld := ⟨0x28, 31, 0⟩
abbrev R.DOM_SVO.STEP_THR : Fld := ⟨0x2C, 31, 16⟩
abbrev R.DOM_SVO.RATE_MAX : Fld := ⟨0x2C, 15, 0⟩
abbrev R.DOM_STAT.LOCKED : Fld := ⟨0x30, 31, 31⟩
abbrev R.DOM_STAT.VALID : Fld := ⟨0x30, 30, 30⟩
abbrev R.DOM_STAT.STEPPED : Fld := ⟨0x30, 29, 29⟩
abbrev R.DOM_STAT.CLAMP : Fld := ⟨0x30, 28, 28⟩
abbrev R.DOM_STAT.SAMPLES : Fld := ⟨0x30, 15, 0⟩
abbrev R.DOM_INT.I : Fld := ⟨0x34, 31, 0⟩

/-! Fields of the group frame: R377 of spec/10_time.md. -/
abbrev R.FR_CTRL.EN : Fld := ⟨0x0, 31, 31⟩
abbrev R.FR_START_NS.NS : Fld := ⟨0x4, 31, 0⟩
abbrev R.FR_START_SECL.SEC : Fld := ⟨0x8, 31, 0⟩
abbrev R.FR_START_SECH.SEC : Fld := ⟨0xC, 31, 0⟩
abbrev R.FR_PERIOD.PERIOD : Fld := ⟨0x10, 31, 0⟩
abbrev R.FR_FIRST.FIRST : Fld := ⟨0x14, 31, 0⟩
abbrev R.FR_NO.NO : Fld := ⟨0x18, 31, 0⟩
abbrev R.FR_NEXT_NS.NEXT : Fld := ⟨0x1C, 31, 0⟩
abbrev R.FR_NEXT_SECL.NEXT : Fld := ⟨0x20, 31, 0⟩
abbrev R.FR_SKIP.COUNT : Fld := ⟨0x24, 31, 0⟩
abbrev R.TC_CFG.EN : Fld := ⟨0x100, 31, 31⟩
abbrev R.TC_CFG.MASK : Fld := ⟨0x100, 15, 0⟩
abbrev R.TC_CNT.COUNT : Fld := ⟨0x104, 31, 0⟩

/-! Fields of the group dbgeng: R508 of spec/14_debug.md. -/
abbrev R.DBG_ENG_CTRL.XT_OUT : Fld := ⟨0x0, 31, 24⟩
abbrev R.DBG_ENG_CTRL.XT_IN : Fld := ⟨0x0, 23, 16⟩
abbrev R.DBG_ENG_CTRL.TRC_SWITCH : Fld := ⟨0x0, 9, 9⟩
abbrev R.DBG_ENG_CTRL.TRC_STATE : Fld := ⟨0x0, 8, 8⟩
abbrev R.DBG_ENG_CTRL.BRK_EN : Fld := ⟨0x0, 4, 4⟩
abbrev R.DBG_ENG_CTRL.HOLD_RST : Fld := ⟨0x0, 3, 3⟩
abbrev R.DBG_ENG_CTRL.STEP : Fld := ⟨0x0, 2, 2⟩
abbrev R.DBG_ENG_CTRL.RELEASE : Fld := ⟨0x0, 1, 1⟩
abbrev R.DBG_ENG_CTRL.HALT : Fld := ⟨0x0, 0, 0⟩
abbrev R.DBG_ENG_STAT.HALTED : Fld := ⟨0x4, 31, 31⟩
abbrev R.DBG_ENG_STAT.DEFER_EXPIRED : Fld := ⟨0x4, 30, 30⟩
abbrev R.DBG_ENG_STAT.CMD_IGN : Fld := ⟨0x4, 29, 29⟩
abbrev R.DBG_ENG_STAT.REASON : Fld := ⟨0x4, 26, 24⟩
abbrev R.DBG_ENG_STAT.CTX : Fld := ⟨0x4, 4, 0⟩
abbrev R.DBG_CTXSEL.CTX : Fld := ⟨0x8, 12, 8⟩
abbrev R.DBG_CTXSEL.REG : Fld := ⟨0x8, 7, 0⟩
abbrev R.DBG_CTXDATA.DATA : Fld := ⟨0xC, 31, 0⟩
abbrev R.STIM_EN.EN : Fld := ⟨0x10, 31, 0⟩
abbrev R.STIM_DROP.COUNT : Fld := ⟨0x30, 31, 0⟩

/-! Fields of the group dbg: R509 of spec/14_debug.md. -/
abbrev R.DBG_LEVEL.OPEN : Fld := ⟨0x0, 5, 4⟩
abbrev R.DBG_LEVEL.CEIL : Fld := ⟨0x0, 3, 2⟩
abbrev R.DBG_LEVEL.LEVEL : Fld := ⟨0x0, 1, 0⟩
abbrev R.DBG_STAT.LOCKOUT : Fld := ⟨0x4, 31, 31⟩
abbrev R.DBG_STAT.UBUSY : Fld := ⟨0x4, 30, 30⟩
abbrev R.DBG_STAT.FAILS : Fld := ⟨0x4, 23, 16⟩
abbrev R.DBG_STAT.LEVEL_DENIED : Fld := ⟨0x4, 2, 2⟩
abbrev R.DBG_STAT.DEBUG_PEEK_DENIED : Fld := ⟨0x4, 1, 1⟩
abbrev R.DBG_STAT.UNLOCK_FAIL : Fld := ⟨0x4, 0, 0⟩
abbrev R.DBG_CHAL.CHAL : Fld := ⟨0x10, 31, 0⟩
abbrev R.DBG_UNLOCK.LEVEL : Fld := ⟨0x30, 1, 0⟩
abbrev R.DBG_PUB.BYTES : Fld := ⟨0x100, 31, 0⟩
abbrev R.DBG_SIG.BYTES : Fld := ⟨0x180, 31, 0⟩
abbrev R.DBM_ADDR_LO.PA : Fld := ⟨0x200, 31, 0⟩
abbrev R.DBM_ADDR_HI.PA : Fld := ⟨0x204, 15, 0⟩
abbrev R.DBM_CTRL.GO : Fld := ⟨0x208, 31, 31⟩
abbrev R.DBM_CTRL.WR : Fld := ⟨0x208, 30, 30⟩
abbrev R.DBM_CTRL.DBGATTR : Fld := ⟨0x208, 29, 29⟩
abbrev R.DBM_CTRL.SIZE : Fld := ⟨0x208, 28, 26⟩
abbrev R.DBM_STAT.BUSY : Fld := ⟨0x20C, 31, 31⟩
abbrev R.DBM_STAT.STATUS : Fld := ⟨0x20C, 30, 28⟩
abbrev R.DBM_STAT.LEVEL_DENIED : Fld := ⟨0x20C, 0, 0⟩
abbrev R.DBM_DATA0.DATA : Fld := ⟨0x240, 31, 0⟩
abbrev R.DBM_DATA1.DATA : Fld := ⟨0x2C0, 31, 0⟩

/-! Fields of the group trc: R510 of spec/14_debug.md. -/
abbrev R.TRC_CFG.EN : Fld := ⟨0x0, 31, 31⟩
abbrev R.TRC_CFG.RING : Fld := ⟨0x0, 30, 30⟩
abbrev R.TRC_CFG.LEN : Fld := ⟨0x0, 27, 24⟩
abbrev R.TRC_CFG.BASE : Fld := ⟨0x0, 15, 0⟩
abbrev R.TRC_BASE_LO.BASE : Fld := ⟨0x4, 31, 4⟩
abbrev R.TRC_WR.WR : Fld := ⟨0x8, 21, 0⟩
abbrev R.TRC_RD.RD : Fld := ⟨0xC, 21, 0⟩
abbrev R.TRC_DROP.COUNT : Fld := ⟨0x10, 31, 0⟩
abbrev R.TRC_POP.WORD0 : Fld := ⟨0x14, 31, 0⟩
abbrev R.TRC_HOLD.WORD : Fld := ⟨0x18, 31, 0⟩
abbrev R.TRC_FILL.COUNT : Fld := ⟨0x24, 6, 0⟩

/-! Fields of the group xt: R509 of spec/14_debug.md. -/
abbrev R.DEV_WDOG.TIMEOUT : Fld := ⟨0x0, 31, 16⟩
abbrev R.DEV_WDOG.REMAIN : Fld := ⟨0x0, 15, 0⟩
abbrev R.XT_CFG.EN : Fld := ⟨0x100, 31, 31⟩
abbrev R.XT_CFG.CAPTURE : Fld := ⟨0x100, 30, 30⟩
abbrev R.XT_CFG.STOP : Fld := ⟨0x100, 29, 29⟩
abbrev R.XT_CFG.EVT_EN : Fld := ⟨0x100, 28, 28⟩
abbrev R.XT_CFG.GMASK : Fld := ⟨0x100, 27, 24⟩
abbrev R.XT_CFG.EVENT : Fld := ⟨0x100, 9, 0⟩
abbrev R.XT_CMD.RELEASE : Fld := ⟨0x104, 1, 1⟩
abbrev R.XT_CMD.PULSE : Fld := ⟨0x104, 0, 0⟩

/-! Fields of the group cfg: R447 of spec/12_configuration.md. -/
abbrev R.CFG_CTRL.RELEASE_NOW : Fld := ⟨0x0, 4, 4⟩
abbrev R.CFG_CTRL.ABORT : Fld := ⟨0x0, 3, 3⟩
abbrev R.CFG_CTRL.FINISH : Fld := ⟨0x0, 2, 2⟩
abbrev R.CFG_CTRL.START_PUSH : Fld := ⟨0x0, 1, 1⟩
abbrev R.CFG_CTRL.START_PULL : Fld := ⟨0x0, 0, 0⟩
abbrev R.CFG_SRC_LO.ADDR : Fld := ⟨0x4, 31, 4⟩
abbrev R.CFG_SRC_HI.ADDR : Fld := ⟨0x8, 31, 0⟩
abbrev R.CFG_DATA.DATA : Fld := ⟨0xC, 31, 0⟩
abbrev R.CFG_STAT.STATE : Fld := ⟨0x10, 31, 28⟩
abbrev R.CFG_STAT.ERR : Fld := ⟨0x10, 23, 16⟩
abbrev R.CFG_STAT.SECURE : Fld := ⟨0x10, 7, 7⟩
abbrev R.CFG_STAT.WINDOW_MISSED : Fld := ⟨0x10, 6, 6⟩
abbrev R.CFG_STAT.MEM_FAIL : Fld := ⟨0x10, 5, 5⟩
abbrev R.CFG_STAT.CMD_IGN : Fld := ⟨0x10, 4, 4⟩
abbrev R.CFG_STAT.DONE_IN : Fld := ⟨0x10, 2, 2⟩
abbrev R.CFG_STAT.ERR_IN : Fld := ⟨0x10, 1, 1⟩
abbrev R.CFG_STAT.LOCK : Fld := ⟨0x10, 0, 0⟩
abbrev R.CFG_PROG.BYTES : Fld := ⟨0x14, 31, 0⟩
abbrev R.CFG_ERRPOS.OFFSET : Fld := ⟨0x18, 31, 0⟩
abbrev R.CFG_IMAGE.IMAGE_ID : Fld := ⟨0x1C, 31, 0⟩
abbrev R.CFG_REL.COMPAT : Fld := ⟨0x20, 31, 31⟩
abbrev R.CFG_REL.GAP12 : Fld := ⟨0x20, 15, 8⟩
abbrev R.CFG_REL.GAP23 : Fld := ⟨0x20, 7, 0⟩
abbrev R.CFG_FUSE.AOSRC : Fld := ⟨0x24, 4, 4⟩
abbrev R.CFG_FUSE.KEY_HASH_SET : Fld := ⟨0x24, 3, 3⟩
abbrev R.CFG_FUSE.KF_SET : Fld := ⟨0x24, 2, 2⟩
abbrev R.CFG_FUSE.HOLDPULL : Fld := ⟨0x24, 1, 0⟩

/-! Fields of the group pf: R448 of spec/12_configuration.md. -/
abbrev R.PF_INFO.PRESENT : Fld := ⟨0x0, 31, 31⟩
abbrev R.PF_INFO.VEC_BASE : Fld := ⟨0x0, 26, 16⟩
abbrev R.PF_INFO.VEC_CNT : Fld := ⟨0x0, 11, 0⟩
abbrev R.BAR_CFG.EN : Fld := ⟨0x10, 31, 31⟩
abbrev R.BAR_CFG.PREF : Fld := ⟨0x10, 30, 30⟩
abbrev R.BAR_CFG.SIZE : Fld := ⟨0x10, 29, 24⟩
abbrev R.BAR_CFG.TCTX : Fld := ⟨0x10, 11, 0⟩
abbrev R.BAR_VB_LO.VBASE : Fld := ⟨0x14, 31, 20⟩
abbrev R.BAR_VB_HI.VBASE : Fld := ⟨0x18, 15, 0⟩

/-! Fields of the group snap: R447 of spec/12_configuration.md. -/
abbrev R.SNAP_SEQ.SEQ : Fld := ⟨0x0, 15, 0⟩
abbrev R.SNAP_CAP.CAPTURED : Fld := ⟨0x4, 31, 0⟩

/-! Fields of the group mbx: R449 of spec/12_configuration.md. -/
abbrev R.MB_A_TX.WORD : Fld := ⟨0x0, 31, 0⟩
abbrev R.MB_A_RX.WORD : Fld := ⟨0x4, 31, 0⟩
abbrev R.MB_B_TX.WORD : Fld := ⟨0x8, 31, 0⟩
abbrev R.MB_B_RX.WORD : Fld := ⟨0xC, 31, 0⟩
abbrev R.MB_CFG.EVT_A : Fld := ⟨0x10, 31, 31⟩
abbrev R.MB_CFG.EVT_B : Fld := ⟨0x10, 30, 30⟩
abbrev R.MB_CFG.FLUSH : Fld := ⟨0x10, 29, 29⟩
abbrev R.MB_CFG.TIMEOUT_US : Fld := ⟨0x10, 15, 0⟩
abbrev R.MB_STAT.B_DOWN : Fld := ⟨0x14, 31, 31⟩
abbrev R.MB_STAT.CNT_AB : Fld := ⟨0x14, 30, 28⟩
abbrev R.MB_STAT.CNT_BA : Fld := ⟨0x14, 27, 25⟩
abbrev R.MB_STAT.COLLISION_A : Fld := ⟨0x14, 3, 3⟩
abbrev R.MB_STAT.COLLISION_B : Fld := ⟨0x14, 2, 2⟩
abbrev R.MB_STAT.TIMEOUT_A : Fld := ⟨0x14, 1, 1⟩
abbrev R.MB_STAT.TIMEOUT_B : Fld := ⟨0x14, 0, 0⟩

/-! Fields of the group mbpend: R449 of spec/12_configuration.md. -/
abbrev R.MB_PEND.PEND : Fld := ⟨0x0, 31, 0⟩

/-! Fields of the group evt: R251 of spec/06_contexts_queues.md. -/
abbrev R.EVT_CFG.HOST_EN : Fld := ⟨0x0, 31, 31⟩
abbrev R.EVT_CFG.ENG_EN : Fld := ⟨0x0, 30, 30⟩
abbrev R.EVT_CFG.VECTOR : Fld := ⟨0x0, 10, 0⟩
abbrev R.EVT_ENG.BAY : Fld := ⟨0x4, 22, 16⟩
abbrev R.EVT_ENG.CTX : Fld := ⟨0x4, 12, 8⟩
abbrev R.EVT_ENG.BIT : Fld := ⟨0x4, 4, 0⟩
abbrev R.EVT_RATE.SPACING : Fld := ⟨0x8, 31, 16⟩
abbrev R.EVT_RATE.COAL_CNT : Fld := ⟨0x8, 15, 8⟩
abbrev R.EVT_RATE.COAL_TIME : Fld := ⟨0x8, 7, 0⟩
abbrev R.EVT_STAT.PENDING : Fld := ⟨0xC, 31, 31⟩
abbrev R.EVT_STAT.OCC : Fld := ⟨0xC, 15, 0⟩

/-! Fields of the group evtset: R251 of spec/06_contexts_queues.md. -/
abbrev R.EVT_SWSET.SET : Fld := ⟨0x0, 31, 0⟩
abbrev R.EVT_PEND.PEND : Fld := ⟨0x100, 31, 0⟩

/-! Fields of the group tctx: R242 of spec/06_contexts_queues.md. -/
abbrev R.TCTX_LO.ROOT : Fld := ⟨0x0, 31, 12⟩
abbrev R.TCTX_LO.RO : Fld := ⟨0x0, 2, 2⟩
abbrev R.TCTX_LO.V : Fld := ⟨0x0, 0, 0⟩
abbrev R.TCTX_HI.ROOT : Fld := ⟨0x4, 15, 0⟩

/-! Fields of the group xu: R242 of spec/06_contexts_queues.md. -/
abbrev R.XU_INV_VA_LO.VA : Fld := ⟨0x4, 31, 12⟩
abbrev R.XU_INV_VA_HI.VA : Fld := ⟨0x8, 15, 0⟩
abbrev R.XU_INV_CTL.SCOPE : Fld := ⟨0xC, 31, 30⟩
abbrev R.XU_INV_CTL.TCTX : Fld := ⟨0xC, 11, 0⟩
abbrev R.XU_INV_STAT.BUSY : Fld := ⟨0x10, 0, 0⟩

/-! Fields of the group nap: R244 of spec/06_contexts_queues.md. -/
abbrev R.NAP_XCFG.FMODE : Fld := ⟨0x0, 31, 31⟩
abbrev R.NAP_XCFG.TCTX : Fld := ⟨0x0, 27, 16⟩
abbrev R.NAP_XCFG.HOLD : Fld := ⟨0x0, 15, 0⟩
abbrev R.NAP_FSTAT.WRITE : Fld := ⟨0x4, 16, 16⟩
abbrev R.NAP_FSTAT.CAUSE : Fld := ⟨0x4, 15, 8⟩
abbrev R.NAP_FSTAT.HOLD_EXPIRED : Fld := ⟨0x4, 2, 2⟩
abbrev R.NAP_FSTAT.HOLDING : Fld := ⟨0x4, 1, 1⟩
abbrev R.NAP_FSTAT.FAULT : Fld := ⟨0x4, 0, 0⟩
abbrev R.NAP_FVA_LO.FVA : Fld := ⟨0x8, 31, 0⟩
abbrev R.NAP_FVA_HI.FVA : Fld := ⟨0xC, 15, 0⟩
abbrev R.NAP_CMD.ABORT : Fld := ⟨0x10, 1, 1⟩
abbrev R.NAP_CMD.RESUME : Fld := ⟨0x10, 0, 0⟩
abbrev R.NAP_FCNT.COUNT : Fld := ⟨0x14, 31, 0⟩

/-! Fields of the group hflt: R246 of spec/06_contexts_queues.md. -/
abbrev R.HFLT_STAT.VALID : Fld := ⟨0x0, 31, 31⟩
abbrev R.HFLT_STAT.WRITE : Fld := ⟨0x0, 30, 30⟩
abbrev R.HFLT_STAT.OVERFLOW : Fld := ⟨0x0, 29, 29⟩
abbrev R.HFLT_STAT.CAUSE : Fld := ⟨0x0, 7, 0⟩
abbrev R.HFLT_VA_LO.VA : Fld := ⟨0x4, 31, 0⟩
abbrev R.HFLT_VA_HI.VA : Fld := ⟨0x8, 15, 0⟩
abbrev R.HFLT_CNT.COUNT : Fld := ⟨0xC, 31, 0⟩

/-! Fields of the group iopin: R538 of spec/16_package.md. -/
abbrev R.IO_CFG_PIN.PULL : Fld := ⟨0x0, 13, 12⟩
abbrev R.IO_CFG_PIN.PSTR : Fld := ⟨0x0, 11, 10⟩
abbrev R.IO_CFG_PIN.SLEW : Fld := ⟨0x0, 9, 8⟩
abbrev R.IO_CFG_PIN.DRIVE : Fld := ⟨0x0, 6, 4⟩

/-! Fields of the group iogen: R538 of spec/16_package.md. -/
abbrev R.IO_CFG_GEN.PULL : Fld := ⟨0x0, 13, 12⟩
abbrev R.IO_CFG_GEN.PSTR : Fld := ⟨0x0, 11, 10⟩
abbrev R.IO_CFG_GEN.SLEW : Fld := ⟨0x0, 9, 8⟩
abbrev R.IO_CFG_GEN.DRIVE : Fld := ⟨0x0, 6, 4⟩
abbrev R.IO_CFG_GEN.IREG : Fld := ⟨0x0, 1, 1⟩
abbrev R.IO_CFG_GEN.OREG : Fld := ⟨0x0, 0, 0⟩

/-! Fields of the group iobank: R539 of spec/16_package.md. -/
abbrev R.IO_BANKSTAT.VCCIO_OK : Fld := ⟨0x0, 31, 31⟩
abbrev R.IO_BANKSTAT.VCCIO_LOST : Fld := ⟨0x0, 30, 30⟩
abbrev R.IO_BANKSTAT.VCCIO : Fld := ⟨0x0, 11, 0⟩

/-! Fields of the group brg: R525 of spec/15_multi_die.md. -/
abbrev R.BRG_CTRL.RETRAIN : Fld := ⟨0x0, 8, 8⟩
abbrev R.BRG_CTRL.GRP_DIS : Fld := ⟨0x0, 7, 0⟩
abbrev R.BRG_STAT.STATE : Fld := ⟨0x4, 31, 30⟩
abbrev R.BRG_STAT.WIDTH_MISMATCH : Fld := ⟨0x4, 29, 29⟩
abbrev R.BRG_STAT.CODE_ERR : Fld := ⟨0x4, 28, 28⟩
abbrev R.BRG_STAT.DEGRADED : Fld := ⟨0x4, 27, 27⟩
abbrev R.BRG_STAT.PARTNER : Fld := ⟨0x4, 23, 16⟩
abbrev R.BRG_STAT.OWN : Fld := ⟨0x4, 15, 8⟩
abbrev R.BRG_STAT.IN_USE : Fld := ⟨0x4, 7, 0⟩
abbrev R.BRG_SPARE.SPARE : Fld := ⟨0x8, 7, 0⟩
abbrev R.BRG_REPLAY.REPLAY : Fld := ⟨0xC, 31, 0⟩
abbrev R.BRG_LAST.PARTNER : Fld := ⟨0x10, 15, 8⟩
abbrev R.BRG_LAST.OWN : Fld := ⟨0x10, 7, 0⟩
abbrev R.BRG_LAST_NS.NS : Fld := ⟨0x14, 31, 0⟩

/-! Fields of the group bay: R166 of spec/04_bays.md. -/
abbrev R.BAY_CTRL.RESET : Fld := ⟨0x0, 2, 2⟩
abbrev R.BAY_CTRL.ONLINE : Fld := ⟨0x0, 1, 1⟩
abbrev R.BAY_CTRL.OFFLINE : Fld := ⟨0x0, 0, 0⟩
abbrev R.BAY_STATE.CMD_IGN : Fld := ⟨0x4, 2, 2⟩
abbrev R.BAY_STATE.STATE : Fld := ⟨0x4, 1, 0⟩
abbrev R.BAY_CLK.RAMP : Fld := ⟨0x8, 23, 16⟩
abbrev R.BAY_CLK.RAIL : Fld := ⟨0x8, 15, 14⟩
abbrev R.BAY_CLK.PLVL : Fld := ⟨0x8, 10, 8⟩
abbrev R.BAY_CLK.DIV : Fld := ⟨0x8, 5, 0⟩
abbrev R.BAY_CLKSTAT.RAMPING : Fld := ⟨0xC, 31, 31⟩
abbrev R.BAY_CLKSTAT.VBUSY : Fld := ⟨0xC, 30, 30⟩
abbrev R.BAY_CLKSTAT.CLAMPED : Fld := ⟨0xC, 29, 29⟩
abbrev R.BAY_CLKSTAT.RAIL_NOW : Fld := ⟨0xC, 28, 27⟩
abbrev R.BAY_CLKSTAT.PLVL_NOW : Fld := ⟨0xC, 26, 24⟩
abbrev R.BAY_CLKSTAT.DIV_NOW : Fld := ⟨0xC, 5, 0⟩
abbrev R.FRAME_CFG.FEVT_EN : Fld := ⟨0x10, 31, 31⟩
abbrev R.FRAME_CFG.OVL : Fld := ⟨0x10, 15, 0⟩
abbrev R.FRAME_NO.FRAME_NO : Fld := ⟨0x14, 31, 0⟩
abbrev R.ALERT_STAT.ALERT : Fld := ⟨0x18, 6, 0⟩
abbrev R.ALERT_EN.EN : Fld := ⟨0x1C, 6, 0⟩
abbrev R.PIN_OUT.OE : Fld := ⟨0x20, 25, 16⟩
abbrev R.PIN_OUT.VAL : Fld := ⟨0x20, 9, 0⟩
abbrev R.PIN_NEXT.ARMED : Fld := ⟨0x24, 31, 31⟩
abbrev R.PIN_NEXT.OE : Fld := ⟨0x24, 25, 16⟩
abbrev R.PIN_NEXT.VAL : Fld := ⟨0x24, 9, 0⟩
abbrev R.PIN_ZONE.HI : Fld := ⟨0x28, 19, 10⟩
abbrev R.PIN_ZONE.LO : Fld := ⟨0x28, 9, 0⟩
abbrev R.PIN_STUCK.REARM : Fld := ⟨0x2C, 25, 16⟩
abbrev R.PIN_STUCK.STUCK : Fld := ⟨0x2C, 9, 0⟩
abbrev R.CAP_RING.LEN : Fld := ⟨0x30, 31, 28⟩
abbrev R.CAP_RING.BASE : Fld := ⟨0x30, 17, 4⟩
abbrev R.CAP_WR.WR : Fld := ⟨0x34, 13, 0⟩
abbrev R.CAP_RD.RD : Fld := ⟨0x38, 13, 0⟩
abbrev R.CAP_DROP.DROP : Fld := ⟨0x3C, 31, 0⟩
abbrev R.ADC_CFG.EN : Fld := ⟨0x40, 31, 31⟩
abbrev R.ADC_CFG.DIV : Fld := ⟨0x40, 15, 0⟩
abbrev R.ADC_THR.HI : Fld := ⟨0x44, 31, 16⟩
abbrev R.ADC_THR.LO : Fld := ⟨0x44, 15, 0⟩
abbrev R.ADC_RING.LEN : Fld := ⟨0x48, 31, 28⟩
abbrev R.ADC_RING.BASE : Fld := ⟨0x48, 17, 5⟩
abbrev R.ADC_WR.WR : Fld := ⟨0x4C, 12, 0⟩
abbrev R.ADC_RD.RD : Fld := ⟨0x50, 12, 0⟩
abbrev R.ADC_DROP.DROP : Fld := ⟨0x54, 31, 0⟩
abbrev R.ADC_LAST.INDEX : Fld := ⟨0x58, 31, 16⟩
abbrev R.ADC_LAST.SAMPLE : Fld := ⟨0x58, 15, 0⟩
abbrev R.WDOG_CFG.ACTION : Fld := ⟨0x60, 31, 30⟩
abbrev R.WDOG_CFG.EN : Fld := ⟨0x60, 29, 29⟩
abbrev R.WDOG_CFG.TIMEOUT : Fld := ⟨0x60, 23, 0⟩
abbrev R.WDOG_KICK.KICK : Fld := ⟨0x64, 31, 0⟩
abbrev R.WDOG_STAT.EXPIRED : Fld := ⟨0x68, 31, 31⟩
abbrev R.WDOG_STAT.BADKICK : Fld := ⟨0x68, 30, 30⟩
abbrev R.WDOG_STAT.WDOG_DEBUG_RELOAD : Fld := ⟨0x68, 29, 29⟩
abbrev R.WDOG_STAT.REMAIN : Fld := ⟨0x68, 23, 0⟩
abbrev R.EFLAG.EF : Fld := ⟨0x70, 3, 0⟩
abbrev R.RFX_STATE.COND : Fld := ⟨0x74, 31, 16⟩
abbrev R.RFX_STATE.LATCHED : Fld := ⟨0x74, 15, 0⟩
abbrev R.SNAP_NS.NS : Fld := ⟨0x80, 31, 0⟩
abbrev R.SNAP_SEC.FRAC : Fld := ⟨0x84, 31, 24⟩
abbrev R.SNAP_SEC.SEC : Fld := ⟨0x84, 23, 0⟩
abbrev R.SNAP_ZONE.VALID : Fld := ⟨0x88, 31, 31⟩
abbrev R.SNAP_ZONE.HI : Fld := ⟨0x88, 19, 10⟩
abbrev R.SNAP_ZONE.LO : Fld := ⟨0x88, 9, 0⟩
abbrev R.SNAP_PTR.CAP_WR : Fld := ⟨0x8C, 29, 16⟩
abbrev R.SNAP_PTR.ADC_WR : Fld := ⟨0x8C, 12, 0⟩

/-! Fields of the group rfx: R167 of spec/04_bays.md. -/
abbrev R.RFX_COND.SLOT3 : Fld := ⟨0x0, 27, 21⟩
abbrev R.RFX_COND.SLOT2 : Fld := ⟨0x0, 20, 14⟩
abbrev R.RFX_COND.SLOT1 : Fld := ⟨0x0, 13, 7⟩
abbrev R.RFX_COND.SLOT0 : Fld := ⟨0x0, 6, 0⟩
abbrev R.RFX_ACT.REC : Fld := ⟨0x4, 13, 13⟩
abbrev R.RFX_ACT.ALERT : Fld := ⟨0x4, 12, 12⟩
abbrev R.RFX_ACT.LATCH : Fld := ⟨0x4, 11, 11⟩
abbrev R.RFX_ACT.ACTION : Fld := ⟨0x4, 9, 8⟩
abbrev R.RFX_ACT.TARGET : Fld := ⟨0x4, 3, 0⟩

/-! Fields of the group pin: R168 of spec/04_bays.md. -/
abbrev R.PIN_MODE.RFX_EN : Fld := ⟨0x0, 5, 5⟩
abbrev R.PIN_MODE.DSRC : Fld := ⟨0x0, 4, 4⟩
abbrev R.PIN_MODE.MODE : Fld := ⟨0x0, 2, 0⟩
abbrev R.PIN_THR.HYST : Fld := ⟨0x4, 29, 28⟩
abbrev R.PIN_THR.VH : Fld := ⟨0x4, 25, 16⟩
abbrev R.PIN_THR.VL : Fld := ⟨0x4, 9, 0⟩
abbrev R.PIN_FILT.EDGE_EN : Fld := ⟨0x8, 11, 8⟩
abbrev R.PIN_FILT.DGL : Fld := ⟨0x8, 7, 0⟩
abbrev R.PIN_STK.UNIT : Fld := ⟨0xC, 18, 18⟩
abbrev R.PIN_STK.ZONE : Fld := ⟨0xC, 17, 16⟩
abbrev R.PIN_STK.TO : Fld := ⟨0xC, 15, 0⟩
abbrev R.PIN_CNT.OVR : Fld := ⟨0x10, 31, 16⟩
abbrev R.PIN_CNT.GLITCH : Fld := ⟨0x10, 15, 0⟩

/-! Fields of the group sched: R220, R227 of spec/06_contexts_queues.md. -/
abbrev R.SCHED_CFG.QUANTUM : Fld := ⟨0x0, 7, 0⟩
abbrev R.SCHED_STAT.ACTIVE : Fld := ⟨0x4, 5, 5⟩
abbrev R.SCHED_STAT.CUR : Fld := ⟨0x4, 4, 0⟩
abbrev R.Q_EVTSTAT.QEVT : Fld := ⟨0x10, 31, 0⟩

/-! Fields of the group mover: R235 of spec/06_contexts_queues.md. -/
abbrev R.MV_CFG.EN : Fld := ⟨0x0, 31, 31⟩
abbrev R.MV_CFG.TCTX : Fld := ⟨0x0, 27, 16⟩
abbrev R.MV_CFG.CPLQ : Fld := ⟨0x0, 13, 8⟩
abbrev R.MV_CFG.CMDQ : Fld := ⟨0x0, 5, 0⟩
abbrev R.MV_STATE.CPL_BLOCKED : Fld := ⟨0x4, 4, 4⟩
abbrev R.MV_STATE.CMD_IGN : Fld := ⟨0x4, 3, 3⟩
abbrev R.MV_STATE.STATE : Fld := ⟨0x4, 2, 0⟩
abbrev R.MV_CMD.ABORT : Fld := ⟨0x8, 1, 1⟩
abbrev R.MV_CMD.RESUME : Fld := ⟨0x8, 0, 0⟩
abbrev R.MV_FINFO.CAUSE : Fld := ⟨0xC, 31, 24⟩
abbrev R.MV_FINFO.DIR : Fld := ⟨0xC, 23, 23⟩
abbrev R.MV_FINFO.TAG : Fld := ⟨0xC, 15, 0⟩
abbrev R.MV_FVA_LO.FVA : Fld := ⟨0x10, 31, 0⟩
abbrev R.MV_FVA_HI.FVA : Fld := ⟨0x14, 15, 0⟩
abbrev R.MV_DONE.BYTES_DONE : Fld := ⟨0x18, 31, 0⟩

/-! Fields of the group ctx: R220 of spec/06_contexts_queues.md. -/
abbrev R.CTX_CFG.EN : Fld := ⟨0x0, 31, 31⟩
abbrev R.CTX_CFG.PRIO : Fld := ⟨0x0, 29, 28⟩
abbrev R.CTX_CFG.TCTX : Fld := ⟨0x0, 27, 16⟩
abbrev R.CTX_STATE.CMD_IGN : Fld := ⟨0x4, 5, 5⟩
abbrev R.CTX_STATE.PEND_ERR : Fld := ⟨0x4, 4, 4⟩
abbrev R.CTX_STATE.STATE : Fld := ⟨0x4, 2, 0⟩
abbrev R.CTX_CMD.ABORT : Fld := ⟨0x8, 2, 2⟩
abbrev R.CTX_CMD.RESUME : Fld := ⟨0x8, 1, 1⟩
abbrev R.CTX_CMD.START : Fld := ⟨0x8, 0, 0⟩
abbrev R.CTX_PC.PC : Fld := ⟨0xC, 31, 2⟩
abbrev R.CTX_CAUSE.IMPRECISE : Fld := ⟨0x10, 31, 31⟩
abbrev R.CTX_CAUSE.MULTI : Fld := ⟨0x10, 30, 30⟩
abbrev R.CTX_CAUSE.WRITE : Fld := ⟨0x10, 29, 29⟩
abbrev R.CTX_CAUSE.CAUSE : Fld := ⟨0x10, 7, 0⟩
abbrev R.CTX_INFO.INFO : Fld := ⟨0x14, 31, 0⟩
abbrev R.CTX_INFOH.VAH : Fld := ⟨0x18, 15, 0⟩

/-! Fields of the group queue: R227 of spec/06_contexts_queues.md. -/
abbrev R.Q_CFG.EN : Fld := ⟨0x0, 31, 31⟩
abbrev R.Q_CFG.PROD : Fld := ⟨0x0, 30, 29⟩
abbrev R.Q_CFG.CONS : Fld := ⟨0x0, 28, 27⟩
abbrev R.Q_CFG.EVT : Fld := ⟨0x0, 26, 25⟩
abbrev R.Q_CFG.LEN : Fld := ⟨0x0, 20, 16⟩
abbrev R.Q_BASE_LO.BASE : Fld := ⟨0x4, 31, 5⟩
abbrev R.Q_BASE_HI.BASE : Fld := ⟨0x8, 15, 0⟩
abbrev R.Q_TAIL.TAIL : Fld := ⟨0xC, 16, 0⟩
abbrev R.Q_HEAD.HEAD : Fld := ⟨0x10, 16, 0⟩
abbrev R.Q_ERR.RING_ERR : Fld := ⟨0x14, 2, 2⟩
abbrev R.Q_ERR.UNDERRUN : Fld := ⟨0x14, 1, 1⟩
abbrev R.Q_ERR.OVERRUN : Fld := ⟨0x14, 0, 0⟩

/-- The register table of group ident (R40 and the rules beside it, spec/01_organisation.md). -/
def tblIdent : List RegField := [
  ⟨R.IDENT.VENDOR_TAG, 1, 4, .ro, 0x5C, .powerOn, .any⟩,
  ⟨R.IDENT.DIE_TYPE, 1, 4, .ro, 0x40, .powerOn, .any⟩,
  ⟨R.IDENT.STEPPING, 1, 4, .ro, 0x0, .powerOn, .any⟩,
  ⟨R.IDENT.FEATURE_LEVEL, 1, 4, .ro, 0x0, .powerOn, .any⟩,
  ⟨R.IDENT.COMPAT_CLASS, 1, 4, .ro, 0x0, .powerOn, .any⟩,
  ⟨R.IDENT.LEADER, 1, 4, .ro, 0x0, .powerOn, .any⟩,
  ⟨R.IDENT.QUAD, 1, 4, .ro, 0x0, .powerOn, .any⟩,
  ⟨R.PRESENCE.TIME_PRESENT, 1, 4, .ro, 0x0, .powerOn, .any⟩,
  ⟨R.PRESENCE.ADC_PRESENT, 1, 4, .ro, 0x0, .powerOn, .any⟩,
  ⟨R.PRESENCE.BRIDGE_PRESENT, 1, 4, .ro, 0x0, .powerOn, .any⟩,
  ⟨R.PRESENCE.QUAD_PRESENT, 1, 4, .ro, 0x0, .powerOn, .any⟩,
  ⟨R.DIE_STEP.STEP, 1, 4, .ro, 0x0, .powerOn, .any⟩,
  ⟨R.DIE_FL.CLASS_OK, 1, 4, .ro, 0x0, .powerOn, .any⟩,
  ⟨R.DIE_FL.FL_NOW, 1, 4, .ro, 0x0, .powerOn, .any⟩,
  ⟨R.DIE_FL.FL, 1, 4, .ro, 0x0, .powerOn, .any⟩,
  ⟨R.RST_CAUSE.COUNT, 1, 4, .ro, 0x0, .powerOn, .any⟩,
  ⟨R.RST_CAUSE.CAUSE, 1, 4, .ro, 0x0, .powerOn, .any⟩,
  ⟨R.UID_LO.UID, 1, 4, .ro, 0x0, .powerOn, .any⟩,
  ⟨R.UID_HI.UID, 1, 4, .ro, 0x0, .powerOn, .any⟩,
  ⟨R.LT_SNAP.SNAP, 1, 4, .w1s, 0x0, .powerOn, .any⟩,
  ⟨R.LT_FRAC.FRAC, 1, 4, .ro, 0x0, .powerOn, .any⟩,
  ⟨R.LT_NS.NS, 1, 4, .ro, 0x0, .powerOn, .any⟩,
  ⟨R.LT_SEC_LO.SEC, 1, 4, .ro, 0x0, .powerOn, .any⟩,
  ⟨R.LT_SEC_HI.SEC, 1, 4, .ro, 0x0, .powerOn, .any⟩,
  ⟨R.LT_C_LO.C, 1, 4, .ro, 0x0, .powerOn, .any⟩,
  ⟨R.LT_C_HI.C, 1, 4, .ro, 0x0, .powerOn, .any⟩]

/-- The register table of group island (R118 and the rules beside it, spec/03_islands_causeways.md). -/
def tblIsland : List RegField := [
  ⟨R.ISL_CLK.RAMP, 1, 4, .rw, 0xF, .quadrant, .any⟩,
  ⟨R.ISL_CLK.RAIL, 1, 4, .rw, 0x0, .quadrant, .any⟩,
  ⟨R.ISL_CLK.PLVL, 1, 4, .rw, 0x7, .quadrant, .any⟩,
  ⟨R.ISL_CLK.DIV, 1, 4, .rw, 0x3F, .quadrant, .any⟩,
  ⟨R.ISL_CLKSTAT.RAMPING, 1, 4, .ro, 0x0, .quadrant, .any⟩,
  ⟨R.ISL_CLKSTAT.VBUSY, 1, 4, .ro, 0x0, .quadrant, .any⟩,
  ⟨R.ISL_CLKSTAT.CLAMPED, 1, 4, .ro, 0x0, .quadrant, .any⟩,
  ⟨R.ISL_CLKSTAT.RAIL_NOW, 1, 4, .ro, 0x0, .quadrant, .any⟩,
  ⟨R.ISL_CLKSTAT.PLVL_NOW, 1, 4, .ro, 0x7, .quadrant, .any⟩,
  ⟨R.ISL_CLKSTAT.DIV_NOW, 1, 4, .ro, 0x3F, .quadrant, .any⟩,
  ⟨R.ISL_CTRL.GRP, 1, 4, .rw, 0x0, .quadrant, .any⟩,
  ⟨R.ISL_CTRL.BIST_START, 1, 4, .w1s, 0x0, .quadrant, .any⟩,
  ⟨R.ISL_CTRL.RESET, 1, 4, .w1s, 0x0, .quadrant, .any⟩,
  ⟨R.ISL_CTRL.UNFENCE, 1, 4, .w1s, 0x0, .quadrant, .any⟩,
  ⟨R.ISL_CTRL.FENCE, 1, 4, .w1s, 0x0, .quadrant, .any⟩,
  ⟨R.ISL_STATE.DIR_MISMATCH, 1, 4, .w1c, 0x0, .quadrant, .any⟩,
  ⟨R.ISL_STATE.FENCE_TIMEOUT, 1, 4, .w1c, 0x0, .quadrant, .any⟩,
  ⟨R.ISL_STATE.STATE, 1, 4, .ro, 0x5, .quadrant, .any⟩,
  ⟨R.ISL_DRAIN.DRAIN_LIMIT, 1, 4, .rw, 0x400, .quadrant, .any⟩,
  ⟨R.ISL_BIST.FAIL_UNIT, 1, 4, .ro, 0x0, .quadrant, .any⟩,
  ⟨R.ISL_BIST.RESULT, 1, 4, .ro, 0x0, .quadrant, .any⟩,
  ⟨R.ISL_LOSTCNT.LOST_N, 1, 4, .rc, 0x0, .quadrant, .any⟩,
  ⟨R.ISL_LOSTCNT.LOST_E, 1, 4, .rc, 0x0, .quadrant, .any⟩,
  ⟨R.ISL_LOSTCNT.LOST_S, 1, 4, .rc, 0x0, .quadrant, .any⟩,
  ⟨R.ISL_LOSTCNT.LOST_W, 1, 4, .rc, 0x0, .quadrant, .any⟩,
  ⟨R.CW_PUSHLOST.PUSH_LOST, 4, 4, .w1c, 0x0, .quadrant, .any⟩,
  ⟨R.CW_UNDERRUN.UNDERRUN, 4, 4, .w1c, 0x0, .quadrant, .any⟩]

/-- The register table of group deep (R125 and the rules beside it, spec/03_islands_causeways.md). -/
def tblDeep : List RegField := [
  ⟨R.DS_CLK.RAMP, 1, 4, .rw, 0xF, .quadrant, .any⟩,
  ⟨R.DS_CLK.RAIL, 1, 4, .rw, 0x0, .quadrant, .any⟩,
  ⟨R.DS_CLK.PLVL, 1, 4, .rw, 0x7, .quadrant, .any⟩,
  ⟨R.DS_CLK.DIV, 1, 4, .rw, 0x3F, .quadrant, .any⟩,
  ⟨R.DS_CLKSTAT.RAMPING, 1, 4, .ro, 0x0, .quadrant, .any⟩,
  ⟨R.DS_CLKSTAT.VBUSY, 1, 4, .ro, 0x0, .quadrant, .any⟩,
  ⟨R.DS_CLKSTAT.CLAMPED, 1, 4, .ro, 0x0, .quadrant, .any⟩,
  ⟨R.DS_CLKSTAT.RAIL_NOW, 1, 4, .ro, 0x0, .quadrant, .any⟩,
  ⟨R.DS_CLKSTAT.PLVL_NOW, 1, 4, .ro, 0x7, .quadrant, .any⟩,
  ⟨R.DS_CLKSTAT.DIV_NOW, 1, 4, .ro, 0x3F, .quadrant, .any⟩]

/-- The register table of group clkblk (R126 and the rules beside it, spec/03_islands_causeways.md). -/
def tblClkblk : List RegField := [
  ⟨R.BCAST_CTRL.GMASK, 1, 4, .wo, 0x0, .quadrant, .any⟩,
  ⟨R.BCAST_CTRL.CODE, 1, 4, .wo, 0x0, .quadrant, .any⟩,
  ⟨R.BCAST_STATUS.MISS, 1, 4, .ro, 0x0, .quadrant, .any⟩,
  ⟨R.BCAST_STATUS.BUSY, 1, 4, .ro, 0x0, .quadrant, .any⟩,
  ⟨R.BCAST_STATUS.LAST_CODE, 1, 4, .ro, 0x0, .quadrant, .any⟩,
  ⟨R.ISL_ATTN.ATTN, 3, 4, .ro, 0x0, .quadrant, .any⟩,
  ⟨R.FR_CFG0.LOCKED, 1, 4, .ro, 0x0, .quadrant, .any⟩,
  ⟨R.FR_CFG0.MHZ, 1, 4, .rw, 0x7D0, .quadrant, .any⟩,
  ⟨R.FR_CFG1.LOCKED, 1, 4, .ro, 0x0, .quadrant, .any⟩,
  ⟨R.FR_CFG1.MHZ, 1, 4, .rw, 0x640, .quadrant, .any⟩,
  ⟨R.FR_CFG2.LOCKED, 1, 4, .ro, 0x0, .quadrant, .any⟩,
  ⟨R.FR_CFG2.MHZ, 1, 4, .rw, 0x4B0, .quadrant, .any⟩,
  ⟨R.FR_CFG3.LOCKED, 1, 4, .ro, 0x0, .quadrant, .any⟩,
  ⟨R.FR_CFG3.MHZ, 1, 4, .rw, 0x3E8, .quadrant, .any⟩,
  ⟨R.NOC_CLK.BUSY, 1, 4, .ro, 0x0, .quadrant, .any⟩,
  ⟨R.NOC_CLK.PLVL, 1, 4, .rw, 0x0, .quadrant, .any⟩,
  ⟨R.NOC_CLK.MHZ, 1, 4, .rw, 0x7D0, .quadrant, .any⟩,
  ⟨R.CLK_STAT.CMD_IGN, 1, 4, .w1c, 0x0, .quadrant, .any⟩,
  ⟨R.CLK_STAT.UNLOCK, 1, 4, .w1c, 0x0, .quadrant, .any⟩]

/-- The register table of group power (R479 and the rules beside it, spec/13_power.md). -/
def tblPower : List RegField := [
  ⟨R.PWR_STICKY.THERM_SHUTDOWN, 1, 4, .w1c, 0x0, .vin, .any⟩,
  ⟨R.PWR_STICKY.IBUS_UV, 1, 4, .w1c, 0x0, .vin, .any⟩,
  ⟨R.PWR_STICKY.SB_OVERCURRENT, 1, 4, .w1c, 0x0, .vin, .any⟩,
  ⟨R.PWR_STICKY.BROWNOUT, 1, 4, .w1c, 0x0, .vin, .any⟩,
  ⟨R.PWR_STICKY.REG_FAULT, 1, 4, .w1c, 0x0, .vin, .any⟩,
  ⟨R.PWR_STICKY.OFF_CMD, 1, 4, .w1c, 0x0, .vin, .any⟩,
  ⟨R.PWR_STICKY.THERM_REPEAT, 1, 4, .w1c, 0x0, .vin, .any⟩,
  ⟨R.PWR_STICKY.VIN_FRESH, 1, 4, .w1c, 0x1, .vin, .any⟩,
  ⟨R.PWR_VIN.IIN, 1, 4, .ro, 0x0, .quadrant, .any⟩,
  ⟨R.PWR_VIN.VIN, 1, 4, .ro, 0x0, .quadrant, .any⟩,
  ⟨R.PWR_PIN.IBUS, 1, 4, .ro, 0x0, .quadrant, .any⟩,
  ⟨R.PWR_PIN.PIN, 1, 4, .ro, 0x0, .quadrant, .any⟩,
  ⟨R.PWR_LIMIT.ILIM_ACTIVE, 1, 4, .ro, 0x0, .quadrant, .any⟩,
  ⟨R.PWR_LIMIT.VIN_WARN, 1, 4, .ro, 0x0, .quadrant, .any⟩,
  ⟨R.PWR_LIMIT.LIMIT, 1, 4, .rw, 0x9C4, .quadrant, .any⟩,
  ⟨R.PWR_LOAD.LOAD, 1, 4, .ro, 0x0, .quadrant, .any⟩,
  ⟨R.PWR_CAP.THERM, 1, 4, .ro, 0x0, .quadrant, .any⟩,
  ⟨R.PWR_CAP.LIMIT, 1, 4, .ro, 0x0, .quadrant, .any⟩,
  ⟨R.PWR_CAP.CAP, 1, 4, .ro, 0x0, .quadrant, .any⟩,
  ⟨R.TS.VALID, 16, 4, .ro, 0x0, .quadrant, .any⟩,
  ⟨R.TS.TEMP, 16, 4, .ro, 0x0, .quadrant, .any⟩,
  ⟨R.THERM_CFG.WARN_T, 1, 4, .rw, 0x5F, .quadrant, .any⟩,
  ⟨R.THERM_CFG.THROT_T, 1, 4, .rw, 0x64, .quadrant, .any⟩,
  ⟨R.THERM_STAT.TMAX, 1, 4, .ro, 0x0, .quadrant, .any⟩,
  ⟨R.THERM_STAT.SMAX, 1, 4, .ro, 0x0, .quadrant, .any⟩,
  ⟨R.THERM_STAT.WARN, 1, 4, .w1c, 0x0, .quadrant, .any⟩,
  ⟨R.PWR_ISLRET.RET, 6, 4, .rw, 0x55555555, .powerOn, .any⟩,
  ⟨R.PWR_BAYRET.RET, 2, 4, .rw, 0x55555555, .powerOn, .any⟩,
  ⟨R.PWR_BAYSLP.SLP, 2, 4, .ro, 0x0, .quadrant, .any⟩,
  ⟨R.PWR_DSSLP.SLP, 1, 4, .ro, 0x0, .quadrant, .any⟩,
  ⟨R.PWR_SBEST.EST, 1, 4, .ro, 0x0, .quadrant, .any⟩,
  ⟨R.PWR_SBLIM.SB_LIMIT, 1, 4, .rw, 0x5DC0, .powerOn, .any⟩,
  ⟨R.PWR_REFI.COUNT, 24, 4, .rc, 0x0, .powerOn, .any⟩,
  ⟨R.PWR_REFB.COUNT, 8, 4, .rc, 0x0, .powerOn, .any⟩,
  ⟨R.PWR_REFD.COUNT, 4, 4, .rc, 0x0, .powerOn, .any⟩,
  ⟨R.PWR_REFQ.DEVICE, 1, 4, .rc, 0x0, .powerOn, .any⟩,
  ⟨R.PWR_REFQ.GROUP, 1, 4, .rc, 0x0, .powerOn, .any⟩,
  ⟨R.PWR_REFQ.QUAD, 1, 4, .rc, 0x0, .powerOn, .any⟩,
  ⟨R.PWR_LOG.WORD, 64, 4, .ro, 0x0, .powerOn, .any⟩,
  ⟨R.PWR_LOGSTAT.LOG_WRAPPED, 1, 4, .w1c, 0x0, .powerOn, .any⟩,
  ⟨R.PWR_LOGSTAT.CLR, 1, 4, .w1s, 0x0, .powerOn, .any⟩,
  ⟨R.PWR_LOGSTAT.FILLED, 1, 4, .ro, 0x0, .powerOn, .any⟩,
  ⟨R.PWR_LOGSTAT.NEXT, 1, 4, .ro, 0x0, .powerOn, .any⟩,
  ⟨R.WAKE_EVT.EN, 64, 8, .rw, 0x0, .powerOn, .any⟩,
  ⟨R.WAKE_EVT.EVENT, 64, 8, .rw, 0x0, .powerOn, .any⟩,
  ⟨R.WAKE_TGT.TARGET, 64, 8, .rw, 0x0, .powerOn, .any⟩,
  ⟨R.WAKE_TIMER.MS, 1, 4, .rw, 0x0, .powerOn, .any⟩,
  ⟨R.TELEM_CFG.FAULT_RESET, 1, 4, .rw, 0x0, .powerOn, .any⟩,
  ⟨R.TELEM_STAT.LOST, 1, 4, .ro, 0x0, .powerOn, .any⟩]

/-- The register table of group router (R283 and the rules beside it, spec/07_noc.md). -/
def tblRouter : List RegField := [
  ⟨R.RT_CTRL.UNFENCE, 1, 4, .w1s, 0x0, .quadrant, .any⟩,
  ⟨R.RT_CTRL.FENCE, 1, 4, .w1s, 0x0, .quadrant, .any⟩,
  ⟨R.RT_STATE.CFG_IGN, 1, 4, .w1c, 0x0, .quadrant, .any⟩,
  ⟨R.RT_STATE.FENCE_DENIED, 1, 4, .w1c, 0x0, .quadrant, .any⟩,
  ⟨R.RT_STATE.STATE, 1, 4, .ro, 0x0, .quadrant, .any⟩,
  ⟨R.RT_CFG.VCD3, 1, 4, .rw, 0x3, .quadrant, .any⟩,
  ⟨R.RT_CFG.VCD2, 1, 4, .rw, 0x3, .quadrant, .any⟩,
  ⟨R.RT_CFG.VCD1, 1, 4, .rw, 0x3, .quadrant, .any⟩,
  ⟨R.RT_CFG.VCD0, 1, 4, .rw, 0x3, .quadrant, .any⟩,
  ⟨R.RT_HOLDCNT.FENCED, 1, 4, .rc, 0x0, .quadrant, .any⟩,
  ⟨R.RT_HOLDCNT.DROP, 1, 4, .rc, 0x0, .quadrant, .any⟩,
  ⟨R.NAP_CFG.TGT_EN, 1, 4, .rw, 0x0, .quadrant, .any⟩,
  ⟨R.NAP_CFG.MST_EN, 1, 4, .rw, 0x0, .quadrant, .any⟩,
  ⟨R.NAP_CFG.TC, 1, 4, .rw, 0x3, .quadrant, (.range 2 3)⟩,
  ⟨R.NAP_CFG.TGT_OUT, 1, 4, .rw, 0xF, .quadrant, .any⟩,
  ⟨R.NAP_STAT.LATE_RSP, 1, 4, .w1c, 0x0, .quadrant, .any⟩,
  ⟨R.NAP_STAT.TAG_IN_USE, 1, 4, .w1c, 0x0, .quadrant, .any⟩]

/-- The register table of group noc (R284 and the rules beside it, spec/07_noc.md). -/
def tblNoc : List RegField := [
  ⟨R.NOC_HOLD.HOLD_LIMIT, 1, 4, .rw, 0x100, .quadrant, .any⟩,
  ⟨R.NOC_RSPTO.RSP_TIMEOUT, 1, 4, .rw, 0x7D0, .quadrant, .any⟩,
  ⟨R.NOC_ARB0.BASE, 1, 4, .rw, 0x40, .quadrant, .any⟩,
  ⟨R.NOC_ARB0.STEP, 1, 4, .rw, 0x3, .quadrant, .any⟩,
  ⟨R.NOC_ARB1.BASE, 1, 4, .rw, 0x30, .quadrant, .any⟩,
  ⟨R.NOC_ARB1.STEP, 1, 4, .rw, 0x3, .quadrant, .any⟩,
  ⟨R.NOC_ARB2.BASE, 1, 4, .rw, 0x20, .quadrant, .any⟩,
  ⟨R.NOC_ARB2.STEP, 1, 4, .rw, 0x7, .quadrant, .any⟩,
  ⟨R.NOC_ARB3.BASE, 1, 4, .rw, 0x0, .quadrant, .any⟩,
  ⟨R.NOC_ARB3.STEP, 1, 4, .rw, 0xF, .quadrant, .any⟩,
  ⟨R.NOC_ATTN0.ATTN, 1, 4, .ro, 0x0, .quadrant, .any⟩,
  ⟨R.NOC_ATTN1.ATTN, 1, 4, .ro, 0x0, .quadrant, .any⟩,
  ⟨R.NOC_LATE.COUNT, 1, 4, .rc, 0x0, .quadrant, .any⟩]

/-- The register table of group probe (R285 and the rules beside it, spec/07_noc.md). -/
def tblProbe : List RegField := [
  ⟨R.PRB_CTRL.EN, 1, 4, .rw, 0x0, .quadrant, .any⟩,
  ⟨R.PRB_CTRL.TRACE, 1, 4, .rw, 0x0, .quadrant, .any⟩,
  ⟨R.PRB_CTRL.ADDR_EN, 1, 4, .rw, 0x0, .quadrant, .any⟩,
  ⟨R.PRB_CTRL.ROUTER, 1, 4, .rw, 0x0, .quadrant, (.le 35)⟩,
  ⟨R.PRB_CTRL.PORT, 1, 4, .rw, 0x0, .quadrant, (.le 5)⟩,
  ⟨R.PRB_CTRL.TCMASK, 1, 4, .rw, 0xF, .quadrant, .any⟩,
  ⟨R.PRB_CTRL.TYPEMASK, 1, 4, .rw, 0x1F, .quadrant, .any⟩,
  ⟨R.PRB_CTRL.CLR, 1, 4, .w1s, 0x0, .quadrant, .any⟩,
  ⟨R.PRB_MATCH.SRCV, 1, 4, .rw, 0x0, .quadrant, .any⟩,
  ⟨R.PRB_MATCH.SRC_MASK, 1, 4, .rw, 0x0, .quadrant, .any⟩,
  ⟨R.PRB_MATCH.DESTV, 1, 4, .rw, 0x0, .quadrant, .any⟩,
  ⟨R.PRB_MATCH.DEST_MASK, 1, 4, .rw, 0x0, .quadrant, .any⟩,
  ⟨R.PRB_ADDR_LO.BASE, 1, 4, .rw, 0x0, .quadrant, .any⟩,
  ⟨R.PRB_ADDR_LO.SZ, 1, 4, .rw, 0x0, .quadrant, .any⟩,
  ⟨R.PRB_ADDR_HI.BASE, 1, 4, .rw, 0x0, .quadrant, .any⟩,
  ⟨R.PRB_PKT.PKT, 1, 4, .rc, 0x0, .quadrant, .any⟩,
  ⟨R.PRB_FLIT.FLIT, 1, 4, .rc, 0x0, .quadrant, .any⟩,
  ⟨R.PRB_WAIT.WAIT, 1, 4, .rc, 0x0, .quadrant, .any⟩,
  ⟨R.PRB_AGEMAX.AGEMAX, 1, 4, .rc, 0x0, .quadrant, .any⟩,
  ⟨R.PRB_TRING_LO.BASE, 1, 4, .rw, 0x0, .quadrant, .any⟩,
  ⟨R.PRB_TRING_HI.LEN, 1, 4, .rw, 0x0, .quadrant, .any⟩,
  ⟨R.PRB_TRING_HI.BASE, 1, 4, .rw, 0x0, .quadrant, .any⟩,
  ⟨R.PRB_TWR.WR, 1, 4, .ro, 0x0, .quadrant, .any⟩,
  ⟨R.PRB_TRD.RD, 1, 4, .rw, 0x0, .quadrant, .any⟩,
  ⟨R.PRB_TDROP.DROP, 1, 4, .rc, 0x0, .quadrant, .any⟩,
  ⟨R.PRB_THR.THR, 1, 4, .rw, 0x0, .quadrant, .any⟩]

/-- The register table of group mc (R320 and the rules beside it, spec/08_memory.md). -/
def tblMc : List RegField := [
  ⟨R.MC_CFG.DRAM_FILL_BEFORE_RELEASE, 1, 4, .rw, 0x1, .quadrant, .any⟩,
  ⟨R.MC_CFG.CE_WB, 1, 4, .rw, 0x1, .quadrant, .any⟩,
  ⟨R.MC_CFG.RDIMM, 1, 4, .rw, 0x1, .quadrant, .any⟩,
  ⟨R.MC_CFG.ORG, 1, 4, .rw, 0x0, .quadrant, (.le 2)⟩,
  ⟨R.MC_CFG.SPEED, 1, 4, .rw, 0x2, .quadrant, (.le 2)⟩,
  ⟨R.MC_CFG.SR_IDLE, 1, 4, .rw, 0x64, .quadrant, .any⟩,
  ⟨R.MC_CMD.ONLINE, 1, 4, .w1s, 0x0, .quadrant, .any⟩,
  ⟨R.MC_CMD.OFFLINE, 1, 4, .w1s, 0x0, .quadrant, .any⟩,
  ⟨R.MC_CMD.FILL, 1, 4, .w1s, 0x0, .quadrant, .any⟩,
  ⟨R.MC_CMD.INIT, 1, 4, .w1s, 0x0, .quadrant, .any⟩,
  ⟨R.MC_STATE.CMD_IGN, 1, 4, .w1c, 0x0, .quadrant, .any⟩,
  ⟨R.MC_STATE.TRAIN_FAIL, 1, 4, .w1c, 0x0, .quadrant, .any⟩,
  ⟨R.MC_STATE.STATE, 1, 4, .ro, 0x0, .quadrant, .any⟩,
  ⟨R.MC_SCHED.HIT_LIMIT, 1, 4, .rw, 0x8, .quadrant, .any⟩,
  ⟨R.MC_SCHED.WR_HI, 1, 4, .rw, 0x30, .quadrant, .any⟩,
  ⟨R.MC_SCHED.WR_LO, 1, 4, .rw, 0x10, .quadrant, .any⟩,
  ⟨R.MC_RDIST.RD_THRESH, 1, 4, .rw, 0x800, .quadrant, .any⟩,
  ⟨R.MC_THROTTLE.THR_TIME, 1, 4, .rw, 0x3E8, .quadrant, .any⟩,
  ⟨R.MC_THROTTLE.THR_GAP, 1, 4, .rw, 0x10, .quadrant, .any⟩,
  ⟨R.MC_RDLAST.SRC, 1, 4, .ro, 0x0, .quadrant, .any⟩,
  ⟨R.MC_RDLAST.SPORT, 1, 4, .ro, 0x0, .quadrant, .any⟩,
  ⟨R.MC_RDLAST.SCRUB, 1, 4, .ro, 0x0, .quadrant, .any⟩,
  ⟨R.MC_RDLAST.SUBCH, 1, 4, .ro, 0x0, .quadrant, .any⟩,
  ⟨R.MC_RDLAST.RANK, 1, 4, .ro, 0x0, .quadrant, .any⟩,
  ⟨R.MC_RDLAST.BANK, 1, 4, .ro, 0x0, .quadrant, .any⟩,
  ⟨R.MC_RDROW.ROW, 1, 4, .ro, 0x0, .quadrant, .any⟩,
  ⟨R.MC_RDCNT.COUNT, 1, 4, .rc, 0x0, .quadrant, .any⟩]

/-- The register table of group memmap (R321 and the rules beside it, spec/08_memory.md). -/
def tblMemmap : List RegField := [
  ⟨R.MEM_TOP.TOP, 1, 4, .rw, 0x0, .quadrant, .any⟩,
  ⟨R.IL_STAT.IL_ERR, 1, 4, .w1c, 0x0, .quadrant, .any⟩,
  ⟨R.IL_CFG.EN, 8, 16, .rw, 0x0, .quadrant, .any⟩,
  ⟨R.IL_CFG.GRAIN, 8, 16, .rw, 0x4, .quadrant, .any⟩,
  ⟨R.IL_CFG.CHMASK, 8, 16, .rw, 0x0, .quadrant, .any⟩,
  ⟨R.IL_BASE.BASE, 8, 16, .rw, 0x0, .quadrant, .any⟩,
  ⟨R.IL_SIZE.SIZE, 8, 16, .rw, 0x0, .quadrant, .any⟩,
  ⟨R.IL_CHOFF.CHOFF, 8, 16, .rw, 0x0, .quadrant, .any⟩]

/-- The register table of group ecc (R322 and the rules beside it, spec/08_memory.md). -/
def tblEcc : List RegField := [
  ⟨R.CE_CNT.COUNT, 1, 4, .rc, 0x0, .quadrant, .any⟩,
  ⟨R.UE_CNT.COUNT, 1, 4, .rc, 0x0, .quadrant, .any⟩,
  ⟨R.CE_THR.THR, 1, 4, .rw, 0x0, .quadrant, .any⟩,
  ⟨R.LOG_STAT.LOG_WRAPPED, 1, 4, .w1c, 0x0, .quadrant, .any⟩,
  ⟨R.LOG_STAT.CLR, 1, 4, .w1s, 0x0, .quadrant, .any⟩,
  ⟨R.LOG_STAT.FILLED, 1, 4, .ro, 0x0, .quadrant, .any⟩,
  ⟨R.LOG_STAT.NEXT, 1, 4, .ro, 0x0, .quadrant, .any⟩,
  ⟨R.SCRUB_CTL.EN, 1, 4, .rw, 0x0, .quadrant, .any⟩,
  ⟨R.SCRUB_CTL.RESTART, 1, 4, .w1s, 0x0, .quadrant, .any⟩,
  ⟨R.SCRUB_CTL.PERIOD, 1, 4, .rw, 0x18, .quadrant, .any⟩,
  ⟨R.SCRUB_STAT.SCRUB_HALT, 1, 4, .w1c, 0x0, .quadrant, .any⟩,
  ⟨R.SCRUB_STAT.RUNNING, 1, 4, .ro, 0x0, .quadrant, .any⟩,
  ⟨R.SCRUB_STAT.PASS_DONE, 1, 4, .w1c, 0x0, .quadrant, .any⟩,
  ⟨R.SCRUB_STAT.PASSES, 1, 4, .ro, 0x0, .quadrant, .any⟩,
  ⟨R.SCRUB_POS.LINE, 1, 4, .ro, 0x0, .quadrant, .any⟩,
  ⟨R.ECC_TEST_CTL.EN, 1, 4, .rw, 0x0, .quadrant, .any⟩,
  ⟨R.ECC_TEST_CTL.GO_RD, 1, 4, .w1s, 0x0, .quadrant, .any⟩,
  ⟨R.ECC_TEST_CTL.GO_WR, 1, 4, .w1s, 0x0, .quadrant, .any⟩,
  ⟨R.ECC_TEST_CTL.BUSY, 1, 4, .ro, 0x0, .quadrant, .any⟩,
  ⟨R.ECC_TEST_ADDR.LINE, 1, 4, .rw, 0x0, .quadrant, .any⟩,
  ⟨R.ECC_TEST_RAW.RAW, 20, 4, .rw, 0x0, .quadrant, .any⟩,
  ⟨R.LOG_W.WORD, 64, 4, .ro, 0x0, .quadrant, .any⟩]

/-- The register table of group sg (R322 and the rules beside it, spec/08_memory.md). -/
def tblSg : List RegField := [
  ⟨R.CE_CNT.COUNT, 1, 4, .rc, 0x0, .quadrant, .any⟩,
  ⟨R.UE_CNT.COUNT, 1, 4, .rc, 0x0, .quadrant, .any⟩,
  ⟨R.CE_THR.THR, 1, 4, .rw, 0x0, .quadrant, .any⟩,
  ⟨R.LOG_STAT.LOG_WRAPPED, 1, 4, .w1c, 0x0, .quadrant, .any⟩,
  ⟨R.LOG_STAT.CLR, 1, 4, .w1s, 0x0, .quadrant, .any⟩,
  ⟨R.LOG_STAT.FILLED, 1, 4, .ro, 0x0, .quadrant, .any⟩,
  ⟨R.LOG_STAT.NEXT, 1, 4, .ro, 0x0, .quadrant, .any⟩,
  ⟨R.SG_SCRUB_CTL.PERIOD, 1, 4, .rw, 0x18, .quadrant, .any⟩,
  ⟨R.SG_TEST_CTL.EN, 1, 4, .rw, 0x0, .quadrant, .any⟩,
  ⟨R.SG_TEST_CTL.RESULT, 1, 4, .ro, 0x0, .quadrant, .any⟩,
  ⟨R.SG_TEST_CTL.GO_RD, 1, 4, .w1s, 0x0, .quadrant, .any⟩,
  ⟨R.SG_TEST_CTL.GO_WR, 1, 4, .w1s, 0x0, .quadrant, .any⟩,
  ⟨R.SG_TEST_CTL.BUSY, 1, 4, .ro, 0x0, .quadrant, .any⟩,
  ⟨R.SG_TEST_TGT.KIND, 1, 4, .rw, 0x0, .quadrant, (.le 2)⟩,
  ⟨R.SG_TEST_TGT.UNIT, 1, 4, .rw, 0x0, .quadrant, .any⟩,
  ⟨R.SG_TEST_TGT.ROW, 1, 4, .rw, 0x0, .quadrant, .any⟩,
  ⟨R.SG_TEST_DATA.DATA, 1, 4, .rw, 0x0, .quadrant, .any⟩,
  ⟨R.SG_TEST_DATAH.CHECK, 1, 4, .rw, 0x0, .quadrant, .any⟩,
  ⟨R.SG_TEST_DATAH.DATA, 1, 4, .rw, 0x0, .quadrant, .any⟩,
  ⟨R.LOG_W.WORD, 64, 4, .ro, 0x0, .quadrant, .any⟩]

/-- The register table of group maint (R323 and the rules beside it, spec/08_memory.md). -/
def tblMaint : List RegField := [
  ⟨R.ECC_MAINT.SG_LOG_WRAPPED, 1, 4, .ro, 0x0, .quadrant, .any⟩,
  ⟨R.ECC_MAINT.LOG_WRAPPED0, 1, 4, .ro, 0x0, .quadrant, .any⟩,
  ⟨R.ECC_MAINT.SCRUB_HALT0, 1, 4, .ro, 0x0, .quadrant, .any⟩,
  ⟨R.ECC_MAINT.PASS_DONE0, 1, 4, .ro, 0x0, .quadrant, .any⟩,
  ⟨R.ECC_MAINT.FILL_DONE0, 1, 4, .w1c, 0x0, .quadrant, .any⟩,
  ⟨R.ECC_MAINT.TRAIN_FAIL0, 1, 4, .ro, 0x0, .quadrant, .any⟩,
  ⟨R.ECC_MAINT.LOG_WRAPPED1, 1, 4, .ro, 0x0, .quadrant, .any⟩,
  ⟨R.ECC_MAINT.SCRUB_HALT1, 1, 4, .ro, 0x0, .quadrant, .any⟩,
  ⟨R.ECC_MAINT.PASS_DONE1, 1, 4, .ro, 0x0, .quadrant, .any⟩,
  ⟨R.ECC_MAINT.FILL_DONE1, 1, 4, .w1c, 0x0, .quadrant, .any⟩,
  ⟨R.ECC_MAINT.TRAIN_FAIL1, 1, 4, .ro, 0x0, .quadrant, .any⟩]

/-- The register table of group pam (R347 and the rules beside it, spec/09_lanes.md). -/
def tblPam : List RegField := [
  ⟨R.LN_CFG.MODE, 1, 4, .rw, 0x0, .quadrant, .any⟩,
  ⟨R.LN_CFG.RATE, 1, 4, .rw, 0x0, .quadrant, .any⟩,
  ⟨R.LN_CFG.LOOP, 1, 4, .rw, 0x0, .quadrant, .any⟩,
  ⟨R.LN_CFG.PRECODE, 1, 4, .rw, 0x0, .quadrant, .any⟩,
  ⟨R.LN_CFG.TXQUIET, 1, 4, .rw, 0x0, .quadrant, .any⟩,
  ⟨R.LN_CFG.PRBS, 1, 4, .rw, 0x2, .quadrant, (.le 2)⟩,
  ⟨R.LN_CFG.TX_INV, 1, 4, .rw, 0x0, .quadrant, .any⟩,
  ⟨R.LN_CFG.RX_INV, 1, 4, .rw, 0x0, .quadrant, .any⟩,
  ⟨R.LN_CFG.TXEQ, 1, 4, .rw, 0x0, .quadrant, .any⟩,
  ⟨R.LN_CTRL.TX_SLEEP, 1, 4, .rw, 0x1, .quadrant, .any⟩,
  ⟨R.LN_CTRL.RX_SLEEP, 1, 4, .rw, 0x1, .quadrant, .any⟩,
  ⟨R.LN_STAT.REF_OK, 1, 4, .ro, 0x0, .quadrant, .any⟩,
  ⟨R.LN_STAT.TX_ON, 1, 4, .ro, 0x0, .quadrant, .any⟩,
  ⟨R.LN_STAT.RX_ON, 1, 4, .ro, 0x0, .quadrant, .any⟩,
  ⟨R.LN_STAT.CDR_LOCK, 1, 4, .ro, 0x0, .quadrant, .any⟩,
  ⟨R.LN_STAT.BLOCK_LOCK, 1, 4, .ro, 0x0, .quadrant, .any⟩,
  ⟨R.LN_STAT.CHK_LOCK, 1, 4, .ro, 0x0, .quadrant, .any⟩,
  ⟨R.LN_STAT.LOCK_LOST, 1, 4, .w1c, 0x0, .quadrant, .any⟩,
  ⟨R.LN_STAT.SLIPS, 1, 4, .rc, 0x0, .quadrant, .any⟩,
  ⟨R.LN_BADSH.COUNT, 1, 4, .rc, 0x0, .quadrant, .any⟩,
  ⟨R.LN_PRBSERR.COUNT, 1, 4, .rc, 0x0, .quadrant, .any⟩]

/-- The register table of group nrz (R347 and the rules beside it, spec/09_lanes.md). -/
def tblNrz : List RegField := [
  ⟨R.LN_CFG.MODE, 1, 4, .rw, 0x0, .quadrant, .any⟩,
  ⟨R.LN_CFG.RATE, 1, 4, .rw, 0x0, .quadrant, .any⟩,
  ⟨R.LN_CFG.LOOP, 1, 4, .rw, 0x0, .quadrant, .any⟩,
  ⟨R.LN_CFG.TXQUIET, 1, 4, .rw, 0x0, .quadrant, .any⟩,
  ⟨R.LN_CFG.PRBS, 1, 4, .rw, 0x2, .quadrant, (.le 2)⟩,
  ⟨R.LN_CFG.TX_INV, 1, 4, .rw, 0x0, .quadrant, .any⟩,
  ⟨R.LN_CFG.RX_INV, 1, 4, .rw, 0x0, .quadrant, .any⟩,
  ⟨R.LN_CFG.TXEQ, 1, 4, .rw, 0x0, .quadrant, .any⟩,
  ⟨R.LN_CTRL.TX_SLEEP, 1, 4, .rw, 0x1, .quadrant, .any⟩,
  ⟨R.LN_CTRL.RX_SLEEP, 1, 4, .rw, 0x1, .quadrant, .any⟩,
  ⟨R.LN_STAT.REF_OK, 1, 4, .ro, 0x0, .quadrant, .any⟩,
  ⟨R.LN_STAT.TX_ON, 1, 4, .ro, 0x0, .quadrant, .any⟩,
  ⟨R.LN_STAT.RX_ON, 1, 4, .ro, 0x0, .quadrant, .any⟩,
  ⟨R.LN_STAT.CDR_LOCK, 1, 4, .ro, 0x0, .quadrant, .any⟩,
  ⟨R.LN_STAT.BLOCK_LOCK, 1, 4, .ro, 0x0, .quadrant, .any⟩,
  ⟨R.LN_STAT.CHK_LOCK, 1, 4, .ro, 0x0, .quadrant, .any⟩,
  ⟨R.LN_STAT.LOCK_LOST, 1, 4, .w1c, 0x0, .quadrant, .any⟩,
  ⟨R.LN_STAT.SLIPS, 1, 4, .rc, 0x0, .quadrant, .any⟩,
  ⟨R.LN_BADSH.COUNT, 1, 4, .rc, 0x0, .quadrant, .any⟩,
  ⟨R.LN_PRBSERR.COUNT, 1, 4, .rc, 0x0, .quadrant, .any⟩,
  ⟨R.LN_RAWCNT.TX_UNDER, 1, 4, .rc, 0x0, .quadrant, .any⟩,
  ⟨R.LN_RAWCNT.RX_OVF, 1, 4, .rc, 0x0, .quadrant, .any⟩]

/-- The register table of group lnattn (R347 and the rules beside it, spec/09_lanes.md). -/
def tblLnattn : List RegField := [
  ⟨R.LN_ATTN.ATTN, 1, 4, .ro, 0x0, .quadrant, .any⟩]

/-- The register table of group mac (R349 and the rules beside it, spec/09_lanes.md). -/
def tblMac : List RegField := [
  ⟨R.MAC_CFG.EN, 1, 4, .rw, 0x0, .quadrant, .any⟩,
  ⟨R.MAC_CFG.PROMISC, 1, 4, .rw, 0x0, .quadrant, .any⟩,
  ⟨R.MAC_CFG.MCAST, 1, 4, .rw, 0x0, .quadrant, .any⟩,
  ⟨R.MAC_CFG.KEEPBAD, 1, 4, .rw, 0x0, .quadrant, .any⟩,
  ⟨R.MAC_CFG.FEC, 1, 4, .rw, 0x0, .quadrant, (.le 2)⟩,
  ⟨R.MAC_CFG.PORT, 1, 4, .rw, 0x0, .quadrant, (.le 8)⟩,
  ⟨R.MAC_CFG.MAXLEN, 1, 4, .rw, 0x5EE, .quadrant, .any⟩,
  ⟨R.MAC_ADDR_LO.ADDR, 1, 4, .rw, 0x0, .quadrant, .any⟩,
  ⟨R.MAC_ADDR_HI.ADDR, 1, 4, .rw, 0x0, .quadrant, .any⟩,
  ⟨R.MAC_PAUSE.QUANTA, 1, 4, .rw, 0xFFFF, .quadrant, .any⟩,
  ⟨R.MAC_PAUSE.RX_PAUSE_EN, 1, 4, .rw, 0x1, .quadrant, .any⟩,
  ⟨R.MAC_PAUSE.SEND, 1, 4, .w1s, 0x0, .quadrant, .any⟩,
  ⟨R.MAC_STAT.LINK, 1, 4, .ro, 0x0, .quadrant, .any⟩,
  ⟨R.MAC_STAT.LINK_CHG, 1, 4, .w1c, 0x0, .quadrant, .any⟩,
  ⟨R.MAC_STAT.LANES_NOT_READY, 1, 4, .ro, 0x0, .quadrant, .any⟩,
  ⟨R.MAC_STAT.LOCAL_FAULT, 1, 4, .ro, 0x0, .quadrant, .any⟩,
  ⟨R.MAC_STAT.REMOTE_FAULT, 1, 4, .ro, 0x0, .quadrant, .any⟩,
  ⟨R.MAC_STAT.HI_BER, 1, 4, .ro, 0x0, .quadrant, .any⟩,
  ⟨R.MAC_RXERR.CRC, 1, 4, .rc, 0x0, .quadrant, .any⟩,
  ⟨R.MAC_RXERR.OVERSIZE, 1, 4, .rc, 0x0, .quadrant, .any⟩,
  ⟨R.MAC_TXFRM.COUNT, 1, 4, .rc, 0x0, .quadrant, .any⟩,
  ⟨R.MAC_RXFRM.COUNT, 1, 4, .rc, 0x0, .quadrant, .any⟩,
  ⟨R.MAC_FECCORR.COUNT, 1, 4, .rc, 0x0, .quadrant, .any⟩,
  ⟨R.MAC_FECUNC.COUNT, 1, 4, .rc, 0x0, .quadrant, .any⟩,
  ⟨R.MAC_TXDROP.RX_DROP, 1, 4, .rc, 0x0, .quadrant, .any⟩,
  ⟨R.MAC_TXDROP.LINK_DOWN, 1, 4, .rc, 0x0, .quadrant, .any⟩,
  ⟨R.TX_BASE.BASE, 1, 4, .rw, 0x0, .quadrant, .any⟩,
  ⟨R.TX_CFG.EN, 1, 4, .rw, 0x0, .quadrant, .any⟩,
  ⟨R.TX_CFG.RING_ERR, 1, 4, .w1c, 0x0, .quadrant, .any⟩,
  ⟨R.TX_CFG.OVERRUN, 1, 4, .w1c, 0x0, .quadrant, .any⟩,
  ⟨R.TX_CFG.LEN, 1, 4, .rw, 0x0, .quadrant, .any⟩,
  ⟨R.TX_CFG.BASE, 1, 4, .rw, 0x0, .quadrant, .any⟩,
  ⟨R.TX_WR.WR, 1, 4, .rw, 0x0, .quadrant, .any⟩,
  ⟨R.TX_RD.RD, 1, 4, .ro, 0x0, .quadrant, .any⟩,
  ⟨R.TX_DROP.COUNT, 1, 4, .rc, 0x0, .quadrant, .any⟩,
  ⟨R.RX_BASE.BASE, 1, 4, .rw, 0x0, .quadrant, .any⟩,
  ⟨R.RX_CFG.EN, 1, 4, .rw, 0x0, .quadrant, .any⟩,
  ⟨R.RX_CFG.RING_ERR, 1, 4, .w1c, 0x0, .quadrant, .any⟩,
  ⟨R.RX_CFG.OVERRUN, 1, 4, .w1c, 0x0, .quadrant, .any⟩,
  ⟨R.RX_CFG.SLOT, 1, 4, .rw, 0x0, .quadrant, .any⟩,
  ⟨R.RX_CFG.LEN, 1, 4, .rw, 0x0, .quadrant, .any⟩,
  ⟨R.RX_CFG.BASE, 1, 4, .rw, 0x0, .quadrant, .any⟩,
  ⟨R.RX_WR.WR, 1, 4, .ro, 0x0, .quadrant, .any⟩,
  ⟨R.RX_RD.RD, 1, 4, .rw, 0x0, .quadrant, .any⟩,
  ⟨R.RX_DROP.COUNT, 1, 4, .rc, 0x0, .quadrant, .any⟩]

/-- The register table of group can (R350 and the rules beside it, spec/09_lanes.md). -/
def tblCan : List RegField := [
  ⟨R.CAN_CFG.EN, 1, 4, .rw, 0x0, .quadrant, .any⟩,
  ⟨R.CAN_CFG.MODE, 1, 4, .rw, 0x0, .quadrant, (.le 2)⟩,
  ⟨R.CAN_CFG.FD_EN, 1, 4, .rw, 0x1, .quadrant, .any⟩,
  ⟨R.CAN_CFG.AUTO_REC, 1, 4, .rw, 0x0, .quadrant, .any⟩,
  ⟨R.CAN_NBT.NBRP, 1, 4, .rw, 0x0, .quadrant, .any⟩,
  ⟨R.CAN_NBT.NTSEG1, 1, 4, .rw, 0x7E, .quadrant, .any⟩,
  ⟨R.CAN_NBT.NTSEG2, 1, 4, .rw, 0x1F, .quadrant, .any⟩,
  ⟨R.CAN_NBT.NSJW, 1, 4, .rw, 0x1F, .quadrant, .any⟩,
  ⟨R.CAN_DBT.DBRP, 1, 4, .rw, 0x0, .quadrant, .any⟩,
  ⟨R.CAN_DBT.DTSEG1, 1, 4, .rw, 0x1C, .quadrant, .any⟩,
  ⟨R.CAN_DBT.DTSEG2, 1, 4, .rw, 0x9, .quadrant, .any⟩,
  ⟨R.CAN_DBT.DSJW, 1, 4, .rw, 0x9, .quadrant, .any⟩,
  ⟨R.CAN_TDC.TDC_EN, 1, 4, .rw, 0x1, .quadrant, .any⟩,
  ⟨R.CAN_TDC.TDCO, 1, 4, .rw, 0x1E, .quadrant, .any⟩,
  ⟨R.CAN_STAT.STATE, 1, 4, .ro, 0x0, .quadrant, .any⟩,
  ⟨R.CAN_STAT.STATE_CHG, 1, 4, .w1c, 0x0, .quadrant, .any⟩,
  ⟨R.CAN_STAT.REC, 1, 4, .ro, 0x0, .quadrant, .any⟩,
  ⟨R.CAN_STAT.TEC, 1, 4, .ro, 0x0, .quadrant, .any⟩,
  ⟨R.CAN_CMD.RESTART, 1, 4, .w1s, 0x0, .quadrant, .any⟩,
  ⟨R.CAN_ERRCNT.PROTO, 1, 4, .rc, 0x0, .quadrant, .any⟩,
  ⟨R.CAN_ERRCNT.ARB_LOST, 1, 4, .rc, 0x0, .quadrant, .any⟩,
  ⟨R.TX_BASE.BASE, 1, 4, .rw, 0x0, .quadrant, .any⟩,
  ⟨R.TX_CFG.EN, 1, 4, .rw, 0x0, .quadrant, .any⟩,
  ⟨R.TX_CFG.RING_ERR, 1, 4, .w1c, 0x0, .quadrant, .any⟩,
  ⟨R.TX_CFG.OVERRUN, 1, 4, .w1c, 0x0, .quadrant, .any⟩,
  ⟨R.TX_CFG.LEN, 1, 4, .rw, 0x0, .quadrant, .any⟩,
  ⟨R.TX_CFG.BASE, 1, 4, .rw, 0x0, .quadrant, .any⟩,
  ⟨R.TX_WR.WR, 1, 4, .rw, 0x0, .quadrant, .any⟩,
  ⟨R.TX_RD.RD, 1, 4, .ro, 0x0, .quadrant, .any⟩,
  ⟨R.TX_DROP.COUNT, 1, 4, .rc, 0x0, .quadrant, .any⟩,
  ⟨R.RX_BASE.BASE, 1, 4, .rw, 0x0, .quadrant, .any⟩,
  ⟨R.RX_CFG.EN, 1, 4, .rw, 0x0, .quadrant, .any⟩,
  ⟨R.RX_CFG.RING_ERR, 1, 4, .w1c, 0x0, .quadrant, .any⟩,
  ⟨R.RX_CFG.OVERRUN, 1, 4, .w1c, 0x0, .quadrant, .any⟩,
  ⟨R.RX_CFG.LEN, 1, 4, .rw, 0x0, .quadrant, .any⟩,
  ⟨R.RX_CFG.BASE, 1, 4, .rw, 0x0, .quadrant, .any⟩,
  ⟨R.RX_WR.WR, 1, 4, .ro, 0x0, .quadrant, .any⟩,
  ⟨R.RX_RD.RD, 1, 4, .rw, 0x0, .quadrant, .any⟩,
  ⟨R.RX_DROP.COUNT, 1, 4, .rc, 0x0, .quadrant, .any⟩,
  ⟨R.CAN_FID.EN, 16, 8, .rw, 0x0, .quadrant, .any⟩,
  ⟨R.CAN_FID.FIDE, 16, 8, .rw, 0x0, .quadrant, .any⟩,
  ⟨R.CAN_FID.FID, 16, 8, .rw, 0x0, .quadrant, .any⟩,
  ⟨R.CAN_FMASK.MASK, 16, 8, .rw, 0x0, .quadrant, .any⟩]

/-- The register table of group time (R375 and the rules beside it, spec/10_time.md). -/
def tblTime : List RegField := [
  ⟨R.TU_CTRL.ACT, 1, 4, .rw, 0x0, .powerOn, .any⟩,
  ⟨R.TU_SWCFG.SW_STEP_MAX, 1, 4, .rw, 0x3E8, .powerOn, .any⟩,
  ⟨R.TU_SWCFG.SW_SLEW, 1, 4, .rw, 0x100, .powerOn, .any⟩,
  ⟨R.TU_STAT.SWITCHING, 1, 4, .ro, 0x0, .powerOn, .any⟩,
  ⟨R.TU_STAT.STEPPED, 1, 4, .w1c, 0x0, .powerOn, .any⟩,
  ⟨R.TU_STAT.TD_LOST, 1, 4, .w1c, 0x0, .powerOn, .any⟩,
  ⟨R.TU_STAT.TD_LOCK, 1, 4, .ro, 0x1, .powerOn, .any⟩,
  ⟨R.TU_RATE_NOW.RATE, 1, 4, .ro, 0x0, .powerOn, .any⟩,
  ⟨R.TU_OFS_NOW.OFS, 3, 4, .ro, 0x0, .powerOn, .any⟩]

/-- The register table of group dom (R376 and the rules beside it, spec/10_time.md). -/
def tblDom : List RegField := [
  ⟨R.DOM_CFG.SVO_EN, 1, 4, .rw, 0x0, .powerOn, .any⟩,
  ⟨R.DOM_CFG.SRC, 1, 4, .rw, 0x2, .powerOn, (.le 2)⟩,
  ⟨R.DOM_CFG.KP, 1, 4, .rw, 0x1, .powerOn, .any⟩,
  ⟨R.DOM_CFG.KI, 1, 4, .rw, 0x4, .powerOn, .any⟩,
  ⟨R.DOM_CFG.DOMAIN, 1, 4, .rw, 0x0, .powerOn, .any⟩,
  ⟨R.DOM_CFG.PORT, 1, 4, .rw, 0x0, .powerOn, .any⟩,
  ⟨R.DOM_CFG.DELAY, 1, 4, .rw, 0x0, .powerOn, .any⟩,
  ⟨R.DOM_CFG.XPORT, 1, 4, .rw, 0x0, .powerOn, .any⟩,
  ⟨R.DOM_CFG.TWOSTEP, 1, 4, .rw, 0x0, .powerOn, .any⟩,
  ⟨R.DOM_CFG.PTP_EN, 1, 4, .rw, 0x0, .powerOn, .any⟩,
  ⟨R.DOM_OFS.OFS, 3, 4, .rw, 0x0, .powerOn, .any⟩,
  ⟨R.DOM_RATE.RATE, 1, 4, .rw, 0x0, .powerOn, .any⟩,
  ⟨R.DOM_ADJ_LO.ADJ, 1, 4, .wo, 0x0, .powerOn, .any⟩,
  ⟨R.DOM_ADJ_HI.ADJ, 1, 4, .wo, 0x0, .powerOn, .any⟩,
  ⟨R.DOM_SMP_LO.THETA, 1, 4, .wo, 0x0, .powerOn, .any⟩,
  ⟨R.DOM_SMP_HI.THETA, 1, 4, .wo, 0x0, .powerOn, .any⟩,
  ⟨R.DOM_LAST_LO.THETA, 1, 4, .ro, 0x0, .powerOn, .any⟩,
  ⟨R.DOM_LAST_HI.THETA, 1, 4, .ro, 0x0, .powerOn, .any⟩,
  ⟨R.DOM_SVO.STEP_THR, 1, 4, .rw, 0x64, .powerOn, .any⟩,
  ⟨R.DOM_SVO.RATE_MAX, 1, 4, .rw, 0xD1B, .powerOn, .any⟩,
  ⟨R.DOM_STAT.LOCKED, 1, 4, .ro, 0x0, .powerOn, .any⟩,
  ⟨R.DOM_STAT.VALID, 1, 4, .ro, 0x0, .powerOn, .any⟩,
  ⟨R.DOM_STAT.STEPPED, 1, 4, .w1c, 0x0, .powerOn, .any⟩,
  ⟨R.DOM_STAT.CLAMP, 1, 4, .w1c, 0x0, .powerOn, .any⟩,
  ⟨R.DOM_STAT.SAMPLES, 1, 4, .rc, 0x0, .powerOn, .any⟩,
  ⟨R.DOM_INT.I, 1, 4, .ro, 0x0, .powerOn, .any⟩]

/-- The register table of group frame (R377 and the rules beside it, spec/10_time.md). -/
def tblFrame : List RegField := [
  ⟨R.FR_CTRL.EN, 1, 4, .rw, 0x0, .powerOn, .any⟩,
  ⟨R.FR_START_NS.NS, 1, 4, .rw, 0x0, .powerOn, .any⟩,
  ⟨R.FR_START_SECL.SEC, 1, 4, .rw, 0x0, .powerOn, .any⟩,
  ⟨R.FR_START_SECH.SEC, 1, 4, .rw, 0x0, .powerOn, .any⟩,
  ⟨R.FR_PERIOD.PERIOD, 1, 4, .rw, 0xF4240, .powerOn, .any⟩,
  ⟨R.FR_FIRST.FIRST, 1, 4, .rw, 0x0, .powerOn, .any⟩,
  ⟨R.FR_NO.NO, 1, 4, .ro, 0x0, .powerOn, .any⟩,
  ⟨R.FR_NEXT_NS.NEXT, 1, 4, .ro, 0x0, .powerOn, .any⟩,
  ⟨R.FR_NEXT_SECL.NEXT, 1, 4, .ro, 0x0, .powerOn, .any⟩,
  ⟨R.FR_SKIP.COUNT, 1, 4, .rc, 0x0, .powerOn, .any⟩,
  ⟨R.TC_CFG.EN, 1, 4, .rw, 0x0, .powerOn, .any⟩,
  ⟨R.TC_CFG.MASK, 1, 4, .rw, 0x0, .powerOn, .any⟩,
  ⟨R.TC_CNT.COUNT, 1, 4, .rc, 0x0, .powerOn, .any⟩]

/-- The register table of group dbgeng (R508 and the rules beside it, spec/14_debug.md). -/
def tblDbgeng : List RegField := [
  ⟨R.DBG_ENG_CTRL.XT_OUT, 1, 4, .rw, 0x0, .quadrant, .any⟩,
  ⟨R.DBG_ENG_CTRL.XT_IN, 1, 4, .rw, 0x0, .quadrant, .any⟩,
  ⟨R.DBG_ENG_CTRL.TRC_SWITCH, 1, 4, .rw, 0x0, .quadrant, .any⟩,
  ⟨R.DBG_ENG_CTRL.TRC_STATE, 1, 4, .rw, 0x0, .quadrant, .any⟩,
  ⟨R.DBG_ENG_CTRL.BRK_EN, 1, 4, .rw, 0x0, .quadrant, .any⟩,
  ⟨R.DBG_ENG_CTRL.HOLD_RST, 1, 4, .rw, 0x0, .quadrant, .any⟩,
  ⟨R.DBG_ENG_CTRL.STEP, 1, 4, .w1s, 0x0, .quadrant, .any⟩,
  ⟨R.DBG_ENG_CTRL.RELEASE, 1, 4, .w1s, 0x0, .quadrant, .any⟩,
  ⟨R.DBG_ENG_CTRL.HALT, 1, 4, .w1s, 0x0, .quadrant, .any⟩,
  ⟨R.DBG_ENG_STAT.HALTED, 1, 4, .ro, 0x0, .quadrant, .any⟩,
  ⟨R.DBG_ENG_STAT.DEFER_EXPIRED, 1, 4, .w1c, 0x0, .quadrant, .any⟩,
  ⟨R.DBG_ENG_STAT.CMD_IGN, 1, 4, .w1c, 0x0, .quadrant, .any⟩,
  ⟨R.DBG_ENG_STAT.REASON, 1, 4, .ro, 0x0, .quadrant, .any⟩,
  ⟨R.DBG_ENG_STAT.CTX, 1, 4, .ro, 0x0, .quadrant, .any⟩,
  ⟨R.DBG_CTXSEL.CTX, 1, 4, .rw, 0x0, .quadrant, .any⟩,
  ⟨R.DBG_CTXSEL.REG, 1, 4, .rw, 0x0, .quadrant, .any⟩,
  ⟨R.DBG_CTXDATA.DATA, 1, 4, .rw, 0x0, .quadrant, .any⟩,
  ⟨R.STIM_EN.EN, 8, 4, .rw, 0x0, .quadrant, .any⟩,
  ⟨R.STIM_DROP.COUNT, 1, 4, .rc, 0x0, .quadrant, .any⟩]

/-- The register table of group dbg (R509 and the rules beside it, spec/14_debug.md). -/
def tblDbg : List RegField := [
  ⟨R.DBG_LEVEL.OPEN, 1, 4, .ro, 0x0, .powerOn, .any⟩,
  ⟨R.DBG_LEVEL.CEIL, 1, 4, .ro, 0x0, .powerOn, .any⟩,
  ⟨R.DBG_LEVEL.LEVEL, 1, 4, .ro, 0x0, .device, .any⟩,
  ⟨R.DBG_STAT.LOCKOUT, 1, 4, .ro, 0x0, .powerOn, .any⟩,
  ⟨R.DBG_STAT.UBUSY, 1, 4, .ro, 0x0, .device, .any⟩,
  ⟨R.DBG_STAT.FAILS, 1, 4, .ro, 0x0, .powerOn, .any⟩,
  ⟨R.DBG_STAT.LEVEL_DENIED, 1, 4, .w1c, 0x0, .device, .any⟩,
  ⟨R.DBG_STAT.DEBUG_PEEK_DENIED, 1, 4, .w1c, 0x0, .device, .any⟩,
  ⟨R.DBG_STAT.UNLOCK_FAIL, 1, 4, .w1c, 0x0, .device, .any⟩,
  ⟨R.DBG_CHAL.CHAL, 8, 4, .ro, 0x0, .device, .any⟩,
  ⟨R.DBG_UNLOCK.LEVEL, 1, 4, .wo, 0x0, .device, .any⟩,
  ⟨R.DBG_PUB.BYTES, 24, 4, .wo, 0x0, .device, .any⟩,
  ⟨R.DBG_SIG.BYTES, 24, 4, .wo, 0x0, .device, .any⟩,
  ⟨R.DBM_ADDR_LO.PA, 2, 128, .rw, 0x0, .device, .any⟩,
  ⟨R.DBM_ADDR_HI.PA, 2, 128, .rw, 0x0, .device, .any⟩,
  ⟨R.DBM_CTRL.GO, 2, 128, .w1s, 0x0, .device, .any⟩,
  ⟨R.DBM_CTRL.WR, 2, 128, .rw, 0x0, .device, .any⟩,
  ⟨R.DBM_CTRL.DBGATTR, 2, 128, .rw, 0x1, .device, .any⟩,
  ⟨R.DBM_CTRL.SIZE, 2, 128, .rw, 0x2, .device, (.le 6)⟩,
  ⟨R.DBM_STAT.BUSY, 2, 128, .ro, 0x0, .device, .any⟩,
  ⟨R.DBM_STAT.STATUS, 2, 128, .ro, 0x0, .device, .any⟩,
  ⟨R.DBM_STAT.LEVEL_DENIED, 2, 128, .w1c, 0x0, .device, .any⟩,
  ⟨R.DBM_DATA0.DATA, 16, 4, .rw, 0x0, .device, .any⟩,
  ⟨R.DBM_DATA1.DATA, 16, 4, .rw, 0x0, .device, .any⟩]

/-- The register table of group trc (R510 and the rules beside it, spec/14_debug.md). -/
def tblTrc : List RegField := [
  ⟨R.TRC_CFG.EN, 1, 4, .rw, 0x0, .quadrant, .any⟩,
  ⟨R.TRC_CFG.RING, 1, 4, .rw, 0x0, .quadrant, .any⟩,
  ⟨R.TRC_CFG.LEN, 1, 4, .rw, 0x0, .quadrant, .any⟩,
  ⟨R.TRC_CFG.BASE, 1, 4, .rw, 0x0, .quadrant, .any⟩,
  ⟨R.TRC_BASE_LO.BASE, 1, 4, .rw, 0x0, .quadrant, .any⟩,
  ⟨R.TRC_WR.WR, 1, 4, .ro, 0x0, .quadrant, .any⟩,
  ⟨R.TRC_RD.RD, 1, 4, .rw, 0x0, .quadrant, .any⟩,
  ⟨R.TRC_DROP.COUNT, 1, 4, .rc, 0x0, .quadrant, .any⟩,
  ⟨R.TRC_POP.WORD0, 1, 4, .nopeek, 0x0, .quadrant, .any⟩,
  ⟨R.TRC_HOLD.WORD, 3, 4, .ro, 0x0, .quadrant, .any⟩,
  ⟨R.TRC_FILL.COUNT, 1, 4, .ro, 0x0, .quadrant, .any⟩]

/-- The register table of group xt (R509 and the rules beside it, spec/14_debug.md). -/
def tblXt : List RegField := [
  ⟨R.DEV_WDOG.TIMEOUT, 1, 4, .ro, 0x7D0, .powerOn, .any⟩,
  ⟨R.DEV_WDOG.REMAIN, 1, 4, .ro, 0x7D0, .powerOn, .any⟩,
  ⟨R.XT_CFG.EN, 8, 8, .rw, 0x0, .device, .any⟩,
  ⟨R.XT_CFG.CAPTURE, 8, 8, .rw, 0x0, .device, .any⟩,
  ⟨R.XT_CFG.STOP, 8, 8, .rw, 0x0, .device, .any⟩,
  ⟨R.XT_CFG.EVT_EN, 8, 8, .rw, 0x0, .device, .any⟩,
  ⟨R.XT_CFG.GMASK, 8, 8, .rw, 0x0, .device, .any⟩,
  ⟨R.XT_CFG.EVENT, 8, 8, .rw, 0x0, .device, .any⟩,
  ⟨R.XT_CMD.RELEASE, 8, 8, .w1s, 0x0, .device, .any⟩,
  ⟨R.XT_CMD.PULSE, 8, 8, .w1s, 0x0, .device, .any⟩]

/-- The register table of group cfg (R447 and the rules beside it, spec/12_configuration.md). -/
def tblCfg : List RegField := [
  ⟨R.CFG_CTRL.RELEASE_NOW, 1, 4, .w1s, 0x0, .device, .any⟩,
  ⟨R.CFG_CTRL.ABORT, 1, 4, .w1s, 0x0, .device, .any⟩,
  ⟨R.CFG_CTRL.FINISH, 1, 4, .w1s, 0x0, .device, .any⟩,
  ⟨R.CFG_CTRL.START_PUSH, 1, 4, .w1s, 0x0, .device, .any⟩,
  ⟨R.CFG_CTRL.START_PULL, 1, 4, .w1s, 0x0, .device, .any⟩,
  ⟨R.CFG_SRC_LO.ADDR, 1, 4, .rw, 0x0, .device, .any⟩,
  ⟨R.CFG_SRC_HI.ADDR, 1, 4, .rw, 0x0, .device, .any⟩,
  ⟨R.CFG_DATA.DATA, 1, 4, .wo, 0x0, .device, .any⟩,
  ⟨R.CFG_STAT.STATE, 1, 4, .ro, 0x0, .device, .any⟩,
  ⟨R.CFG_STAT.ERR, 1, 4, .ro, 0x0, .device, .any⟩,
  ⟨R.CFG_STAT.SECURE, 1, 4, .ro, 0x0, .device, .any⟩,
  ⟨R.CFG_STAT.WINDOW_MISSED, 1, 4, .w1c, 0x0, .device, .any⟩,
  ⟨R.CFG_STAT.MEM_FAIL, 1, 4, .w1c, 0x0, .device, .any⟩,
  ⟨R.CFG_STAT.CMD_IGN, 1, 4, .w1c, 0x0, .device, .any⟩,
  ⟨R.CFG_STAT.DONE_IN, 1, 4, .ro, 0x0, .device, .any⟩,
  ⟨R.CFG_STAT.ERR_IN, 1, 4, .ro, 0x0, .device, .any⟩,
  ⟨R.CFG_STAT.LOCK, 1, 4, .ro, 0x0, .device, .any⟩,
  ⟨R.CFG_PROG.BYTES, 1, 4, .ro, 0x0, .device, .any⟩,
  ⟨R.CFG_ERRPOS.OFFSET, 1, 4, .ro, 0x0, .device, .any⟩,
  ⟨R.CFG_IMAGE.IMAGE_ID, 1, 4, .ro, 0x0, .device, .any⟩,
  ⟨R.CFG_REL.COMPAT, 1, 4, .rwl, 0x0, .device, .any⟩,
  ⟨R.CFG_REL.GAP12, 1, 4, .rwl, 0xA, .device, .any⟩,
  ⟨R.CFG_REL.GAP23, 1, 4, .rwl, 0xA, .device, .any⟩,
  ⟨R.CFG_FUSE.AOSRC, 1, 4, .ro, 0x0, .powerOn, .any⟩,
  ⟨R.CFG_FUSE.KEY_HASH_SET, 1, 4, .ro, 0x0, .powerOn, .any⟩,
  ⟨R.CFG_FUSE.KF_SET, 1, 4, .ro, 0x0, .powerOn, .any⟩,
  ⟨R.CFG_FUSE.HOLDPULL, 1, 4, .ro, 0x0, .powerOn, .any⟩]

/-- The register table of group pf (R448 and the rules beside it, spec/12_configuration.md). -/
def tblPf : List RegField := [
  ⟨R.PF_INFO.PRESENT, 1, 4, .ro, 0x0, .device, .any⟩,
  ⟨R.PF_INFO.VEC_BASE, 1, 4, .ro, 0x0, .device, .any⟩,
  ⟨R.PF_INFO.VEC_CNT, 1, 4, .ro, 0x0, .device, .any⟩,
  ⟨R.BAR_CFG.EN, 3, 16, .rw, 0x0, .device, .any⟩,
  ⟨R.BAR_CFG.PREF, 3, 16, .ro, 0x0, .device, .any⟩,
  ⟨R.BAR_CFG.SIZE, 3, 16, .ro, 0x0, .device, .any⟩,
  ⟨R.BAR_CFG.TCTX, 3, 16, .rw, 0x0, .device, .any⟩,
  ⟨R.BAR_VB_LO.VBASE, 3, 16, .rw, 0x0, .device, .any⟩,
  ⟨R.BAR_VB_HI.VBASE, 3, 16, .rw, 0x0, .device, .any⟩]

/-- The register table of group snap (R447 and the rules beside it, spec/12_configuration.md). -/
def tblSnap : List RegField := [
  ⟨R.SNAP_SEQ.SEQ, 1, 4, .ro, 0x0, .quadrant, .any⟩,
  ⟨R.SNAP_CAP.CAPTURED, 3, 4, .ro, 0x0, .quadrant, .any⟩]

/-- The register table of group mbx (R449 and the rules beside it, spec/12_configuration.md). -/
def tblMbx : List RegField := [
  ⟨R.MB_A_TX.WORD, 1, 4, .wo, 0x0, .quadrant, .any⟩,
  ⟨R.MB_A_RX.WORD, 1, 4, .pop, 0x0, .quadrant, .any⟩,
  ⟨R.MB_B_TX.WORD, 1, 4, .wo, 0x0, .quadrant, .any⟩,
  ⟨R.MB_B_RX.WORD, 1, 4, .pop, 0x0, .quadrant, .any⟩,
  ⟨R.MB_CFG.EVT_A, 1, 4, .rw, 0x0, .quadrant, .any⟩,
  ⟨R.MB_CFG.EVT_B, 1, 4, .rw, 0x0, .quadrant, .any⟩,
  ⟨R.MB_CFG.FLUSH, 1, 4, .w1s, 0x0, .quadrant, .any⟩,
  ⟨R.MB_CFG.TIMEOUT_US, 1, 4, .rw, 0x3E8, .quadrant, .any⟩,
  ⟨R.MB_STAT.B_DOWN, 1, 4, .ro, 0x0, .quadrant, .any⟩,
  ⟨R.MB_STAT.CNT_AB, 1, 4, .ro, 0x0, .quadrant, .any⟩,
  ⟨R.MB_STAT.CNT_BA, 1, 4, .ro, 0x0, .quadrant, .any⟩,
  ⟨R.MB_STAT.COLLISION_A, 1, 4, .w1c, 0x0, .quadrant, .any⟩,
  ⟨R.MB_STAT.COLLISION_B, 1, 4, .w1c, 0x0, .quadrant, .any⟩,
  ⟨R.MB_STAT.TIMEOUT_A, 1, 4, .w1c, 0x0, .quadrant, .any⟩,
  ⟨R.MB_STAT.TIMEOUT_B, 1, 4, .w1c, 0x0, .quadrant, .any⟩]

/-- The register table of group mbpend (R449 and the rules beside it, spec/12_configuration.md). -/
def tblMbpend : List RegField := [
  ⟨R.MB_PEND.PEND, 2, 4, .ro, 0x0, .quadrant, .any⟩]

/-- The register table of group evt (R251 and the rules beside it, spec/06_contexts_queues.md). -/
def tblEvt : List RegField := [
  ⟨R.EVT_CFG.HOST_EN, 1, 4, .rw, 0x0, .quadrant, .any⟩,
  ⟨R.EVT_CFG.ENG_EN, 1, 4, .rw, 0x0, .quadrant, .any⟩,
  ⟨R.EVT_CFG.VECTOR, 1, 4, .rw, 0x0, .quadrant, .any⟩,
  ⟨R.EVT_ENG.BAY, 1, 4, .rw, 0x0, .quadrant, .any⟩,
  ⟨R.EVT_ENG.CTX, 1, 4, .rw, 0x0, .quadrant, .any⟩,
  ⟨R.EVT_ENG.BIT, 1, 4, .rw, 0x0, .quadrant, .any⟩,
  ⟨R.EVT_RATE.SPACING, 1, 4, .rw, 0x0, .quadrant, .any⟩,
  ⟨R.EVT_RATE.COAL_CNT, 1, 4, .rw, 0x1, .quadrant, .any⟩,
  ⟨R.EVT_RATE.COAL_TIME, 1, 4, .rw, 0x0, .quadrant, .any⟩,
  ⟨R.EVT_STAT.PENDING, 1, 4, .ro, 0x0, .quadrant, .any⟩,
  ⟨R.EVT_STAT.OCC, 1, 4, .rc, 0x0, .quadrant, .any⟩]

/-- The register table of group evtset (R251 and the rules beside it, spec/06_contexts_queues.md). -/
def tblEvtset : List RegField := [
  ⟨R.EVT_SWSET.SET, 32, 4, .w1s, 0x0, .quadrant, .any⟩,
  ⟨R.EVT_PEND.PEND, 32, 4, .ro, 0x0, .quadrant, .any⟩]

/-- The register table of group tctx (R242 and the rules beside it, spec/06_contexts_queues.md). -/
def tblTctx : List RegField := [
  ⟨R.TCTX_LO.ROOT, 1, 4, .rw, 0x0, .device, .any⟩,
  ⟨R.TCTX_LO.RO, 1, 4, .rw, 0x0, .device, .any⟩,
  ⟨R.TCTX_LO.V, 1, 4, .rw, 0x0, .device, .any⟩,
  ⟨R.TCTX_HI.ROOT, 1, 4, .rw, 0x0, .device, .any⟩]

/-- The register table of group xu (R242 and the rules beside it, spec/06_contexts_queues.md). -/
def tblXu : List RegField := [
  ⟨R.XU_INV_VA_LO.VA, 1, 4, .rw, 0x0, .quadrant, .any⟩,
  ⟨R.XU_INV_VA_HI.VA, 1, 4, .rw, 0x0, .quadrant, .any⟩,
  ⟨R.XU_INV_CTL.SCOPE, 1, 4, .wo, 0x0, .quadrant, .any⟩,
  ⟨R.XU_INV_CTL.TCTX, 1, 4, .wo, 0x0, .quadrant, .any⟩,
  ⟨R.XU_INV_STAT.BUSY, 1, 4, .ro, 0x0, .quadrant, .any⟩]

/-- The register table of group nap (R244 and the rules beside it, spec/06_contexts_queues.md). -/
def tblNap : List RegField := [
  ⟨R.NAP_XCFG.FMODE, 1, 4, .rw, 0x0, .quadrant, .any⟩,
  ⟨R.NAP_XCFG.TCTX, 1, 4, .rw, 0x0, .quadrant, .any⟩,
  ⟨R.NAP_XCFG.HOLD, 1, 4, .rw, 0x3E8, .quadrant, .any⟩,
  ⟨R.NAP_FSTAT.WRITE, 1, 4, .ro, 0x0, .quadrant, .any⟩,
  ⟨R.NAP_FSTAT.CAUSE, 1, 4, .ro, 0x0, .quadrant, .any⟩,
  ⟨R.NAP_FSTAT.HOLD_EXPIRED, 1, 4, .w1c, 0x0, .quadrant, .any⟩,
  ⟨R.NAP_FSTAT.HOLDING, 1, 4, .ro, 0x0, .quadrant, .any⟩,
  ⟨R.NAP_FSTAT.FAULT, 1, 4, .w1c, 0x0, .quadrant, .any⟩,
  ⟨R.NAP_FVA_LO.FVA, 1, 4, .ro, 0x0, .quadrant, .any⟩,
  ⟨R.NAP_FVA_HI.FVA, 1, 4, .ro, 0x0, .quadrant, .any⟩,
  ⟨R.NAP_CMD.ABORT, 1, 4, .w1s, 0x0, .quadrant, .any⟩,
  ⟨R.NAP_CMD.RESUME, 1, 4, .w1s, 0x0, .quadrant, .any⟩,
  ⟨R.NAP_FCNT.COUNT, 1, 4, .rc, 0x0, .quadrant, .any⟩]

/-- The register table of group hflt (R246 and the rules beside it, spec/06_contexts_queues.md). -/
def tblHflt : List RegField := [
  ⟨R.HFLT_STAT.VALID, 1, 4, .w1c, 0x0, .quadrant, .any⟩,
  ⟨R.HFLT_STAT.WRITE, 1, 4, .ro, 0x0, .quadrant, .any⟩,
  ⟨R.HFLT_STAT.OVERFLOW, 1, 4, .w1c, 0x0, .quadrant, .any⟩,
  ⟨R.HFLT_STAT.CAUSE, 1, 4, .ro, 0x0, .quadrant, .any⟩,
  ⟨R.HFLT_VA_LO.VA, 1, 4, .ro, 0x0, .quadrant, .any⟩,
  ⟨R.HFLT_VA_HI.VA, 1, 4, .ro, 0x0, .quadrant, .any⟩,
  ⟨R.HFLT_CNT.COUNT, 1, 4, .rc, 0x0, .quadrant, .any⟩]

/-- The register table of group iopin (R538 and the rules beside it, spec/16_package.md). -/
def tblIopin : List RegField := [
  ⟨R.IO_CFG_PIN.PULL, 1, 4, .rw, 0x0, .quadrant, .any⟩,
  ⟨R.IO_CFG_PIN.PSTR, 1, 4, .rw, 0x0, .quadrant, .any⟩,
  ⟨R.IO_CFG_PIN.SLEW, 1, 4, .rw, 0x0, .quadrant, .any⟩,
  ⟨R.IO_CFG_PIN.DRIVE, 1, 4, .rw, 0x4, .quadrant, .any⟩]

/-- The register table of group iogen (R538 and the rules beside it, spec/16_package.md). -/
def tblIogen : List RegField := [
  ⟨R.IO_CFG_GEN.PULL, 1, 4, .rw, 0x0, .quadrant, .any⟩,
  ⟨R.IO_CFG_GEN.PSTR, 1, 4, .rw, 0x0, .quadrant, .any⟩,
  ⟨R.IO_CFG_GEN.SLEW, 1, 4, .rw, 0x0, .quadrant, .any⟩,
  ⟨R.IO_CFG_GEN.DRIVE, 1, 4, .rw, 0x4, .quadrant, .any⟩,
  ⟨R.IO_CFG_GEN.IREG, 1, 4, .rw, 0x0, .quadrant, .any⟩,
  ⟨R.IO_CFG_GEN.OREG, 1, 4, .rw, 0x0, .quadrant, .any⟩]

/-- The register table of group iobank (R539 and the rules beside it, spec/16_package.md). -/
def tblIobank : List RegField := [
  ⟨R.IO_BANKSTAT.VCCIO_OK, 10, 4, .ro, 0x0, .quadrant, .any⟩,
  ⟨R.IO_BANKSTAT.VCCIO_LOST, 10, 4, .w1c, 0x0, .quadrant, .any⟩,
  ⟨R.IO_BANKSTAT.VCCIO, 10, 4, .ro, 0x0, .quadrant, .any⟩]

/-- The register table of group brg (R525 and the rules beside it, spec/15_multi_die.md). -/
def tblBrg : List RegField := [
  ⟨R.BRG_CTRL.RETRAIN, 1, 4, .w1s, 0x0, .quadrant, .any⟩,
  ⟨R.BRG_CTRL.GRP_DIS, 1, 4, .rw, 0x0, .quadrant, .any⟩,
  ⟨R.BRG_STAT.STATE, 1, 4, .ro, 0x0, .quadrant, .any⟩,
  ⟨R.BRG_STAT.WIDTH_MISMATCH, 1, 4, .w1c, 0x0, .quadrant, .any⟩,
  ⟨R.BRG_STAT.CODE_ERR, 1, 4, .w1c, 0x0, .quadrant, .any⟩,
  ⟨R.BRG_STAT.DEGRADED, 1, 4, .w1c, 0x0, .quadrant, .any⟩,
  ⟨R.BRG_STAT.PARTNER, 1, 4, .ro, 0x0, .quadrant, .any⟩,
  ⟨R.BRG_STAT.OWN, 1, 4, .ro, 0x0, .quadrant, .any⟩,
  ⟨R.BRG_STAT.IN_USE, 1, 4, .ro, 0x0, .quadrant, .any⟩,
  ⟨R.BRG_SPARE.SPARE, 1, 4, .ro, 0x0, .quadrant, .any⟩,
  ⟨R.BRG_REPLAY.REPLAY, 1, 4, .rc, 0x0, .quadrant, .any⟩,
  ⟨R.BRG_LAST.PARTNER, 1, 4, .ro, 0x0, .quadrant, .any⟩,
  ⟨R.BRG_LAST.OWN, 1, 4, .ro, 0x0, .quadrant, .any⟩,
  ⟨R.BRG_LAST_NS.NS, 1, 4, .ro, 0x0, .quadrant, .any⟩]

/-- The register table of group bay (R166 and the rules beside it, spec/04_bays.md). -/
def tblBay : List RegField := [
  ⟨R.BAY_CTRL.RESET, 1, 4, .w1s, 0x0, .bay, .any⟩,
  ⟨R.BAY_CTRL.ONLINE, 1, 4, .w1s, 0x0, .bay, .any⟩,
  ⟨R.BAY_CTRL.OFFLINE, 1, 4, .w1s, 0x0, .bay, .any⟩,
  ⟨R.BAY_STATE.CMD_IGN, 1, 4, .w1c, 0x0, .quadrant, .any⟩,
  ⟨R.BAY_STATE.STATE, 1, 4, .ro, 0x2, .bay, .any⟩,
  ⟨R.BAY_CLK.RAMP, 1, 4, .rw, 0xF, .bay, .any⟩,
  ⟨R.BAY_CLK.RAIL, 1, 4, .rw, 0x0, .bay, .any⟩,
  ⟨R.BAY_CLK.PLVL, 1, 4, .rw, 0x7, .bay, .any⟩,
  ⟨R.BAY_CLK.DIV, 1, 4, .rw, 0x3F, .bay, .any⟩,
  ⟨R.BAY_CLKSTAT.RAMPING, 1, 4, .ro, 0x0, .bay, .any⟩,
  ⟨R.BAY_CLKSTAT.VBUSY, 1, 4, .ro, 0x0, .bay, .any⟩,
  ⟨R.BAY_CLKSTAT.CLAMPED, 1, 4, .ro, 0x0, .bay, .any⟩,
  ⟨R.BAY_CLKSTAT.RAIL_NOW, 1, 4, .ro, 0x0, .bay, .any⟩,
  ⟨R.BAY_CLKSTAT.PLVL_NOW, 1, 4, .ro, 0x7, .bay, .any⟩,
  ⟨R.BAY_CLKSTAT.DIV_NOW, 1, 4, .ro, 0x3F, .bay, .any⟩,
  ⟨R.FRAME_CFG.FEVT_EN, 1, 4, .rw, 0x0, .bay, .any⟩,
  ⟨R.FRAME_CFG.OVL, 1, 4, .rw, 0x0, .bay, .any⟩,
  ⟨R.FRAME_NO.FRAME_NO, 1, 4, .ro, 0x0, .bay, .any⟩,
  ⟨R.ALERT_STAT.ALERT, 1, 4, .w1c, 0x0, .bay, .any⟩,
  ⟨R.ALERT_EN.EN, 1, 4, .rw, 0x0, .bay, .any⟩,
  ⟨R.PIN_OUT.OE, 1, 4, .rw, 0x0, .bay, .any⟩,
  ⟨R.PIN_OUT.VAL, 1, 4, .rw, 0x0, .bay, .any⟩,
  ⟨R.PIN_NEXT.ARMED, 1, 4, .ro, 0x0, .bay, .any⟩,
  ⟨R.PIN_NEXT.OE, 1, 4, .rw, 0x0, .bay, .any⟩,
  ⟨R.PIN_NEXT.VAL, 1, 4, .rw, 0x0, .bay, .any⟩,
  ⟨R.PIN_ZONE.HI, 1, 4, .ro, 0x0, .bay, .any⟩,
  ⟨R.PIN_ZONE.LO, 1, 4, .ro, 0x0, .bay, .any⟩,
  ⟨R.PIN_STUCK.REARM, 1, 4, .w1s, 0x0, .bay, .any⟩,
  ⟨R.PIN_STUCK.STUCK, 1, 4, .w1c, 0x0, .bay, .any⟩,
  ⟨R.CAP_RING.LEN, 1, 4, .rw, 0x0, .bay, .any⟩,
  ⟨R.CAP_RING.BASE, 1, 4, .rw, 0x0, .bay, .any⟩,
  ⟨R.CAP_WR.WR, 1, 4, .ro, 0x0, .bay, .any⟩,
  ⟨R.CAP_RD.RD, 1, 4, .rw, 0x0, .bay, .any⟩,
  ⟨R.CAP_DROP.DROP, 1, 4, .rc, 0x0, .bay, .any⟩,
  ⟨R.ADC_CFG.EN, 1, 4, .rw, 0x0, .bay, .any⟩,
  ⟨R.ADC_CFG.DIV, 1, 4, .rw, 0x0, .bay, .any⟩,
  ⟨R.ADC_THR.HI, 1, 4, .rw, 0x7FFF, .bay, .any⟩,
  ⟨R.ADC_THR.LO, 1, 4, .rw, 0x8000, .bay, .any⟩,
  ⟨R.ADC_RING.LEN, 1, 4, .rw, 0x0, .bay, .any⟩,
  ⟨R.ADC_RING.BASE, 1, 4, .rw, 0x0, .bay, .any⟩,
  ⟨R.ADC_WR.WR, 1, 4, .ro, 0x0, .bay, .any⟩,
  ⟨R.ADC_RD.RD, 1, 4, .rw, 0x0, .bay, .any⟩,
  ⟨R.ADC_DROP.DROP, 1, 4, .rc, 0x0, .bay, .any⟩,
  ⟨R.ADC_LAST.INDEX, 1, 4, .ro, 0x0, .bay, .any⟩,
  ⟨R.ADC_LAST.SAMPLE, 1, 4, .ro, 0x0, .bay, .any⟩,
  ⟨R.WDOG_CFG.ACTION, 1, 4, .rw, 0x0, .bay, (.le 2)⟩,
  ⟨R.WDOG_CFG.EN, 1, 4, .rw, 0x0, .bay, .any⟩,
  ⟨R.WDOG_CFG.TIMEOUT, 1, 4, .rw, 0xF4240, .bay, .any⟩,
  ⟨R.WDOG_KICK.KICK, 1, 4, .wo, 0x0, .bay, .any⟩,
  ⟨R.WDOG_STAT.EXPIRED, 1, 4, .w1c, 0x0, .quadrant, .any⟩,
  ⟨R.WDOG_STAT.BADKICK, 1, 4, .w1c, 0x0, .quadrant, .any⟩,
  ⟨R.WDOG_STAT.WDOG_DEBUG_RELOAD, 1, 4, .w1c, 0x0, .quadrant, .any⟩,
  ⟨R.WDOG_STAT.REMAIN, 1, 4, .ro, 0xF4240, .bay, .any⟩,
  ⟨R.EFLAG.EF, 1, 4, .rw, 0x0, .bay, .any⟩,
  ⟨R.RFX_STATE.COND, 1, 4, .ro, 0x0, .bay, .any⟩,
  ⟨R.RFX_STATE.LATCHED, 1, 4, .w1c, 0x0, .bay, .any⟩,
  ⟨R.SNAP_NS.NS, 1, 4, .ro, 0x0, .bay, .any⟩,
  ⟨R.SNAP_SEC.FRAC, 1, 4, .ro, 0x0, .bay, .any⟩,
  ⟨R.SNAP_SEC.SEC, 1, 4, .ro, 0x0, .bay, .any⟩,
  ⟨R.SNAP_ZONE.VALID, 1, 4, .ro, 0x0, .bay, .any⟩,
  ⟨R.SNAP_ZONE.HI, 1, 4, .ro, 0x0, .bay, .any⟩,
  ⟨R.SNAP_ZONE.LO, 1, 4, .ro, 0x0, .bay, .any⟩,
  ⟨R.SNAP_PTR.CAP_WR, 1, 4, .ro, 0x0, .bay, .any⟩,
  ⟨R.SNAP_PTR.ADC_WR, 1, 4, .ro, 0x0, .bay, .any⟩]

/-- The register table of group rfx (R167 and the rules beside it, spec/04_bays.md). -/
def tblRfx : List RegField := [
  ⟨R.RFX_COND.SLOT3, 1, 4, .rw, 0x0, .bay, .any⟩,
  ⟨R.RFX_COND.SLOT2, 1, 4, .rw, 0x0, .bay, .any⟩,
  ⟨R.RFX_COND.SLOT1, 1, 4, .rw, 0x0, .bay, .any⟩,
  ⟨R.RFX_COND.SLOT0, 1, 4, .rw, 0x0, .bay, .any⟩,
  ⟨R.RFX_ACT.REC, 1, 4, .rw, 0x0, .bay, .any⟩,
  ⟨R.RFX_ACT.ALERT, 1, 4, .rw, 0x0, .bay, .any⟩,
  ⟨R.RFX_ACT.LATCH, 1, 4, .rw, 0x0, .bay, .any⟩,
  ⟨R.RFX_ACT.ACTION, 1, 4, .rw, 0x0, .bay, .any⟩,
  ⟨R.RFX_ACT.TARGET, 1, 4, .rw, 0x0, .bay, .any⟩]

/-- The register table of group pin (R168 and the rules beside it, spec/04_bays.md). -/
def tblPin : List RegField := [
  ⟨R.PIN_MODE.RFX_EN, 1, 4, .rw, 0x0, .bay, .any⟩,
  ⟨R.PIN_MODE.DSRC, 1, 4, .rw, 0x0, .bay, .any⟩,
  ⟨R.PIN_MODE.MODE, 1, 4, .rw, 0x0, .bay, (.le 4)⟩,
  ⟨R.PIN_THR.HYST, 1, 4, .rw, 0x0, .bay, .any⟩,
  ⟨R.PIN_THR.VH, 1, 4, .rw, 0x3FF, .bay, .any⟩,
  ⟨R.PIN_THR.VL, 1, 4, .rw, 0x0, .bay, .any⟩,
  ⟨R.PIN_FILT.EDGE_EN, 1, 4, .rw, 0x0, .bay, .any⟩,
  ⟨R.PIN_FILT.DGL, 1, 4, .rw, 0x0, .bay, .any⟩,
  ⟨R.PIN_STK.UNIT, 1, 4, .rw, 0x0, .bay, .any⟩,
  ⟨R.PIN_STK.ZONE, 1, 4, .rw, 0x0, .bay, .any⟩,
  ⟨R.PIN_STK.TO, 1, 4, .rw, 0x0, .bay, .any⟩,
  ⟨R.PIN_CNT.OVR, 1, 4, .rc, 0x0, .bay, .any⟩,
  ⟨R.PIN_CNT.GLITCH, 1, 4, .rc, 0x0, .bay, .any⟩]

/-- The register table of group sched (R220 and the rules beside it, spec/06_contexts_queues.md). -/
def tblSched : List RegField := [
  ⟨R.SCHED_CFG.QUANTUM, 1, 4, .rw, 0x0, .bay, .any⟩,
  ⟨R.SCHED_STAT.ACTIVE, 1, 4, .ro, 0x0, .bay, .any⟩,
  ⟨R.SCHED_STAT.CUR, 1, 4, .ro, 0x0, .bay, .any⟩,
  ⟨R.Q_EVTSTAT.QEVT, 2, 4, .w1c, 0x0, .bay, .any⟩]

/-- The register table of group mover (R235 and the rules beside it, spec/06_contexts_queues.md). -/
def tblMover : List RegField := [
  ⟨R.MV_CFG.EN, 1, 4, .rw, 0x0, .bay, .any⟩,
  ⟨R.MV_CFG.TCTX, 1, 4, .rw, 0x0, .bay, .any⟩,
  ⟨R.MV_CFG.CPLQ, 1, 4, .rw, 0x0, .bay, .any⟩,
  ⟨R.MV_CFG.CMDQ, 1, 4, .rw, 0x0, .bay, .any⟩,
  ⟨R.MV_STATE.CPL_BLOCKED, 1, 4, .ro, 0x0, .bay, .any⟩,
  ⟨R.MV_STATE.CMD_IGN, 1, 4, .w1c, 0x0, .bay, .any⟩,
  ⟨R.MV_STATE.STATE, 1, 4, .ro, 0x3, .bay, .any⟩,
  ⟨R.MV_CMD.ABORT, 1, 4, .w1s, 0x0, .bay, .any⟩,
  ⟨R.MV_CMD.RESUME, 1, 4, .w1s, 0x0, .bay, .any⟩,
  ⟨R.MV_FINFO.CAUSE, 1, 4, .ro, 0x0, .bay, .any⟩,
  ⟨R.MV_FINFO.DIR, 1, 4, .ro, 0x0, .bay, .any⟩,
  ⟨R.MV_FINFO.TAG, 1, 4, .ro, 0x0, .bay, .any⟩,
  ⟨R.MV_FVA_LO.FVA, 1, 4, .ro, 0x0, .bay, .any⟩,
  ⟨R.MV_FVA_HI.FVA, 1, 4, .ro, 0x0, .bay, .any⟩,
  ⟨R.MV_DONE.BYTES_DONE, 1, 4, .ro, 0x0, .bay, .any⟩]

/-- The register table of group ctx (R220 and the rules beside it, spec/06_contexts_queues.md). -/
def tblCtx : List RegField := [
  ⟨R.CTX_CFG.EN, 1, 4, .rw, 0x0, .bay, .any⟩,
  ⟨R.CTX_CFG.PRIO, 1, 4, .rw, 0x3, .bay, .any⟩,
  ⟨R.CTX_CFG.TCTX, 1, 4, .rw, 0x0, .bay, .any⟩,
  ⟨R.CTX_STATE.CMD_IGN, 1, 4, .w1c, 0x0, .bay, .any⟩,
  ⟨R.CTX_STATE.PEND_ERR, 1, 4, .ro, 0x0, .bay, .any⟩,
  ⟨R.CTX_STATE.STATE, 1, 4, .ro, 0x0, .bay, .any⟩,
  ⟨R.CTX_CMD.ABORT, 1, 4, .w1s, 0x0, .bay, .any⟩,
  ⟨R.CTX_CMD.RESUME, 1, 4, .w1s, 0x0, .bay, .any⟩,
  ⟨R.CTX_CMD.START, 1, 4, .w1s, 0x0, .bay, .any⟩,
  ⟨R.CTX_PC.PC, 1, 4, .rw, 0x0, .bay, .any⟩,
  ⟨R.CTX_CAUSE.IMPRECISE, 1, 4, .ro, 0x0, .bay, .any⟩,
  ⟨R.CTX_CAUSE.MULTI, 1, 4, .w1c, 0x0, .bay, .any⟩,
  ⟨R.CTX_CAUSE.WRITE, 1, 4, .ro, 0x0, .bay, .any⟩,
  ⟨R.CTX_CAUSE.CAUSE, 1, 4, .ro, 0x0, .bay, .any⟩,
  ⟨R.CTX_INFO.INFO, 1, 4, .ro, 0x0, .bay, .any⟩,
  ⟨R.CTX_INFOH.VAH, 1, 4, .ro, 0x0, .bay, .any⟩]

/-- The register table of group queue (R227 and the rules beside it, spec/06_contexts_queues.md). -/
def tblQueue : List RegField := [
  ⟨R.Q_CFG.EN, 1, 4, .rw, 0x0, .bay, .any⟩,
  ⟨R.Q_CFG.PROD, 1, 4, .rw, 0x0, .bay, (.le 2)⟩,
  ⟨R.Q_CFG.CONS, 1, 4, .rw, 0x0, .bay, (.le 2)⟩,
  ⟨R.Q_CFG.EVT, 1, 4, .rw, 0x0, .bay, (.le 2)⟩,
  ⟨R.Q_CFG.LEN, 1, 4, .rw, 0x0, .bay, .any⟩,
  ⟨R.Q_BASE_LO.BASE, 1, 4, .rw, 0x0, .bay, .any⟩,
  ⟨R.Q_BASE_HI.BASE, 1, 4, .rw, 0x0, .bay, .any⟩,
  ⟨R.Q_TAIL.TAIL, 1, 4, .rw, 0x0, .bay, .any⟩,
  ⟨R.Q_HEAD.HEAD, 1, 4, .rw, 0x0, .bay, .any⟩,
  ⟨R.Q_ERR.RING_ERR, 1, 4, .w1c, 0x0, .bay, .any⟩,
  ⟨R.Q_ERR.UNDERRUN, 1, 4, .w1c, 0x0, .bay, .any⟩,
  ⟨R.Q_ERR.OVERRUN, 1, 4, .w1c, 0x0, .bay, .any⟩]

/-- The register table of a group. -/
def RegGroup.table : RegGroup → List RegField
  | .ident => tblIdent
  | .island => tblIsland
  | .deep => tblDeep
  | .clkblk => tblClkblk
  | .power => tblPower
  | .router => tblRouter
  | .noc => tblNoc
  | .probe => tblProbe
  | .mc => tblMc
  | .memmap => tblMemmap
  | .ecc => tblEcc
  | .sg => tblSg
  | .maint => tblMaint
  | .pam => tblPam
  | .nrz => tblNrz
  | .lnattn => tblLnattn
  | .mac => tblMac
  | .can => tblCan
  | .time => tblTime
  | .dom => tblDom
  | .frame => tblFrame
  | .dbgeng => tblDbgeng
  | .dbg => tblDbg
  | .trc => tblTrc
  | .xt => tblXt
  | .cfg => tblCfg
  | .pf => tblPf
  | .snap => tblSnap
  | .mbx => tblMbx
  | .mbpend => tblMbpend
  | .evt => tblEvt
  | .evtset => tblEvtset
  | .tctx => tblTctx
  | .xu => tblXu
  | .nap => tblNap
  | .hflt => tblHflt
  | .iopin => tblIopin
  | .iogen => tblIogen
  | .iobank => tblIobank
  | .brg => tblBrg
  | .bay => tblBay
  | .rfx => tblRfx
  | .pin => tblPin
  | .sched => tblSched
  | .mover => tblMover
  | .ctx => tblCtx
  | .queue => tblQueue

/-- Whether a group lies in a bay window (R33) rather than a quadrant control window (R34). -/
def RegGroup.inBay : RegGroup → Bool
  | .bay => true
  | .rfx => true
  | .pin => true
  | .sched => true
  | .mover => true
  | .ctx => true
  | .queue => true
  | _ => false

/-- The offset of a group's first register in its window. -/
def RegGroup.base : RegGroup → Nat
  | .ident => 0x0
  | .island => 0x100000
  | .deep => 0x104000
  | .clkblk => 0x108000
  | .power => 0x200000
  | .router => 0x300000
  | .noc => 0x301000
  | .probe => 0x400000
  | .mc => 0x500000
  | .memmap => 0x501000
  | .ecc => 0x600000
  | .sg => 0x600800
  | .maint => 0x600C00
  | .pam => 0x700000
  | .nrz => 0x700400
  | .lnattn => 0x700800
  | .mac => 0x701000
  | .can => 0x702000
  | .time => 0x800000
  | .dom => 0x800100
  | .frame => 0x800200
  | .dbgeng => 0x900000
  | .dbg => 0x901000
  | .trc => 0x901400
  | .xt => 0x901500
  | .cfg => 0xA00000
  | .pf => 0xA01000
  | .snap => 0xA02000
  | .mbx => 0xB00000
  | .mbpend => 0xB00800
  | .evt => 0xC00000
  | .evtset => 0xC04000
  | .tctx => 0xC80000
  | .xu => 0xC90000
  | .nap => 0xC90100
  | .hflt => 0xC91000
  | .iopin => 0xD00000
  | .iogen => 0xD00800
  | .iobank => 0xD01000
  | .brg => 0xE00000
  | .bay => 0xC00000
  | .rfx => 0xC00100
  | .pin => 0xC00200
  | .sched => 0xC00400
  | .mover => 0xC00800
  | .ctx => 0xC01000
  | .queue => 0x800000

/-- How many units of a group a window holds. -/
def RegGroup.count : RegGroup → Nat
  | .ident => 1
  | .island => 96
  | .deep => 16
  | .clkblk => 1
  | .power => 1
  | .router => 36
  | .noc => 1
  | .probe => 8
  | .mc => 2
  | .memmap => 1
  | .ecc => 2
  | .sg => 1
  | .maint => 1
  | .pam => 24
  | .nrz => 6
  | .lnattn => 1
  | .mac => 4
  | .can => 2
  | .time => 1
  | .dom => 2
  | .frame => 1
  | .dbgeng => 32
  | .dbg => 1
  | .trc => 1
  | .xt => 1
  | .cfg => 1
  | .pf => 8
  | .snap => 1
  | .mbx => 40
  | .mbpend => 1
  | .evt => 1024
  | .evtset => 1
  | .tctx => 4096
  | .xu => 1
  | .nap => 36
  | .hflt => 8
  | .iopin => 320
  | .iogen => 60
  | .iobank => 1
  | .brg => 2
  | .bay => 1
  | .rfx => 16
  | .pin => 10
  | .sched => 1
  | .mover => 4
  | .ctx => 32
  | .queue => 64

/-- The bytes from one unit of a group to the next. -/
def RegGroup.stride : RegGroup → Nat
  | .ident => 0x100000
  | .island => 0x40
  | .deep => 0x40
  | .clkblk => 0x8000
  | .power => 0x100000
  | .router => 0x40
  | .noc => 0x1000
  | .probe => 0x40
  | .mc => 0x100
  | .memmap => 0x1000
  | .ecc => 0x200
  | .sg => 0x400
  | .maint => 0x100
  | .pam => 0x20
  | .nrz => 0x20
  | .lnattn => 0x100
  | .mac => 0x100
  | .can => 0x100
  | .time => 0x100
  | .dom => 0x40
  | .frame => 0x200
  | .dbgeng => 0x40
  | .dbg => 0x400
  | .trc => 0x100
  | .xt => 0x200
  | .cfg => 0x1000
  | .pf => 0x40
  | .snap => 0x100
  | .mbx => 0x20
  | .mbpend => 0x100
  | .evt => 0x10
  | .evtset => 0x1000
  | .tctx => 0x10
  | .xu => 0x100
  | .nap => 0x20
  | .hflt => 0x10
  | .iopin => 0x4
  | .iogen => 0x4
  | .iobank => 0x100
  | .brg => 0x100
  | .bay => 0x100
  | .rfx => 0x8
  | .pin => 0x20
  | .sched => 0x400
  | .mover => 0x20
  | .ctx => 0x20
  | .queue => 0x20

/-- All register groups of a quadrant control window. -/
def quadGroups : List RegGroup := [.ident, .island, .deep, .clkblk, .power, .router, .noc, .probe, .mc, .memmap, .ecc, .sg, .maint, .pam, .nrz, .lnattn, .mac, .can, .time, .dom, .frame, .dbgeng, .dbg, .trc, .xt, .cfg, .pf, .snap, .mbx, .mbpend, .evt, .evtset, .tctx, .xu, .nap, .hflt, .iopin, .iogen, .iobank, .brg]

/-- All register groups of a bay window. -/
def bayGroups : List RegGroup := [.bay, .rfx, .pin, .sched, .mover, .ctx, .queue]

end Sys2Proof.Machine
end

