-- ==== Sys2Proof/Machine/State.lean ====
section
/-! DEFINITION. Machine/State.lean: everything the spec gives the device, as plain data. Registers of every unit are the table `flds` (one
entry per register field away from its reset value); what the device holds beside its registers is typed, unit by unit. -/
namespace Sys2Proof.Machine

/-! ## Fuses, straps and parts (R1, R2, R24, R40, R41, R433, R434, R487, R520, R552) -/

/-- The members of the family (R1). -/
inductive Part where
  | abn9640 | abn9620 | abn9610
  deriving DecidableEq, Repr

/-- The fused properties of one PCIe physical function (R424, R425, R448): the size exponent of each BAR, which of them is prefetchable, and
its number of vectors. -/
structure PfFuse where
  vecs : Nat
  barSize : Tab Nat
  barPref : Tab Bool
  deriving DecidableEq, Repr

/-- What is fused or strapped, and so fixed from a power-on reset on. -/
structure Fuses where
  part : Part
  noAdc : Bool
  stepping : Tab Nat
  feature : Tab Nat
  compat : Tab Nat
  uid : Nat
  dbgOpen : Nat
  dbgCeil : Nat
  keyHashSet : Bool
  kfSet : Bool
  holdPull : Nat
  aosrc : Bool
  pfs : Tab PfFuse
  deriving DecidableEq, Repr

/-! ## Bays (spec/04_bays.md) -/

/-- What a ball of the device is driven to (R135, R136); `hold` is the configuration hold state of R436. -/
inductive Drive where
  | released | low | high | hold
  deriving DecidableEq, Repr

/-- A comparator change that waits for the deglitch filter: its new value, its crossing instant, and whether it lies within 50 ns
after a threshold change (R139, R141), and the DGL and EDGE_EN in force at that instant (R159, R160). -/
structure Cross where
  val : Bool
  stamp : Int
  settle : Bool
  dgl : Nat
  en : Nat
  deriving DecidableEq, Repr

/-- One instrument pin beside its registers: the raw comparator outputs, the changes in the deglitch filters, the running dead times (with
the output's value after the edge that began each), the crossings and pulses since the pin's previous record, the stuck timer and mask, the
counter at the last threshold change, and the drive of the ball (R136 to R148). -/
structure PinSt where
  rawHi : Bool
  rawLo : Bool
  pendHi : Option Cross
  pendLo : Option Cross
  deadHi : Option Bool
  deadLo : Option Bool
  supp : Nat
  glitch : Nat
  stuckOn : Bool
  stuckAt : Int
  stuckMask : Bool
  thrAt : Option Nat
  drive : Drive
  deriving DecidableEq, Repr

def PinSt.init : PinSt := ⟨false, false, none, none, none, none, 0, 0, false, 0, false, none, .hold⟩

/-- A capture record before it is laid out in 16 bytes (R145, R146). -/
structure CapRecord where
  stamp : Int
  frame : Nat
  kind : Nat
  pin : Nat
  edge : Nat
  zone : Nat
  overlap : Bool
  settle : Bool
  seq : Nat
  ovr : Nat
  glitch : Nat
  deriving DecidableEq, Repr

/-- An ADC block, open or waiting for its ring (R151). -/
structure AdcBlock where
  first : Int
  overlap : Bool
  gap : Bool
  clip : Bool
  frame : Nat
  period : Nat
  samples : List (BitVec 16)
  deriving DecidableEq, Repr

/-- One bay beside its registers: pins, the staging FIFO and loss mark of the capture ring, the capture sequence number, the open and the
closed ADC blocks with their loss and gap marks, the ADC grid, the rules acting and whether reflex evaluation starts afresh, the fabric
port lines FD, FOE and FX (bits 9:0, 19:10 and 23:20), the last boundary instant and the overlap in force before it, per priority the
context that ran last (R211), whether the release has opened its SRAM for writes and given its pins their modes (R163), and how many
boundaries have reached it (R203). -/
structure BaySt where
  pins : Tab PinSt
  stage : List CapRecord
  lossCap : Bool
  seq : Nat
  blocks : List AdcBlock
  adcStage : List AdcBlock
  lossAdc : Bool
  gapAdc : Bool
  adcNext : Nat
  adcOrigin : Int
  acting : Nat
  fresh : Bool
  lines : Nat
  lastB : Option Int
  lastOvl : Nat
  lastRan : Tab Nat
  sramOpen : Bool
  pinsLive : Bool
  boundaries : Nat
  deriving DecidableEq, Repr

def BaySt.init : BaySt := ⟨[], [], false, 0, [], [], false, false, 0, 0, 0, true, 0, none, 0, [], false, false, 0⟩

/-! ## Engine contexts and movers (spec/05_engine_isa.md, spec/06_contexts_queues.md) -/

/-- An active hardware loop (R198): the first and last instruction of its body, the iterations still to start counting the one in progress,
ROTL, and whether the loop buffer holds the body. -/
structure LoopSt where
  first : Nat
  last : Nat
  count : Nat
  rotl : Bool
  captured : Bool
  deriving DecidableEq, Repr

/-- What a WAITING context waits for (R213). `load` and `store` hold the instruction itself, which is carried out when its access completes. -/
inductive Wait where
  | none
  | load (i : Instr)
  | store (i : Instr)
  | wfe (wd : Nat) (mask : BitVec 32) (limit : Nat)
  | fsync (wd since : Nat)
  | fence
  | idle
  | qpush (queue wd addr : Nat) (w : Bool)
  | qpop (queue wd addr : Nat) (w : Bool)
  deriving DecidableEq, Repr

/-- A posted store that is not yet done (R180, R219). -/
structure Posted where
  va : Nat
  pa : Nat
  size : Nat
  data : Nat
  deriving DecidableEq, Repr

/-- The state of one engine context beside CTX_PC and its other registers (R171, R175): general registers (physical numbers, so that the
window rotates by `rb` alone), accumulators, pointers, modulo lengths, steps, the special registers, the loop, the reservation, what the
context waits for, its posted stores, the address of a posted-store error that a running context has not yet taken (R219), and the state to
which RELEASE returns it (R495, R499). -/
structure CtxSt where
  w : Tab (BitVec 32)
  a : Tab (BitVec 40)
  p : Tab (BitVec 32)
  m : Tab (BitVec 24)
  st : Tab (BitVec 16)
  mode : BitVec 32
  flags : BitVec 3
  rb : BitVec 4
  vhi : BitVec 16
  tsec : BitVec 32
  tsech : BitVec 32
  tfrac : BitVec 16
  epend : BitVec 32
  loop : Option LoopSt
  resv : Option Nat
  wait : Wait
  posted : List Posted
  pendVa : Option Nat
  prev : Nat
  deriving DecidableEq, Repr

def CtxSt.init : CtxSt :=
  ⟨[], [], [], [], [], 0, 0, 0, 0, 0, 0, 0, 0, none, none, .none, [], none, 0⟩

/-- A mover's command descriptor (R229). -/
structure Desc where
  src : Nat
  dst : Nat
  len : Nat
  tag : Nat
  fill : Bool
  cpl : Bool
  evt : Bool
  pattern : Nat
  deriving DecidableEq, Repr

/-- A completion descriptor's content (R230). -/
structure Compl where
  tag : Nat
  status : Nat
  cause : Nat
  done : Nat
  fva : Nat
  evt : Bool
  deriving DecidableEq, Repr

/-- One mover beside its registers: the descriptor in progress, and a completion that waits for its CPLQ (R231). -/
structure MoverSt where
  desc : Option Desc
  cpl : Option Compl
  deriving DecidableEq, Repr

def MoverSt.init : MoverSt := ⟨none, none⟩

/-! ## Islands, stores and causeways (spec/02_logic_blocks.md, spec/03_islands_causeways.md) -/

/-- The registers and sticky flags of an arithmetic slice (R65, R68). -/
structure SliceSt where
  areg : BitVec 16
  breg : BitVec 16
  preg : BitVec 40
  acc : BitVec 40
  oreg : BitVec 32
  msat : Bool
  av : Bool
  sat : Bool
  deriving DecidableEq, Repr

def SliceSt.init : SliceSt := ⟨0, 0, 0, 0, 0, false, false, false⟩

/-- What a store port shows: read data and the flags CE and UE (R75, R78), before and after OUTREG. -/
structure PortOut where
  data : Nat
  ce : Bool
  ue : Bool
  data2 : Nat
  ce2 : Bool
  ue2 : Bool
  deriving DecidableEq, Repr

def PortOut.init : PortOut := ⟨0, false, false, 0, false, false⟩

/-- Where an island goes when its reset completes (R111). -/
inductive AfterReset where
  | run | slack
  deriving DecidableEq, Repr

/-- One island beside its registers: flip-flop values Q by block × 16 + macrocell, slices, store outputs by store × 2 + port, the level
of its clock, whether the device hold forces INIT (R61), whether
its general I/O have left the hold state at stage 1 (R436), whether its store writes are enabled and its fill is in progress (R88), what follows
a reset (R111), and its snapshot words (R442). -/
structure IslandSt where
  q : Tab Bool
  slices : Tab SliceSt
  outs : Tab PortOut
  clk : Bool
  held : Bool
  io : Bool
  wrEn : Bool
  filling : Bool
  after : AfterReset
  snap : Tab Nat
  gpioOut : Tab Drive
  gpioIn : Tab Nat
  slack : Tab Bool
  deriving DecidableEq, Repr

def IslandSt.init : IslandSt := ⟨[], [], [], false, true, false, false, false, .run, [], [], [], []⟩

/-- A causeway channel: its words, oldest first, each with the number of sink edges since its push, and the freed entries with the number of
source edges since each pop (R101). -/
structure Chan where
  words : List (Nat × Nat)
  freed : List Nat
  deriving DecidableEq, Repr

def Chan.init : Chan := ⟨[], []⟩

/-! ## Network, translation and memory (spec/06 to spec/08) -/

/-- Who owns a request that an initiator port has outstanding. -/
inductive Owner where
  | nap
  | dbm (port : Nat)
  | other
  deriving DecidableEq, Repr

/-- A request outstanding at an initiator port (R259, R276). -/
structure Outst where
  port : Nat
  tag : Nat
  write : Bool
  pa : Nat
  size : Nat
  owner : Owner
  deriving DecidableEq, Repr

/-- A response on its way from a router to an initiator port (R259). `sport` is its source port: 0 NAP, 1 UNIT, 3 the initiator's own port (R260). -/
structure Rsp where
  src : Nat
  port : Nat
  tag : Nat
  write : Bool
  status : Nat
  data : Nat
  sport : Nat
  deriving DecidableEq, Repr

/-- A packet held at a blocked hop (R275): at which router, and what it is. -/
structure Held where
  router : Nat
  request : Bool
  port : Nat
  tag : Nat
  write : Bool
  deriving DecidableEq, Repr

/-- A target request at a NAP (R271): its TTAG at the fabric (64 while it waits in the NAP), its initiator, and its inbound bundle word: SIZE,
OFFSET, the line and its byte enables. -/
structure TgtReq where
  ttag : Nat
  port : Nat
  tag : Nat
  write : Bool
  size : Nat
  off : Nat
  data : Nat
  be : Nat
  deriving DecidableEq, Repr

/-- One NAP beside its registers: the requests it holds in STALL mode and its target requests at the fabric and waiting, and inbound bundle
words (channel 0, channel 1, data, byte enables) that wait for room. -/
structure NapSt where
  held : List MasterReq
  tgt : List TgtReq
  inbound : List (Nat × Nat × Nat × Nat)
  deriving DecidableEq, Repr

def NapSt.init : NapSt := ⟨[], [], []⟩

/-- A probe trace record before it is written (R282). -/
structure PrbRec where
  hdr : Nat
  req : Nat
  stamp : Int
  waited : Bool
  deriving DecidableEq, Repr

/-- One probe beside its registers: its staging FIFO, its loss mark, and whether its threshold event has been raised since PRB_PKT was last
read (R281, R282). -/
structure ProbeSt where
  stage : List PrbRec
  loss : Bool
  fired : Bool
  deriving DecidableEq, Repr

def ProbeSt.init : ProbeSt := ⟨[], false, false⟩

/-- A cached final translation (R241): translation context, page base and size, frame, W, DEV, and the context's RO bit. -/
structure Final where
  tctx : Nat
  va : Nat
  log : Nat
  pa : Nat
  w : Bool
  dev : Bool
  deriving DecidableEq, Repr

/-- A cached upper-level entry (R241): the level of the entry, the VA bits that select it, and the entry read. -/
structure Upper where
  tctx : Nat
  level : Nat
  idx : Nat
  entry : Nat
  deriving DecidableEq, Repr

/-- The translation unit of a quadrant beside its registers. -/
structure XuSt where
  finals : List Final
  uppers : List Upper
  deriving DecidableEq, Repr

def XuSt.init : XuSt := ⟨[], []⟩

/-- A memory controller beside its registers: open rows (plus one) and row-disturb trackers by (rank × 2 + subchannel) × 32 + bank (R294,
R304), the doubled refresh rate by rank and the refreshes postponed by bank (R302), whether a parity mismatch has stopped the scrubber and
whether SCRUB_CTL has been rewritten since (R314), whether the CE threshold event has been raised since CE_CNT was last read (R315), whether
OFFLINE waits for queued requests (R296), whether the load under way issued INIT (R447), and whether the contents are undefined but for the
lines listed (R312). -/
structure McSt where
  openRow : Tab Nat
  tracker : Tab (List (Nat × Nat))
  fast : Tab Bool
  postponed : Tab Nat
  stopped : Bool
  rewritten : Bool
  ceFired : Bool
  offlining : Bool
  byLoad : Bool
  undef : Bool
  wrote : Tab Bool
  deriving DecidableEq, Repr

def McSt.init : McSt := ⟨[], [], [], [], false, false, false, false, false, true, []⟩

/-- One event of the event controller beside its registers (R249): undelivered occurrences, the counter at the first of them and at the
previous delivery. -/
structure EvtSt where
  count : Nat
  first : Nat
  last : Option Nat
  deriving DecidableEq, Repr

def EvtSt.init : EvtSt := ⟨0, 0, none⟩

/-! ## What leaves the device -/

/-- What the device sends to the outside: completions, messages, frames and answers, as each chapter gives them. -/
inductive Output where
  /-- The value a register read returned. -/
  | regValue (addr value : Nat)
  /-- A PCIe completion of function `f`: status 0 success, 1 Unsupported Request, 2 Configuration Request Retry, 4 Completer Abort. -/
  | completion (f status data : Nat)
  /-- The MSI-X message of a function's vector (R248, R424). -/
  | msix (f entry : Nat)
  /-- A response packet sent to an initiator port (R259). -/
  | response (port tag status data : Nat)
  /-- A message packet (R257). -/
  | message (dest dport payload : Nat)
  /-- A word on the inbound bundle of a NAP (R269): channels 0 and 1, data and byte enables. -/
  | bundle (router ch0 ch1 data be : Nat)
  /-- A broadcast code with its group mask (R116). -/
  | broadcast (code mask : Nat)
  /-- A same-bank refresh or refresh management command to a bank of a channel (R302, R305). -/
  | refresh (ch bank : Nat) (rfm : Bool)
  /-- A 66-bit block on the transmitter ball of a lane: header and scrambled payload (R331). -/
  | block (lane hdr payload : Nat)
  /-- Symbols of the test pattern on a lane: bits of an NRZ lane, precoded values 0 to 3 of a PAM4 lane (R328, R329, R335). -/
  | symbols (lane : Nat) (syms : List Nat)
  /-- An Ethernet frame that a MAC sends, without its FCS; `cut` says that a restart cut it short (R327, R338). -/
  | frame (mac : Nat) (bytes : List (BitVec 8)) (cut : Bool)
  /-- A PAUSE frame with its quanta (R338). -/
  | pauseFrame (mac quanta : Nat)
  /-- A CAN or CAN FD frame (R345). -/
  | canFrame (can : Nat) (f : CanFrame)
  /-- What a JTAG data register captures: its length in bits and its value (R492, R493). -/
  | scan (bits value : Nat)
  /-- JTAG selects the boundary-scan register, whose cells and length are those of the BSDL file, outside the spec (R545). -/
  | boundaryScan
  /-- A PCIe configuration completion carries a value that the PCI Express specification sets (R423). -/
  | config (f status value : Nat)
  /-- A packet of the system link, between START and END with its SEQ, on a port (R408). -/
  | packet (port seq : Nat) (p : LinkPkt)
  /-- An ACK block, or a NAK (R408). -/
  | ack (port seq : Nat) (nak : Bool)
  /-- A GLOBAL block (R408, R414). -/
  | glob (port gop : Nat) (up : Bool) (gseq arg : Nat)
  /-- A BROADCAST_FRAME with the values of FR_START, FR_PERIOD and FR_FIRST; the spec does not say how GLOBAL blocks carry them (R414). -/
  | globFrame (port gseq ns sec period first : Nat)
  /-- A TICK block with its stamp (R413). -/
  | tick (port : Nat) (resp : Bool) (stamp : Nat)
  /-- LINK_RESET blocks for 10 µs (R412). -/
  | linkReset (port : Nat)
  /-- A read of host memory for an image that is pulled (R433). -/
  | hostRead (addr : Nat)
  /-- The result of a DAP access as the next scan shifts it out (R493). -/
  | dap (status data : Nat)
  deriving DecidableEq, Repr

/-! ## Mailboxes and shadow settings -/

/-- One mailbox: the words of each direction, oldest first, each with whether its timeout has been reported (R445). -/
structure MbxSt where
  ab : List (Nat × Bool)
  ba : List (Nat × Bool)
  deriving DecidableEq, Repr

def MbxSt.init : MbxSt := ⟨[], []⟩

/-- A setting that waits for a boundary (R394): its session, its entry, the number of its boundary, its bay (none where it is not a bay's), its field and
its value. -/
structure Shadow where
  sess : Nat
  index : Nat
  sub : Nat
  frame : Nat
  bay : Option Nat
  base : Nat
  fld : Fld
  val : Nat
  deriving DecidableEq, Repr

/-- A deep store beside its registers: whether its writes are enabled and its fill is in progress (R88). -/
structure DeepSt where
  wrEn : Bool
  filling : Bool
  deriving DecidableEq, Repr

def DeepSt.init : DeepSt := ⟨false, false⟩

/-! ## Debug and trace (spec/14_debug.md) -/

/-- A trace packet (R506). -/
structure TrcPkt where
  stamp : Int
  kind : Nat
  loss : Bool
  size : Nat
  bay : Nat
  ctx : Nat
  port : Nat
  data : Nat
  deriving DecidableEq, Repr

/-- The debug side of an engine beside its registers: its staging FIFO and loss mark (R505), the reason of a deferred halt (R497), whether a
step is running on to its end, and whether a step waits for a READY context (R498). -/
structure DbgSt where
  stage : List TrcPkt
  loss : Bool
  deferred : Option Nat
  stepping : Bool
  stepWait : Bool
  deriving DecidableEq, Repr

def DbgSt.init : DbgSt := ⟨[], false, none, false, false⟩

/-- The trace sink of a quadrant beside its registers: its FIFO and loss mark (R507). -/
structure SinkSt where
  fifo : List TrcPkt
  loss : Bool
  deriving DecidableEq, Repr

def SinkSt.init : SinkSt := ⟨[], false⟩

/-! ## Lanes, Ethernet and CAN FD (spec/09_lanes.md) -/

/-- A serial lane beside its registers: valid headers in a row in HUNT, headers and invalid headers of the window in LOCK (R330), the last 58
payload bits received and sent for the scrambler's polynomial, the latter open until the first block is sent (R331), the last precoded value
of each direction (R329), the pattern generator (R335), and the checker: the reference it runs, the bits it has seeded itself with, the
error-free bits before lock, and the errors of the last 256 bits. -/
structure LaneSt where
  hunt : Nat
  win : Nat
  bad : Nat
  rxScr : Nat
  txScr : Option Nat
  pTx : Nat
  pRx : Nat
  gen : Option Nat
  ref : Nat
  seeded : Nat
  clean : Nat
  errs : List Bool
  deriving DecidableEq, Repr

def LaneSt.init : LaneSt := ⟨0, 0, 0, 0, none, 0, 0, none, 0, 0, 0, []⟩

/-- A frame that a MAC is sending (R341, R365): the frame, its FLAGS, LATE, whether it came from the TX ring, whether it was cut short (R327), and
the stamp at which it left. -/
structure TxJob where
  frame : List (BitVec 8)
  flags : Nat
  late : Bool
  ring : Bool
  cut : Bool
  stamp : Int
  deriving DecidableEq, Repr

/-- A MAC beside its registers: what its PCS and FEC last reported (R339), the frame in transmission, whether the head entry waits for its
launch, whether a PAUSE frame holds transmission, the frames accepted since EN was set (R342), and the frames that the device's own agents have
queued ahead of the ring (R338, R364). -/
structure MacSt where
  pcs : Bool
  fec : Bool
  tx : Option TxJob
  waiting : Bool
  paused : Bool
  seq : Nat
  agent : List (List (BitVec 8))
  deriving DecidableEq, Repr

def MacSt.init : MacSt := ⟨false, false, none, false, false, 0, []⟩

/-- A CAN FD controller beside its registers: the head entry's frame while it is on its way, with whether its launch was late and the stamp of its
start of frame (R345, R346), whether it waits for its launch, whether bus-off recovery has started, the Clanex agent's frames that wait ahead of the
ring, whether the one on its way is not the ring's
(R401, R406), and whether it is on the bus. -/
structure CanSt where
  tx : Option (CanFrame × Bool × Int)
  waiting : Bool
  recovering : Bool
  agent : List CanFrame
  own : Bool
  busy : Bool
  deriving DecidableEq, Repr

def CanSt.init : CanSt := ⟨none, false, false, [], false, false⟩

/-! ## Time (spec/10_time.md) -/

/-- One time domain beside its registers (R359 to R361): the held words of OFS, the counter at the previous sample (none before the first sample after
SVO_EN rises), the samples in a row within 100 ns, and the data-set settings of its ordinary clock with the defaults of IEEE 1588 (R364, R378; log entry
3). -/
structure DomSt where
  held0 : Nat
  held1 : Nat
  last : Option Nat
  good : Nat
  prio1 : Nat
  prio2 : Nat
  logSync : Nat
  logAnnounce : Nat
  slaveOnly : Bool
  deriving DecidableEq, Repr

def DomSt.init : DomSt := ⟨0, 0, none, 0, 128, 128, 0, 1, false⟩

/-- What a follower whose time-distribution stream is lost goes on with (R367): offset, rate, the last boundary noticed, the next one of the
schedule, and the period. -/
structure HeldTime where
  ofs : Int
  rate : Int
  notice : Option (Int × Nat)
  nextB : Option (Int × Nat)
  period : Int
  deriving DecidableEq, Repr

/-! ## Power and sleep (spec/13_power.md) -/

/-- What the supply and the device manager hold beside registers: whether VIN feeds the device and its power-on steps are done (R419, R451), the
device's own sleep state (0, or 3 or 4 for S3 and S4), whether the start was a thermal restart (R477), TARGET, STATE and STATUS of object 0x0920
(R484), what is in progress (0 nothing, 1 an entry before its commit point, 2 after it, 3 an exit) with its target word and state, the islands
it fenced with their states before (R463, R467), units in S1 or S2 with that state and the state they return to (islands by number, bays from 1000
and deep stores from 2000 on), the target words that exit once the entry completes
(R466), events whose wake slots are still to be looked up (R465), the level of PERST_N, the quadrants whose fault reset waits for the end of a load
(R523), and whether the wake timer runs (R465). -/
structure PowerSt where
  on : Bool
  stepsDone : Bool
  dev : Nat
  thermal : Bool
  target : Nat
  state : Nat
  status : Nat
  phase : Nat
  curT : Nat
  curS : Nat
  fenced : List (Nat × Nat)
  asleep : Tab (Nat × Nat)
  wakes : List Nat
  wakeQ : List Nat
  perstLow : Bool
  faultQ : List Nat
  timer : Bool
  deriving DecidableEq, Repr

def PowerSt.init : PowerSt := ⟨true, false, 0, false, 0, 0, 0, 0, 0, 0, [], [], [], [], false, [], false⟩

/-! ## Configuration (spec/12_configuration.md) -/

/-- The configuration engine beside its registers (R426 to R441): how the bytes come (0 none, 1 pull, 2 push), the CFG_STAT.STATE before the START, the
header's KIND, QMASK, IMAGE_ID, SEGMENTS and IMAGE_LEN and whether it has been accepted, segments whose tag is good, records taken, whether KEY or END has
closed the segment and END the image, whether a failure's records wait for its clearing, the RELEASE value, units with a CELLS record, the
targets of a partial load, register writes that wait for stage 1 and store contents that wait for the fill (R432), channels given INIT, user
objects being published, whether CFG_DONE and CFG_ERR_N are pulled low (R437), whether the link is up and the readiness window open (R420,
R422), quadrants reset and not yet loaded (R429), the release stage that is due (1 asked for by RELEASE_NOW, 2 and 3 next, R438, R439), the offsets in
the image of what comes next and of the segment's head (R447), and whether a fill of stores is in progress (R87). -/
structure LoadSt where
  mode : Nat
  prev : Nat
  kind : Nat
  qmask : Nat
  imageId : Nat
  segments : Nat
  len : Nat
  header : Bool
  segs : Nat
  recs : Nat
  closed : Bool
  ended : Bool
  rel : Option Nat
  cells : List Nat
  targets : List Nat
  regs : List (Nat × Nat)
  inits : List (Nat × Nat × List (BitVec 8))
  initCh : List Nat
  objs : List UserObj
  doneLow : Bool
  errLow : Bool
  link : Bool
  window : Bool
  fresh : List Nat
  stage : Nat
  pos : Nat
  segPos : Nat
  fill : Bool
  deriving DecidableEq, Repr

def LoadSt.init : LoadSt :=
  ⟨0, 0, 0, 0, 0, 0, 0, false, 0, 0, false, false, none, [], [], [], [], [], [], true, false, false, false, [], 0, 0, 0, false⟩

/-- The JTAG port (R492, R493, R545): the instruction in force, what drives the covered balls (0 their units, 1 the boundary-scan register, 2 nothing:
high impedance), and the status and data of the last DAP access. -/
structure JtagSt where
  ir : Nat
  balls : Nat
  status : Nat
  data : Nat
  deriving DecidableEq, Repr

def JtagSt.init : JtagSt := ⟨1, 0, 0, 0⟩


/-! ## The object dictionary's agent (spec/11_object_dictionary.md) -/

/-- A session (R389 to R399, R417): STATE (0 FREE, 1 OPEN, 2 COMMIT_PENDING, 3 APPLYING), its origin, the entries staged in staging order, the frame
number of its boundary, the status last answered in it, the header and MODE of the COMMIT that waits for its answer, and the quadrants reset since its
acceptance (R398). -/
structure SessSt where
  st : Nat
  origin : Option Origin
  staged : List ClRec
  target : Nat
  last : Nat
  head : Option ClHead
  mode : Nat
  lostQ : List Nat
  deriving DecidableEq, Repr

def SessSt.init : SessSt := ⟨0, none, [], 0, 0, none, 0, []⟩

/-- An answer that the agent keeps for a requester that repeats its SEQ (R405): origin, SEQ, the counter when it was sent, and its bytes. -/
structure Kept where
  origin : Origin
  seq : Nat
  at_ : Nat
  bytes : List (BitVec 8)
  deriving DecidableEq, Repr

/-- A Clanex message that arrives in CAN FD segments (R406): controller, source node, the next segment number and the bytes so far. -/
structure Segs where
  n : Nat
  node : Nat
  next : Nat
  bytes : List (BitVec 8)
  deriving DecidableEq, Repr

/-- An answer that waits for a sleep entry to reach its commit point (R463): where it goes, the request's header and operation, and its records with
their statuses; the status of the entry's own record is 255 until then. -/
structure Waiting where
  origin : Origin
  head : ClHead
  op : Nat
  recs : List (ClRec × Nat)
  deriving DecidableEq, Repr

/-- The agent (R399, R401, R402, R405, R406, R417, R446): SESSION_TIMEOUT, NODE_ID, UDP_MAC, IP_ADDR, UDP_PORT, CAN_MASK and CAN_BASE; the words of the
message that arrives through mailbox 32, the length of that message in bytes (none before a length word), and whether a bad length has stopped it; the words
of answers that wait for room there; answers kept; segmented messages; an answer that waits for a sleep entry; requests forwarded over the system
link (target LA, SEQ, and where the answer goes); and whether a device reset has been commanded (R388). -/
structure AgentSt where
  timeout : Nat
  node : Nat
  udpMac : Nat
  ip : Nat
  udpPort : Nat
  canMask : Nat
  canBase : Nat
  words : List Nat
  need : Option Nat
  dead : Bool
  out : List Nat
  kept : List Kept
  segs : List Segs
  waiting : Option Waiting
  fwd : List (Nat × Nat × Origin)
  resetDue : Bool
  deriving DecidableEq, Repr

def AgentSt.init : AgentSt := ⟨10000, 0, 255, 0, 41156, 0, 29, [], none, false, [], [], [], none, [], false⟩

/-! ## The system link -/

/-- A port of the system link (R407 to R413): whether it counts as UP, whether resends have failed it, the range [lo, hi] behind it (none before
enumeration), RESENDS, the next SEQ it sends, packets sent and not acknowledged (SEQ, times resent), packets that wait for the window, the count that
its subtree has answered to the operation in progress, and the identity that the child behind it announced; at an up-port, the stamp t3 of the last TICK
and the counter when it arrived. -/
structure PortSt where
  up : Bool
  failed : Bool
  range : Option (Nat × Nat)
  resends : Nat
  seq : Nat
  win : List (Nat × Nat × LinkPkt)
  queue : List LinkPkt
  count : Option Nat
  ident : Option Nat
  t3 : Nat
  t4 : Nat
  deriving DecidableEq, Repr

def PortSt.init : PortSt := ⟨false, false, none, 0, 0, [], [], none, none, 0, 0⟩

/-- The device in the system link (R409 to R417): ROOT, LA, LA_VALID, DEPTH, TREE_DEPTH, SUBTREE, UP_ACTIVE, the objects GOP, AT (as the bits of R355), LAST_LATE,
LAST_MISSING, BARRIER_HOLD and BARRIER_TIMEOUT; the next GSEQ, the last GSEQ taken from above, the operation that is answered upward (GOP, GSEQ), whether
the device itself has answered it, the late count so far, and the scheduled operations (GOP, GSEQ and instant). -/
structure LinkSt where
  root : Bool
  la : Nat
  laValid : Bool
  depth : Nat
  treeDepth : Nat
  subtree : Nat
  upActive : Nat
  gop : Nat
  at_ : Nat
  lastLate : Nat
  lastMissing : Nat
  hold : Bool
  barrierTo : Nat
  gseq : Nat
  seen : Option Nat
  op : Option (Nat × Nat)
  answered : Bool
  late : Nat
  sched : List (Nat × Nat × Int)
  deriving DecidableEq, Repr

def LinkSt.init : LinkSt := ⟨false, 0, false, 0, 0, 0, 255, 0, 0, 0, 0, false, 1000, 0, none, none, false, 0, []⟩


/-! ## PCIe functions (R423) -/

/-- The PCIe state of a physical function: its command register and its MSI-X table (entry × 4 + word), which a function-level reset clears. The spec gives
the table no address, so no command writes it. -/
structure PfSt where
  command : Nat
  msix : Tab Nat
  deriving DecidableEq, Repr

def PfSt.init : PfSt := ⟨0, []⟩



/-! ## The whole machine -/

/-- The state of the device. Each table names its key; an unlisted key reads as the unit's reset state. -/
structure State where
  /-- The commands that wait, first in first out. -/
  pending : List Instr
  /-- Fuses, straps and part (log entry 2). -/
  fuses : Fuses
  /-- Every register field by its place: absolute byte address of its register × 32 + low bit (R32 to R34). -/
  flds : Tab Nat
  /-- The image value of each register field that the image sets, by the same keys (R166, R320, R432). -/
  image : Tab Nat
  /-- Bytes: bay SRAM at its physical addresses (R33), external memory by channel and channel address (Ops). -/
  mem : List Host.Cell
  /-- Stored check bits XOR the check bits of the stored data, by word of bay SRAM, row of a store, or memory line (R308, R311). -/
  chk : Tab Nat
  /-- Data of island-store rows and deep-store words (R72, R81). -/
  rows : Tab Nat
  /-- The bays by number. -/
  bays : Tab BaySt
  /-- The engine contexts by bay × 32 + context. -/
  ctxs : Tab CtxSt
  /-- The movers by bay × 4 + mover. -/
  movers : Tab MoverSt
  /-- The islands by number. -/
  islands : Tab IslandSt
  /-- The configuration cells of each island, none before they are written. -/
  cells : Tab (Option IslandCfg)
  /-- The causeway channels (numbered in Machine/Islands.lean). -/
  chans : Tab Chan
  /-- Requests outstanding at initiator ports. -/
  outst : List Outst
  /-- Responses in flight. -/
  flight : List Rsp
  /-- Packets held at blocked hops (R275). -/
  blocked : List Held
  /-- THR_GAP in force by initiator port × 8 + channel, plus one (R306). -/
  throttled : Tab Nat
  /-- The NAPs by router number. -/
  naps : Tab NapSt
  /-- The probes by quadrant × 8 + probe. -/
  probes : Tab ProbeSt
  /-- The translation units by quadrant. -/
  xus : Tab XuSt
  /-- Invalidations started and waiting: scope, context, address (R241). -/
  invWait : List (Nat × Nat × Nat)
  /-- The memory controllers by channel. -/
  mcs : Tab McSt
  /-- By quadrant: the store group has raised its CE threshold event since CE_CNT was last read (R315). -/
  sgFired : Tab Bool
  /-- The events by number. -/
  evts : Tab EvtSt
  /-- The 64-bit nanosecond counter C (R352). -/
  counter : Nat
  /-- The offset in force, in 2^-16 ns (R353). -/
  ofsNow : Int
  /-- The rate in force, in 2^-40 (R353). -/
  rateNow : Int
  /-- What the device has sent out, newest first. -/
  out : List Output
  /-- The model's own counter of open values drawn so far (log entry 1). -/
  free : Nat
  /-- The mailboxes by quadrant × 40 + mailbox. -/
  mbxs : Tab MbxSt
  /-- The last frame boundary of which the tide clock gave notice: its instant and number (R368). -/
  notice : Option (Int × Nat)
  /-- The instant and number of the next boundary in the frame schedule (R368, R369). -/
  nextB : Option (Int × Nat)
  /-- Settings accepted for the next boundary (R394). -/
  shadow : List Shadow
  /-- Whether a quadrant is in reset (R43). -/
  inReset : Tab Bool
  /-- The deep stores by number. -/
  deeps : Tab DeepSt
  /-- The debug sides of the engines by bay. -/
  dbgs : Tab DbgSt
  /-- The trace sinks by quadrant. -/
  sinks : Tab SinkSt
  /-- Signals of cross-trigger groups on their way to the members (R502, R503). -/
  xsig : List Nat
  /-- The serial lanes: PAM4 lanes by number, NRZ lanes from 96 on. -/
  lanes : Tab LaneSt
  /-- The Ethernet MACs by number. -/
  macs : Tab MacSt
  /-- The CAN FD controllers by number. -/
  cans : Tab CanSt
  /-- Whether the lane reference clock of a quadrant is missing (R325). -/
  lrefOff : Tab Bool
  /-- The time domains (R358). -/
  doms : Tab DomSt
  /-- By quadrant: the time a follower holds while its stream is lost (R367). -/
  heldT : Tab (Option HeldTime)
  /-- Supply, sleep and wake (spec/13_power.md). -/
  power : PowerSt
  /-- The configuration engine (R426 to R441). -/
  load : LoadSt
  /-- Objects that the loaded image publishes (R417, R430). -/
  userObjs : List UserObj
  /-- Bridges that saw a wrong rotation code since power-on (R512). -/
  brgDead : Tab Bool
  /-- By bridge × 8 + wire group: the counter at its latest bad frames, newest first (R516). -/
  badFr : Tab (List Nat)
  /-- Where the nonce of the debug challenge stands in the stream of open values (R488). -/
  nonce : Nat
  /-- Unlock attempts since power-on (R488). -/
  unlocks : Nat
  /-- The JTAG port (R492, R493, R545). -/
  jtag : JtagSt
  /-- The sessions of the object dictionary, 1 to 16 (R389). -/
  sessions : Tab SessSt
  /-- The agent of the object dictionary (R401 to R406). -/
  agent : AgentSt
  /-- Settings that were lost before their boundary because their bay was reset or held (R398). -/
  lostSh : List Shadow
  /-- The ports of the system link: U, R, then D0 to D13 (R407). -/
  ports : Tab PortSt
  /-- The device in the system link (R409 to R417). -/
  slink : LinkSt
  /-- The PCIe state of the physical functions (R423). -/
  pfSt : Tab PfSt
  deriving DecidableEq, Repr

/-! ## Reset values of register fields -/

/-- The register group and unit that an address within a window lies in, with the offset in the unit's registers. -/
def locateIn (gs : List RegGroup) (a : Nat) : Option (RegGroup × Nat × Nat) :=
  match gs with
  | [] => none
  | g :: gs =>
    if g.base ≤ a ∧ a < g.base + g.count * g.stride then
      some (g, (a - g.base) / g.stride, (a - g.base) % g.stride)
    else locateIn gs a

/-- The window, group, unit and offset of a register address (R32 to R34): the quadrant or bay number comes first. -/
def locate (a : Nat) : Option (Nat × RegGroup × Nat × Nat) :=
  if 0xD000000000 ≤ a ∧ a < 0xD040000000 then
    (locateIn quadGroups ((a - 0xD000000000) % 0x10000000)).map (fun x => ((a - 0xD000000000) / 0x10000000, x))
  else if 0xC000000000 ≤ a ∧ a < 0xC080000000 then
    (locateIn bayGroups ((a - 0xC000000000) % 0x1000000)).map (fun x => ((a - 0xC000000000) / 0x1000000, x))
  else none

/-- Whether a table entry describes the field whose register lies at `off` and whose low bit is `lo`. -/
def RegField.covers (r : RegField) (off lo : Nat) : Bool :=
  decide (r.fld.lo = lo) && decide (r.fld.off ≤ off) && decide ((off - r.fld.off) % r.stride = 0)
    && decide ((off - r.fld.off) / r.stride < r.cnt)

/-- The reset value of a register field by its key: the Reset column of its table, with EN and STATE of context 0 as R220 gives them
(spec/06_contexts_queues.md) and TCTX_LO of context 0 as R236 gives it. -/
def regReset (k : Nat) : Nat :=
  match locate (k / 32) with
  | none => 0
  | some (_, g, u, off) =>
    if g = .ctx ∧ u = 0 ∧ off = 0 ∧ k % 32 = 31 then 1
    else if g = .ctx ∧ u = 0 ∧ off = 4 ∧ k % 32 = 0 then 2
    else if g = .tctx ∧ u = 0 ∧ off = 0 ∧ k % 32 = 0 then 1
    else
      match g.table.find? (fun r => r.covers off (k % 32)) with
      | some r => r.reset
      | none => 0

/-- The fuses of the part the model takes after power-on: an ABN-9640 with every optional fuse open (log entry 2). -/
def Fuses.init : Fuses where
  part := .abn9640
  noAdc := false
  stepping := []
  feature := []
  compat := []
  uid := 0
  dbgOpen := 0
  dbgCeil := 0
  keyHashSet := false
  kfSet := false
  holdPull := 0
  aosrc := false
  pfs := []


/-- The machine under a power-on reset (R17, R43): every register at the value of its Reset column, every unit in its reset state, no command
waiting. The fuses and the values the spec does not state are the model's (log entries 2 and 3). -/
def State.reset : State where
  pending := []
  fuses := Fuses.init
  flds := []
  image := []
  mem := []
  chk := []
  rows := []
  bays := []
  ctxs := []
  movers := []
  islands := []
  cells := []
  chans := []
  outst := []
  flight := []
  blocked := []
  throttled := []
  naps := []
  probes := []
  xus := []
  invWait := []
  mcs := []
  sgFired := []
  evts := []
  counter := 0
  ofsNow := 0
  rateNow := 0
  out := []
  free := 1
  mbxs := []
  notice := none
  nextB := none
  shadow := []
  inReset := []
  deeps := []
  dbgs := []
  sinks := []
  xsig := []
  lanes := []
  macs := []
  cans := []
  lrefOff := []
  doms := []
  heldT := []
  power := PowerSt.init
  load := LoadSt.init
  userObjs := []
  brgDead := []
  badFr := []
  nonce := 0
  unlocks := 0
  jtag := JtagSt.init
  sessions := []
  agent := AgentSt.init
  lostSh := []
  ports := []
  slink := LinkSt.init
  pfSt := []

/-- Why a step stops. No command of the table ends in a fault: every condition the spec names has an effect in it. -/
inductive Fault where
  /-- Raised by no command. It stands here so that the type has a name for a stop that a later reading may need. Safe. -/
  | stopped
  deriving DecidableEq, Repr

/-- Why the model refuses a command. -/
inductive Refusal where
  /-- Raised by an arm of `exec` that has no meaning yet, by the command's mnemonic. Safe: nothing can be proved of a run past it. -/
  | notModelled (mnemonic : String)
  deriving DecidableEq, Repr

end Sys2Proof.Machine
end

