-- ==== Sys2Proof/Machine/Access.lean ====
section
/-! DEFINITION. Machine/Access.lean: reading and replacing one unit of each table of the state. -/
namespace Sys2Proof.Machine

/-- One entry of bays: the bays by number. -/
def State.bay (s : State) (i : Nat) : BaySt := Tab.get (fun _ => BaySt.init) s.bays i

/-- Replace one entry of bays. -/
def State.setBay (s : State) (i : Nat) (v : BaySt) : State :=
  { s with bays := Tab.put (fun _ => BaySt.init) s.bays i v }

/-- One entry of ctxs: the engine contexts by bay × 32 + context. -/
def State.ctx (s : State) (i : Nat) : CtxSt := Tab.get (fun _ => CtxSt.init) s.ctxs i

/-- Replace one entry of ctxs. -/
def State.setCtx (s : State) (i : Nat) (v : CtxSt) : State :=
  { s with ctxs := Tab.put (fun _ => CtxSt.init) s.ctxs i v }

/-- One entry of movers: the movers by bay × 4 + mover. -/
def State.mover (s : State) (i : Nat) : MoverSt := Tab.get (fun _ => MoverSt.init) s.movers i

/-- Replace one entry of movers. -/
def State.setMover (s : State) (i : Nat) (v : MoverSt) : State :=
  { s with movers := Tab.put (fun _ => MoverSt.init) s.movers i v }

/-- One entry of islands: the islands by number. -/
def State.island (s : State) (i : Nat) : IslandSt := Tab.get (fun _ => IslandSt.init) s.islands i

/-- Replace one entry of islands. -/
def State.setIsland (s : State) (i : Nat) (v : IslandSt) : State :=
  { s with islands := Tab.put (fun _ => IslandSt.init) s.islands i v }

/-- One entry of cells: the configuration cells of each island, none before they are written. -/
def State.cfgOf (s : State) (i : Nat) : (Option IslandCfg) := Tab.get (fun _ => none) s.cells i

/-- Replace one entry of cells. -/
def State.setCfgOf (s : State) (i : Nat) (v : (Option IslandCfg)) : State :=
  { s with cells := Tab.put (fun _ => none) s.cells i v }

/-- One entry of chans: the causeway channels (numbered in Machine/Islands.lean). -/
def State.chan (s : State) (i : Nat) : Chan := Tab.get (fun _ => Chan.init) s.chans i

/-- Replace one entry of chans. -/
def State.setChan (s : State) (i : Nat) (v : Chan) : State :=
  { s with chans := Tab.put (fun _ => Chan.init) s.chans i v }

/-- One entry of naps: the NAPs by router number. -/
def State.nap (s : State) (i : Nat) : NapSt := Tab.get (fun _ => NapSt.init) s.naps i

/-- Replace one entry of naps. -/
def State.setNap (s : State) (i : Nat) (v : NapSt) : State :=
  { s with naps := Tab.put (fun _ => NapSt.init) s.naps i v }

/-- One entry of probes: the probes by quadrant × 8 + probe. -/
def State.probe (s : State) (i : Nat) : ProbeSt := Tab.get (fun _ => ProbeSt.init) s.probes i

/-- Replace one entry of probes. -/
def State.setProbe (s : State) (i : Nat) (v : ProbeSt) : State :=
  { s with probes := Tab.put (fun _ => ProbeSt.init) s.probes i v }

/-- One entry of xus: the translation units by quadrant. -/
def State.xu (s : State) (i : Nat) : XuSt := Tab.get (fun _ => XuSt.init) s.xus i

/-- Replace one entry of xus. -/
def State.setXu (s : State) (i : Nat) (v : XuSt) : State :=
  { s with xus := Tab.put (fun _ => XuSt.init) s.xus i v }

/-- One entry of mcs: the memory controllers by channel. -/
def State.mc (s : State) (i : Nat) : McSt := Tab.get (fun _ => McSt.init) s.mcs i

/-- Replace one entry of mcs. -/
def State.setMc (s : State) (i : Nat) (v : McSt) : State :=
  { s with mcs := Tab.put (fun _ => McSt.init) s.mcs i v }

/-- One entry of sgFired: by quadrant: the store group has raised its CE threshold event since CE_CNT was last read (R315). -/
def State.sgf (s : State) (i : Nat) : Bool := Tab.get (fun _ => false) s.sgFired i

/-- Replace one entry of sgFired. -/
def State.setSgf (s : State) (i : Nat) (v : Bool) : State :=
  { s with sgFired := Tab.put (fun _ => false) s.sgFired i v }

/-- One entry of evts: the events by number. -/
def State.evt (s : State) (i : Nat) : EvtSt := Tab.get (fun _ => EvtSt.init) s.evts i

/-- Replace one entry of evts. -/
def State.setEvt (s : State) (i : Nat) (v : EvtSt) : State :=
  { s with evts := Tab.put (fun _ => EvtSt.init) s.evts i v }

/-- One entry of mbxs: the mailboxes by quadrant × 40 + mailbox. -/
def State.mbx (s : State) (i : Nat) : MbxSt := Tab.get (fun _ => MbxSt.init) s.mbxs i

/-- Replace one entry of mbxs. -/
def State.setMbx (s : State) (i : Nat) (v : MbxSt) : State :=
  { s with mbxs := Tab.put (fun _ => MbxSt.init) s.mbxs i v }

/-- One entry of inReset: whether a quadrant is in reset (R43). -/
def State.qReset (s : State) (i : Nat) : Bool := Tab.get (fun _ => false) s.inReset i

/-- Replace one entry of inReset. -/
def State.setQReset (s : State) (i : Nat) (v : Bool) : State :=
  { s with inReset := Tab.put (fun _ => false) s.inReset i v }

/-- One entry of deeps: the deep stores by number. -/
def State.deep (s : State) (i : Nat) : DeepSt := Tab.get (fun _ => DeepSt.init) s.deeps i

/-- Replace one entry of deeps. -/
def State.setDeep (s : State) (i : Nat) (v : DeepSt) : State :=
  { s with deeps := Tab.put (fun _ => DeepSt.init) s.deeps i v }

/-- One entry of dbgs: the debug sides of the engines by bay. -/
def State.dbg (s : State) (i : Nat) : DbgSt := Tab.get (fun _ => DbgSt.init) s.dbgs i

/-- Replace one entry of dbgs. -/
def State.setDbg (s : State) (i : Nat) (v : DbgSt) : State :=
  { s with dbgs := Tab.put (fun _ => DbgSt.init) s.dbgs i v }

/-- One entry of sinks: the trace sinks by quadrant. -/
def State.sink (s : State) (i : Nat) : SinkSt := Tab.get (fun _ => SinkSt.init) s.sinks i

/-- Replace one entry of sinks. -/
def State.setSink (s : State) (i : Nat) (v : SinkSt) : State :=
  { s with sinks := Tab.put (fun _ => SinkSt.init) s.sinks i v }

/-- One entry of lanes: the serial lanes: PAM4 lanes by number, NRZ lanes from 96 on. -/
def State.lane (s : State) (i : Nat) : LaneSt := Tab.get (fun _ => LaneSt.init) s.lanes i

/-- Replace one entry of lanes. -/
def State.setLane (s : State) (i : Nat) (v : LaneSt) : State :=
  { s with lanes := Tab.put (fun _ => LaneSt.init) s.lanes i v }

/-- One entry of macs: the Ethernet MACs by number. -/
def State.mac (s : State) (i : Nat) : MacSt := Tab.get (fun _ => MacSt.init) s.macs i

/-- Replace one entry of macs. -/
def State.setMac (s : State) (i : Nat) (v : MacSt) : State :=
  { s with macs := Tab.put (fun _ => MacSt.init) s.macs i v }

/-- One entry of cans: the CAN FD controllers by number. -/
def State.can (s : State) (i : Nat) : CanSt := Tab.get (fun _ => CanSt.init) s.cans i

/-- Replace one entry of cans. -/
def State.setCan (s : State) (i : Nat) (v : CanSt) : State :=
  { s with cans := Tab.put (fun _ => CanSt.init) s.cans i v }

/-- One entry of lrefOff: whether the lane reference clock of a quadrant is missing (R325). -/
def State.noLref (s : State) (i : Nat) : Bool := Tab.get (fun _ => false) s.lrefOff i

/-- Replace one entry of lrefOff. -/
def State.setNoLref (s : State) (i : Nat) (v : Bool) : State :=
  { s with lrefOff := Tab.put (fun _ => false) s.lrefOff i v }

/-- One entry of doms: the time domains (R358). -/
def State.dom (s : State) (i : Nat) : DomSt := Tab.get (fun _ => DomSt.init) s.doms i

/-- Replace one entry of doms. -/
def State.setDom (s : State) (i : Nat) (v : DomSt) : State :=
  { s with doms := Tab.put (fun _ => DomSt.init) s.doms i v }

/-- One entry of heldT: by quadrant: the time a follower holds while its stream is lost (R367). -/
def State.held (s : State) (i : Nat) : (Option HeldTime) := Tab.get (fun _ => none) s.heldT i

/-- Replace one entry of heldT. -/
def State.setHeld (s : State) (i : Nat) (v : (Option HeldTime)) : State :=
  { s with heldT := Tab.put (fun _ => none) s.heldT i v }

/-- One entry of brgDead: bridges that saw a wrong rotation code since power-on (R512). -/
def State.deadBrg (s : State) (i : Nat) : Bool := Tab.get (fun _ => false) s.brgDead i

/-- Replace one entry of brgDead. -/
def State.setDeadBrg (s : State) (i : Nat) (v : Bool) : State :=
  { s with brgDead := Tab.put (fun _ => false) s.brgDead i v }

/-- One entry of badFr: by bridge × 8 + wire group: the counter at its latest bad frames, newest first (R516). -/
def State.badFrames (s : State) (i : Nat) : (List Nat) := Tab.get (fun _ => []) s.badFr i

/-- Replace one entry of badFr. -/
def State.setBadFrames (s : State) (i : Nat) (v : (List Nat)) : State :=
  { s with badFr := Tab.put (fun _ => []) s.badFr i v }

/-- One entry of sessions: the sessions of the object dictionary, 1 to 16 (R389). -/
def State.sess (s : State) (i : Nat) : SessSt := Tab.get (fun _ => SessSt.init) s.sessions i

/-- Replace one entry of sessions. -/
def State.setSess (s : State) (i : Nat) (v : SessSt) : State :=
  { s with sessions := Tab.put (fun _ => SessSt.init) s.sessions i v }

/-- One entry of ports: the ports of the system link: U, R, then D0 to D13 (R407). -/
def State.port (s : State) (i : Nat) : PortSt := Tab.get (fun _ => PortSt.init) s.ports i

/-- Replace one entry of ports. -/
def State.setPort (s : State) (i : Nat) (v : PortSt) : State :=
  { s with ports := Tab.put (fun _ => PortSt.init) s.ports i v }

/-- One entry of pfSt: the PCIe state of the physical functions (R423). -/
def State.pfState (s : State) (i : Nat) : PfSt := Tab.get (fun _ => PfSt.init) s.pfSt i

/-- Replace one entry of pfSt. -/
def State.setPfState (s : State) (i : Nat) (v : PfSt) : State :=
  { s with pfSt := Tab.put (fun _ => PfSt.init) s.pfSt i v }

end Sys2Proof.Machine
end

