-- ==== Sys2Proof/Machine/Ops.lean ====
section
/-! DEFINITION. Machine/Ops.lean: the named operations every family uses: addresses of units, reading and writing register fields, presence
of units, device time, raising an event, bytes of memory, the store code and the error logs. -/
namespace Sys2Proof.Machine

/-! ## Addresses of units (R28, R32 to R34) -/

/-- The base of quadrant `q`'s control window (R32). -/
def quadA (q : Nat) : Nat := 0xD000000000 + q * 0x10000000
/-- The base of bay `b`'s window (R32). -/
def winA (b : Nat) : Nat := 0xC000000000 + b * 0x1000000
/-- Bay registers (R33). -/
def bayA (b : Nat) : Nat := winA b + 0xC00000
/-- Reflex rule `r` of a bay (R167). -/
def rfxA (b r : Nat) : Nat := winA b + 0xC00100 + r * 8
/-- Pin `k` of a bay (R168). -/
def pinA (b k : Nat) : Nat := winA b + 0xC00200 + k * 0x20
/-- Scheduler registers of a bay (R220). -/
def schedA (b : Nat) : Nat := winA b + 0xC00400
/-- Mover `n` of a bay (R235). -/
def mvA (b n : Nat) : Nat := winA b + 0xC00800 + n * 0x20
/-- Context `c` of a bay (R220). -/
def ctxA (b c : Nat) : Nat := winA b + 0xC01000 + c * 0x20
/-- Queue `q` of a bay (R227). -/
def queueA (b q : Nat) : Nat := winA b + 0x800000 + q * 0x20
/-- Island `i` by its global number (R28, R118). -/
def islA (i : Nat) : Nat := quadA (i / 96) + 0x100000 + (i % 96) * 0x40
/-- Deep store `d` by its global number (R81, R125). -/
def deepA (d : Nat) : Nat := quadA (d / 16) + 0x104000 + (d % 16) * 0x40
/-- The clock block's own registers of a quadrant (R126, R478). -/
def clkA (q : Nat) : Nat := quadA q + 0x108000
/-- The power block of a quadrant (R479). -/
def pwrA (q : Nat) : Nat := quadA q + 0x200000
/-- The local index r of router `n` and its quadrant (R28, R29), on a part whose dies carry the given rotation codes. -/
def routerLocal (n : Nat) : Nat × Nat :=
  let x := n % 12
  let y := n / 12
  if x < 6 ∧ y < 6 then (0, y * 6 + x)
  else if x ≥ 6 ∧ y < 6 then (1, (11 - x) * 6 + y)
  else if x ≥ 6 ∧ y ≥ 6 then (2, (11 - y) * 6 + (11 - x))
  else (3, x * 6 + (11 - y))
/-- The global number of the router with local index `r` in quadrant `q` (R29). -/
def routerNum (q r : Nat) : Nat :=
  let lx := r % 6
  let ly := r / 6
  match q with
  | 0 => ly * 12 + lx
  | 1 => lx * 12 + (11 - ly)
  | 2 => (11 - ly) * 12 + (11 - lx)
  | _ => (11 - lx) * 12 + ly
/-- The registers of router `n` (R283). -/
def rtA (n : Nat) : Nat := quadA (routerLocal n).1 + 0x300000 + (routerLocal n).2 * 0x40
/-- The NAP fault registers of router `n` (R244). -/
def napA (n : Nat) : Nat := quadA (routerLocal n).1 + 0xC90100 + (routerLocal n).2 * 0x20
/-- The NoC registers of a quadrant (R284). -/
def nocA (q : Nat) : Nat := quadA q + 0x301000
/-- Probe `p` of a quadrant (R285). -/
def prbA (q p : Nat) : Nat := quadA q + 0x400000 + p * 0x40
/-- Memory controller of channel `ch` (R320). -/
def mcA (ch : Nat) : Nat := quadA (ch / 2) + 0x500000 + (ch % 2) * 0x100
/-- The memory map table of a quadrant (R321). -/
def mapA (q : Nat) : Nat := quadA q + 0x501000
/-- The ECC and scrub registers of channel `ch` (R322). -/
def eccA (ch : Nat) : Nat := quadA (ch / 2) + 0x600000 + (ch % 2) * 0x200
/-- The store group registers of a quadrant (R322). -/
def sgA (q : Nat) : Nat := quadA q + 0x600800
/-- ECC_MAINT of a quadrant (R323). -/
def maintA (q : Nat) : Nat := quadA q + 0x600C00
/-- Event `e` of the event controller, in the Q0 window (R251). -/
def evtA (e : Nat) : Nat := quadA 0 + 0xC00000 + e * 0x10
/-- Translation context `t` in the window of quadrant `q` (R242). -/
def tctxA (q t : Nat) : Nat := quadA q + 0xC80000 + t * 0x10
/-- The invalidation registers of a quadrant (R242). -/
def xuA (q : Nat) : Nat := quadA q + 0xC90000
/-- The host fault record of function `f` (R246). -/
def hfltA (f : Nat) : Nat := quadA 0 + 0xC91000 + f * 0x10

/-- The engine debug registers of bay `b` (R508). -/
def dbgEngA (b : Nat) : Nat := quadA (b / 32) + 0x900000 + (b % 32) * 0x40
/-- The debug block's own registers of a quadrant (R509). -/
def dbgA (q : Nat) : Nat := quadA q + 0x901000
/-- The trace sink of a quadrant (R510). -/
def trcA (q : Nat) : Nat := quadA q + 0x901400
/-- The device watchdog and the cross-trigger groups (R509). -/
def xtA (q : Nat) : Nat := quadA q + 0x901500
/-- The time unit of a quadrant (R375). -/
def tuA (q : Nat) : Nat := quadA q + 0x800000
/-- Time domain `d` (R376). -/
def domA (q d : Nat) : Nat := quadA q + 0x800100 + d * 0x40
/-- The frame registers (R377). -/
def frA (q : Nat) : Nat := quadA q + 0x800200
/-- The configuration block of a quadrant (R447). -/
def cfgA (q : Nat) : Nat := quadA q + 0xA00000
/-- Physical function `f` of the PCIe port (R448). -/
def pfA (f : Nat) : Nat := quadA 0 + 0xA01000 + f * 0x40
/-- The snapshot registers of a quadrant (R447). -/
def snapA (q : Nat) : Nat := quadA q + 0xA02000
/-- Mailbox `k` of a quadrant (R449). -/
def mbxA (q k : Nat) : Nat := quadA q + 0xB00000 + k * 0x20
/-- IO_CFG of instrument pin `k` of bay `b` (R538). -/
def ioPinA (b k : Nat) : Nat := quadA (b / 32) + 0xD00000 + ((b % 32) * 10 + k) * 4
/-- The I/O bank registers of a quadrant (R539). -/
def ioBankA (q : Nat) : Nat := quadA q + 0xD01000
/-- Bridge `b` seen from its quadrant's side `k`: 0 the local E port, 1 the local N port (R525). -/
def brgA (q k : Nat) : Nat := quadA q + 0xE00000 + k * 0x100
/-- PAM4 lane by its global number (R347). -/
def pamA (l : Nat) : Nat := quadA (l / 24) + 0x700000 + (l % 24) * 0x20
/-- NRZ lane by its global number (R347). -/
def nrzA (l : Nat) : Nat := quadA (l / 6) + 0x700400 + (l % 6) * 0x20
/-- LN_ATTN of a quadrant (R347). -/
def lnAttnA (q : Nat) : Nat := quadA q + 0x700800
/-- Ethernet MAC by its global number (R349). -/
def macA (e : Nat) : Nat := quadA (e / 4) + 0x701000 + (e % 4) * 0x100
/-- CAN FD controller by its global number (R350). -/
def canA (c : Nat) : Nat := quadA (c / 2) + 0x702000 + (c % 2) * 0x100
/-- The identity block of a quadrant (R40). -/
def idA (q : Nat) : Nat := quadA q

/-! ## Register fields -/

/-- The key of a register field: the register's byte address × 32 + the field's low bit. -/
def key (a : Nat) (f : Fld) : Nat := (a + f.off) * 32 + f.lo

/-- Read a register field of the unit whose registers start at `a`. -/
def State.rd (s : State) (a : Nat) (f : Fld) : Nat := Tab.get regReset s.flds (key a f)

/-- Write a register field; the value is cut to the field's width. -/
def State.wr (s : State) (a : Nat) (f : Fld) (v : Nat) : State :=
  { s with flds := Tab.put regReset s.flds (key a f) (v % 2 ^ f.width) }

/-- Whether a one-bit field is 1. -/
def State.bit (s : State) (a : Nat) (f : Fld) : Bool := decide (s.rd a f ≠ 0)

/-- Add to a counter field that saturates at its largest value. -/
def State.bump (s : State) (a : Nat) (f : Fld) (n : Nat) : State :=
  s.wr a f (min (s.rd a f + n) (2 ^ f.width - 1))

/-- `n` without the bits that are 1 in `m`. -/
def clearBits (n m : Nat) : Nat := n ^^^ (n &&& m)

/-- Bits [hi:lo] of a number. -/
def bits (n hi lo : Nat) : Nat := n / 2 ^ lo % 2 ^ (hi + 1 - lo)

/-- The sign-extended value of the low `w` bits of a number. -/
def sext (w n : Nat) : Int :=
  if n % 2 ^ w < 2 ^ (w - 1) then ((n % 2 ^ w : Nat) : Int) else ((n % 2 ^ w : Nat) : Int) - ((2 ^ w : Nat) : Int)

/-- An integer as a number of `w` bits. -/
def wrapTo (w : Nat) (n : Int) : Nat := (n % ((2 ^ w : Nat) : Int)).toNat

/-! ## Presence (R1, R2, R4, R7) -/

/-- Whether quadrant `q` is present (R1). -/
def Fuses.quad (f : Fuses) (q : Nat) : Bool :=
  match f.part with
  | .abn9640 => decide (q < 4)
  | .abn9620 => decide (q = 0 ∨ q = 2)
  | .abn9610 => decide (q = 0)

/-- Whether quadrant `q` is present. -/
def State.quadOk (s : State) (q : Nat) : Bool := s.fuses.quad q
/-- Whether quadrant `q` is present, out of reset and not without its core rails in S3 or S4: only then can anything of it act (R43, R47, R467). -/
def State.quadLive (s : State) (q : Nat) : Bool := s.quadOk q && !s.qReset q && decide (s.power.dev < 3)
/-- Whether bay `b` is present (R2). -/
def State.bayHere (s : State) (b : Nat) : Bool := decide (b < 128) && s.quadOk (b / 32)
/-- Whether bay `b` is present in a quadrant that can act. -/
def State.bayOk (s : State) (b : Nat) : Bool := decide (b < 128) && s.quadLive (b / 32)
/-- Whether island `i` is present. -/
def State.islHere (s : State) (i : Nat) : Bool := decide (i < 384) && s.quadOk (i / 96)
/-- Whether island `i` is present in a quadrant that can act. -/
def State.islOk (s : State) (i : Nat) : Bool := decide (i < 384) && s.quadLive (i / 96)
/-- Whether router `n` is present. -/
def State.rtHere (s : State) (n : Nat) : Bool := decide (n < 144) && s.quadOk (routerLocal n).1
/-- Whether router `n` is present in a quadrant that can act. -/
def State.rtOk (s : State) (n : Nat) : Bool := decide (n < 144) && s.quadLive (routerLocal n).1
/-- Whether memory channel `ch` is present. -/
def State.chHere (s : State) (ch : Nat) : Bool := decide (ch < 8) && s.quadOk (ch / 2)
/-- Whether memory channel `ch` is present in a quadrant that can act. -/
def State.chOk (s : State) (ch : Nat) : Bool := decide (ch < 8) && s.quadLive (ch / 2)
/-- Whether the tide clock is present (R7). -/
def State.timeOk (s : State) : Bool := decide (s.fuses.part ≠ .abn9610)
/-- Whether the bay ADCs are present (R6). -/
def State.adcOk (s : State) : Bool := !s.fuses.noAdc

/-- Whether bridge `b` is present: four on the ABN-9640, B0 alone on the ABN-9620, none on the ABN-9610 (R26, R27). -/
def State.bridgeOk (s : State) (b : Nat) : Bool :=
  match s.fuses.part with
  | .abn9640 => decide (b < 4)
  | .abn9620 => decide (b = 0)
  | .abn9610 => false

/-- The present quadrants. -/
def State.quads (s : State) : List Nat := [0, 1, 2, 3].filter s.quadOk

/-! ## Time (R352 to R356) -/

/-- The time formed from a counter value, an offset and a rate, in 2^-16 ns (R353). -/
def timeOf (c : Nat) (ofs rate : Int) : Int := ofs + (c : Int) * 65536 + ((c : Int) * rate) / 16777216

/-- The device time T in 2^-16 ns (R353). -/
def State.now (s : State) : Int := timeOf s.counter s.ofsNow s.rateNow

/-- The device time as quadrant `q` forms it: its held time while its stream is lost (R367). -/
def State.nowQ (s : State) (q : Nat) : Int :=
  match s.held q with
  | some h => timeOf s.counter h.ofs h.rate
  | none => s.now

/-- The last boundary of which quadrant `q` has notice (R367, R368). -/
def State.noticeQ (s : State) (q : Nat) : Option (Int × Nat) :=
  match s.held q with
  | some h => h.notice
  | none => s.notice

/-- The next boundary of the schedule that quadrant `q` holds. -/
def State.nextBQ (s : State) (q : Nat) : Option (Int × Nat) :=
  match s.held q with
  | some h => h.nextB
  | none => s.nextB

/-- Units of T in one second. -/
def ticksPerSec : Int := 65536000000000

/-- A stamp: a time cut to 2^-8 ns (R356). -/
def stampOf (t : Int) : Int := t / 256 * 256
/-- Seconds of a time, modulo 2^64 (R355). -/
def secOf (t : Int) : Nat := ((t / ticksPerSec) % (2 ^ 64 : Nat)).toNat
/-- Nanoseconds of a time (R355). -/
def nsOf (t : Int) : Nat := ((t / 65536) % 1000000000).toNat
/-- The fraction of a time in 2^-16 ns (R355). -/
def fracOf (t : Int) : Nat := (t % 65536).toNat

/-! ## Outputs and open values -/

/-- The state an outcome leads to; a stop leaves the state as it was. -/
def outState (s : State) : Host.Outcome State Fault Refusal → State
  | .next s' => s'
  | _ => s

/-- Send something out of the device. -/
def State.emit (s : State) (o : Output) : State := { s with out := o :: s.out }

/-- A fresh open value of `w` bits (log entry 1). -/
def State.freeVal (s : State) (w : Nat) : BitVec w := Config.freeBits w s.free
/-- A fresh open choice (log entry 1). -/
def State.freeChoice (s : State) : Bool := Config.freeBool s.free
/-- Advance the counter of open values. -/
def State.drawn (s : State) : State := { s with free := s.free + 1 }

/-! ## Events (R19, R247 to R249, R551) -/

/-- Whether the source of event `e` is present (R4, R19). -/
def State.evtOk (s : State) (e : Nat) : Bool :=
  if e < 512 then s.bayHere (e / 4)
  else if e < 540 then s.quadOk ((e - 512) % 4)
  else if e < 572 then false
  else if e < 576 then s.quadOk (e - 572)
  else if e < 592 then s.chHere ((e - 576) % 8)
  else if e < 608 then s.quadOk ((e - 592) % 4)
  else if e < 612 then s.quadOk (e - 608)
  else if e < 628 then s.quadOk ((e - 612) / 4)
  else if e < 632 then s.quadOk (e - 628)
  else if e < 640 then s.quadOk ((e - 632) / 2)
  else if e < 672 then s.timeOk
  else if e < 680 then true
  else if e < 684 then s.quadOk (e - 680)
  else if e < 688 then s.quadOk (e - 684)
  else if e < 740 then true
  else if e < 744 then s.quadOk (e - 740)
  else if e < 760 then true
  else if e < 764 then s.bridgeOk (e - 760)
  else if e < 768 then s.quadOk (e - 764)
  else decide (e < 1024) && s.quadOk ((e - 768) / 64)

/-- Event `e` signals every cross-trigger group that names it (R502); the signals are on their way for less than 100 ns (R503). -/
def State.xtEvent (s : State) (e : Nat) : State :=
  { s with xsig := s.xsig ++ (List.range 8).filter (fun g =>
      s.bit (xtA 0) (R.XT_CFG.EN.shift (8 * g)) && s.bit (xtA 0) (R.XT_CFG.EVT_EN.shift (8 * g)) &&
        decide (s.rd (xtA 0) (R.XT_CFG.EVENT.shift (8 * g)) = e)) }

/-- While something sleeps or is on its way there, the wake slots of an event that occurs are looked up (R465, R466; Machine/Sleep.lean). -/
def State.wakeNote (s : State) (e : Nat) : State :=
  if s.power.asleep.isEmpty && decide (s.power.dev = 0) && decide (s.power.phase = 0) then s
  else { s with power := { s.power with wakeQ := s.power.wakeQ ++ [e] } }

/-- The sleep state of a unit: 0 awake, else S1 or S2 (R460). Islands go by their numbers, bays from 1000 and deep stores from 2000 on. -/
def State.unitSleep (s : State) (k : Nat) : Nat := (Tab.get (fun _ => (0, 0)) s.power.asleep k).1

/-- A unit leaves its sleep because a reset or a GO takes over (R466). -/
def State.leaveSleep (s : State) (k : Nat) : State := { s with power := { s.power with asleep := Tab.erase k s.power.asleep } }

/-- Whether a unit has a clock as far as sleep goes (R467). -/
def State.awake (s : State) (k : Nat) : Bool := decide (s.power.dev ≠ 3) && decide (s.unitSleep k = 0)

/-- One occurrence of event `e` (R248, R249): OCC counts it; with a route enabled it joins the undelivered occurrences. -/
def State.raise (s : State) (e : Nat) : State :=
  if s.evtOk e then
    let s := (s.xtEvent e).wakeNote e
    let s := s.bump (evtA e) R.EVT_STAT.OCC 1
    if s.bit (evtA e) R.EVT_CFG.HOST_EN || s.bit (evtA e) R.EVT_CFG.ENG_EN then
      let v := s.evt e
      let v' : EvtSt := ⟨v.count + 1, if v.count = 0 then s.counter else v.first, v.last⟩
      (s.setEvt e v').wr (evtA e) R.EVT_STAT.PENDING 1
    else s
  else s

/-- `n` occurrences of an event at once. -/
def State.raiseN (s : State) (e n : Nat) : State :=
  if n = 0 then s
  else
    let s := (s.raise e).bump (evtA e) R.EVT_STAT.OCC (n - 1)
    let v := s.evt e
    if v.count = 0 then s else s.setEvt e { v with count := v.count + (n - 1) }

/-- Raise an event when a condition holds. -/
def State.raiseIf (s : State) (p : Bool) (e : Nat) : State := if p then s.raise e else s

/-- Set a sticky bit; its change from 0 to 1 is one occurrence of event `e` (R551). -/
def State.setFlag (s : State) (a : Nat) (f : Fld) (e : Nat) : State :=
  if s.bit a f then s else (s.wr a f 1).raise e

/-- Set bit `k` of a field of sticky bits; its change from 0 to 1 is one occurrence of event `e` (R551). -/
def State.setBitFlag (s : State) (a : Nat) (f : Fld) (k e : Nat) : State :=
  if (s.rd a f).testBit k then s else (s.wr a f (s.rd a f ||| 2 ^ k)).raise e

/-- Set bit `i` of ALERT_STAT of bay `b`; a change from 0 to 1 of an enabled bit raises event 4b + 2 (R170). -/
def State.alert (s : State) (b i : Nat) : State :=
  let v := s.rd (bayA b) R.ALERT_STAT.ALERT
  if v.testBit i then s
  else (s.wr (bayA b) R.ALERT_STAT.ALERT (v ||| 2 ^ i)).raiseIf ((s.rd (bayA b) R.ALERT_EN.EN).testBit i) (4 * b + 2)

/-! ## Memory bytes (R8, R33) -/

/-- Read a byte. A byte that nothing has written reads 0 (log entry 4). -/
def State.byte (s : State) (a : Nat) : Byte := Tab.get (fun _ => 0) s.mem a

/-- Write a byte. -/
def State.setByte (s : State) (a : Nat) (v : Byte) : State := { s with mem := Tab.put (fun _ => 0) s.mem a v }

/-- Read `n` bytes, least significant first (R8). -/
def State.bytes (s : State) (a : Nat) : Nat → Nat
  | 0 => 0
  | n + 1 => (s.byte a).toNat + 256 * s.bytes (a + 1) n

/-- Write the low `n` bytes of a number, least significant first (R8). -/
def State.setBytes (s : State) (a : Nat) : Nat → Nat → State
  | 0, _ => s
  | n + 1, v => (s.setByte a (BitVec.ofNat 8 v)).setBytes (a + 1) n (v / 256)

/-- Write the bytes of `v` whose enable bit is 1, from byte `a` on. -/
def State.setEnabled (s : State) (a : Nat) : Nat → Nat → Nat → State
  | 0, _, _ => s
  | n + 1, be, v =>
    (if be % 2 = 1 then s.setByte a (BitVec.ofNat 8 v) else s).setEnabled (a + 1) n (be / 2) (v / 256)

/-- The place of byte `off` of bay `b`'s SRAM (R33). -/
def sramA (b off : Nat) : Nat := winA b + off
/-- The place of byte `ca` of memory channel `ch`, above the physical addresses: external memory is held by channel address (R290). -/
def dramA (ch ca : Nat) : Nat := 0x1000000000000 + ch * 0x10000000000 + ca

/-- Keys of stored check bits: a word of bay SRAM, a row of an island store, a word of a deep store, a line of a channel. -/
def chkSram (b w : Nat) : Nat := b * 65536 + w
def chkRow (i st row : Nat) : Nat := 0x1000000 + (i * 16 + st) * 1024 + row
def chkDeep (d w : Nat) : Nat := 0x2000000 + d * 131072 + w
def chkLine (ch line : Nat) : Nat := 0x10000000000 + ch * 0x100000000 + line
/-- Keys of store data: a row of an island store, a word of a deep store. -/
def rowKey (i st row : Nat) : Nat := (i * 16 + st) * 1024 + row
def deepKey (d w : Nat) : Nat := 0x1000000 + d * 131072 + w

/-- The difference between the stored check bits and those of the stored data. -/
def State.diff (s : State) (k : Nat) : Nat := Tab.get (fun _ => 0) s.chk k
/-- Record that difference. -/
def State.setDiff (s : State) (k v : Nat) : State := { s with chk := Tab.put (fun _ => 0) s.chk k v }
/-- The data of a store row or deep-store word. -/
def State.row (s : State) (k : Nat) : Nat := Tab.get (fun _ => 0) s.rows k
/-- Replace it. -/
def State.setRow (s : State) (k v : Nat) : State := { s with rows := Tab.put (fun _ => 0) s.rows k v }

/-! ## The store code (R311) -/

/-- The position of data bit `j` in the code: the (j+1)-th integer from 3 that is no power of two. -/
def codePos (j : Nat) : Nat :=
  if j < 1 then 3 else if j < 4 then j + 4 else if j < 11 then j + 5 else if j < 26 then j + 6 else j + 7

/-- The parity of the low `n` bits. -/
def parity : Nat → Nat → Nat
  | 0, _ => 0
  | n + 1, v => (v % 2 + parity n (v / 2)) % 2

/-- Whether bit `i` belongs to check bit `c`. -/
def inCheck (c j : Nat) : Bool := (codePos j).testBit c

/-- The XOR of the data bits that check bit `c` covers, over `w` data bits. -/
def checkBit (w c v : Nat) : Nat :=
  (List.range w).foldl (fun acc j => if inCheck c j ∧ v.testBit j then 1 - acc else acc) 0

/-- The seven check bits of `w` bits of data. -/
def checkBits (w v : Nat) : Nat :=
  let c := (List.range 6).foldl (fun acc i => acc + checkBit w i v * 2 ^ i) 0
  c + 64 * ((parity w v + parity 6 c) % 2)

/-- The outcome of decoding a stored word: corrected data, CE, UE and the syndrome {e, s}. -/
structure Ecc where
  data : Nat
  ce : Bool
  ue : Bool
  syn : Nat
  deriving DecidableEq, Repr

/-- Decode `w` bits of stored data whose stored check bits differ from the recomputed ones by `d`. -/
def eccDecode (w data d : Nat) : Ecc :=
  let s := d % 64
  let e := parity 7 d
  if s = 0 ∧ e = 0 then ⟨data, false, false, 0⟩
  else if e = 0 then ⟨data, false, true, s⟩
  else if s = 0 ∨ s = 1 ∨ s = 2 ∨ s = 4 ∨ s = 8 ∨ s = 16 ∨ s = 32 then ⟨data, true, false, 64 + s⟩
  else
    match (List.range w).find? (fun j => decide (codePos j = s)) with
    | some j => ⟨data ^^^ 2 ^ j, true, false, 64 + s⟩
    | none => ⟨data, false, true, 64 + s⟩

/-! ## Error counters and logs (R315, R316, R322) -/

/-- Write an entry into the error log whose registers start at `a`; wrapping raises event 604 + q (R316). -/
def State.logEntry (s : State) (a q w0 w1 : Nat) : State :=
  let n := s.rd a R.LOG_STAT.NEXT
  let f := s.rd a R.LOG_STAT.FILLED
  let s := if n = 0 ∧ f = 16 then s.setFlag a R.LOG_STAT.LOG_WRAPPED (604 + q) else s
  let s := s.wr a (R.LOG_W.WORD.shift (16 * n)) w0
  let s := s.wr a (R.LOG_W.WORD.shift (16 * n + 4)) w1
  let s := s.wr a (R.LOG_W.WORD.shift (16 * n + 8)) (nsOf (s.nowQ q))
  let s := s.wr a (R.LOG_W.WORD.shift (16 * n + 12)) (secOf (s.nowQ q))
  (s.wr a R.LOG_STAT.NEXT ((n + 1) % 16)).wr a R.LOG_STAT.FILLED (min (f + 1) 16)

/-- Count and log an error of the store group of quadrant `q` (R80, R315, R316). -/
def State.storeError (s : State) (q kind unit row : Nat) (ue write : Bool) (syn : Nat) : State :=
  let a := sgA q
  let w0 := kind * 2 ^ 30 + unit % 2048 * 2 ^ 19 + row % 131072 * 4
  let w1 := (if ue then 2 ^ 31 else 0) + (if write then 2 ^ 30 else 0) + syn % 128 * 2 ^ 23
  let s :=
    if ue then (s.bump a R.UE_CNT.COUNT 1).raise (592 + q)
    else
      let s := s.bump a R.CE_CNT.COUNT 1
      let t := s.rd a R.CE_THR.THR
      if t ≠ 0 ∧ t ≤ s.rd a R.CE_CNT.COUNT ∧ !s.sgf q then (s.setSgf q true).raise (596 + q) else s
  s.logEntry a q w0 w1

/-! ## Bay SRAM (R133, R178 to R182) -/

/-- Read the 32-bit word `w` of bay `b`'s SRAM through its code; a corrected or uncorrectable error is counted and logged. -/
def State.sramWord (s : State) (b w : Nat) (write : Bool) : Ecc × State :=
  let r := eccDecode 32 (s.bytes (sramA b (4 * w)) 4) (s.diff (chkSram b w))
  (r, if r.ce || r.ue then s.storeError (b / 32) 2 (b % 32) w r.ue write r.syn else s)

/-- Store a whole word of bay SRAM; its check bits become those of the data. -/
def State.setSramWord (s : State) (b w v : Nat) : State :=
  (s.setBytes (sramA b (4 * w)) 4 v).setDiff (chkSram b w) 0

/-- Read `n` words of bay SRAM from word `w` on: the data as one number, whether one was uncorrectable, and the state with every error
counted and logged. -/
def State.sramWords (s : State) (b w : Nat) : Nat → Nat × Bool × State
  | 0 => (0, false, s)
  | n + 1 =>
    let r := s.sramWord b w false
    let rest := r.2.sramWords b (w + 1) n
    (r.1.data + 2 ^ 32 * rest.1, r.1.ue || rest.2.1, rest.2.2)

/-- Read `n` bytes of bay SRAM from `off` on. -/
def State.sramRead (s : State) (b off n : Nat) : Nat × Bool × State :=
  let r := s.sramWords b (off / 4) ((off + n + 3) / 4 - off / 4)
  (r.1 / 2 ^ (8 * (off % 4)) % 2 ^ (8 * n), r.2.1, r.2.2)

/-- A write to word `w` of bay `b`'s SRAM ends every reservation on it (R193). -/
def State.breakResv (s : State) (b w : Nat) : State :=
  (List.range 32).foldl
    (fun s c => if (s.ctx (b * 32 + c)).resv = some w then s.setCtx (b * 32 + c) { s.ctx (b * 32 + c) with resv := none } else s) s

/-- The four bytes of `old` with those whose enable bit in `be` is 1 taken from `new`. -/
def mergeBytes (n be old new : Nat) : Nat :=
  match n with
  | 0 => 0
  | n + 1 => (if be % 2 = 1 then new % 256 else old % 256) + 256 * mergeBytes n (be / 2) (old / 256) (new / 256)

/-- Write one word of bay SRAM under four byte enables. A whole word always succeeds; a partial write reads the word first, and an
uncorrectable error leaves it unchanged (R79, R182). Answers whether such an error was found. Before the release opens the bay's SRAM,
writes are discarded (R163). -/
def State.sramPut (s : State) (b w be v : Nat) : Bool × State :=
  if be % 16 = 0 ∨ (s.bay b).sramOpen = false then (false, s)
  else if be % 16 = 15 then (false, (s.setSramWord b w v).breakResv b w)
  else
    let r := s.sramWord b w true
    if r.1.ue then (true, r.2) else (false, (r.2.setSramWord b w (mergeBytes 4 be r.1.data v)).breakResv b w)

/-- Write `n` words of bay SRAM from word `w` on under byte enables. -/
def State.sramPuts (s : State) (b w : Nat) : Nat → Nat → Nat → Bool × State
  | 0, _, _ => (false, s)
  | n + 1, be, v =>
    let r := s.sramPut b w be v
    let rest := r.2.sramPuts b (w + 1) n (be / 16) (v / 2 ^ 32)
    (r.1 || rest.1, rest.2)

/-- Write the low `n` bytes of `v` to bay SRAM at `off`, under byte enables `be` (bit 0 for the first byte). -/
def State.sramWrite (s : State) (b off n be v : Nat) : Bool × State :=
  s.sramPuts b (off / 4) ((off + n + 3) / 4 - off / 4) (be % 2 ^ n * 2 ^ (off % 4)) (v % 2 ^ (8 * n) * 2 ^ (8 * (off % 4)))

/-- All byte enables of an access of `n` bytes. -/
def allBytes (n : Nat) : Nat := 2 ^ n - 1

/-! ## Trace packets (R505, R506) -/

/-- Change the debug side of an engine. -/
def State.modDbg (s : State) (b : Nat) (f : DbgSt → DbgSt) : State := s.setDbg b (f (s.dbg b))

/-- Stage a trace packet of bay `b`; a packet that finds the staging FIFO full is dropped and counted. -/
def State.tracePkt (s : State) (b kind size c port data : Nat) : State :=
  if s.bit (trcA (b / 32)) R.TRC_CFG.EN then
    let v := s.dbg b
    if v.stage.length ≥ 8 then (s.bump (dbgEngA b) R.STIM_DROP.COUNT 1).setDbg b { v with loss := true }
    else s.setDbg b { v with stage := v.stage ++ [⟨stampOf (s.nowQ (b / 32)), kind, v.loss, size, b, c, port, data⟩], loss := false }
  else s

/-- The packet of a halt (kind 1), a release (2) or a fault (3), with TRC_STATE = 1. -/
def State.traceState (s : State) (b kind c port data : Nat) : State :=
  if s.bit (dbgEngA b) R.DBG_ENG_CTRL.TRC_STATE then s.tracePkt b kind 0 c port data else s

/-- The PC of a context. -/
def State.pcOf (s : State) (b c : Nat) : Nat := s.rd (ctxA b c) R.CTX_PC.PC * 4

end Sys2Proof.Machine
end

