-- ==== Sys2Proof/Machine/Flags.lean ====
section
/-! DEFINITION. Machine/Flags.lean: the fixed-point arithmetic that slices and engines share, and its flags MSAT, AV and SAT (R66 to R69,
spec/02_logic_blocks.md). -/
namespace Sys2Proof.Machine
open Sys2Proof

/-- The product of two 16-bit operands extended to 40 bits, and whether it saturated (R66). `mmode` is 0 SS, 1 UU, 2 SU. -/
def product (mmode : Nat) (frac : Bool) (a b : BitVec 16) : BitVec 40 × Bool :=
  match mmode with
  | 1 => (BitVec.ofNat 40 (a.toNat * b.toNat), false)
  | 2 => (BitVec.ofInt 40 (a.toInt * (b.toNat : Int)), false)
  | _ =>
    if frac then
      if a = 0x8000 ∧ b = 0x8000 then (0x7FFFFFFF, true) else (BitVec.ofInt 40 (2 * (a.toInt * b.toInt)), false)
    else (BitVec.ofInt 40 (a.toInt * b.toInt), false)

/-- X + P, or X − P, modulo 2^40, and whether the exact result lies outside the accumulator's range (R67). -/
def accumulate (sub : Bool) (x p : BitVec 40) : BitVec 40 × Bool :=
  let exact := if sub then x.toInt - p.toInt else x.toInt + p.toInt
  (BitVec.ofInt 40 exact, decide (exact < -549755813888 ∨ 549755813887 < exact))

/-- The shifted and rounded value of an accumulator (R67). -/
def shifted (acc : BitVec 40) (n : Nat) (rnd : Bool) : Int :=
  if rnd ∧ 1 ≤ n then (acc.toInt + ((2 ^ (n - 1) : Nat) : Int)) / ((2 ^ n : Nat) : Int) else acc.toInt / ((2 ^ n : Nat) : Int)

/-- The bounds of a store of width 16 or 32, signed or unsigned (R67). -/
def storeMin (wide uns : Bool) : Int := if uns then 0 else if wide then -2147483648 else -32768
def storeMax (wide uns : Bool) : Int := if uns then (if wide then 4294967295 else 65535) else (if wide then 2147483647 else 32767)

/-- The store unit: OUT and whether saturation changed the value (R67). A 16-bit result fills OUT[31:16] with its sign, or zero. -/
def storeUnit (acc : BitVec 40) (n : Nat) (rnd wide uns : Bool) : BitVec 32 × Bool :=
  let v := shifted acc n rnd
  if v < storeMin wide uns then (BitVec.ofInt 32 (storeMin wide uns), true)
  else if storeMax wide uns < v then (BitVec.ofInt 32 (storeMax wide uns), true)
  else (BitVec.ofInt 32 v, false)

end Sys2Proof.Machine
end

