-- ==== Sys2Proof/Machine/Operands.lean ====
section
/-! DEFINITION. Machine/Operands.lean: the operands of engine instructions: the rotating window, pointers and their post-modify, accumulators,
special registers, and the words that instructions have (R171 to R177, R187, R188, spec/05_engine_isa.md). -/
namespace Sys2Proof.Machine
open Sys2Proof

/-! ## General registers (R172) -/

/-- The physical register that `wn` names under the rotation base `rb` (R172). -/
def physReg (rb n : Nat) : Nat := if n % 32 < 16 then n % 32 else 16 + (n % 32 - 16 + rb) % 16

/-- Read physical register `k`. -/
def CtxSt.phys (v : CtxSt) (k : Nat) : BitVec 32 := Tab.get (fun _ => 0) v.w k
/-- Write physical register `k`. -/
def CtxSt.setPhys (v : CtxSt) (k : Nat) (x : BitVec 32) : CtxSt := { v with w := Tab.put (fun _ => 0) v.w k x }
/-- Read `wn`. -/
def CtxSt.getW (v : CtxSt) (n : Nat) : BitVec 32 := v.phys (physReg v.rb.toNat n)
/-- Write `wn`. -/
def CtxSt.setW (v : CtxSt) (n : Nat) (x : BitVec 32) : CtxSt := v.setPhys (physReg v.rb.toNat n) x
/-- Advance the window by `k` steps (R172). -/
def CtxSt.rotate (v : CtxSt) (k : Nat) : CtxSt := { v with rb := v.rb - BitVec.ofNat 4 k }

/-! ## Accumulators, pointers, lengths and steps (R171, R173, R174) -/

/-- Read accumulator `ai`. -/
def CtxSt.getA (v : CtxSt) (i : Nat) : BitVec 40 := Tab.get (fun _ => 0) v.a (i % 4)
/-- Write accumulator `ai`. -/
def CtxSt.setA (v : CtxSt) (i : Nat) (x : BitVec 40) : CtxSt := { v with a := Tab.put (fun _ => 0) v.a (i % 4) x }
/-- Read pointer `pi`. -/
def CtxSt.getP (v : CtxSt) (i : Nat) : BitVec 32 := Tab.get (fun _ => 0) v.p (i % 8)
/-- Write pointer `pi`. -/
def CtxSt.setP (v : CtxSt) (i : Nat) (x : BitVec 32) : CtxSt := { v with p := Tab.put (fun _ => 0) v.p (i % 8) x }
/-- The modulo length of pointer `pi`. -/
def CtxSt.getM (v : CtxSt) (i : Nat) : BitVec 24 := Tab.get (fun _ => 0) v.m (i % 8)
/-- The step of pointer `pi`. -/
def CtxSt.getS (v : CtxSt) (i : Nat) : BitVec 16 := Tab.get (fun _ => 0) v.st (i % 8)

/-- The smallest `k` with 2^k ≥ `m`, for m up to 2^24. -/
def log2up (m : Nat) : Nat := ((List.range 25).find? (fun k => decide (m ≤ 2 ^ k))).getD 25

/-- A pointer advanced by `d` under the linear or modulo rule with length `m` (R173). -/
def advancePtr (p : BitVec 32) (m : Nat) (d : Int) : BitVec 32 :=
  if m = 0 then BitVec.ofInt 32 ((p.toNat : Int) + d)
  else
    let k := log2up m
    let b := p.toNat / 2 ^ k * 2 ^ k
    BitVec.ofNat 32 (b + (((p.toNat - b : Nat) : Int) + d).emod (m : Int) |>.toNat)

/-- The low `n` bits of a number in reverse order. -/
def reverseBits : Nat → Nat → Nat
  | 0, _ => 0
  | n + 1, v => v % 2 * 2 ^ n + reverseBits n (v / 2)

/-- The bit-reversed post-modify (R174); none where m is no 2^k, s no 2^j, or j < k ≤ 24 fails. -/
def bitReverse (p : BitVec 32) (m : Nat) (s : BitVec 16) : Option (BitVec 32) :=
  let k := log2up m
  let j := log2up s.toNat
  if 0 < s.toInt ∧ 0 < m ∧ m = 2 ^ k ∧ s.toNat = 2 ^ j ∧ j < k ∧ k ≤ 24 then
    let b := p.toNat / 2 ^ k * 2 ^ k
    let o := p.toNat - b
    let f := o / 2 ^ j
    let n := k - j
    let f' := reverseBits n ((reverseBits n f + 1) % 2 ^ n)
    some (BitVec.ofNat 32 (b + f' * 2 ^ j + o % 2 ^ j))
  else none

/-- Whether pointer `pi` is post-modified in bit-reversed order (R176). -/
def CtxSt.reversed (v : CtxSt) (i : Nat) : Bool := v.mode.getLsbD (8 + i % 8)

/-- The post-modify of pointer `pi` (R173, R174); none raises ADDR_MODE. -/
def CtxSt.modify (v : CtxSt) (i : Nat) : Option (BitVec 32) :=
  if v.reversed i then bitReverse (v.getP i) (v.getM i).toNat (v.getS i)
  else some (advancePtr (v.getP i) (v.getM i).toNat (v.getS i).toInt)

/-- Set sticky flags (R68, R177): bit 0 MSAT, 1 AV, 2 SAT. -/
def CtxSt.stick (v : CtxSt) (bit : Nat) (on : Bool) : CtxSt :=
  if on then { v with flags := v.flags ||| BitVec.ofNat 3 (2 ^ bit) } else v

/-! ## Arithmetic of the ALU group (R190, R191) -/

/-- A number of leading zero bits (R190). -/
def leadingZeros (x : BitVec 32) : Nat := ((List.range 32).find? (fun k => x.getLsbD (31 - k))).getD 32

/-- A shift or rotation by 0 to 31: 0 SHL, 1 SHR, 2 SAR, 3 ROR (R190, R191). -/
def shiftBy (kind : Nat) (x : BitVec 32) (n : Nat) : BitVec 32 :=
  match kind with
  | 0 => x <<< n
  | 1 => x >>> n
  | 2 => x.sshiftRight n
  | _ => x.rotateRight n

/-- One if a condition holds, else zero. -/
def oneIf (p : Bool) : BitVec 32 := if p then 1 else 0

/-- The condition of a Bcc by its code (R197). -/
def branchCond (cond : Nat) (x y : BitVec 32) : Bool :=
  match cond with
  | 0 => x == y
  | 1 => x != y
  | 2 => x.slt y
  | 3 => !x.slt y
  | 4 => x.ult y
  | _ => !x.ult y

/-! ## Instruction words (R187, R188) -/

/-- A word of format R. -/
def wordR (op wd wa wb func : Nat) : Nat := op * 2 ^ 26 + wd % 32 * 2 ^ 21 + wa % 32 * 2 ^ 16 + wb % 32 * 2 ^ 11 + func
/-- A word of format I. -/
def wordI (op wd wa : Nat) (imm : BitVec 16) : Nat := op * 2 ^ 26 + wd % 32 * 2 ^ 21 + wa % 32 * 2 ^ 16 + imm.toNat
/-- A word of format P. -/
def wordP (op w p size : Nat) (x pm : Bool) (off : BitVec 14) : Nat :=
  op * 2 ^ 26 + w % 32 * 2 ^ 21 + p % 8 * 2 ^ 18 + size % 4 * 2 ^ 16 + (if x then 2 ^ 15 else 0) + (if pm then 2 ^ 14 else 0) + off.toNat

end Sys2Proof.Machine
end

