-- ==== Sys2Proof/Machine/Bays.lean ====
section
/-! DEFINITION. Machine/Bays.lean: bays and instrument pins (spec/04_bays.md): pin drive, comparators and deglitching, edge capture,
stuck detection, the ADC, reflex rules, frame boundaries, the watchdog, the bay states and the bank supply. -/
namespace Sys2Proof.Machine
open Sys2Proof

/-! ## Bay state -/

/-- BAY_STATE.STATE (R131): 0 RUN, 1 OFFLINE, 2 RESET, 3 HOLD. -/
def State.bayState (s : State) (b : Nat) : Nat := s.rd (bayA b) R.BAY_STATE.STATE

/-- Whether the engine of bay `b` is halted for debug (R495). -/
def State.halted (s : State) (b : Nat) : Bool := s.bit (dbgEngA b) R.DBG_ENG_STAT.HALTED

/-- Whether the bay's front end works: the bay is present and in RUN, and its engine is not halted (R131, R162). -/
def State.capturing (s : State) (b : Nat) : Bool := s.bayOk b && decide (s.bayState b = 0) && !s.halted b

/-- Whether the bay's registers take a write: it is present and not in RESET, where its port answers every request at once (R47, R130). -/
def State.bayTakes (s : State) (b : Nat) : Bool := s.bayOk b && decide (s.bayState b ≠ 2)

/-- Change the bay's own state. -/
def State.modBay (s : State) (b : Nat) (f : BaySt → BaySt) : State := s.setBay b (f (s.bay b))

/-- Pin `k` of bay `b`. -/
def State.pin (s : State) (b k : Nat) : PinSt := Tab.get (fun _ => PinSt.init) (s.bay b).pins k

/-- Replace pin `k` of bay `b`. -/
def State.setPin (s : State) (b k : Nat) (p : PinSt) : State :=
  s.modBay b fun v => { v with pins := Tab.put (fun _ => PinSt.init) v.pins k p }

/-- Whether the VCCIO supply of the bank that holds the pins of bay `b` is good (R135, R537, R539). -/
def State.bankOk (s : State) (b : Nat) : Bool :=
  s.bit (ioBankA (b / 32)) (R.IO_BANKSTAT.VCCIO_OK.shift (4 * ((b % 32) / 4)))

/-- Whether boundaries are generated (R371). -/
def State.framesOn (s : State) : Bool := s.timeOk && s.bit (frA 0) R.FR_CTRL.EN && decide (s.power.dev ≠ 3)

/-! ## Zones and drive (R136, R137, R140, R155) -/

/-- The filtered HI output of a pin. -/
def State.zoneHi (s : State) (b k : Nat) : Bool := (s.rd (bayA b) R.PIN_ZONE.HI).testBit k
/-- The filtered LO output of a pin. -/
def State.zoneLo (s : State) (b k : Nat) : Bool := (s.rd (bayA b) R.PIN_ZONE.LO).testBit k
/-- The pin's zone [HI, LO] (R140). -/
def State.zone (s : State) (b k : Nat) : Nat := (if s.zoneHi b k then 2 else 0) + (if s.zoneLo b k then 1 else 0)

/-- `n` with bit `i` set to `v`. -/
def putBit (n i : Nat) (v : Bool) : Nat := if n.testBit i = v then n else n ^^^ 2 ^ i

/-- Set the filtered output of a comparator. -/
def State.setZone (s : State) (b k : Nat) (hi val : Bool) : State :=
  if hi then s.wr (bayA b) R.PIN_ZONE.HI (putBit (s.rd (bayA b) R.PIN_ZONE.HI) k val)
  else s.wr (bayA b) R.PIN_ZONE.LO (putBit (s.rd (bayA b) R.PIN_ZONE.LO) k val)

/-- The lowest-numbered rule that acts on pin `k` with an action other than NONE (R155). -/
def State.ruleOn (s : State) (b k : Nat) : Option Nat :=
  (List.range 16).find? fun r =>
    (s.bay b).acting.testBit r && decide (s.rd (rfxA b r) R.RFX_ACT.TARGET = k) && decide (s.rd (rfxA b r) R.RFX_ACT.ACTION ≠ 0)

/-- The (VAL, OE) pair of a pin: its drive source, replaced by the acting rule's action (R137, R155). -/
def State.pinPair (s : State) (b k : Nat) : Bool × Bool :=
  let src : Bool × Bool :=
    if s.rd (pinA b k) R.PIN_MODE.DSRC = 0 then
      ((s.rd (bayA b) R.PIN_OUT.VAL).testBit k, (s.rd (bayA b) R.PIN_OUT.OE).testBit k)
    else ((s.bay b).lines.testBit k, (s.bay b).lines.testBit (10 + k))
  if s.rd (pinA b k) R.PIN_MODE.RFX_EN = 1 then
    match s.ruleOn b k with
    | some r =>
      match s.rd (rfxA b r) R.RFX_ACT.ACTION with
      | 1 => (false, true)
      | 2 => (true, true)
      | _ => (src.1, false)
    | none => src
  else src

/-- What the ball of a pin is driven to (R131, R136, R163, R537). -/
def State.ballOf (s : State) (b k : Nat) : Drive :=
  if s.bankOk b = false then .released
  else if s.bayState b = 0 ∨ (s.bayState b = 3 ∧ (s.bay b).pinsLive) then
    let p := s.pinPair b k
    match s.rd (pinA b k) R.PIN_MODE.MODE with
    | 2 => if p.2 then (if p.1 then .high else .low) else .released
    | 3 => if p.2 && !p.1 then .low else .released
    | 4 => if p.2 && p.1 then .high else .released
    | _ => .released
  else .hold

/-- Drive every ball of the bay again; while the engine is halted the balls keep their last driven state (R162) as long as their bank has its
supply (R537). -/
def State.drivePins (s : State) (b : Nat) : State :=
  if s.halted b ∧ s.bayState b = 0 ∧ s.bankOk b = true then s
  else (List.range 10).foldl (fun s k => s.setPin b k { s.pin b k with drive := s.ballOf b k }) s

/-! ## Capture records (R142 to R147, R158) -/

/-- The frame numbers under which a capture at instant `t` is recorded, and whether it lies in an overlap interval (R158). -/
def State.framesAt (s : State) (b : Nat) (t : Int) : List Nat × Bool :=
  let n := s.rd (bayA b) R.FRAME_NO.FRAME_NO
  let half : Int := ((s.rd (bayA b) R.FRAME_CFG.OVL : Nat) : Int) * 2621440
  let halfB : Int := (((s.bay b).lastOvl : Nat) : Int) * 2621440
  let before := match (s.bay b).lastB with
    | some lb => decide (t < lb + halfB ∧ lb - halfB ≤ t)
    | none => false
  let after := match s.nextBQ (b / 32) with
    | some (nb, _) => s.framesOn && decide (nb - half ≤ t ∧ t < nb + half)
    | none => false
  if before then ([(n + 2 ^ 32 - 1) % 2 ^ 32, n], true)
  else if after then ([n, (n + 1) % 2 ^ 32], true)
  else
    match (s.bay b).lastB with
    | some lb => if t < lb then ([(n + 2 ^ 32 - 1) % 2 ^ 32], false) else ([n], false)
    | none => ([n], false)

/-- The number of records in the capture ring, 0 when it is off (R166). -/
def State.capLen (s : State) (b : Nat) : Nat :=
  let l := s.rd (bayA b) R.CAP_RING.LEN
  if l = 0 then 0 else 2 ^ (min (max l 4) 14)

/-- Stage a record, or drop it and count it when the staging FIFO is full (R147). -/
def State.stageRecord (s : State) (b : Nat) (r : CapRecord) : State :=
  if s.capLen b = 0 then s
  else if (s.bay b).stage.length ≥ 64 then
    ((s.bump (bayA b) R.CAP_DROP.DROP 1).modBay b fun v => { v with lossCap := true }).alert b 1
  else s.modBay b fun v => { v with stage := v.stage ++ [r] }

/-- Record one event of the bay: once, or twice in an overlap interval, with one sequence number (R145, R158). -/
def State.record (s : State) (b kind pin edge zone : Nat) (stamp : Int) (settle : Bool) (ovr glitch : Nat) (once : Bool) : State :=
  let fr := s.framesAt b stamp
  let seq := (s.bay b).seq
  let s := s.modBay b fun v => { v with seq := (v.seq + 1) % 65536 }
  let frames := if once then [s.rd (bayA b) R.FRAME_NO.FRAME_NO] else fr.1
  frames.foldl
    (fun s n => s.stageRecord b ⟨stampOf stamp, n % 65536, kind, pin, edge, zone, fr.2 && !once, settle, seq, min ovr 255, min glitch 255⟩) s

/-- Record an event of pin `k`: OVR and GLITCH count from its previous record on (R145). -/
def State.pinRecord (s : State) (b k kind edge : Nat) (stamp : Int) (settle : Bool) : State :=
  let p := s.pin b k
  (s.record b kind k edge (s.zone b k) stamp settle p.supp p.glitch false).setPin b k { p with supp := 0, glitch := 0 }

/-- RESYNC records, with the current zone, for every pin of the bay that is not OFF (R162, R165); none while the bank has lost its supply (R537). -/
def State.resyncPins (s : State) (b : Nat) : State :=
  (List.range 10).foldl
    (fun s k => if s.rd (pinA b k) R.PIN_MODE.MODE = 0 ∨ s.bankOk b = false then s else s.pinRecord b k 1 0 (s.nowQ (b / 32)) false) s

/-! ## Reflex rules (R153 to R155) -/

/-- The value of a literal (R153); `frame` is the FRAME literal. -/
def State.literal (s : State) (b : Nat) (frame : Bool) (sel : Nat) : Bool :=
  if sel < 10 then s.zoneHi b sel
  else if sel < 20 then s.zoneLo b (sel - 10)
  else if sel = 20 then s.adcOk && decide (sext 16 (s.rd (bayA b) R.ADC_LAST.SAMPLE) > sext 16 (s.rd (bayA b) R.ADC_THR.HI))
  else if sel = 21 then s.adcOk && decide (sext 16 (s.rd (bayA b) R.ADC_LAST.SAMPLE) < sext 16 (s.rd (bayA b) R.ADC_THR.LO))
  else if sel < 26 then (s.bay b).lines.testBit (20 + (sel - 22))
  else if sel < 30 then (s.rd (bayA b) R.EFLAG.EF).testBit (sel - 26)
  else if sel = 30 then frame
  else true

/-- The condition of rule `r`: the AND of its enabled slots; never 1 with no slot enabled (R154). -/
def State.ruleCond (s : State) (b : Nat) (frame : Bool) (r : Nat) : Bool :=
  let slots := [s.rd (rfxA b r) R.RFX_COND.SLOT0, s.rd (rfxA b r) R.RFX_COND.SLOT1,
    s.rd (rfxA b r) R.RFX_COND.SLOT2, s.rd (rfxA b r) R.RFX_COND.SLOT3]
  slots.any (fun v => v.testBit 6) && slots.all (fun v => !v.testBit 6 || (s.literal b frame (v % 32) != v.testBit 5))

/-- A rule begins to act: its REFLEX record and its alert (R155). -/
def State.ruleBegins (s : State) (b r : Nat) : State :=
  let a := rfxA b r
  let t := s.rd a R.RFX_ACT.TARGET
  let zone := if s.rd a R.RFX_ACT.ACTION = 0 ∨ 10 ≤ t then 0 else s.zone b t
  let s := if s.bit a R.RFX_ACT.REC then s.record b 4 r 0 zone (s.nowQ (b / 32)) false 0 0 false else s
  if s.bit a R.RFX_ACT.ALERT then s.alert b 4 else s

/-- Evaluate one rule in one capture cycle (R154, R155). -/
def State.evalRule (s : State) (b : Nat) (frame : Bool) (r : Nat) : State :=
  let c := s.ruleCond b frame r
  let conds := s.rd (bayA b) R.RFX_STATE.COND
  let latched := s.rd (bayA b) R.RFX_STATE.LATCHED
  let latch := s.bit (rfxA b r) R.RFX_ACT.LATCH
  let rise := c && !conds.testBit r && !(s.bay b).fresh
  let latched' := if latch ∧ rise then latched ||| 2 ^ r else latched
  let acts := if latch then latched'.testBit r else c
  let begins := acts && !(s.bay b).acting.testBit r
  let s := s.wr (bayA b) R.RFX_STATE.COND (putBit conds r c)
  let s := s.wr (bayA b) R.RFX_STATE.LATCHED latched'
  let s := s.modBay b fun v => { v with acting := putBit v.acting r acts }
  if begins then s.ruleBegins b r else s

/-- Evaluate every rule in one capture cycle, and drive the pins (R153 to R155). -/
def State.reflex (s : State) (b : Nat) (frame : Bool) : State :=
  if s.capturing b then
    (((List.range 16).foldl (fun s r => s.evalRule b frame r) s).modBay b fun v => { v with fresh := false }).drivePins b
  else s

/-! ## Stuck detection (R148) -/

/-- Whether the pin's filtered zone lies in its stuck zone. -/
def State.inStuckZone (s : State) (b k : Nat) : Bool :=
  match s.rd (pinA b k) R.PIN_STK.ZONE with
  | 0 => false
  | 1 => decide (s.zone b k = 2)
  | 2 => decide (s.zone b k = 1)
  | _ => decide (s.zone b k ≠ 0)

/-- Start the stuck timer on entry to the stuck zone, clear it on leaving. -/
def State.stuckFollow (s : State) (b k : Nat) : State :=
  let p := s.pin b k
  if s.inStuckZone b k then
    if p.stuckOn then s else s.setPin b k { p with stuckOn := true, stuckAt := (s.nowQ (b / 32)) }
  else s.setPin b k { p with stuckOn := false }

/-- Start the stuck timer afresh at this instant, or clear it when the zone is not the stuck zone. -/
def State.stuckRestart (s : State) (b k : Nat) : State :=
  s.setPin b k { s.pin b k with stuckOn := s.inStuckZone b k, stuckAt := (s.nowQ (b / 32)) }

/-! ## Comparators (R139 to R144) -/

/-- Whether the edge is enabled: EDGE_EN bit 0 HI rising, 1 HI falling, 2 LO rising, 3 LO falling (R142). -/
def edgeCode (hi val : Bool) : Nat := (if hi then 0 else 2) + (if val then 0 else 1)

/-- Accept a comparator change: zone outputs, dead time, capture under the settings in force at its crossing, stuck detection and reflex rules (R141,
R144, R159). -/
def State.accept (s : State) (b k : Nat) (hi : Bool) (c : Cross) : State :=
  let s := s.setZone b k hi c.val
  let p := s.pin b k
  let p := if hi then { p with pendHi := none } else { p with pendLo := none }
  let s :=
    if (if hi then p.deadHi else p.deadLo).isSome then
      ((s.setPin b k { p with supp := p.supp + 1 }).bump (pinA b k) R.PIN_CNT.OVR 1).alert b 3
    else
      let s := s.setPin b k (if hi then { p with deadHi := some c.val } else { p with deadLo := some c.val })
      if c.en.testBit (edgeCode hi c.val) then
        s.pinRecord b k 0 (edgeCode hi c.val) c.stamp c.settle
      else s
  (s.stuckFollow b k).reflex b false

/-- Whether the pin's comparators are on (R136, R537). -/
def State.compOn (s : State) (b k : Nat) : Bool :=
  s.capturing b && s.bankOk b && decide (k < 10) && decide (s.rd (pinA b k) R.PIN_MODE.MODE ≠ 0)

/-- THRESHOLD_CROSSING (R140, R141): the raw output changes at this nanosecond plus `frac` × 2^-8 ns. A change that ends before the
filter accepts it is a removed pulse and adds 1 to GLITCH; with the filter off a waiting change is accepted first. While the comparators are
off, the change only moves the values that they will take from the ball (R136). -/
def execThresholdCrossing (b k : Nat) (hi val : Bool) (frac : Nat) (s : State) : Host.Outcome State Fault Refusal :=
  .next <|
    if s.compOn b k && ((if hi then (s.pin b k).rawHi else (s.pin b k).rawLo) != val) then
      let stamp := stampOf (s.nowQ (b / 32)) + ((frac % 256 : Nat) : Int) * 256
      let settle := match (s.pin b k).thrAt with
        | some c => decide (s.counter < c + 50)
        | none => false
      let cross : Cross := ⟨val, stamp, settle, s.rd (pinA b k) R.PIN_FILT.DGL, s.rd (pinA b k) R.PIN_FILT.EDGE_EN⟩
      let pend := if hi then (s.pin b k).pendHi else (s.pin b k).pendLo
      let setRaw := fun (p : PinSt) => if hi then { p with rawHi := val } else { p with rawLo := val }
      let setPend := fun (p : PinSt) (c : Option Cross) => if hi then { p with pendHi := c } else { p with pendLo := c }
      match pend with
      | some c =>
        if c.dgl = 0 then
          let s := s.accept b k hi c
          s.setPin b k (setPend (setRaw (s.pin b k)) (some cross))
        else
          let p := setPend (setRaw (s.pin b k)) none
          (s.setPin b k { p with glitch := p.glitch + 1 }).bump (pinA b k) R.PIN_CNT.GLITCH 1
      | none => s.setPin b k (setPend (setRaw (s.pin b k)) (some cross))
    else if s.bayOk b && decide (k < 10) then
      s.setPin b k (if hi then { s.pin b k with rawHi := val } else { s.pin b k with rawLo := val })
    else s

/-- DEGLITCH_ACCEPT (R141): a change that has persisted for DGL is accepted with its original stamp. -/
def execDeglitchAccept (b k : Nat) (hi : Bool) (s : State) : Host.Outcome State Fault Refusal :=
  .next <|
    if s.compOn b k then
      match (if hi then (s.pin b k).pendHi else (s.pin b k).pendLo) with
      | some c => s.accept b k hi c
      | none => s
    else s

/-- DEAD_TIME_END (R144): when the output differs from its value after the edge that began the dead time, a RESYNC record is written. -/
def execDeadTimeEnd (b k : Nat) (hi : Bool) (s : State) : Host.Outcome State Fault Refusal :=
  .next <|
    if s.compOn b k then
      match (if hi then (s.pin b k).deadHi else (s.pin b k).deadLo) with
      | some v =>
        let p := s.pin b k
        let s := s.setPin b k (if hi then { p with deadHi := none } else { p with deadLo := none })
        if (if hi then s.zoneHi b k else s.zoneLo b k) = v then s else s.pinRecord b k 1 0 (s.nowQ (b / 32)) false
      | none => s
    else s

/-! ## The capture ring (R145, R147) -/

/-- The 16 bytes of a capture record as one number (R145). -/
def CapRecord.pack (r : CapRecord) (loss : Bool) : Nat :=
  let w0 := nsOf r.stamp
  let w1 := fracOf r.stamp / 256 * 2 ^ 24 + secOf r.stamp % 2 ^ 24
  let w2 := r.frame % 65536 * 65536 + r.kind % 16 * 4096 + r.pin % 16 * 256 + (if r.kind = 0 then r.edge % 4 * 64 else 0) + r.zone % 4 * 16
    + (if r.overlap then 8 else 0) + (if loss then 4 else 0) + (if r.settle then 2 else 0)
  let w3 := r.seq % 65536 * 65536 + min r.ovr 255 * 256 + min r.glitch 255
  w0 + 2 ^ 32 * w1 + 2 ^ 64 * w2 + 2 ^ 96 * w3

/-- CAPTURE_RECORD_STORE (R147): the oldest staged record goes to the ring, or is dropped and counted when the ring is full. -/
def execCaptureRecordStore (b : Nat) (s : State) : Host.Outcome State Fault Refusal :=
  .next <|
    match (s.bay b).stage with
    | [] => s
    | r :: rest =>
      let n := s.capLen b
      let s := s.modBay b fun v => { v with stage := rest }
      let wr := s.rd (bayA b) R.CAP_WR.WR
      if n = 0 then s
      else if (wr + 1) % n = s.rd (bayA b) R.CAP_RD.RD then
        ((s.bump (bayA b) R.CAP_DROP.DROP 1).modBay b fun v => { v with lossCap := true }).alert b 1
      else
        let at_ := (s.rd (bayA b) R.CAP_RING.BASE * 16 + 16 * (wr % n)) % 0x40000
        let s := (s.sramWrite b at_ 16 (allBytes 16) (r.pack (s.bay b).lossCap)).2
        (s.modBay b fun v => { v with lossCap := false }).wr (bayA b) R.CAP_WR.WR ((wr + 1) % n)

/-! ## Stuck timers (R148) -/

/-- STUCK_TIMEOUT (R148): the running stuck timer reaches its timeout. -/
def execStuckTimeout (b k : Nat) (s : State) : Host.Outcome State Fault Refusal :=
  .next <|
    let p := s.pin b k
    if s.capturing b && decide (k < 10) && p.stuckOn && !p.stuckMask && decide (s.rd (pinA b k) R.PIN_STK.TO ≠ 0) then
      let s := s.setPin b k { p with stuckMask := true }
      let s := s.wr (bayA b) R.PIN_STUCK.STUCK (s.rd (bayA b) R.PIN_STUCK.STUCK ||| 2 ^ k)
      (s.pinRecord b k 3 0 (s.nowQ (b / 32)) false).alert b 0
    else s

/-- STUCK_REARM (R148): each pin of the mask is unmasked; in its stuck zone its timer starts from the write. -/
def execStuckRearm (b mask : Nat) (s : State) : Host.Outcome State Fault Refusal :=
  .next <|
    if s.bayTakes b then
      (List.range 10).foldl
        (fun s k => if mask.testBit k then (s.setPin b k { s.pin b k with stuckMask := false }).stuckRestart b k else s) s
    else s

/-! ## The ADC (R149 to R152) -/

/-- The sample period in 2^-16 ns (R150). -/
def State.adcPeriod (s : State) (b : Nat) : Nat := 2621440 * (s.rd (bayA b) R.ADC_CFG.DIV + 1)

/-- Take up the grid again at this instant: INDEX counts the instants that passed (R150, R371). -/
def State.regrid (s : State) (b : Nat) : State :=
  let p : Int := ((s.adcPeriod b : Nat) : Int)
  s.modBay b fun v => { v with adcNext := ((s.nowQ (b / 32) - v.adcOrigin + p - 1) / p).toNat }

/-- Close every open block (R151): a closed block waits for the ring. -/
def State.closeBlocks (s : State) (b : Nat) : State :=
  s.modBay b fun v => { v with adcStage := v.adcStage ++ v.blocks, blocks := [] }

/-- Whether the open blocks end before a sample at instant `t` (R151). -/
def State.blockBreaks (s : State) (b : Nat) (t : Int) : Bool :=
  let fr := s.framesAt b t
  match (s.bay b).blocks with
  | [] => false
  | k :: ks =>
    decide (k.samples.length ≥ 12) || decide ((k :: ks).map (·.frame) ≠ fr.1) || (k.overlap != fr.2) || decide (k.period ≠ s.adcPeriod b)

/-- Add a sample at instant `t` to the open blocks, opening one for each frame record it belongs to (R151, R158). -/
def State.addSample (s : State) (b : Nat) (t : Int) (code : BitVec 16) (clip : Bool) : State :=
  let s := if s.blockBreaks b t then s.closeBlocks b else s
  let fr := s.framesAt b t
  let p := s.adcPeriod b
  s.modBay b fun v =>
    match v.blocks with
    | [] => { v with blocks := fr.1.map (fun n => ⟨t, fr.2, v.gapAdc, clip, n, p, [code]⟩), gapAdc := false }
    | ks => { v with blocks := ks.map (fun k => { k with samples := k.samples ++ [code], clip := k.clip || clip }) }

/-- ADC_SAMPLE (R149, R150, R152): the sample at the next grid instant; `clip` says that the input lay beyond full scale. -/
def execAdcSample (b : Nat) (code : BitVec 16) (clip : Bool) (s : State) : Host.Outcome State Fault Refusal :=
  .next <|
    if s.capturing b && s.adcOk && s.bit (bayA b) R.ADC_CFG.EN then
      let i := (s.bay b).adcNext
      let t := (s.bay b).adcOrigin + ((i * s.adcPeriod b : Nat) : Int)
      let s := (s.wr (bayA b) R.ADC_LAST.SAMPLE code.toNat).wr (bayA b) R.ADC_LAST.INDEX (i % 65536)
      let s := s.modBay b fun v => { v with adcNext := i + 1 }
      let s := if clip then s.alert b 5 else s
      (s.addSample b t code clip).reflex b false
    else s

/-- ADC_BLOCK_CLOSE (R151): an open block closes at its 12th sample, at a break in the block rule, or when sampling stops. -/
def execAdcBlockClose (b : Nat) (s : State) : Host.Outcome State Fault Refusal :=
  .next <|
    let t := (s.bay b).adcOrigin + (((s.bay b).adcNext * s.adcPeriod b : Nat) : Int)
    if s.blockBreaks b t || !s.bit (bayA b) R.ADC_CFG.EN || !s.capturing b then s.closeBlocks b else s

/-- The number of blocks in the ADC ring, 0 when it is off (R151, R166). -/
def State.adcLen (s : State) (b : Nat) : Nat :=
  let l := s.rd (bayA b) R.ADC_RING.LEN
  if l = 0 then 0 else 2 ^ (min (max l 3) 13)

/-- The samples of a block, 16 bits each. -/
def packSamples : List (BitVec 16) → Nat
  | [] => 0
  | v :: vs => v.toNat + 65536 * packSamples vs

/-- The 32 bytes of an ADC block as one number (R151). -/
def AdcBlock.pack (k : AdcBlock) (loss : Bool) : Nat :=
  nsOf k.first + 2 ^ 32 * (k.samples.length % 16 * 2 ^ 28 + (if k.overlap then 2 ^ 27 else 0) + (if loss then 2 ^ 26 else 0)
    + (if k.gap then 2 ^ 25 else 0) + (if k.clip then 2 ^ 24 else 0) + k.frame % 256 * 65536 + secOf k.first % 65536)
    + 2 ^ 64 * packSamples k.samples

/-- ADC_BLOCK_STORE (R151): the oldest closed block goes to the ADC ring, or is dropped and counted in ADC_DROP. -/
def execAdcBlockStore (b : Nat) (s : State) : Host.Outcome State Fault Refusal :=
  .next <|
    match (s.bay b).adcStage with
    | [] => s
    | k :: rest =>
      let n := s.adcLen b
      let s := s.modBay b fun v => { v with adcStage := rest }
      let wr := s.rd (bayA b) R.ADC_WR.WR
      if n = 0 then s
      else if (wr + 1) % n = s.rd (bayA b) R.ADC_RD.RD then
        ((s.bump (bayA b) R.ADC_DROP.DROP 1).modBay b fun v => { v with lossAdc := true }).alert b 2
      else
        let at_ := (s.rd (bayA b) R.ADC_RING.BASE * 32 + 32 * (wr % n)) % 0x40000
        let s := (s.sramWrite b at_ 32 (allBytes 32) (k.pack (s.bay b).lossAdc)).2
        (s.modBay b fun v => { v with lossAdc := false }).wr (bayA b) R.ADC_WR.WR ((wr + 1) % n)

/-- ADC_CFG written (R150, R371): EN set from 0 to 1 begins the grid, cleared it stops sampling; a change of DIV keeps the origin. -/
def State.adcCfgWrite (s : State) (b : Nat) (en : Bool) (div : Nat) : State :=
  if s.adcOk then
    let was := s.bit (bayA b) R.ADC_CFG.EN
    let divWas := s.rd (bayA b) R.ADC_CFG.DIV
    let s := if was && (!en || decide (div ≠ divWas)) then s.closeBlocks b else s
    let s := (s.wr (bayA b) R.ADC_CFG.EN (if en then 1 else 0)).wr (bayA b) R.ADC_CFG.DIV div
    if en && !was then
      if s.framesOn && (s.bay b).lastB.isSome then s.regrid b
      else s.modBay b fun v => { v with adcOrigin := (s.nowQ (b / 32)), adcNext := 0 }
    else if en && decide (div ≠ divWas) then s.regrid b
    else s
  else s

/-! ## Pin settings (R136 to R140, R148) -/

/-- Whether a pin's thresholds are in the wrong order (R140). -/
def State.wrongOrder (s : State) (b k : Nat) : Bool :=
  decide (s.rd (pinA b k) R.PIN_THR.VL > s.rd (pinA b k) R.PIN_THR.VH)

/-- The pin turns OFF: its comparators go off and its zone reads 0b00 (R136). -/
def State.pinOff (s : State) (b k : Nat) : State :=
  let s := (s.setZone b k true false).setZone b k false false
  s.setPin b k { s.pin b k with pendHi := none, pendLo := none, deadHi := none, deadLo := none, stuckOn := false }

/-- The pin's comparators take their values from the ball at once (R136). -/
def State.pinTakes (s : State) (b k : Nat) : State :=
  let p := s.pin b k
  (s.setZone b k true p.rawHi).setZone b k false p.rawLo

/-- Give a pin the MODE `m`, with what its leaving or entering OFF brings about (R136, R140). A MODE not in the enumeration is not taken (R14). -/
def State.setMode (s : State) (b k m : Nat) : State :=
  if m > 4 then s
  else
    let was := s.rd (pinA b k) R.PIN_MODE.MODE
    let s := s.wr (pinA b k) R.PIN_MODE.MODE m
    if was = 0 ∧ m ≠ 0 then
      let s := if s.wrongOrder b k then s.alert b 6 else s
      if s.capturing b && s.bankOk b then
        let s := s.pinTakes b k
        (s.pinRecord b k 1 0 (s.nowQ (b / 32)) false).stuckFollow b k
      else s
    else if was ≠ 0 ∧ m = 0 then s.pinOff b k
    else s

/-- PIN_MODE_WRITE (R136). -/
def execPinModeWrite (b k : Nat) (value : BitVec 32) (s : State) : Host.Outcome State Fault Refusal :=
  .next <|
    if s.bayTakes b && decide (k < 10) then
      let v := value.toNat
      let s := (s.wr (pinA b k) R.PIN_MODE.RFX_EN (bits v 5 5)).wr (pinA b k) R.PIN_MODE.DSRC (bits v 4 4)
      ((s.setMode b k (bits v 2 0)).reflex b false).drivePins b
    else s

/-- PIN_THR_WRITE (R139, R140): the thresholds settle within 50 ns; a wrong order of a pin that is not OFF sets THR_ORDER. -/
def execPinThrWrite (b k : Nat) (value : BitVec 32) (s : State) : Host.Outcome State Fault Refusal :=
  .next <|
    if s.bayTakes b && decide (k < 10) then
      let v := value.toNat
      let changed := decide (s.rd (pinA b k) R.PIN_THR.VH ≠ bits v 25 16 ∨ s.rd (pinA b k) R.PIN_THR.VL ≠ bits v 9 0)
      let s := (s.wr (pinA b k) R.PIN_THR.HYST (bits v 29 28)).wr (pinA b k) R.PIN_THR.VH (bits v 25 16)
      let s := s.wr (pinA b k) R.PIN_THR.VL (bits v 9 0)
      let s := if changed then s.setPin b k { s.pin b k with thrAt := some s.counter } else s
      if s.wrongOrder b k && decide (s.rd (pinA b k) R.PIN_MODE.MODE ≠ 0) then s.alert b 6 else s
    else s

/-- PIN_STK_WRITE (R148): a change of stuck zone or timeout restarts the timer in the new stuck zone and clears it otherwise. -/
def execPinStkWrite (b k : Nat) (value : BitVec 32) (s : State) : Host.Outcome State Fault Refusal :=
  .next <|
    if s.bayTakes b && decide (k < 10) then
      let v := value.toNat
      let s := (s.wr (pinA b k) R.PIN_STK.UNIT (bits v 18 18)).wr (pinA b k) R.PIN_STK.ZONE (bits v 17 16)
      (s.wr (pinA b k) R.PIN_STK.TO (bits v 15 0)).stuckRestart b k
    else s

/-- PIN_NEXT_WRITE (R138): the pattern waits for the next boundary. -/
def execPinNextWrite (b : Nat) (value : BitVec 32) (s : State) : Host.Outcome State Fault Refusal :=
  .next <|
    if s.bayTakes b then
      let v := value.toNat
      ((s.wr (bayA b) R.PIN_NEXT.OE (bits v 25 16)).wr (bayA b) R.PIN_NEXT.VAL (bits v 9 0)).wr (bayA b) R.PIN_NEXT.ARMED 1
    else s

/-! ## Bay states (R130 to R132, R161, R163, R165) -/

/-- Enter OFFLINE (R131): sampling and capture stop, no rule acts, the pins go to the hold state. -/
def State.enterOffline (s : State) (b : Nat) : State :=
  let s := (s.closeBlocks b).wr (bayA b) R.BAY_STATE.STATE 1
  let s := s.modBay b fun v => { v with acting := 0, fresh := true, pinsLive := false }
  ((List.range 10).foldl
    (fun s k => s.setPin b k { s.pin b k with pendHi := none, pendLo := none, deadHi := none, deadLo := none, stuckOn := false }) s).drivePins b

/-- Return to RUN by ONLINE (R165). -/
def State.enterOnline (s : State) (b : Nat) : State :=
  let s := s.wr (bayA b) R.BAY_STATE.STATE 0
  let s := (s.modBay b fun v => { v with gapAdc := true, fresh := true, acting := 0, pinsLive := true }).regrid b
  let s := s.wr (bayA b) R.WDOG_STAT.REMAIN (s.rd (bayA b) R.WDOG_CFG.TIMEOUT)
  let s := (List.range 10).foldl
    (fun s k => if s.rd (pinA b k) R.PIN_MODE.MODE = 0 ∨ s.bankOk b = false then s else s.pinTakes b k) s
  let s := (s.drivePins b).resyncPins b
  ((List.range 10).foldl (fun s k => s.stuckRestart b k) s).reflex b false

/-- Whether a register key is of the bay domain and lies in bay `b`'s window (R166: four bits there are of the quadrant domain). -/
def bayKey (b k : Nat) : Bool :=
  decide (winA b * 32 ≤ k ∧ k < winA (b + 1) * 32) &&
    decide (k ≠ key (bayA b) R.BAY_STATE.CMD_IGN ∧ k ≠ key (bayA b) R.WDOG_STAT.EXPIRED ∧
      k ≠ key (bayA b) R.WDOG_STAT.BADKICK ∧ k ≠ key (bayA b) R.WDOG_STAT.WDOG_DEBUG_RELOAD)

/-- Give every field that the image sets, and that `p` selects, its image value (R166, R320). -/
def State.loadImage (s : State) (p : Nat → Bool) : State :=
  s.image.foldl (fun s kv => if p kv.1 then { s with flds := Tab.put regReset s.flds kv.1 kv.2 } else s) s

/-- The settings that wait for a boundary in bay `b` are lost (R398). -/
def State.loseShadow (s : State) (b : Nat) : State :=
  { s with
    shadow := s.shadow.filter (fun e => decide (e.bay ≠ some b))
    lostSh := s.lostSh ++ s.shadow.filter (fun e => decide (e.bay = some b)) }

/-- What a bay reset clears (R43, R171): the bay-domain registers, the contexts, the movers, the front end, and both directions of the bay's
mailbox (R445). Bay SRAM and its check bits are untouched. -/
def State.clearBay (s : State) (b : Nat) : State :=
  let s := s.loseShadow b
  let s := { s with flds := Tab.drop (bayKey b) s.flds }
  let s := { s with ctxs := Tab.drop (fun k => decide (k / 32 = b)) s.ctxs, movers := Tab.drop (fun k => decide (k / 4 = b)) s.movers }
  let s := s.setBay b { BaySt.init with sramOpen := (s.bay b).sramOpen, lines := (s.bay b).lines }
  let s := s.setMbx (b / 32 * 40 + b % 32) MbxSt.init
  let s := s.setDbg b { s.dbg b with deferred := none, stepping := false, stepWait := false }
  (s.wr (dbgEngA b) R.DBG_ENG_STAT.HALTED 0).wr (dbgEngA b) R.DBG_ENG_STAT.REASON 0

/-- Start a bay reset (R43, R131). -/
def State.startBayReset (s : State) (b : Nat) : State := (((s.leaveSleep (1000 + b)).clearBay b).wr (bayA b) R.BAY_STATE.STATE 2).drivePins b

/-- After a reset the contexts that CTX_CFG enables are READY, the others DISABLED (R166, R210). -/
def State.startContexts (s : State) (b : Nat) : State :=
  (List.range 32).foldl (fun s c => s.wr (ctxA b c) R.CTX_STATE.STATE (if s.bit (ctxA b c) R.CTX_CFG.EN then 2 else 0)) s

/-- HOLD_RST halts an engine that leaves a reset before its first instruction (R495, R496). -/
def State.holdReset (s : State) (b : Nat) : State :=
  if s.bit (dbgEngA b) R.DBG_ENG_CTRL.HOLD_RST then
    (((List.range 32).foldl
      (fun s c =>
        let st := s.rd (ctxA b c) R.CTX_STATE.STATE
        if st = 0 ∨ st = 5 then s
        else (s.setCtx (b * 32 + c) { s.ctx (b * 32 + c) with prev := st }).wr (ctxA b c) R.CTX_STATE.STATE 6) s
      |>.wr (dbgEngA b) R.DBG_ENG_STAT.HALTED 1).wr (dbgEngA b) R.DBG_ENG_STAT.REASON 5
    |>.raise (4 * b + 1)).traceState b 1 0 0 (s.pcOf b 0)
  else s

/-- The bay enters RUN with everything started (R131, R163, R496). -/
def State.enterRun (s : State) (b : Nat) : State :=
  let s := s.wr (bayA b) R.BAY_STATE.STATE 0
  let s := (s.modBay b fun v => { v with pinsLive := true, fresh := true, adcOrigin := (s.nowQ (b / 32)), adcNext := 0 }).holdReset b
  let s := (List.range 10).foldl
    (fun s k => if s.rd (pinA b k) R.PIN_MODE.MODE = 0 ∨ s.bankOk b = false then s else s.pinTakes b k) s
  let s := (List.range 10).foldl (fun s k => s.stuckRestart b k) s
  let s := if s.bit (bayA b) R.WDOG_CFG.EN then s.wr (bayA b) R.WDOG_STAT.REMAIN (s.rd (bayA b) R.WDOG_CFG.TIMEOUT) else s
  let s := if (List.range 10).any (fun k => s.wrongOrder b k && decide (s.rd (pinA b k) R.PIN_MODE.MODE ≠ 0)) then s.alert b 6 else s
  (s.drivePins b).reflex b false

/-- BAY_RESET (R132): HOLD sets CMD_IGN, RESET absorbs it, RUN and OFFLINE start the reset. -/
def execBayReset (b : Nat) (s : State) : Host.Outcome State Fault Refusal :=
  .next <|
    if s.bayOk b then
      match s.bayState b with
      | 3 => s.wr (bayA b) R.BAY_STATE.CMD_IGN 1
      | 2 => s
      | _ => s.startBayReset b
    else s

/-- BAY_RESET_DONE (R131, R166): the bay takes its image values and enters RUN. While the power-on steps or a reset of its quadrant or of the device run,
the bay's reset is part of theirs (R46), and they end with the bay in HOLD (R436). -/
def execBayResetDone (b : Nat) (s : State) : Host.Outcome State Fault Refusal :=
  .next <|
    if s.bayOk b && s.power.stepsDone && !s.qReset (b / 32) && decide (s.bayState b = 2) then ((s.loadImage (bayKey b)).startContexts b).enterRun b else s

/-- BAY_OFFLINE (R132). -/
def execBayOffline (b : Nat) (s : State) : Host.Outcome State Fault Refusal :=
  .next <|
    if s.bayOk b then
      match s.bayState b with
      | 0 => s.enterOffline b
      | 1 => s
      | _ => s.wr (bayA b) R.BAY_STATE.CMD_IGN 1
    else s

/-- BAY_ONLINE (R132, R165). -/
def execBayOnline (b : Nat) (s : State) : Host.Outcome State Fault Refusal :=
  .next <|
    if s.bayOk b then
      if s.bayState b = 1 then s.enterOnline b else s.wr (bayA b) R.BAY_STATE.CMD_IGN 1
    else s

/-! ## The watchdog (R161) -/

/-- Whether the watchdog counts. -/
def State.wdogCounts (s : State) (b : Nat) : Bool := s.capturing b && s.bit (bayA b) R.WDOG_CFG.EN

/-- The watchdog expires: EXPIRED, event 4b + 3, and its ACTION. -/
def State.wdogExpire (s : State) (b : Nat) : State :=
  let s := (s.wr (bayA b) R.WDOG_STAT.EXPIRED 1).raise (4 * b + 3)
  match s.rd (bayA b) R.WDOG_CFG.ACTION with
  | 0 => s.wr (bayA b) R.WDOG_STAT.REMAIN (s.rd (bayA b) R.WDOG_CFG.TIMEOUT)
  | 1 => (s.wr (bayA b) R.WDOG_STAT.REMAIN 0).enterOffline b
  | _ => s.startBayReset b

/-- WDOG_KICK (R161). -/
def execWdogKick (b : Nat) (value : BitVec 32) (s : State) : Host.Outcome State Fault Refusal :=
  .next <|
    if s.bayTakes b then
      if value = 0xC1FF then s.wr (bayA b) R.WDOG_STAT.REMAIN (s.rd (bayA b) R.WDOG_CFG.TIMEOUT)
      else
        let counts := s.wdogCounts b
        let s := s.wr (bayA b) R.WDOG_STAT.BADKICK 1
        if counts then s.wdogExpire b else s
    else s

/-- WDOG_EXPIRY (R161). -/
def execWdogExpiry (b : Nat) (s : State) : Host.Outcome State Fault Refusal :=
  .next <| if s.wdogCounts b then s.wdogExpire b else s

/-- WDOG_CFG written: EN from 0 to 1 reloads REMAIN (R161); an ACTION not in the enumeration is not taken (R14). -/
def State.wdogCfgWrite (s : State) (b action : Nat) (en : Bool) (timeout : Nat) : State :=
  let was := s.bit (bayA b) R.WDOG_CFG.EN
  let s := if action = 3 then s else s.wr (bayA b) R.WDOG_CFG.ACTION action
  let s := (s.wr (bayA b) R.WDOG_CFG.EN (if en then 1 else 0)).wr (bayA b) R.WDOG_CFG.TIMEOUT timeout
  if en && !was then s.wr (bayA b) R.WDOG_STAT.REMAIN (s.rd (bayA b) R.WDOG_CFG.TIMEOUT) else s

/-! ## Frame boundaries (R157) -/

/-- Put one field of bay `b` at a new value, with what the field's change brings about (R136, R140, R148, R150, R161). COMMAND is the three bits
of BAY_CTRL, of which the highest acts. -/
def State.bayField (s : State) (b base : Nat) (f : Fld) (v : Nat) : State :=
  let k := (base - pinA b 0) / 0x20
  let a := bayA b
  if base = a then
    if f.off = 0 then
      if v.testBit 2 then outState s (execBayReset b s)
      else if v.testBit 1 then outState s (execBayOnline b s)
      else if v.testBit 0 then outState s (execBayOffline b s)
      else s
    else if f = R.ADC_CFG.EN then s.adcCfgWrite b (decide (v ≠ 0)) (s.rd a R.ADC_CFG.DIV)
    else if f = R.ADC_CFG.DIV then s.adcCfgWrite b (s.bit a R.ADC_CFG.EN) v
    else if f = R.WDOG_CFG.EN then s.wdogCfgWrite b (s.rd a R.WDOG_CFG.ACTION) (decide (v ≠ 0)) (s.rd a R.WDOG_CFG.TIMEOUT)
    else s.wr base f v
  else if pinA b 0 ≤ base ∧ base < pinA b 10 then
    if f = R.PIN_MODE.MODE then s.setMode b k v
    else if f.off = 4 then
      let s := if s.rd base f = v ∨ f = R.PIN_THR.HYST then s else s.setPin b k { s.pin b k with thrAt := some s.counter }
      let s := s.wr base f v
      if s.wrongOrder b k && decide (s.rd base R.PIN_MODE.MODE ≠ 0) then s.alert b 6 else s
    else if f.off = 0xC then (s.wr base f v).stuckRestart b k
    else s.wr base f v
  else s.wr base f v

/-- Apply the shadow settings of bay `b` for boundary `n` (R157, R394); those of a bay in RESET or HOLD are lost (R398). -/
def State.applyShadow (s : State) (b n : Nat) : State :=
  let mine := s.shadow.filter (fun e => decide (e.bay = some b ∧ e.frame = n))
  let s := { s with shadow := s.shadow.filter (fun e => !decide (e.bay = some b ∧ e.frame = n)) }
  if mine.isEmpty then s
  else if s.bayState b < 2 then ((mine.foldl (fun s e => s.bayField b e.base e.fld e.val) s).reflex b false).drivePins b
  else { s with lostSh := s.lostSh ++ mine }

/-- BAY_FRAME_BOUNDARY (R157): the boundary of the last notice reaches the bay. While the engine is halted only FRAME_NO is loaded (R162). -/
def execBayFrameBoundary (b : Nat) (s : State) : Host.Outcome State Fault Refusal :=
  .next <|
    match s.noticeQ (b / 32) with
    | none => s
    | some (t, n) =>
      if s.bayOk b && decide (s.bayState b < 2) then
        let ovl := s.rd (bayA b) R.FRAME_CFG.OVL
        let s := (s.wr (bayA b) R.FRAME_NO.FRAME_NO n).modBay b fun v => { v with boundaries := v.boundaries + 1 }
        if s.halted b then s
        else
          let s := s.modBay b fun v => { v with lastB := some t, lastOvl := ovl, adcOrigin := t, adcNext := 0 }
          let s := s.record b 2 0 0 0 t false 0 0 true
          let s := if s.bit (bayA b) R.PIN_NEXT.ARMED then
              ((s.wr (bayA b) R.PIN_OUT.OE (s.rd (bayA b) R.PIN_NEXT.OE)).wr (bayA b) R.PIN_OUT.VAL
                (s.rd (bayA b) R.PIN_NEXT.VAL)).wr (bayA b) R.PIN_NEXT.ARMED 0
            else s
          let s := (s.applyShadow b n).drivePins b
          let s := (s.reflex b true).reflex b false
          s.raiseIf (s.bit (bayA b) R.FRAME_CFG.FEVT_EN) (4 * b + 3)
      else if s.bayOk b then s.applyShadow b n
      else s

/-! ## Bank supplies (R537) -/

/-- The quadrant and place in IO_BANKSTAT of a bank: banks 0 to 31 are instrument banks, 32 + 2q + h the general banks of quadrant q (R539). -/
def bankOf (bank : Nat) : Nat × Nat := if bank < 32 then (bank / 8, bank % 8) else ((bank - 32) / 2, 8 + (bank - 32) % 2)

/-- VCCIO_LOSS (R537). -/
def execVccioLoss (bank : Nat) (s : State) : Host.Outcome State Fault Refusal :=
  .next <|
    let p := bankOf bank
    if decide (bank < 40) && s.quadLive p.1 then
      let s := s.wr (ioBankA p.1) (R.IO_BANKSTAT.VCCIO_OK.shift (4 * p.2)) 0
      let s := s.wr (ioBankA p.1) (R.IO_BANKSTAT.VCCIO_LOST.shift (4 * p.2)) 1
      if bank < 32 then
        (List.range 4).foldl (fun s j =>
          (((List.range 10).foldl (fun s k => s.pinOff (bank * 4 + j) k) s).drivePins (bank * 4 + j)).reflex (bank * 4 + j) false) s
      else s
    else s

/-- VCCIO_RESTORE (R537): VCCIO_OK sets and each instrument pin whose bay is in RUN takes its mode and drive, with a RESYNC record.
`zones` gives the raw comparator outputs found, two bits [HI, LO] for each of the bank's 40 pins. -/
def execVccioRestore (bank zones : Nat) (s : State) : Host.Outcome State Fault Refusal :=
  .next <|
    let p := bankOf bank
    if decide (bank < 40) && s.quadLive p.1 then
      let s := s.wr (ioBankA p.1) (R.IO_BANKSTAT.VCCIO_OK.shift (4 * p.2)) 1
      if bank < 32 then
        (List.range 4).foldl (fun s j =>
          let b := bank * 4 + j
          let s := (List.range 10).foldl (fun s k =>
            let z := zones / 4 ^ (j * 10 + k) % 4
            s.setPin b k { s.pin b k with rawHi := decide (z / 2 = 1), rawLo := decide (z % 2 = 1) }) s
          if s.capturing b then
            let s := (List.range 10).foldl (fun s k => if s.rd (pinA b k) R.PIN_MODE.MODE = 0 then s else s.pinTakes b k) s
            let s := (s.drivePins b).resyncPins b
            ((List.range 10).foldl (fun s k => s.stuckRestart b k) s).reflex b false
          else s) s
      else s
    else s

end Sys2Proof.Machine
end

