-- ==== Sys2Proof/Machine/Islands.lean ====
section
/-! DEFINITION. Machine/Islands.lean: clock generators, causeway channels, island states, self-test, deep stores and the broadcast tree
(spec/02_logic_blocks.md, spec/03_islands_causeways.md). Clock generators are numbered 0 to 383 for islands, 384 + d for deep stores and
448 + b for bays (R90, R95, R129). -/
namespace Sys2Proof.Machine
open Sys2Proof

/-! ## Clock generators (R90 to R95, R455, R457, R475) -/

/-- The base of a generator's two registers, laid out as ISL_CLK and ISL_CLKSTAT. -/
def genA (g : Nat) : Nat := if g < 384 then islA g else if g < 448 then deepA (g - 384) else bayA (g - 448) + 8
/-- The quadrant of a generator. -/
def genQuad (g : Nat) : Nat := if g < 384 then g / 96 else if g < 448 then (g - 384) / 16 else (g - 448) / 32
/-- Whether the generator is present. -/
def State.genOk (s : State) (g : Nat) : Bool := decide (g < 576) && s.quadLive (genQuad g)

/-- The clock maximum of an island at a level, in MHz (R455). -/
def levelMax (l : Nat) : Nat :=
  match l with
  | 0 => 1000 | 1 => 900 | 2 => 800 | 3 => 700 | 4 => 600 | 5 => 500 | 6 => 375 | _ => 250
/-- The clock maximum of a generator at a level: bays and deep stores stop at 800 MHz (R85, R129). -/
def genMax (g l : Nat) : Nat := if g < 384 then levelMax l else min 800 (levelMax l)

/-- The frequency of fabric rail `r` of a quadrant in MHz: MHZ outside 400 to 2,000 acts as the nearer limit (R457, R478). -/
def State.railMhz (s : State) (q r : Nat) : Nat := max 400 (min 2000 (s.rd (clkA q) (R.FR_CFG0.MHZ.shift (4 * r))))
/-- Whether a fabric rail is locked (R457). -/
def State.railLocked (s : State) (q r : Nat) : Bool := s.bit (clkA q) (R.FR_CFG0.LOCKED.shift (4 * r))

/-- The level a generator moves to: the slower of the requested level and the quadrant's cap (R455, R475). -/
def State.levelWanted (s : State) (g : Nat) : Nat := max (s.rd (genA g) R.ISL_CLK.PLVL) (s.rd (pwrA (genQuad g)) R.PWR_CAP.CAP)

/-- The smallest divider that keeps the clock within the maximum of the slower of the level in force and the level wanted (R91, R94). -/
def State.divClamp (s : State) (g rail : Nat) : Nat :=
  let m := genMax g (max (s.levelWanted g) (s.rd (genA g) R.ISL_CLKSTAT.PLVL_NOW))
  let f := s.railMhz (genQuad g) rail
  min 64 ((f + m - 1) / m)

/-- The divider the generator ramps to on its rail: 64 while a rail change is due, else the requested one within the clamp. -/
def State.divTarget (s : State) (g : Nat) : Nat :=
  let a := genA g
  if s.rd a R.ISL_CLK.RAIL ≠ s.rd a R.ISL_CLKSTAT.RAIL_NOW then 64
  else max (s.rd a R.ISL_CLK.DIV + 1) (s.divClamp g (s.rd a R.ISL_CLK.RAIL))

/-- Whether the generator's clock lies within the maximum of the level wanted. -/
def State.withinWanted (s : State) (g : Nat) : Bool :=
  let a := genA g
  decide (s.railMhz (genQuad g) (s.rd a R.ISL_CLKSTAT.RAIL_NOW) ≤ genMax g (s.levelWanted g) * (s.rd a R.ISL_CLKSTAT.DIV_NOW + 1))

/-- Bring the status bits of a generator up to its target (R91, R92, R94): a faster level raises the voltage first, a slower one lowers
it once the clock is within the new maximum. When RAMPING and VBUSY both fall, event 691 is raised (R127). -/
def State.genUpdate (s : State) (g : Nat) : State :=
  let a := genA g
  let was := s.bit a R.ISL_CLKSTAT.RAMPING || s.bit a R.ISL_CLKSTAT.VBUSY
  let level := s.rd a R.ISL_CLKSTAT.PLVL_NOW
  let want := s.levelWanted g
  let moving := decide (s.rd a R.ISL_CLK.RAIL ≠ s.rd a R.ISL_CLKSTAT.RAIL_NOW) || decide (s.divTarget g ≠ s.rd a R.ISL_CLKSTAT.DIV_NOW + 1)
  let volt := decide (want < level) || (decide (level < want) && s.withinWanted g)
  let clamped := decide (s.rd a R.ISL_CLK.RAIL = s.rd a R.ISL_CLKSTAT.RAIL_NOW) &&
    decide (s.divClamp g (s.rd a R.ISL_CLK.RAIL) > s.rd a R.ISL_CLK.DIV + 1)
  let s := s.wr a R.ISL_CLKSTAT.RAMPING (if moving then 1 else 0)
  let s := s.wr a R.ISL_CLKSTAT.VBUSY (if volt then 1 else 0)
  let s := s.wr a R.ISL_CLKSTAT.CLAMPED (if clamped then 1 else 0)
  s.raiseIf (was && !moving && !volt) 691

/-- Whether the generator's clock is stopped, so that its ramp pauses (R93). -/
def State.genStopped (s : State) (g : Nat) : Bool :=
  if g < 384 then
    let st := s.rd (islA g) R.ISL_STATE.STATE
    decide (st = 2 ∨ st = 6 ∨ st = 7)
  else !s.awake (if g < 448 then 2000 + (g - 384) else 1000 + (g - 448))

/-- ISL_CLK_WRITE (R92): a write of ISL_CLK, a deep store's clock register or BAY_CLK; BAY_CLK of a bay in RESET takes none (R47). -/
def execIslClkWrite (gen : Nat) (value : BitVec 32) (s : State) : Host.Outcome State Fault Refusal :=
  .next <|
    if s.genOk gen && (decide (gen < 448) || s.bayTakes (gen - 448)) then
      let v := value.toNat
      let a := genA gen
      let s := (s.wr a R.ISL_CLK.RAMP (bits v 23 16)).wr a R.ISL_CLK.RAIL (bits v 15 14)
      ((s.wr a R.ISL_CLK.PLVL (bits v 10 8)).wr a R.ISL_CLK.DIV (bits v 5 0)).genUpdate gen
    else s

/-- DIVIDER_RAMP_STEP (R92, R93, R457): one step of the divider, or the switch of rails at D = 64; a ramp toward a rail that is not locked, or
of a stopped clock, waits. -/
def execDividerRampStep (gen : Nat) (s : State) : Host.Outcome State Fault Refusal :=
  .next <|
    let a := genA gen
    if s.genOk gen && s.bit a R.ISL_CLKSTAT.RAMPING && !s.genStopped gen &&
        s.railLocked (genQuad gen) (s.rd a R.ISL_CLK.RAIL) then
      let d := s.rd a R.ISL_CLKSTAT.DIV_NOW + 1
      let t := s.divTarget gen
      if s.rd a R.ISL_CLK.RAIL ≠ s.rd a R.ISL_CLKSTAT.RAIL_NOW ∧ d = 64 then
        (s.wr a R.ISL_CLKSTAT.RAIL_NOW (s.rd a R.ISL_CLK.RAIL)).genUpdate gen
      else if d < t then (s.wr a R.ISL_CLKSTAT.DIV_NOW d).genUpdate gen
      else if t < d then (s.wr a R.ISL_CLKSTAT.DIV_NOW (d - 2)).genUpdate gen
      else s
    else s

/-- LEVEL_VOLTAGE_DONE (R94): the level wanted is in force. -/
def execLevelVoltageDone (gen : Nat) (s : State) : Host.Outcome State Fault Refusal :=
  .next <|
    let a := genA gen
    if s.genOk gen && s.bit a R.ISL_CLKSTAT.VBUSY then
      (s.wr a R.ISL_CLKSTAT.PLVL_NOW (s.levelWanted gen)).genUpdate gen
    else s

/-! ## Channels (R96 to R101, R107, R112, R134, R268, R331)

An edge of an island is N 0, E 1, S 2 or W 3; edge 4 holds the port causeways of its bay (channels 0 to 3 from the bay, 4 to 7 to it), edge 5
the outbound and edge 6 the inbound bundle of its NAP, and edge 7 the ports of its NRZ lane (0 TXA, 1 TXB, 2 RXA, 3 RXB). -/

/-- The hard-unit ports of islands. -/
def hardEdge (e : Nat) : Bool := decide (4 ≤ e)

/-- The local column of an island. -/
def islX (i : Nat) : Nat := i % 96 % 12
/-- The local row of an island. -/
def islY (i : Nat) : Nat := i % 96 / 12

/-- Whether an island's edge holds a port of a deep store (R81), and which store: port A on the E edge of column 3 + 4c, port B on the W edge of
column 4 + 4c. -/
def deepPort (i e : Nat) : Option (Nat × Bool) :=
  if e = 1 ∧ (islX i = 3 ∨ islX i = 7) then some (i / 96 * 16 + (islX i / 4) * 8 + islY i, false)
  else if e = 3 ∧ (islX i = 4 ∨ islX i = 8) then some (i / 96 * 16 + (islX i / 4 - 1) * 8 + islY i, true)
  else none

/-- The island to which a port of deep store `d` attaches, and the edge (R81). -/
def deepIsland (d : Nat) (b : Bool) : Nat × Nat :=
  let c := d % 16 / 8
  let y := d % 8
  if b then (d / 16 * 96 + y * 12 + 4 + 4 * c, 3) else (d / 16 * 96 + y * 12 + 3 + 4 * c, 1)

/-- The other end of a bridge extension (R99): island, edge and channel. -/
def State.bridgeEnd (s : State) (i e c : Nat) : Option (Nat × Nat × Nat) :=
  let q := i / 96
  if e = 1 ∧ islX i = 11 ∧ c < 6 then
    let x := islY i * 6 + c
    match s.fuses.part with
    | .abn9640 => some ((q + 1) % 4 * 96 + 84 + x / 4, 0, x % 4)
    | .abn9620 => some ((2 - q) * 96 + (7 - islY i) * 12 + 11, 1, c)
    | .abn9610 => none
  else if e = 0 ∧ islY i = 7 ∧ c < 4 ∧ s.fuses.part = .abn9640 then
    let x := islX i * 4 + c
    some ((q + 3) % 4 * 96 + (x / 6) * 12 + 11, 1, x % 6)
  else none

/-- The island at the other end of a channel, with its edge and channel; none where a hard unit or nothing is there. -/
def State.otherEnd (s : State) (i e c : Nat) : Option (Nat × Nat × Nat) :=
  if hardEdge e then none
  else if (deepPort i e).isSome ∧ 29 ≤ c then none
  else
    match e with
    | 0 => if islY i < 7 then some (i + 12, 2, c) else s.bridgeEnd i e c
    | 1 => if islX i < 11 then some (i + 1, 3, c) else s.bridgeEnd i e c
    | 2 => if 0 < islY i then some (i - 12, 0, c) else none
    | _ => if 0 < islX i then some (i - 1, 1, c) else none

/-- The number of a channel: one number for both of its ends, the lower of the two ends' own. -/
def State.chanId (s : State) (i e c : Nat) : Nat :=
  let own := i * 512 + e * 64 + c
  match s.otherEnd i e c with
  | some (j, f, k) => min own (j * 512 + f * 64 + k)
  | none => own

/-- Words that a channel holds: 8, or 24 at a bridge extension (R97, R99). -/
def State.chanCap (s : State) (i e c : Nat) : Nat := if (s.bridgeEnd i e c).isSome then 24 else 8

/-- The image's setting of one channel end of an island. -/
def State.chanCfg (s : State) (i e c : Nat) : Option ChanCfg :=
  match s.cfgOf i with
  | none => none
  | some cfg => cfg.chans.find? (fun x => decide (x.edge = e ∧ x.chan = c))

/-- ISL_STATE.STATE (R106). -/
def State.islState (s : State) (i : Nat) : Nat := s.rd (islA i) R.ISL_STATE.STATE

/-- Whether a state of an island is one of its slack states (R107). -/
def slackState (st : Nat) : Bool := decide (st = 2 ∨ st = 3 ∨ st = 4 ∨ st = 5 ∨ st = 7)

/-- The router whose NAP attaches to island `i`, if any (R268). -/
def napOfIsland (i : Nat) : Option Nat :=
  let x := islX i
  let y := islY i
  if x % 2 = 1 ∧ 1 ≤ y ∧ y ≤ 6 then some (routerNum (i / 96) ((y - 1) * 6 + x / 2)) else none

/-- The island to which the NAP of router `n` attaches (R268). -/
def napIsland (n : Nat) : Nat :=
  (routerLocal n).1 * 96 + ((routerLocal n).2 / 6 + 1) * 12 + 2 * ((routerLocal n).2 % 6) + 1

/-- The state of the far end of a channel, as an island state: hard units are in RUN except where their own rules take them to slack
water (R98, R107, R130, R274). -/
def State.farState (s : State) (i e c : Nat) : Nat :=
  match s.otherEnd i e c with
  | some (j, _, _) => s.islState j
  | none =>
    if e = 4 then (if s.bayState (i / 96 * 32 + i % 96 / 3) < 2 then 0 else 5)
    else if e = 5 ∨ e = 6 then
      match napOfIsland i with
      | some n => if s.rd (rtA n) R.RT_STATE.STATE = 2 then 2 else 0
      | none => 5
    else if e = 7 then 0
    else if (deepPort i e).isSome ∧ 29 ≤ c then 0
    else 5

/-- Whether the two images disagree about a channel's direction (R112). -/
def State.mismatch (s : State) (i e c : Nat) : Bool :=
  match s.otherEnd i e c with
  | none => false
  | some (j, f, k) =>
    match s.chanCfg i e c, s.chanCfg j f k with
    | some x, some y => x.source == y.source
    | _, _ => false

/-- What a channel does (R107): 0 it runs, 1 it drains, 2 it is in slack water. -/
def State.chanMode (s : State) (i e c : Nat) : Nat :=
  let a := s.islState i
  let b := s.farState i e c
  if slackState a ∨ slackState b ∨ s.mismatch i e c then 2 else if a = 1 ∨ b = 1 then 1 else 0

/-- VALID of a channel: the oldest word has seen two sink edges (R101). -/
def Chan.valid (k : Chan) : Bool :=
  match k.words with
  | [] => false
  | w :: _ => decide (2 ≤ w.2)
/-- FULL of a channel of `cap` words: entries freed less than two source edges ago still count (R101). -/
def Chan.full (k : Chan) (cap : Nat) : Bool := decide (cap ≤ k.words.length + k.freed.length)
/-- Push a word. -/
def Chan.push (k : Chan) (w : Nat) : Chan := { k with words := k.words ++ [(w % 2 ^ 36, 0)] }
/-- Remove the oldest word; the freed entry reaches the source two edges later. -/
def Chan.pop (k : Chan) : Chan := ⟨k.words.drop 1, k.freed ++ [0]⟩
/-- One edge of the sink clock. -/
def Chan.sinkEdge (k : Chan) : Chan := { k with words := k.words.map (fun w => (w.1, min 2 (w.2 + 1))) }
/-- One edge of the source clock. -/
def Chan.sourceEdge (k : Chan) : Chan := { k with freed := (k.freed.map (· + 1)).filter (fun n => decide (n < 2)) }

/-- Count words lost at an edge of an island (R109, R124); an increase raises event 690. -/
def State.lost (s : State) (i e n : Nat) : State :=
  if n = 0 ∨ hardEdge e then s
  else
    let f := match e with
      | 0 => R.ISL_LOSTCNT.LOST_N
      | 1 => R.ISL_LOSTCNT.LOST_E
      | 2 => R.ISL_LOSTCNT.LOST_S
      | _ => R.ISL_LOSTCNT.LOST_W
    let old := s.rd (islA i) f
    let s := s.bump (islA i) f n
    s.raiseIf (decide (s.rd (islA i) f ≠ old)) 690

/-! ## Deep stores (R81 to R86, R88) -/

/-- The channel of a deep-store port: 29 CMD, 30 WDATA, 31 RDATA (R82). -/
def State.deepChan (s : State) (d : Nat) (b : Bool) (c : Nat) : Nat :=
  s.chanId (deepIsland d b).1 (deepIsland d b).2 c

/-- Read one deep-store word as an RDATA word (R83), counting and logging an error. While the store is filled it reads as zero (R88). -/
def State.deepRead (s : State) (d a : Nat) : Nat × State :=
  if (s.deep d).filling then (0, s)
  else
    let a := a % 131072
    let r := eccDecode 32 (s.row (deepKey d a)) (s.diff (chkDeep d a))
    (r.data + (if r.ue then 2 ^ 35 else 0) + (if r.ce then 2 ^ 34 else 0),
     if r.ce || r.ue then s.storeError (d / 16) 1 (d % 16) a r.ue false r.syn else s)

/-- Write one deep-store word under four byte enables (R79, R83); before stage 2 the word is discarded (R88). -/
def State.deepWrite (s : State) (d a be v : Nat) : State :=
  let a := a % 131072
  if be % 16 = 0 ∨ (s.deep d).wrEn = false then s
  else if be % 16 = 15 then (s.setRow (deepKey d a) (v % 2 ^ 32)).setDiff (chkDeep d a) 0
  else
    let r := eccDecode 32 (s.row (deepKey d a)) (s.diff (chkDeep d a))
    let s := if r.ce || r.ue then s.storeError (d / 16) 1 (d % 16) a r.ue true r.syn else s
    if r.ue then s else (s.setRow (deepKey d a) (mergeBytes 4 be r.data v)).setDiff (chkDeep d a) 0

/-- Take the oldest word of a channel, as the store end does. -/
def State.takeWord (s : State) (id : Nat) : Nat × State :=
  match (s.chan id).words with
  | [] => (0, s)
  | w :: _ => (w.1, s.setChan id (s.chan id).pop)

/-- Return `n` words from address `a` on (R83, R85). -/
def State.deepReads (s : State) (d : Nat) (b : Bool) (a : Nat) : Nat → State
  | 0 => s
  | n + 1 =>
    let r := s.deepRead d a
    let id := s.deepChan d b 31
    (r.2.setChan id ((r.2.chan id).push r.1)).deepReads d b (a + 1) n

/-- Write `n` WDATA words from address `a` on. -/
def State.deepWrites (s : State) (d : Nat) (b : Bool) (a : Nat) : Nat → State
  | 0 => s
  | n + 1 =>
    let w := s.takeWord (s.deepChan d b 30)
    (w.2.deepWrite d a (w.1 / 2 ^ 32) (w.1 % 2 ^ 32)).deepWrites d b (a + 1) n

/-- Whether the port can take a command that returns or consumes `n` words (R84). -/
def State.deepReady (s : State) (d : Nat) (b write : Bool) (n : Nat) : Bool :=
  if write then decide (n ≤ (s.chan (s.deepChan d b 30)).words.length)
  else decide ((s.chan (s.deepChan d b 31)).words.length + (s.chan (s.deepChan d b 31)).freed.length + n ≤ 8)

/-- Carry out the command at the head of the port's CMD channel. -/
def State.deepTake (s : State) (d : Nat) (b : Bool) : State :=
  let id := s.deepChan d b 29
  match (s.chan id).words with
  | [] => s
  | w :: _ =>
    let op := w.1 / 2 ^ 34
    let n := if 2 ≤ op then 4 else 1
    let s := s.setChan id (s.chan id).pop
    let a := w.1 / 2 ^ 17 % 131072
    if op % 2 = 1 then s.deepWrites d b a n else s.deepReads d b a n

/-- Take the command at the head of the port's CMD channel when it has OP `op` and R84 lets the store take it. -/
def State.deepCommand (s : State) (d : Nat) (b : Bool) (op : Nat) : State :=
  match (s.chan (s.deepChan d b 29)).words with
  | [] => s
  | w :: _ =>
    if decide (d < 64) && s.quadLive (d / 16) && s.awake (2000 + d) && decide (w.1 / 2 ^ 34 = op) &&
        s.deepReady d b (decide (op % 2 = 1)) (if 2 ≤ op then 4 else 1) then s.deepTake d b
    else s

/-- DEEP_STORE_READ (R85). -/
def execDeepStoreRead (d : Nat) (b : Bool) (s : State) : Host.Outcome State Fault Refusal := .next (s.deepCommand d b 0)
/-- DEEP_STORE_READ4 (R85). -/
def execDeepStoreRead4 (d : Nat) (b : Bool) (s : State) : Host.Outcome State Fault Refusal := .next (s.deepCommand d b 2)
/-- DEEP_STORE_WRITE (R83). -/
def execDeepStoreWrite (d : Nat) (b : Bool) (s : State) : Host.Outcome State Fault Refusal := .next (s.deepCommand d b 1)
/-- DEEP_STORE_WRITE4 (R83). -/
def execDeepStoreWrite4 (d : Nat) (b : Bool) (s : State) : Host.Outcome State Fault Refusal := .next (s.deepCommand d b 3)

/-- The OP of the command at the head of a port. -/
def State.deepHead (s : State) (d : Nat) (b : Bool) : Option Nat :=
  match (s.chan (s.deepChan d b 29)).words with
  | [] => none
  | w :: _ => some (w.1 / 2 ^ 34)

/-- Execute every complete command of a port (R109): a read is complete as it stands, since what RDATA holds is cleared with it. The channel
holds at most 8 commands. -/
def State.deepDrain (s : State) (d : Nat) (b : Bool) : Nat → State
  | 0 => s
  | n + 1 =>
    match s.deepHead d b with
    | none => s
    | some op =>
      if op % 2 = 0 ∨ s.deepReady d b true (if 2 ≤ op then 4 else 1) then (s.deepTake d b).deepDrain d b n else s

/-! ## Clearing an island's edges (R47, R109) -/

/-- Answer every target request outstanding at a NAP with ERROR (R47). -/
def State.napError (s : State) (n : Nat) : State :=
  let v := s.nap n
  { (s.setNap n { v with tgt := [], inbound := [] }) with
    flight := s.flight ++ v.tgt.map (fun t => ⟨n, t.port, t.tag, t.write, 1, 0, 0⟩) }

/-- Clear one sink channel of an island and count its words (R109). -/
def State.clearSink (s : State) (i e c : Nat) : State :=
  let id := s.chanId i e c
  let n := (s.chan id).words.length
  (s.setChan id Chan.init).lost i e n

/-- At a deep-store port the store executes every complete command, then discards the trailing write command with its words, and RDATA is
cleared (R109). A store whose clock is stopped takes nothing: its commands stay in its storage (R97). -/
def State.clearDeepPort (s : State) (i e : Nat) : State :=
  match deepPort i e with
  | none => s
  | some (d, b) =>
    if s.awake (2000 + d) then
      let s := s.deepDrain d b 8
      let n := (s.chan (s.deepChan d b 29)).words.length + (s.chan (s.deepChan d b 30)).words.length + (s.chan (s.deepChan d b 31)).words.length
      (((s.setChan (s.deepChan d b 29) Chan.init).setChan (s.deepChan d b 30) Chan.init).setChan (s.deepChan d b 31) Chan.init).lost i e n
    else s.clearSink i e 31

/-- The island enters RESET, BIST, HOLD or OFF: the storage of every channel whose sink end it holds is cleared (R109). -/
def State.clearEdges (s : State) (i : Nat) : State :=
  let s := (s.clearDeepPort i 1).clearDeepPort i 3
  let s := match s.cfgOf i with
    | none => s
    | some cfg => cfg.chans.foldl (fun s x => if x.source then s else s.clearSink i x.edge x.chan) s
  match napOfIsland i with
  | none => s
  | some n => s.napError n

/-! ## Island states (R106 to R113) -/

/-- What island `i` drives on a slack line of an edge: its logic's last value, or PARK in a slack state (R103, R104). -/
def State.slackLine (s : State) (i e l : Nat) : Bool :=
  match s.cfgOf i with
  | none => false
  | some cfg =>
    match cfg.slacks.find? (fun x => decide (x.edge = e ∧ x.line = l)) with
    | none => false
    | some x => if slackState (s.islState i) then x.park else Tab.get (fun _ => false) (s.island i).slack (e * 64 + l)

/-- The lines FD, FOE and FX of the bay whose fabric port lies at island `i` follow the island (R134); the rules and pins follow them. -/
def State.syncLines (s : State) (i : Nat) : State :=
  if i % 96 % 3 = 0 then
    let b := i / 96 * 32 + i % 96 / 3
    let v := (List.range 24).foldl (fun n k => n + (if s.slackLine i 4 k then 2 ^ k else 0)) 0
    if (s.bay b).lines = v then s else ((s.modBay b fun y => { y with lines := v }).drivePins b).reflex b false
  else s

/-- An island enters RUN: a channel to another island in RUN whose image gives the other direction sets DIR_MISMATCH in both, and each bit that
sets raises event 690 (R112, R127). -/
def State.checkDirs (s : State) (i : Nat) : State :=
  match s.cfgOf i with
  | none => s
  | some cfg => cfg.chans.foldl (fun s x =>
      match s.otherEnd i x.edge x.chan with
      | none => s
      | some (j, _, _) =>
        if s.mismatch i x.edge x.chan && decide (s.islState j = 0) then
          (s.setFlag (islA i) R.ISL_STATE.DIR_MISMATCH 690).setFlag (islA j) R.ISL_STATE.DIR_MISMATCH 690
        else s) s

/-- Put an island in a state; the lines it drives follow. -/
def State.setIslState (s : State) (i st : Nat) : State :=
  let s := (s.wr (islA i) R.ISL_STATE.STATE st).syncLines i
  if st = 0 then s.checkDirs i else s

/-- Force INIT into every flip-flop of the island (R61), clear its slices and their flags (R65, R68), and give its store outputs their values
after a reset (R75). -/
def State.initFlops (s : State) (i : Nat) : State :=
  let v := s.island i
  match s.cfgOf i with
  | none => s.setIsland i { v with q := [], slices := [], outs := [] }
  | some cfg =>
    let q := cfg.blocks.foldl (fun t bk =>
      (List.range bk.2.macros.length).foldl (fun t k =>
        match bk.2.macros[k]? with
        | some m => Tab.put (fun _ => false) t (bk.1 * 16 + k) m.init
        | none => t) t) []
    let outs := cfg.stores.foldl (fun t st =>
      Tab.put (fun _ => PortOut.init)
        (Tab.put (fun _ => PortOut.init) t (st.1 * 2) { PortOut.init with data2 := st.2.a.orst })
        (st.1 * 2 + 1) { PortOut.init with data2 := st.2.b.orst }) []
    s.setIsland i { v with q := q, slices := [], outs := outs }

/-- Whether every channel at the island's edges counts as drained (R108). -/
def State.drained (s : State) (i : Nat) : Bool :=
  match s.cfgOf i with
  | none => true
  | some cfg => cfg.chans.all fun x =>
      (s.chan (s.chanId i x.edge x.chan)).words.isEmpty || slackState (s.farState i x.edge x.chan) ||
        decide (s.farState i x.edge x.chan = 1)

/-- Put an island in FENCING; with DRAIN_LIMIT = 0 it enters SLACK without waiting (R108). -/
def State.fence (s : State) (i : Nat) : State :=
  if s.rd (islA i) R.ISL_DRAIN.DRAIN_LIMIT = 0 then s.setIslState i 2 else s.setIslState i 1

/-- ISLAND_FENCE (R108, R111). -/
def execIslandFence (i : Nat) (s : State) : Host.Outcome State Fault Refusal :=
  .next <|
    if s.islOk i then
      match s.islState i with
      | 0 => s.fence i
      | 6 => s.fence i
      | 3 => s.setIsland i { s.island i with after := .slack }
      | _ => s
    else s

/-- ISLAND_FENCE_DRAINED (R108). -/
def execIslandFenceDrained (i : Nat) (s : State) : Host.Outcome State Fault Refusal :=
  .next <| if s.islOk i && decide (s.islState i = 1) && s.drained i then s.setIslState i 2 else s

/-- DRAIN_LIMIT expires: SLACK with FENCE_TIMEOUT and event 688 (R108, R127). -/
def State.fenceTimeout (s : State) (i : Nat) : State :=
  (s.setIslState i 2).setFlag (islA i) R.ISL_STATE.FENCE_TIMEOUT 688

/-- ISLAND_UNFENCE (R108, R111). -/
def execIslandUnfence (i : Nat) (s : State) : Host.Outcome State Fault Refusal :=
  .next <|
    if s.islOk i then
      match s.islState i with
      | 1 => s.setIslState i 0
      | 2 => s.setIslState i 0
      | 3 => s.setIsland i { s.island i with after := .run }
      | _ => s
    else s

/-- Start an island reset (R43, R109, R111): a self-test in progress ends with ABORTED. -/
def State.startIslandReset (s : State) (i : Nat) : State :=
  let s := if s.islState i = 4 ∧ s.rd (islA i) R.ISL_BIST.RESULT = 1 then (s.wr (islA i) R.ISL_BIST.RESULT 7).raise 689 else s
  let s := ((s.leaveSleep i).setIslState i 3).setIsland i { s.island i with after := .run }
  (s.clearEdges i).initFlops i

/-- ISLAND_RESET (R43, R111). -/
def execIslandReset (i : Nat) (s : State) : Host.Outcome State Fault Refusal :=
  .next <| if s.islOk i && decide (s.islState i ≠ 5) then s.startIslandReset i else s

/-- ISLAND_RESET_DONE (R111). -/
def execIslandResetDone (i : Nat) (s : State) : Host.Outcome State Fault Refusal :=
  .next <|
    if s.islOk i && decide (s.islState i = 3) then
      match (s.island i).after with
      | .run => s.setIslState i 0
      | .slack => s.setIslState i 2
    else s

/-- BIST_START (R111, R113). -/
def execBistStart (i : Nat) (s : State) : Host.Outcome State Fault Refusal :=
  .next <|
    if s.islOk i then
      match s.islState i with
      | 2 => (((s.setIslState i 4).clearEdges i).initFlops i).wr (islA i) R.ISL_BIST.RESULT 1
      | 4 => s
      | 5 => s
      | _ => s.wr (islA i) R.ISL_BIST.RESULT 8
    else s

/-- The store rows and their check bits of an island hold zero (R87, R113). -/
def State.zeroStores (s : State) (i : Nat) : State :=
  { s with
    rows := Tab.drop (fun k => decide (i * 16384 ≤ k ∧ k < (i + 1) * 16384)) s.rows
    chk := Tab.drop (fun k => decide (0x1000000 + i * 16384 ≤ k ∧ k < 0x1000000 + (i + 1) * 16384)) s.chk }

/-- BIST_DONE (R113): the self-test ends with a result of R123 (2 PASS, 3 to 6 a failure and its unit). The stores hold zero and the
flip-flops INIT; event 689. -/
def execBistDone (i result unit : Nat) (s : State) : Host.Outcome State Fault Refusal :=
  .next <|
    if s.islOk i && decide (s.islState i = 4) && decide (s.rd (islA i) R.ISL_BIST.RESULT = 1) && decide (2 ≤ result ∧ result ≤ 6) then
      let s := s.wr (islA i) R.ISL_BIST.RESULT result
      let s := if result = 2 then s else s.wr (islA i) R.ISL_BIST.FAIL_UNIT unit
      ((((s.zeroStores i).initFlops i).setIslState i 2).raise 689)
    else s

/-! ## The broadcast tree (R114 to R117, R126, R442) -/

/-- Whether bridge `b` is UP on both of its sides as the part has it (R26, R27, R525). -/
def State.bridgeUp (s : State) (b : Nat) : Bool := decide (s.rd (brgA b 0) R.BRG_STAT.STATE = 2)

/-- Whether the tree reaches a quadrant: it is out of reset and its branch runs over bridges that are UP (R114, R117). -/
def State.treeReaches (s : State) (q : Nat) : Bool :=
  s.quadOk q && !s.qReset q &&
    match s.fuses.part, q with
    | _, 0 => true
    | .abn9640, 1 => s.bridgeUp 0
    | .abn9640, 2 => s.bridgeUp 0 && s.bridgeUp 1 && !s.qReset 1
    | .abn9640, _ => s.bridgeUp 3
    | .abn9620, _ => s.bridgeUp 0
    | .abn9610, _ => false

/-- Issue a broadcast: BCAST_STATUS holds its code and the quadrants it missed (R117, R126). Followers read the leader's value. -/
def State.broadcast (s : State) (code mask : Nat) : State :=
  let miss := (List.range 4).foldl (fun m q => if s.quadOk q && !s.treeReaches q then m + 2 ^ q else m) 0
  ((s.wr (clkA 0) R.BCAST_STATUS.MISS miss).wr (clkA 0) R.BCAST_STATUS.LAST_CODE code).emit (.broadcast code mask)

/-- The islands that a broadcast reaches. -/
def State.reached (s : State) : List Nat := (List.range 384).filter (fun i => s.treeReaches (i / 96))

/-- The 256 words of an island's snapshot (R442). -/
def State.snapWord (s : State) (i w : Nat) : Nat :=
  let v := s.island i
  let flops := fun (b : Nat) => (List.range 16).foldl (fun n k => n + (if Tab.get (fun _ => false) v.q (b * 16 + k) then 2 ^ k else 0)) 0
  if w < 128 then flops (2 * w) + 65536 * flops (2 * w + 1)
  else if w < 176 then
    let c := Tab.get (fun _ => SliceSt.init) v.slices ((w - 128) / 2)
    if w % 2 = 0 then c.acc.toNat % 2 ^ 32
    else c.acc.toNat / 2 ^ 32 + (if c.msat then 256 else 0) + (if c.av then 512 else 0) + (if c.sat then 1024 else 0)
  else if w = 176 then s.rd (snapA (i / 96)) R.SNAP_SEQ.SEQ
  else 0

/-- CAPTURE at an island (R115, R442): an island in RUN, FENCING or STOPPED copies its user state, any other clears its CAPTURED bit. -/
def State.captureIsland (s : State) (i : Nat) : State :=
  let f := R.SNAP_CAP.CAPTURED.shift (4 * (i % 96 / 32))
  let a := snapA (i / 96)
  let st := s.islState i
  let bitv := putBit (s.rd a f) (i % 32)
  if st = 0 ∨ st = 1 ∨ st = 6 then
    let snap := (List.range 177).foldl (fun t w => Tab.put (fun _ => 0) t w (s.snapWord i w)) []
    (s.setIsland i { s.island i with snap := snap }).wr a f (bitv true)
  else s.wr a f (bitv false)

/-- CAPTURE at a bay (R164). -/
def State.captureBay (s : State) (b : Nat) : State :=
  let a := bayA b
  if s.bayState b < 2 then
    let t := stampOf (s.nowQ (b / 32))
    let s := (s.wr a R.SNAP_NS.NS (nsOf t)).wr a R.SNAP_SEC.FRAC (fracOf t / 256)
    let s := (s.wr a R.SNAP_SEC.SEC (secOf t)).wr a R.SNAP_ZONE.HI (s.rd a R.PIN_ZONE.HI)
    let s := (s.wr a R.SNAP_ZONE.LO (s.rd a R.PIN_ZONE.LO)).wr a R.SNAP_PTR.CAP_WR (s.rd a R.CAP_WR.WR)
    (s.wr a R.SNAP_PTR.ADC_WR (s.rd a R.ADC_WR.WR)).wr a R.SNAP_ZONE.VALID 1
  else s.wr a R.SNAP_ZONE.VALID 0

/-- CAPTURE everywhere the tree reaches (R116, R442); event 707 when every present island has captured or cleared its bit (R450). -/
def State.capture (s : State) : State :=
  let s := s.broadcast 4 0
  let qs := s.quads.filter s.treeReaches
  let s := qs.foldl (fun s q => s.wr (snapA q) R.SNAP_SEQ.SEQ (s.rd (snapA q) R.SNAP_SEQ.SEQ + 1)) s
  let s := qs.foldl (fun s q => (List.range 96).foldl (fun s i => s.captureIsland (q * 96 + i)) s) s
  let s := qs.foldl (fun s q => (List.range 32).foldl (fun s b => s.captureBay (q * 32 + b)) s) s
  s.raise 707

/-- BCAST_CAPTURE (R116). -/
def execBcastCapture (s : State) : Host.Outcome State Fault Refusal := .next s.capture

/-- STOP to the groups of a mask (R116). -/
def State.stopGroups (s : State) (mask : Nat) : State :=
  let s := s.broadcast 5 mask
  s.reached.foldl (fun s i =>
    if (s.rd (islA i) R.ISL_CTRL.GRP &&& mask) ≠ 0 ∧ (s.islState i = 0 ∨ s.islState i = 1) then s.setIslState i 6 else s) s

/-- BCAST_STOP (R116). -/
def execBcastStop (mask : Nat) (s : State) : Host.Outcome State Fault Refusal := .next (s.stopGroups (mask % 16))

/-- GO to the groups of a mask: a stopped island returns to RUN, also one that S1 stopped (R116, R466). -/
def State.goGroups (s : State) (mask : Nat) : State :=
  let s := s.broadcast 6 mask
  s.reached.foldl (fun s i =>
    if (s.rd (islA i) R.ISL_CTRL.GRP &&& mask) ≠ 0 ∧ s.islState i = 6 then (s.leaveSleep i).setIslState i 0 else s) s

/-- BCAST_GO (R116, R466). -/
def execBcastGo (mask : Nat) (s : State) : Host.Outcome State Fault Refusal := .next (s.goGroups (mask % 16))

end Sys2Proof.Machine
end

