-- ==== Sys2Proof/Machine/Memory.lean ====
section
/-! DEFINITION. Machine/Memory.lean: external memory: the memory map, the controllers, the external-memory code, row-disturb tracking,
scrubbing, fills and the raw test windows (spec/08_memory.md). -/
namespace Sys2Proof.Machine
open Sys2Proof

/-! ## The external-memory code (R307 to R309) -/

/-- The product of two elements of GF(2⁸), over the low `n` bits of `a` (R308). -/
def gfMulN : Nat → Nat → Nat → Nat
  | 0, _, _ => 0
  | n + 1, a, b =>
    let b2 := if b < 128 then 2 * b else (2 * b) ^^^ 0x11D
    (if a % 2 = 1 then b else 0) ^^^ gfMulN n (a / 2) b2
/-- The product in GF(2⁸). -/
def gfMul (a b : Nat) : Nat := gfMulN 8 (a % 256) (b % 256)
/-- α to the power `n`. -/
def gfPow : Nat → Nat
  | 0 => 1
  | n + 1 => gfMul 2 (gfPow n)

/-- The coefficients below x^16 of the product of (x − αʲ), j = 0 to 15, highest first: the code's generator (R308). -/
def rsGen : List Nat :=
  ((List.range 16).foldl
    (fun (g : List Nat) j => List.zipWith (fun (x y : Nat) => x ^^^ gfMul (gfPow j) y) (g ++ [0]) (0 :: g)) [1]).drop 1

/-- One step of the division by the generator: the 16 remainder bytes, highest first, take data byte `d`. -/
def rsStep (g rem : List Nat) (d : Nat) : List Nat :=
  let f := rem.headD 0 ^^^ d
  List.zipWith (fun (x y : Nat) => x ^^^ gfMul f y) (rem.drop 1 ++ [0]) g

/-- Byte `i` of a number. -/
def byteOf (n i : Nat) : Nat := n / 256 ^ i % 256

/-- The check bytes of a 64-byte line as one number, check byte 0 lowest (R308). -/
def lineCheck (data : Nat) : Nat :=
  let g := rsGen
  let rem := (List.range 64).foldl (fun r i => rsStep g r (byteOf data i)) (List.replicate 16 0)
  rem.reverse.foldl (fun n b => n * 256 + b) 0

/-- Syndrome Sⱼ of a line whose check bytes differ from those of its data by `d` (R309). -/
def syndrome (d j : Nat) : Nat := (List.range 16).foldl (fun x k => x ^^^ gfMul (byteOf d k) (gfPow (j * (15 - k)))) 0

/-- The outcome of decoding a line: its corrected data, CE, UE, the symbol corrected and the error value (R309, R316). -/
structure LineEcc where
  data : Nat
  ce : Bool
  ue : Bool
  pos : Nat
  eval : Nat
  deriving DecidableEq, Repr

/-- Whether the syndromes are those of one wrong symbol at exponent `p`. -/
def oneSymbol (syn : List Nat) (p : Nat) : Bool :=
  (syn.zip (syn.drop 1)).all (fun x => decide (x.2 = gfMul x.1 (gfPow p)))

/-- Decode a line (R309). -/
def lineDecode (data d : Nat) : LineEcc :=
  if d = 0 then ⟨data, false, false, 0, 0⟩
  else
    let syn := (List.range 16).map (syndrome d)
    let s0 := syn.headD 0
    match (if s0 = 0 then none else (List.range 80).find? (oneSymbol syn)) with
    | none => if syn.all (fun x => decide (x = 0)) then ⟨data, false, false, 0, 0⟩ else ⟨data, false, true, 0x7F, 0⟩
    | some p =>
      if 16 ≤ p then
        let i := 79 - p
        ⟨data ^^^ (s0 * 256 ^ i), true, false, 10 * (i / 8) + i % 8, s0⟩
      else
        let k := 15 - p
        ⟨data, true, false, 10 * (k / 2) + 8 + k % 2, s0⟩

/-! ## The memory map (R290 to R294) -/

/-- The channels that CHMASK names, lowest first. -/
def maskChans (m : Nat) : List Nat := (List.range 8).filter (fun c => m.testBit c)

/-- A field of interleave set `i` in the copy of quadrant `q`. -/
def State.il (s : State) (q i : Nat) (f : Fld) : Nat := s.rd (mapA q) (f.shift (16 * i))

/-- The grain G of a set: GRAIN above 22 acts as 22 (R290, R321). -/
def State.ilGrain (s : State) (q i : Nat) : Nat := 2 ^ (min (s.il q i R.IL_CFG.GRAIN) 22 + 8)

/-- The channel and channel address of an external-memory physical address; none at or above MEM_TOP or in no enabled set (R290, R293). -/
def State.decodeMem (s : State) (pa : Nat) : Option (Nat × Nat) :=
  if s.rd (mapA 0) R.MEM_TOP.TOP * 2 ^ 28 ≤ pa then none
  else
    match (List.range 8).find? (fun i =>
      s.il 0 i R.IL_CFG.EN = 1 ∧ s.il 0 i R.IL_BASE.BASE * 2 ^ 28 ≤ pa ∧
        pa < (s.il 0 i R.IL_BASE.BASE + s.il 0 i R.IL_SIZE.SIZE) * 2 ^ 28) with
    | none => none
    | some i =>
      let o := pa - s.il 0 i R.IL_BASE.BASE * 2 ^ 28
      let chans := maskChans (s.il 0 i R.IL_CFG.CHMASK)
      let n := chans.length
      let g := s.ilGrain 0 i
      match chans[o / g % n]? with
      | none => none
      | some ch => some (ch, s.il 0 i R.IL_CHOFF.CHOFF * 2 ^ 28 + o / (g * n) * g + o % g)

/-- ORG of a channel. -/
def State.mcOrg (s : State) (ch : Nat) : Nat := s.rd (mcA ch) R.MC_CFG.ORG
/-- The capacity of a channel in bytes (R287). -/
def State.mcCap (s : State) (ch : Nat) : Nat := if s.mcOrg ch = 0 then 2 ^ 35 else 2 ^ 36
/-- MC_STATE.STATE (R295). -/
def State.mcState (s : State) (ch : Nat) : Nat := s.rd (mcA ch) R.MC_STATE.STATE
/-- Set it. -/
def State.setMcState (s : State) (ch st : Nat) : State := s.wr (mcA ch) R.MC_STATE.STATE st
/-- A command ignored (R289, R296, R314). -/
def State.mcIgn (s : State) (ch : Nat) : State := s.wr (mcA ch) R.MC_STATE.CMD_IGN 1

/-- The bank of a channel address: (rank × 2 + subchannel) × 32 + bank index (R294). -/
def State.caBank (s : State) (ch ca : Nat) : Nat :=
  let rank := if s.mcOrg ch = 1 then bits ca 35 35 else 0
  (rank * 2 + bits ca 6 6) * 32 + bits ca 9 7 * 4 + bits ca 11 10
/-- The row of a channel address (R294). -/
def State.caRow (s : State) (ch ca : Nat) : Nat := if s.mcOrg ch = 2 then bits ca 35 19 else bits ca 34 19

/-- Who makes an access: the requester's router and port, whether the scrubber or a writeback does, whether a partial write reads (R305, R316), the class
of its requests outside register space (R263), and DEV of the leaf (R258). -/
structure Who where
  src : Nat
  sport : Nat
  scrub : Bool
  write : Bool
  tc : Nat
  dev : Bool
  deriving DecidableEq, Repr

/-! ## Activations (R304, R305) -/

/-- The lowest-numbered entry of lowest count, where the search begins with entry `k` holding count `m`. -/
def lowestEntry : List (Nat × Nat) → Nat → Nat → Nat → Nat
  | [], _, best, _ => best
  | e :: es, i, best, m => if e.2 < m then lowestEntry es (i + 1) i e.2 else lowestEntry es (i + 1) best m

/-- What a tracker does on an ACT of a row: the entries after it and the row's count (R304). -/
def trackAct (t : List (Nat × Nat)) (row : Nat) : List (Nat × Nat) × Nat :=
  match t.find? (fun e => decide (e.1 = row)) with
  | some e => (t.map (fun x => if x.1 = row then (row, e.2 + 1) else x), e.2 + 1)
  | none =>
    if t.length < 16 then (t ++ [(row, 1)], 1)
    else
      match t with
      | [] => ([(row, 1)], 1)
      | e :: es =>
        let i := lowestEntry es 1 0 e.2
        let n := (((e :: es)[i]?).getD (0, 0)).2 + 1
        ((e :: es).set i (row, n), n)

/-- The THROTTLE payload of a channel (R306). -/
def State.throttleMsg (s : State) (ch : Nat) : Nat :=
  1 + ch % 8 * 256 + s.rd (mcA ch) R.MC_THROTTLE.THR_GAP * 2 ^ 16 + s.rd (mcA ch) R.MC_THROTTLE.THR_TIME * 2 ^ 32

/-- Change a controller's own state. -/
def State.modMc (s : State) (ch : Nat) (f : McSt → McSt) : State := s.setMc ch (f (s.mc ch))

/-- A count has reached RD_THRESH (R305). -/
def State.rowDisturb (s : State) (ch bank row : Nat) (who : Who) : State :=
  let a := mcA ch
  let s := s.emit (.refresh ch bank true)
  let s := s.modMc ch fun v =>
    { v with
      openRow := Tab.put (fun _ => 0) v.openRow bank 0
      tracker := Tab.put (fun _ => []) v.tracker bank
        ((Tab.get (fun _ => []) v.tracker bank).map (fun e => if e.1 = row then (row, 0) else e)) }
  let s := (s.wr a R.MC_RDLAST.SRC (if who.scrub then 0 else who.src)).wr a R.MC_RDLAST.SPORT (if who.scrub then 0 else who.sport)
  let s := (s.wr a R.MC_RDLAST.SCRUB (if who.scrub then 1 else 0)).wr a R.MC_RDLAST.SUBCH (bank / 32 % 2)
  let s := (s.wr a R.MC_RDLAST.RANK (bank / 64)).wr a R.MC_RDLAST.BANK (bank % 32)
  let s := ((s.wr a R.MC_RDROW.ROW row).bump a R.MC_RDCNT.COUNT 1).raise (600 + ch / 2)
  if who.scrub then s else s.emit (.message who.src who.sport (s.throttleMsg ch))

/-- An access reaches a row: it opens it if another row, or none, is open (R297, R304, R305). -/
def State.openFor (s : State) (ch ca : Nat) (who : Who) : State :=
  let bank := s.caBank ch ca
  let row := s.caRow ch ca
  if Tab.get (fun _ => 0) (s.mc ch).openRow bank = row + 1 then s
  else
    let t := trackAct (Tab.get (fun _ => []) (s.mc ch).tracker bank) row
    let s := s.modMc ch fun v =>
      { v with
        openRow := Tab.put (fun _ => 0) v.openRow bank (row + 1)
        tracker := Tab.put (fun _ => []) v.tracker bank t.1 }
    let th := s.rd (mcA ch) R.MC_RDIST.RD_THRESH
    if th ≠ 0 ∧ th ≤ t.2 then s.rowDisturb ch bank row who else s

/-! ## Lines (R299, R300, R308 to R310, R312, R315, R316) -/

/-- The stored data of a line. -/
def State.lineData (s : State) (ch line : Nat) : Nat := s.bytes (dramA ch (64 * line)) 64

/-- Store data in a line with check bytes that differ from the data's by `d`. -/
def State.putLine (s : State) (ch line data d : Nat) : State :=
  let s := (s.setBytes (dramA ch (64 * line)) 64 data).setDiff (chkLine ch line) d
  if (s.mc ch).undef then s.modMc ch fun v => { v with wrote := Tab.put (fun _ => false) v.wrote line true } else s

/-- Whether the contents of a line are undefined (R312). -/
def State.lineUndef (s : State) (ch line : Nat) : Bool := (s.mc ch).undef && !Tab.get (fun _ => false) (s.mc ch).wrote line

/-- Count and log an error of a channel (R315, R316). -/
def State.memError (s : State) (ch line : Nat) (who : Who) (r : LineEcc) : State :=
  let a := eccA ch
  let w1 := (if r.ue then 2 ^ 31 else 0) + (if who.scrub then 2 ^ 30 else 0) + (if who.write then 2 ^ 29 else 0) + r.pos % 128 * 2 ^ 22
    + r.eval % 256 * 2 ^ 14 + (if who.scrub then 0 else who.src % 256 * 64 + who.sport % 4 * 16)
  let s :=
    if r.ue then (s.bump a R.UE_CNT.COUNT 1).raise (576 + ch)
    else
      let s := s.bump a R.CE_CNT.COUNT 1
      let t := s.rd a R.CE_THR.THR
      if t ≠ 0 ∧ t ≤ s.rd a R.CE_CNT.COUNT ∧ !(s.mc ch).ceFired then
        (s.modMc ch fun v => { v with ceFired := true }).raise (584 + ch)
      else s
  s.logEntry a (ch / 2) (line % 2 ^ 32) w1

/-- Read a line through the code, counting and logging an error. A line whose contents are undefined either is an uncorrectable error or
takes an open value (log entry 1). -/
def State.lineRead (s : State) (ch line : Nat) (who : Who) : LineEcc × State :=
  let s := s.openFor ch (64 * line) who
  if s.lineUndef ch line then
    if s.freeChoice then
      let r : LineEcc := ⟨0, false, true, 0x7F, 0⟩
      (r, s.drawn.memError ch line who r)
    else
      let d := (s.freeVal 512).toNat
      (⟨d, false, false, 0, 0⟩, s.drawn.putLine ch line d 0)
  else
    let r := lineDecode (s.lineData ch line) (s.diff (chkLine ch line))
    (r, if r.ce || r.ue then s.memError ch line who r else s)

/-- Whether the controller serves requests; a request wakes it from idle self-refresh (R293, R295, R303). -/
def State.mcServes (s : State) (ch : Nat) : Bool := s.chOk ch && (decide (s.mcState ch = 3) || decide (s.mcState ch = 4))
/-- The controller leaves SELF_REFRESH (R303). -/
def State.mcWake (s : State) (ch : Nat) : State := if s.mcState ch = 4 then s.setMcState ch 3 else s

/-- Read a line for a request: status (R259), the line and the state (R310). -/
def State.memLine (s : State) (ch line : Nat) (who : Who) : Nat × Nat × State :=
  if s.mcServes ch then
    let r := (s.mcWake ch).lineRead ch line who
    if r.1.ue then (4, 0, r.2)
    else (0, r.1.data, if r.1.ce && s.bit (mcA ch) R.MC_CFG.CE_WB then r.2.putLine ch line r.1.data 0 else r.2)
  else (1, 0, s)

/-- Write a line for a request under 64 byte enables (R300, R310). -/
def State.memPut (s : State) (ch line be data : Nat) (who : Who) : Nat × State :=
  if s.mcServes ch then
    let s := s.mcWake ch
    if be % 2 ^ 64 = 2 ^ 64 - 1 then (0, (s.openFor ch (64 * line) who).putLine ch line data 0)
    else
      let r := s.lineRead ch line { who with write := true }
      if r.1.ue then (4, r.2) else (0, r.2.putLine ch line (mergeBytes 64 be r.1.data data) 0)
  else (1, s)

/-- Read `n` bytes of external memory, within one line (R258, R293). -/
def State.memRead (s : State) (pa n : Nat) (who : Who) : Nat × Nat × State :=
  match s.decodeMem pa with
  | none => (2, 0, s)
  | some (ch, ca) =>
    let r := s.memLine ch (ca / 64) who
    (r.1, r.2.1 / 2 ^ (8 * (ca % 64)) % 2 ^ (8 * n), r.2.2)

/-- Write `n` bytes of external memory, within one line, under byte enables (bit 0 for the first byte). -/
def State.memWrite (s : State) (pa n be v : Nat) (who : Who) : Nat × State :=
  match s.decodeMem pa with
  | none => (2, s)
  | some (ch, ca) => s.memPut ch (ca / 64) (be % 2 ^ n * 2 ^ (ca % 64)) (v % 2 ^ (8 * n) * 2 ^ (8 * (ca % 64))) who

/-! ## Controller commands (R289, R296, R312, R547, R549) -/

/-- Lose or zero the contents of a channel. -/
def State.dropContents (s : State) (ch : Nat) (undef : Bool) : State :=
  let s := { s with
    mem := Tab.drop (fun k => decide (dramA ch 0 ≤ k ∧ k < dramA (ch + 1) 0)) s.mem
    chk := Tab.drop (fun k => decide (chkLine ch 0 ≤ k ∧ k < chkLine (ch + 1) 0)) s.chk }
  s.modMc ch fun v => { v with undef := undef, wrote := [] }

/-- MC_CFG_WRITE (R289): taken only in OFF. -/
def execMcCfgWrite (ch : Nat) (value : BitVec 32) (s : State) : Host.Outcome State Fault Refusal :=
  .next <|
    if s.chOk ch then
      if s.mcState ch = 0 then
        let a := mcA ch
        let v := value.toNat
        let s := (s.wr a R.MC_CFG.DRAM_FILL_BEFORE_RELEASE (bits v 31 31)).wr a R.MC_CFG.CE_WB (bits v 30 30)
        let s := (s.wr a R.MC_CFG.RDIMM (bits v 29 29)).wr a R.MC_CFG.SR_IDLE (bits v 15 0)
        let s := if bits v 27 26 = 3 then s else s.wr a R.MC_CFG.ORG (bits v 27 26)
        if bits v 25 24 = 3 then s else s.wr a R.MC_CFG.SPEED (bits v 25 24)
      else s.mcIgn ch
    else s

/-- INIT of a channel (R296). -/
def State.mcInit (s : State) (ch : Nat) (byLoad : Bool) : State :=
  if s.mcState ch = 0 ∨ s.mcState ch = 6 then
    (s.setMcState ch 1).modMc ch fun v => { v with byLoad := byLoad, openRow := [], tracker := [], postponed := [] }
  else s.mcIgn ch

/-- MC_INIT (R296). -/
def execMcInit (ch : Nat) (s : State) : Host.Outcome State Fault Refusal :=
  .next <| if s.chOk ch then s.mcInit ch false else s

/-- The controller enters FAILED; a channel of the load in progress sets MEM_FAIL (R447). -/
def State.mcFail (s : State) (ch : Nat) : State :=
  let s := s.setMcState ch 6
  let st := s.rd (cfgA 0) R.CFG_STAT.STATE
  if (s.mc ch).byLoad && s.load.initCh.contains ch && decide (1 ≤ st ∧ st < 4 ∨ st = 6) then s.wr (cfgA 0) R.CFG_STAT.MEM_FAIL 1 else s

/-- MC_TRAINING_DONE (R296, R312, R549): `ok` says whether training succeeds. -/
def execMcTrainingDone (ch : Nat) (ok : Bool) (s : State) : Host.Outcome State Fault Refusal :=
  .next <|
    if s.chOk ch && decide (s.mcState ch = 1) then
      if ok then
        if s.bit (mcA ch) R.MC_CFG.DRAM_FILL_BEFORE_RELEASE then s.setMcState ch 2
        else (s.dropContents ch true).setMcState ch 3
      else (s.setFlag (mcA ch) R.MC_STATE.TRAIN_FAIL (604 + ch / 2)).mcFail ch
    else s

/-- MC_FILL (R296). -/
def execMcFill (ch : Nat) (s : State) : Host.Outcome State Fault Refusal :=
  .next <|
    if s.chOk ch then
      if s.mcState ch = 3 then s.setMcState ch 2 else s.mcIgn ch
    else s

/-- MC_FILL_DONE (R312, R323): every line is zero; FILL_DONE and event 604 + q. -/
def execMcFillDone (ch : Nat) (s : State) : Host.Outcome State Fault Refusal :=
  .next <|
    if s.chOk ch && decide (s.mcState ch = 2) then
      ((s.dropContents ch false).setMcState ch 3).setFlag (maintA (ch / 2))
        (if ch % 2 = 0 then R.ECC_MAINT.FILL_DONE0 else R.ECC_MAINT.FILL_DONE1) (604 + ch / 2)
    else s

/-- MC_OFFLINE (R296): queued requests complete first. -/
def execMcOffline (ch : Nat) (s : State) : Host.Outcome State Fault Refusal :=
  .next <|
    if s.chOk ch then
      if s.mcState ch = 3 ∨ s.mcState ch = 4 then s.modMc ch fun v => { v with offlining := true } else s.mcIgn ch
    else s

/-- MC_OFFLINE_DONE (R296). -/
def execMcOfflineDone (ch : Nat) (s : State) : Host.Outcome State Fault Refusal :=
  .next <|
    if s.chOk ch && (s.mc ch).offlining && (decide (s.mcState ch = 3) || decide (s.mcState ch = 4)) then
      (s.setMcState ch 5).modMc ch fun v => { v with offlining := false, openRow := [] }
    else s

/-- MC_ONLINE (R296). -/
def execMcOnline (ch : Nat) (s : State) : Host.Outcome State Fault Refusal :=
  .next <|
    if s.chOk ch then
      if s.mcState ch = 5 then s.setMcState ch 3 else s.mcIgn ch
    else s

/-- VDDQ_LOSS (R547): the controller enters FAILED and the contents are lost. -/
def execVddqLoss (ch : Nat) (s : State) : Host.Outcome State Fault Refusal :=
  .next <|
    if s.chOk ch then
      ((s.dropContents ch true).modMc ch fun v => { v with offlining := false, openRow := [] }).mcFail ch
    else s

/-! ## The device-wide table (R291, R292) -/

/-- The quadrants that hold a live copy of the table. -/
def State.mapCopies (s : State) : List Nat := s.quads.filter (fun q => !s.qReset q)

/-- Write a field of every present copy (R292). -/
def State.mapWrite (s : State) (f : Fld) (v : Nat) : State := s.mapCopies.foldl (fun s q => s.wr (mapA q) f v) s

/-- Whether two ranges [a, a + m) and [b, b + n) overlap. -/
def overlaps (a m b n : Nat) : Bool := decide (a < b + n ∧ b < a + m)

/-- Whether set `i`, as its registers now stand, may be enabled (R291). -/
def State.ilOk (s : State) (q i : Nat) : Bool :=
  let mask := s.il q i R.IL_CFG.CHMASK
  let chans := maskChans mask
  let n := chans.length
  let base := s.il q i R.IL_BASE.BASE
  let size := s.il q i R.IL_SIZE.SIZE
  let choff := s.il q i R.IL_CHOFF.CHOFF
  let others := (List.range 8).filter (fun j => decide (j ≠ i) && decide (s.il q j R.IL_CFG.EN = 1))
  decide (n = 1 ∨ n = 2 ∨ n = 4 ∨ n = 8) && chans.all s.chHere && decide (size ≠ 0) &&
    decide (size * 2 ^ 28 % (n * s.ilGrain q i) = 0) &&
    decide (base + size ≤ s.rd (mapA q) R.MEM_TOP.TOP) &&
    others.all (fun j => !overlaps base size (s.il q j R.IL_BASE.BASE) (s.il q j R.IL_SIZE.SIZE)) &&
    chans.all (fun c => decide (choff * 2 ^ 28 + size * 2 ^ 28 / n ≤ s.mcCap c)) &&
    others.all (fun j =>
      let m := s.il q j R.IL_CFG.CHMASK
      decide (m &&& mask = 0) ||
        !overlaps (choff * 2 ^ 28) (size * 2 ^ 28 / n) (s.il q j R.IL_CHOFF.CHOFF * 2 ^ 28)
          (s.il q j R.IL_SIZE.SIZE * 2 ^ 28 / (maskChans m).length))

/-- A write of IL_CFG of a set through quadrant `q` (R291, R292). -/
def State.ilCfgWrite (s : State) (q i v : Nat) : State :=
  if s.il q i R.IL_CFG.EN = 1 then
    if bits v 31 31 = 0 then s.mapWrite (R.IL_CFG.EN.shift (16 * i)) 0 else s
  else
    let s := (s.mapWrite (R.IL_CFG.GRAIN.shift (16 * i)) (bits v 12 8)).mapWrite (R.IL_CFG.CHMASK.shift (16 * i)) (bits v 7 0)
    if bits v 31 31 = 1 then
      if s.ilOk q i then s.mapWrite (R.IL_CFG.EN.shift (16 * i)) 1 else s.wr (mapA q) R.IL_STAT.IL_ERR 1
    else s

/-- INTERLEAVE_ENABLE (R291): a write of IL_CFG of set `set` in quadrant `q`'s window. -/
def execInterleaveEnable (q set : Nat) (value : BitVec 32) (s : State) : Host.Outcome State Fault Refusal :=
  .next <| if s.quadLive q && decide (set < 8) then s.ilCfgWrite q set value.toNat else s

/-! ## Refresh and self-refresh (R302 to R304) -/

/-- Issue `n` same-bank refreshes to a bank, which close its row (R297, R302). -/
def State.refreshes (s : State) (ch bank : Nat) : Nat → State
  | 0 => s
  | n + 1 =>
    ((s.emit (.refresh ch bank false)).modMc ch fun v => { v with openRow := Tab.put (fun _ => 0) v.openRow bank 0 }).refreshes ch bank n

/-- REFRESH_DUE (R302): a refresh interval of bank `bank` ends; `busy` says that requests are queued for the bank. At most four refreshes
stay postponed. -/
def execRefreshDue (ch bank : Nat) (busy : Bool) (s : State) : Host.Outcome State Fault Refusal :=
  .next <|
    if s.chOk ch && decide (bank < if s.mcOrg ch = 1 then 128 else 64) && (decide (s.mcState ch = 2) || decide (s.mcState ch = 3)) then
      let p := Tab.get (fun _ => 0) (s.mc ch).postponed bank
      let keep := fun (n : Nat) => s.modMc ch fun v => { v with postponed := Tab.put (fun _ => 0) v.postponed bank n }
      if busy then
        if p < 4 then keep (p + 1) else s.refreshes ch bank 1
      else (keep 0).refreshes ch bank (p + 1)
    else s

/-- REFRESH_RATE_POLL (R302): each rank's refresh-rate indication. -/
def execRefreshRatePoll (ch : Nat) (hot0 hot1 : Bool) (s : State) : Host.Outcome State Fault Refusal :=
  .next <|
    if s.chOk ch && (decide (s.mcState ch = 2) || decide (s.mcState ch = 3)) then
      s.modMc ch fun v => { v with fast := Tab.put (fun _ => false) (Tab.put (fun _ => false) v.fast 0 hot0) 1 hot1 }
    else s

/-- SELF_REFRESH_ENTRY (R303). -/
def execSelfRefreshEntry (ch : Nat) (s : State) : Host.Outcome State Fault Refusal :=
  .next <|
    if s.chOk ch && decide (s.mcState ch = 3) && decide (s.rd (mcA ch) R.MC_CFG.SR_IDLE ≠ 0) then
      (s.setMcState ch 4).modMc ch fun v => { v with openRow := [] }
    else s

/-- SELF_REFRESH_EXIT (R303). -/
def execSelfRefreshExit (ch : Nat) (s : State) : Host.Outcome State Fault Refusal :=
  .next <| if s.chOk ch then s.mcWake ch else s

/-- TRACKER_CLEAR (R304). -/
def execTrackerClear (ch : Nat) (s : State) : Host.Outcome State Fault Refusal :=
  .next <| if s.chOk ch then s.modMc ch fun v => { v with tracker := [] } else s

/-! ## Scrubbing (R313, R314) -/

/-- The scrubber moves on from its position; at the end of the capacity it begins a new pass. -/
def State.scrubAdvance (s : State) (ch : Nat) : State :=
  let a := eccA ch
  let n := s.rd a R.SCRUB_POS.LINE + 1
  if s.mcCap ch ≤ 64 * n then
    ((s.wr a R.SCRUB_POS.LINE 0).wr a R.SCRUB_STAT.PASSES (s.rd a R.SCRUB_STAT.PASSES + 1)).setFlag a R.SCRUB_STAT.PASS_DONE (604 + ch / 2)
  else s.wr a R.SCRUB_POS.LINE n

/-- SCRUB_READ (R313): the next line is read; a CE is written back corrected; the raw test line is skipped. -/
def execScrubRead (ch : Nat) (s : State) : Host.Outcome State Fault Refusal :=
  .next <|
    let a := eccA ch
    if s.chOk ch && s.bit a R.SCRUB_CTL.EN && !(s.mc ch).stopped && decide (s.mcState ch = 3) then
      let line := s.rd a R.SCRUB_POS.LINE
      if s.bit a R.ECC_TEST_CTL.EN && decide (s.rd a R.ECC_TEST_ADDR.LINE = line) then s.scrubAdvance ch
      else
        let r := s.lineRead ch line ⟨0, 0, true, false, 3, false⟩
        (if r.1.ce then r.2.putLine ch line r.1.data 0 else r.2).scrubAdvance ch
    else s

/-- A write of SCRUB_CTL (R313, R314). -/
def State.scrubCtlWrite (s : State) (ch : Nat) (en : Bool) (period : Nat) : State :=
  let a := eccA ch
  let s := (s.wr a R.SCRUB_CTL.EN (if en then 1 else 0)).wr a R.SCRUB_CTL.PERIOD period
  let s := s.modMc ch fun v => { v with rewritten := true }
  s.wr a R.SCRUB_STAT.RUNNING (if en && !(s.mc ch).stopped then 1 else 0)

/-- SCRUB_PARITY_MISMATCH (R314). -/
def execScrubParityMismatch (ch : Nat) (s : State) : Host.Outcome State Fault Refusal :=
  .next <|
    if s.chOk ch then
      let s := s.modMc ch fun v => { v with stopped := true, rewritten := false }
      (s.wr (eccA ch) R.SCRUB_STAT.RUNNING 0).setFlag (eccA ch) R.SCRUB_STAT.SCRUB_HALT (604 + ch / 2)
    else s

/-- SCRUB_RESTART (R314). -/
def execScrubRestart (ch : Nat) (s : State) : Host.Outcome State Fault Refusal :=
  .next <|
    if s.chOk ch && (s.mc ch).stopped then
      if (s.mc ch).rewritten then
        (s.modMc ch fun v => { v with stopped := false }).wr (eccA ch) R.SCRUB_STAT.RUNNING (s.rd (eccA ch) R.SCRUB_CTL.EN)
      else if s.bit (eccA ch) R.SCRUB_STAT.SCRUB_HALT then s.mcIgn ch
      else s
    else s

/-- LOG_CLEAR (R316): log 0 or 1 of a controller, 2 of the store group. -/
def execLogClear (q log : Nat) (s : State) : Host.Outcome State Fault Refusal :=
  .next <|
    if s.quadLive q && decide (log < 3) then
      let a := if log = 2 then sgA q else eccA (2 * q + log)
      (s.wr a R.LOG_STAT.NEXT 0).wr a R.LOG_STAT.FILLED 0
    else s

/-! ## Raw test windows (R307, R317, R318) -/

/-- The line under test, within the channel's capacity. -/
def State.testLine (s : State) (ch : Nat) : Nat := s.rd (eccA ch) R.ECC_TEST_ADDR.LINE % (s.mcCap ch / 64)

/-- Symbol `i` of a line with data `d` and check bytes `c` (R307). -/
def symbolOf (d c i : Nat) : Nat := if i % 10 < 8 then byteOf d (i / 10 * 8 + i % 10) else byteOf c (i / 10 * 2 + i % 10 - 8)

/-- ECC_TEST_WRITE (R317). -/
def execEccTestWrite (ch : Nat) (s : State) : Host.Outcome State Fault Refusal :=
  .next <|
    let a := eccA ch
    if s.chOk ch && s.bit a R.ECC_TEST_CTL.EN && s.mcServes ch then
      let raw := (List.range 80).map (fun i => byteOf (s.rd a (R.ECC_TEST_RAW.RAW.shift (i / 4 * 4))) (i % 4))
      let put := fun (sel : Nat → Bool) (place : Nat → Nat) =>
        (List.range 80).foldl (fun n i => if sel i then n + raw.getD i 0 * 256 ^ place i else n) 0
      let data := put (fun i => decide (i % 10 < 8)) (fun i => i / 10 * 8 + i % 10)
      let check := put (fun i => decide (8 ≤ i % 10)) (fun i => i / 10 * 2 + i % 10 - 8)
      let line := s.testLine ch
      let s := (s.mcWake ch).openFor ch (64 * line) ⟨0, 0, false, false, 3, false⟩
      (s.putLine ch line data (check ^^^ lineCheck data)).wr a R.ECC_TEST_CTL.BUSY 1
    else s

/-- ECC_TEST_READ (R317). -/
def execEccTestRead (ch : Nat) (s : State) : Host.Outcome State Fault Refusal :=
  .next <|
    let a := eccA ch
    if s.chOk ch && s.bit a R.ECC_TEST_CTL.EN && s.mcServes ch then
      let line := s.testLine ch
      let s := (s.mcWake ch).openFor ch (64 * line) ⟨0, 0, false, false, 3, false⟩
      let s := if s.lineUndef ch line then
          (s.putLine ch line (s.freeVal 512).toNat (s.drawn.freeVal 128).toNat).drawn.drawn else s
      let data := s.lineData ch line
      let check := lineCheck data ^^^ s.diff (chkLine ch line)
      let s := (List.range 20).foldl (fun s w =>
        s.wr a (R.ECC_TEST_RAW.RAW.shift (4 * w))
          ((List.range 4).foldl (fun n j => n + symbolOf data check (4 * w + j) * 256 ^ j) 0)) s
      s.wr a R.ECC_TEST_CTL.BUSY 1
    else s

/-- ECC_TEST_DONE (R317). -/
def execEccTestDone (ch : Nat) (s : State) : Host.Outcome State Fault Refusal :=
  .next <| if s.chOk ch then s.wr (eccA ch) R.ECC_TEST_CTL.BUSY 0 else s

/-- What SG_TEST_TGT names: 2 no present location, 1 an island store whose island is not in SLACK, 0 a location (R318). -/
def State.sgResult (s : State) (q : Nat) : Nat :=
  let a := sgA q
  let unit := s.rd a R.SG_TEST_TGT.UNIT
  let row := s.rd a R.SG_TEST_TGT.ROW
  match s.rd a R.SG_TEST_TGT.KIND with
  | 0 => if 1535 < unit ∨ 1023 < row then 2 else if s.islState (q * 96 + unit / 16) = 2 then 0 else 1
  | 1 => if 15 < unit ∨ 131071 < row then 2 else 0
  | _ => if 31 < unit ∨ 65535 < row then 2 else 0

/-- The number of data bits, the stored data and the key of the check bits of the store-group target. -/
def State.sgTarget (s : State) (q : Nat) : Nat × Nat × Nat :=
  let a := sgA q
  let unit := s.rd a R.SG_TEST_TGT.UNIT
  let row := s.rd a R.SG_TEST_TGT.ROW
  match s.rd a R.SG_TEST_TGT.KIND with
  | 0 => (36, s.row (rowKey (q * 96 + unit / 16) (unit % 16) row), chkRow (q * 96 + unit / 16) (unit % 16) row)
  | 1 => (32, s.row (deepKey (q * 16 + unit) row), chkDeep (q * 16 + unit) row)
  | _ => (32, s.bytes (sramA (q * 32 + unit) (4 * row)) 4, chkSram (q * 32 + unit) row)

/-- SG_TEST_WRITE (R318). -/
def execSgTestWrite (q : Nat) (s : State) : Host.Outcome State Fault Refusal :=
  .next <|
    let a := sgA q
    if s.quadLive q && s.bit a R.SG_TEST_CTL.EN then
      let r := s.sgResult q
      let s := s.wr a R.SG_TEST_CTL.RESULT r
      if r = 0 then
        let t := s.sgTarget q
        let v := (s.rd a R.SG_TEST_DATA.DATA + 2 ^ 32 * s.rd a R.SG_TEST_DATAH.DATA) % 2 ^ t.1
        let unit := s.rd a R.SG_TEST_TGT.UNIT
        let row := s.rd a R.SG_TEST_TGT.ROW
        let s := s.setDiff t.2.2 (s.rd a R.SG_TEST_DATAH.CHECK ^^^ checkBits t.1 v)
        match s.rd a R.SG_TEST_TGT.KIND with
        | 0 => s.setRow (rowKey (q * 96 + unit / 16) (unit % 16) row) v
        | 1 => s.setRow (deepKey (q * 16 + unit) row) v
        | _ => (s.setBytes (sramA (q * 32 + unit) (4 * row)) 4 v).breakResv (q * 32 + unit) row
      else s
    else s

/-- SG_TEST_READ (R318). -/
def execSgTestRead (q : Nat) (s : State) : Host.Outcome State Fault Refusal :=
  .next <|
    let a := sgA q
    if s.quadLive q && s.bit a R.SG_TEST_CTL.EN then
      let r := s.sgResult q
      let s := s.wr a R.SG_TEST_CTL.RESULT r
      if r = 0 then
        let t := s.sgTarget q
        let s := s.wr a R.SG_TEST_DATA.DATA (t.2.1 % 2 ^ 32)
        let s := if t.1 = 36 then s.wr a R.SG_TEST_DATAH.DATA (t.2.1 / 2 ^ 32) else s
        s.wr a R.SG_TEST_DATAH.CHECK (checkBits t.1 t.2.1 ^^^ s.diff t.2.2)
      else s
    else s

end Sys2Proof.Machine
end

