-- ==== Sys2Proof/Machine/Route.lean ====
section
/-! DEFINITION. Machine/Route.lean: the routes of the on-chip network, what blocks them, the probes that watch them, and accesses of external memory
over them (R254 to R265, R275, R276, R280 to R282 of spec/07_noc.md). -/
namespace Sys2Proof.Machine
open Sys2Proof

/-! ## Routes (R262, R274) -/

/-- The state of router `n` (R274): 0 RUN, 1 DRAINING, 2 FENCED. -/
def State.rtState (s : State) (n : Nat) : Nat := s.rd (rtA n) R.RT_STATE.STATE

/-- The routers that an XY route from one router to another passes, both ends included (R262), in the routing positions of R27. -/
def xyRoute (short : Bool) (a b : Nat) : List Nat :=
  let y := fun (n : Nat) => if short ∧ 6 ≤ n / 12 then n / 12 - 6 else n / 12
  let at_ := fun (x yy : Nat) => if short ∧ 6 ≤ x then (yy + 6) * 12 + x else yy * 12 + x
  let ax := a % 12
  let bx := b % 12
  let along := if ax ≤ bx then (List.range (bx - ax + 1)).map (ax + ·) else (List.range (ax - bx + 1)).map (ax - ·)
  let up := if y a ≤ y b then (List.range (y b - y a)).map (y a + 1 + ·) else (List.range (y a - y b)).map (y a - 1 - ·)
  along.map (fun x => at_ x (y a)) ++ up.map (fun yy => at_ bx yy)

/-- The route between two routers on this part. -/
def State.route (s : State) (a b : Nat) : List Nat := xyRoute (decide (s.fuses.part = .abn9620)) a b

/-- The quadrant of a router. -/
def rtQuad (n : Nat) : Nat := (routerLocal n).1

/-- Whether an address is register space (R32, R33). -/
def registerSpace (pa : Nat) : Bool :=
  (decide (0xD000000000 ≤ pa ∧ pa < 0xD040000000)) ||
    (decide (0xC000000000 ≤ pa ∧ pa < 0xC080000000) && decide (0x800000 ≤ pa % 0x1000000))

/-! ## Blocked hops (R275) -/

/-- The bridge that joins two quadrants (R26, R27). -/
def State.bridgeBetween (s : State) (p q : Nat) : Option Nat :=
  match s.fuses.part with
  | .abn9620 => some 0
  | _ => if (p + 1) % 4 = q then some p else if (q + 1) % 4 = p then some q else none

/-- Whether the hop from router `x` to router `y` is blocked (R275). -/
def State.hopBlocked (s : State) (x y : Nat) : Bool :=
  decide (s.rtState y ≠ 0) || s.qReset (rtQuad y) ||
    (decide (rtQuad x ≠ rtQuad y) &&
      match s.bridgeBetween (rtQuad x) (rtQuad y) with
      | some b => !s.bridgeUp b
      | none => true)

/-- The router at which a packet on this route is held: the source's own router when it is not in RUN (R275). -/
def State.heldOn (s : State) : List Nat → Option Nat
  | [] => none
  | [x] => if s.rtState x ≠ 0 then some x else none
  | x :: y :: t => if s.rtState x ≠ 0 then some x else if s.hopBlocked x y then some x else s.heldOn (y :: t)

/-- A hold ends at router `n` (R275, R286): a request is answered and counted in FENCED, any other packet is counted in DROP. -/
def State.holdEnds (s : State) (n : Nat) (request : Bool) : State :=
  (s.bump (rtA n) (if request then R.RT_HOLDCNT.FENCED else R.RT_HOLDCNT.DROP) 1).raise (516 + rtQuad n)

/-! ## Headers and probes (R256, R280 to R282) -/

/-- A flit header (R256). -/
def flitHdr (dest dport src sport tc ty age tag : Nat) (last : Bool) : Nat :=
  dest % 256 * 2 ^ 56 + dport % 4 * 2 ^ 54 + src % 256 * 2 ^ 46 + sport % 4 * 2 ^ 44 + tc % 4 * 2 ^ 42 + ty % 16 * 2 ^ 38 + age % 256 * 2 ^ 30
    + tag % 2 ^ 14 * 2 ^ 16 + (if last then 2 ^ 15 else 0)

/-- The output port by which a packet leaves router `x` for `y`: 0 to 3 global N, E, S, W (R285); positions as R27 counts them do not change a
direction except at the crossing of the ABN-9620, which leaves east and west. -/
def linkPort (x y : Nat) : Nat := if y % 12 > x % 12 then 1 else if y % 12 < x % 12 then 3 else if y > x then 0 else 2

/-- Whether a probe matches a head flit (R280). -/
def State.probeMatches (s : State) (q p hdr pa : Nat) (request : Bool) : Bool :=
  let a := prbA q p
  let sz := max 6 (min 48 (s.rd a R.PRB_ADDR_LO.SZ))
  let base := s.rd a R.PRB_ADDR_LO.BASE * 64 + s.rd a R.PRB_ADDR_HI.BASE * 2 ^ 32
  decide (bits hdr 45 44 ≠ 2) && (s.rd a R.PRB_CTRL.TCMASK).testBit (bits hdr 43 42) && (s.rd a R.PRB_CTRL.TYPEMASK).testBit (bits hdr 41 38) &&
    decide (bits hdr 53 46 &&& s.rd a R.PRB_MATCH.SRC_MASK = s.rd a R.PRB_MATCH.SRCV &&& s.rd a R.PRB_MATCH.SRC_MASK) &&
    decide (bits hdr 63 56 &&& s.rd a R.PRB_MATCH.DEST_MASK = s.rd a R.PRB_MATCH.DESTV &&& s.rd a R.PRB_MATCH.DEST_MASK) &&
    (!s.bit a R.PRB_CTRL.ADDR_EN || (request && decide (pa / 2 ^ sz = base / 2 ^ sz)))

/-- A record of a probe is dropped (R282). -/
def State.probeDrop (s : State) (q p : Nat) : State :=
  ((s.setProbe (q * 8 + p) { s.probe (q * 8 + p) with loss := true }).bump (prbA q p) R.PRB_TDROP.DROP 1).raise (536 + q)

/-- A matching packet of `flits` flits passes the port that a probe watches (R281, R282). The cycles its head waited are open (log entry 1). -/
def State.probeSees (s : State) (q p hdr req flits : Nat) : State :=
  let a := prbA q p
  let waited := (s.freeVal 8).toNat
  let s := ((s.drawn.bump a R.PRB_PKT.PKT 1).bump a R.PRB_FLIT.FLIT flits).bump a R.PRB_WAIT.WAIT waited
  let s := s.wr a R.PRB_AGEMAX.AGEMAX (max (s.rd a R.PRB_AGEMAX.AGEMAX) (bits hdr 37 30))
  let thr := s.rd a R.PRB_THR.THR
  let v := s.probe (q * 8 + p)
  let s :=
    if thr ≠ 0 ∧ thr ≤ s.rd a R.PRB_PKT.PKT ∧ !v.fired then (s.setProbe (q * 8 + p) { v with fired := true }).raise (532 + q) else s
  if s.bit a R.PRB_CTRL.TRACE then
    let v := s.probe (q * 8 + p)
    if 8 ≤ v.stage.length then s.probeDrop q p
    else s.setProbe (q * 8 + p) { v with stage := v.stage ++ [⟨hdr, req, stampOf (s.nowQ q), decide (waited ≠ 0)⟩] }
  else s

/-- Every enabled probe that watches output `port` of router `n` sees the packet. -/
def State.probePort (s : State) (n port hdr req pa flits : Nat) (request : Bool) : State :=
  let q := rtQuad n
  (List.range 8).foldl (fun s p =>
    if s.bit (prbA q p) R.PRB_CTRL.EN && decide (s.rd (prbA q p) R.PRB_CTRL.ROUTER = (routerLocal n).2) &&
        decide (s.rd (prbA q p) R.PRB_CTRL.PORT = port) && s.probeMatches q p hdr pa request then
      s.probeSees q p hdr req flits
    else s) s

/-- A packet passes the routers of a route up to the last one, where it stays. -/
def State.probeHops (s : State) (route : List Nat) (hdr req pa flits : Nat) (request : Bool) : State :=
  match route with
  | x :: y :: t => (s.probePort x (linkPort x y) hdr req pa flits request).probeHops (y :: t) hdr req pa flits request
  | _ => s

/-- A packet passes along its route and leaves at its destination's port (R262): 4 NAP, 5 UNIT. -/
def State.probeRoute (s : State) (route : List Nat) (dport hdr req pa flits : Nat) (request : Bool) : State :=
  let s := s.probeHops route hdr req pa flits request
  match route.getLast? with
  | some n => s.probePort n (if dport = 0 then 4 else 5) hdr req pa flits request
  | none => s

/-- Whether any probe is on. -/
def State.probing (s : State) : Bool :=
  (List.range 4).any fun q => (List.range 8).any fun p => s.bit (prbA q p) R.PRB_CTRL.EN

/-- AGE of a packet of class `tc` at a grant (R265): BASE of the injecting quadrant, and what its waits have added (open: log entry 1). -/
def State.ageAt (s : State) (q tc : Nat) : Nat := max (s.rd (nocA q) (R.NOC_ARB0.BASE.shift (4 * tc))) (s.freeVal 8).toNat

/-! ## Ways of requests and responses (R256 to R263, R275, R276) -/

/-- A network that delivers every access. -/
def netOk : Net := ⟨0, 0, true⟩

/-- A request as the network carries it: its initiator, its TAG, address, size, debug attribute, and the port it goes to. -/
structure Req where
  who : Who
  tag : Nat
  pa : Nat
  n : Nat
  write : Bool
  dbg : Bool
  dst : Nat
  dport : Nat
  deriving DecidableEq, Repr

/-- The traffic class of a request (R263). -/
def Req.tc (r : Req) : Nat := if registerSpace r.pa then 1 else r.who.tc
/-- Bits [63:0] of its request word (R258). -/
def Req.word (r : Req) : Nat :=
  r.pa % 2 ^ 48 + Nat.log2 r.n % 8 * 2 ^ 48 + (if r.who.dev then 2 ^ 51 else 0) + (if r.dbg then 2 ^ 52 else 0)

/-- The header of a request (R256). -/
def State.reqHdr (s : State) (r : Req) : Nat :=
  flitHdr r.dst r.dport r.who.src r.who.sport r.tc (if r.write then 1 else 0) (s.ageAt (rtQuad r.who.src) r.tc) r.tag (!r.write)

/-- The probes see a request on its way, as far as router `h` where it is held there. -/
def State.seeRequest (s : State) (r : Req) (h : Option Nat) : State :=
  if s.probing then
    let way := s.route r.who.src r.dst
    match h with
    | none => s.drawn.probeRoute way r.dport (s.reqHdr r) r.word r.pa (if r.write then 2 else 1) true
    | some x => s.drawn.probeHops (way.takeWhile (fun y => decide (y ≠ x)) ++ [x]) (s.reqHdr r) r.word r.pa (if r.write then 2 else 1) true
  else s

/-- The header of the response that router `x` sends with a status from its port `sport`. -/
def State.rspHdr (s : State) (dst dport x sport tag status : Nat) (write : Bool) : Nat :=
  flitHdr dst dport x sport 0 (if write then 3 else 2) (s.ageAt (rtQuad x) 0) tag true + status * 2 ^ 12

/-- A response from port `sport` of router `x` on its way to the initiator of `r`: TIMEOUT when its route is blocked (R275, R276). -/
def State.answer (s : State) (r : Req) (x sport status : Nat) : Nat × State :=
  let way := s.route x r.who.src
  let h := s.heldOn way
  let s :=
    if s.probing then
      let hdr := s.rspHdr r.who.src r.who.sport x sport r.tag status r.write
      match h with
      | none => s.drawn.probeRoute way r.who.sport hdr 0 0 1 false
      | some y => s.drawn.probeHops (way.takeWhile (fun z => decide (z ≠ y)) ++ [y]) hdr 0 0 1 false
    else s
  match h with
  | none => (status, s)
  | some y => (5, (s.holdEnds y false).raise (520 + rtQuad r.who.src))

/-- What the way to the target does to a request: 0 lets it through. -/
def State.passage (s : State) (r : Req) (net : Net) : Nat × State :=
  match s.heldOn (s.route r.who.src r.dst) with
  | some h => ((s.seeRequest r (some h)).holdEnds h true).answer r h 1 3
  | none =>
    if net.status = 0 then (0, s.seeRequest r none)
    else if net.status = 3 then (3, s.holdEnds r.who.src true)
    else (5, s.raise (520 + rtQuad r.who.src))

/-- The TAG that a port gives its next request is open; it shows at a probe only. -/
def State.newTag (s : State) : Nat × State := if s.probing then ((s.freeVal 14).toNat, s.drawn) else (0, s)

/-! ## External memory over the network (R260, R293) -/

/-- Read `n` bytes of external memory, with the way there and back. -/
def State.farRead (s : State) (pa n : Nat) (who : Who) : Nat × Nat × State :=
  match s.decodeMem pa with
  | none => (2, 0, s)
  | some (ch, _) =>
    let t := s.newTag
    let q : Req := ⟨who, t.1, pa, n, false, false, routerNum (ch / 2) (32 + ch % 2), 1⟩
    let w := t.2.passage q netOk
    if w.1 ≠ 0 then (w.1, 0, w.2)
    else
      let r := w.2.memRead pa n who
      let x := r.2.2.answer q q.dst 1 r.1
      (x.1, if x.1 = 0 then r.2.1 else 0, x.2)

/-- Write `n` bytes of external memory, with the way there and back. -/
def State.farWrite (s : State) (pa n be v : Nat) (who : Who) : Nat × State :=
  match s.decodeMem pa with
  | none => (2, s)
  | some (ch, _) =>
    let t := s.newTag
    let q : Req := ⟨who, t.1, pa, n, true, false, routerNum (ch / 2) (32 + ch % 2), 1⟩
    let w := t.2.passage q netOk
    if w.1 ≠ 0 then w
    else
      let r := w.2.memWrite pa n be v who
      r.2.answer q q.dst 1 r.1

end Sys2Proof.Machine
end

