-- ==== Sys2Proof/Machine/Contexts.lean ====
section
/-! DEFINITION. Machine/Contexts.lean: engine contexts and their scheduling, exceptions, debug halts and cross-trigger signals, and the staging of
trace packets (R205 to R220 in spec/05_engine_isa.md and spec/06_contexts_queues.md; R495 to R507 in spec/14_debug.md). -/
namespace Sys2Proof.Machine
open Sys2Proof

/-! ## Context state (R208, R495) -/

/-- CTX_STATE.STATE: 0 DISABLED, 1 IDLE, 2 READY, 3 RUNNING, 4 WAITING, 5 FAULTED, 6 HALTED, 7 ABORTING. -/
def State.ctxState (s : State) (b c : Nat) : Nat := s.rd (ctxA b c) R.CTX_STATE.STATE
/-- Set it. -/
def State.setCtxState (s : State) (b c st : Nat) : State := s.wr (ctxA b c) R.CTX_STATE.STATE st
/-- Change a context's own state. -/
def State.modCtx (s : State) (b c : Nat) (f : CtxSt → CtxSt) : State := s.setCtx (b * 32 + c) (f (s.ctx (b * 32 + c)))
/-- The state of a context, or the one it has under a debug halt. -/
def State.effState (s : State) (b c : Nat) : Nat :=
  if s.ctxState b c = 6 then (s.ctx (b * 32 + c)).prev else s.ctxState b c
/-- Set the state of a context, or the one it has under a debug halt. -/
def State.setEff (s : State) (b c st : Nat) : State :=
  if s.ctxState b c = 6 then s.modCtx b c fun v => { v with prev := st } else s.setCtxState b c st
/-- A command or write was ignored (R209). -/
def State.ctxIgn (s : State) (b c : Nat) : State := s.wr (ctxA b c) R.CTX_STATE.CMD_IGN 1
/-- Set it; bits [1:0] are always 0. -/
def State.setPc (s : State) (b c pc : Nat) : State := s.wr (ctxA b c) R.CTX_PC.PC (pc / 4)
/-- The running context (R220). -/
def State.running (s : State) (b : Nat) : Option Nat :=
  if s.bit (schedA b) R.SCHED_STAT.ACTIVE then some (s.rd (schedA b) R.SCHED_STAT.CUR) else none
/-- No context is running any more. -/
def State.stopRunning (s : State) (b : Nat) : State := s.wr (schedA b) R.SCHED_STAT.ACTIVE 0
/-- The priority of a context: 0 is the highest (R211). -/
def State.prio (s : State) (b c : Nat) : Nat := s.rd (ctxA b c) R.CTX_CFG.PRIO
/-- Whether the engine of bay `b` works: the bay is present, in RUN or OFFLINE (R131, R210), and not asleep (R467). -/
def State.engineOn (s : State) (b : Nat) : Bool := s.bayOk b && decide (s.bayState b < 2) && s.awake (1000 + b)

/-! ## Halts (R495 to R500, R502) -/

/-- The cross-trigger groups of XT_IN that a halt signals (R502). -/
def State.xtFrom (s : State) (b : Nat) : List Nat :=
  (List.range 8).filter fun g =>
    (s.rd (dbgEngA b) R.DBG_ENG_CTRL.XT_IN).testBit g && s.bit (xtA 0) (R.XT_CFG.EN.shift (8 * g))

/-- A context under a halt (R495); a WFE that nothing else ends completes with 0 (R202). -/
def State.haltCtx (s : State) (b c : Nat) : State :=
  match s.ctxState b c with
  | 0 => s
  | 5 => s
  | 6 => s
  | st =>
    match (s.ctx (b * 32 + c)).wait with
    | .wfe wd mask limit =>
      if mask = 0 ∧ limit = 0 ∧ st = 4 then
        ((s.modCtx b c fun v => { v.setW wd 0 with wait := .none, prev := 2 }).setPc b c (s.pcOf b c + 4)).setCtxState b c 6
      else (s.modCtx b c fun v => { v with prev := st }).setCtxState b c 6
    | _ => (s.modCtx b c fun v => { v with prev := st }).setCtxState b c 6

/-- Take a halt at an instruction boundary (R495 to R497). -/
def State.takeHalt (s : State) (b reason c : Nat) : State :=
  let a := dbgEngA b
  let s := ((s.wr a R.DBG_ENG_STAT.HALTED 1).wr a R.DBG_ENG_STAT.REASON reason).wr a R.DBG_ENG_STAT.CTX c
  let s := (List.range 32).foldl (fun s k => s.haltCtx b k) s
  let s := (List.range 32).foldl
    (fun s k => if (s.ctx (b * 32 + k)).resv = none then s else s.modCtx b k fun v => { v with resv := none }) s
  let s := (s.stopRunning b).modDbg b fun v => { v with deferred := none, stepping := false }
  let s := (s.raise (4 * b + 1)).traceState b 1 c 0 (s.pcOf b c)
  if reason = 4 ∨ reason = 5 then s else { s with xsig := s.xsig ++ s.xtFrom b }

/-- A deferred halt is taken once the context has issued an STC or no longer runs (R497). -/
def State.settleHalt (s : State) (b : Nat) (stc : Bool) : State :=
  match (s.dbg b).deferred with
  | none => s
  | some r => if stc ∨ s.running b = none then s.takeHalt b r (s.rd (schedA b) R.SCHED_STAT.CUR) else s

/-- A halt reaches the engine (R496, R497, R500). -/
def State.haltReq (s : State) (b reason : Nat) : State :=
  if s.engineOn b && !s.halted b then
    match s.running b with
    | some c =>
      if (s.ctx (b * 32 + c)).resv.isSome then
        s.modDbg b fun v => { v with deferred := some (v.deferred.getD reason) }
      else s.takeHalt b reason c
    | none => s.takeHalt b reason (s.rd (schedA b) R.SCHED_STAT.CUR)
  else s

/-! ## Exceptions (R205, R216, R219, R252) -/

/-- A context enters FAULTED with its record and event 4b + 1; its PC stands where it is. -/
def State.faultCtx (s : State) (b c cause info infoh : Nat) (write imprecise : Bool) : State :=
  let a := ctxA b c
  let s := if s.ctxState b c = 3 then s.stopRunning b else s
  let s := s.setCtxState b c 5
  let s := (s.wr a R.CTX_CAUSE.IMPRECISE (if imprecise then 1 else 0)).wr a R.CTX_CAUSE.WRITE (if write then 1 else 0)
  let s := ((s.wr a R.CTX_CAUSE.CAUSE cause).wr a R.CTX_INFO.INFO info).wr a R.CTX_INFOH.VAH infoh
  let s := (s.wr a R.CTX_STATE.PEND_ERR 0).modCtx b c fun v => { v with resv := none, wait := .none, pendVa := none }
  ((s.raise (4 * b + 1)).traceState b 3 c cause (s.pcOf b c)).settleHalt b false

/-- A posted-store error at virtual address `va` (R216, R217, R219, R495). -/
def State.postedErr (s : State) (b c va : Nat) : State :=
  if s.effState b c = 7 then s
  else if s.ctxState b c = 5 ∨ (s.ctx (b * 32 + c)).pendVa.isSome then s.wr (ctxA b c) R.CTX_CAUSE.MULTI 1
  else if s.ctxState b c = 3 then
    (s.modCtx b c fun v => { v with pendVa := some va }).wr (ctxA b c) R.CTX_STATE.PEND_ERR 1
  else s.faultCtx b c 0x16 (va % 2 ^ 32) (va / 2 ^ 32) true true

/-! ## Scheduling (R211 to R215) -/

/-- The running context gives way to be READY; a posted-store error that it had not taken faults it (R214, R216). -/
def State.yieldReady (s : State) (b c : Nat) : State :=
  let s := (s.setCtxState b c 2).stopRunning b
  match (s.ctx (b * 32 + c)).pendVa with
  | some va => s.faultCtx b c 0x16 (va % 2 ^ 32) (va / 2 ^ 32) true true
  | none => s.settleHalt b false

/-- Context `c` is READY; the running context gives way when its priority is lower (R214). Under a halt it is READY at release (R495). -/
def State.makeReady (s : State) (b c : Nat) : State :=
  let s := s.modCtx b c fun v => { v with wait := .none }
  let s := s.setEff b c 2
  match s.running b with
  | some r => if s.prio b c < s.prio b r ∧ s.ctxState b c = 2 then s.yieldReady b r else s
  | none => s

/-- The running context gives way and waits (R213). -/
def State.giveWay (s : State) (b c : Nat) (w : Wait) : State :=
  (((s.modCtx b c fun v => { v with wait := w }).setCtxState b c 4).stopRunning b).settleHalt b false

/-- The READY context that the engine selects (R211): the highest priority, then the first after the one that last ran at it. `ready` says which
contexts count as READY. -/
def State.selectCtx (s : State) (b : Nat) (ready : Nat → Bool) : Option Nat :=
  match (List.range 4).find? (fun p => (List.range 32).any (fun c => ready c && decide (s.prio b c = p))) with
  | none => none
  | some p =>
    let last := Tab.get (fun _ => 31) (s.bay b).lastRan p
    ((List.range 32).map (fun i => (last + 1 + i) % 32)).find? (fun c => ready c && decide (s.prio b c = p))

/-- Context `c` begins to run. -/
def State.runCtx (s : State) (b c : Nat) : State :=
  let p := s.prio b c
  let s := (s.setCtxState b c 3).modBay b fun v => { v with lastRan := Tab.put (fun _ => 31) v.lastRan p c }
  (s.wr (schedA b) R.SCHED_STAT.ACTIVE 1).wr (schedA b) R.SCHED_STAT.CUR c

/-- CONTEXT_SWITCH (R211, R212): with no context running, the engine selects the next one; TRC_SWITCH makes a packet (R505). -/
def execContextSwitch (b : Nat) (s : State) : Host.Outcome State Fault Refusal :=
  .next <|
    if s.engineOn b && !s.halted b && (s.running b).isNone then
      match s.selectCtx b (fun c => decide (s.ctxState b c = 2)) with
      | none => s
      | some c =>
        let s := s.runCtx b c
        if s.bit (dbgEngA b) R.DBG_ENG_CTRL.TRC_SWITCH then s.tracePkt b 4 0 c 0 (s.pcOf b c) else s
    else s

/-- QUANTUM_EXPIRY (R215): the running context gives way to another READY context of its priority. -/
def execQuantumExpiry (b : Nat) (s : State) : Host.Outcome State Fault Refusal :=
  .next <|
    if s.engineOn b && !s.halted b && decide (s.rd (schedA b) R.SCHED_CFG.QUANTUM ≠ 0) then
      match s.running b with
      | some r =>
        if (List.range 32).any (fun c => decide (s.ctxState b c = 2) && decide (s.prio b c = s.prio b r)) then s.yieldReady b r else s
      | none => s
    else s

/-! ## Context commands (R209, R217) -/

/-- Whether the unit exists. -/
def State.ctxOk (s : State) (b c : Nat) : Bool := s.bayTakes b && decide (c < 32)

/-- A write of CTX_CFG (R209). -/
def State.ctxCfgWrite (s : State) (b c v : Nat) : State :=
  let a := ctxA b c
  let st := s.ctxState b c
  let s := if st = 0 ∨ st = 1 ∨ st = 5 then s.wr a R.CTX_CFG.TCTX (bits v 27 16) else s.ctxIgn b c
  let s := s.wr a R.CTX_CFG.PRIO (bits v 29 28)
  if s.bit a R.CTX_CFG.EN then
    if bits v 31 31 = 1 then s
    else if st = 1 then (s.wr a R.CTX_CFG.EN 0).setCtxState b c 0
    else s.ctxIgn b c
  else if bits v 31 31 = 1 then (s.wr a R.CTX_CFG.EN 1).setCtxState b c 1
  else s

/-- CTX_CFG_WRITE (R209). -/
def execCtxCfgWrite (b c : Nat) (value : BitVec 32) (s : State) : Host.Outcome State Fault Refusal :=
  .next <| if s.ctxOk b c then s.ctxCfgWrite b c value.toNat else s

/-- A write of CTX_PC (R209, R220). -/
def State.ctxPcWrite (s : State) (b c v : Nat) : State :=
  let st := s.ctxState b c
  if st = 0 ∨ st = 1 ∨ st = 5 then s.setPc b c v else s.ctxIgn b c

/-- CTX_PC_WRITE (R209). -/
def execCtxPcWrite (b c : Nat) (value : BitVec 32) (s : State) : Host.Outcome State Fault Refusal :=
  .next <| if s.ctxOk b c then s.ctxPcWrite b c value.toNat else s

/-- START (R209). -/
def State.ctxStart (s : State) (b c : Nat) : State := if s.ctxState b c = 1 then s.makeReady b c else s.ctxIgn b c
/-- RESUME (R209). -/
def State.ctxResume (s : State) (b c : Nat) : State := if s.ctxState b c = 5 then s.makeReady b c else s.ctxIgn b c
/-- ABORT (R209, R217): issue stops, load data will be discarded, the loop and the reservation are cleared. -/
def State.ctxAbort (s : State) (b c : Nat) : State :=
  let st := s.ctxState b c
  if 1 ≤ st ∧ st ≤ 5 then
    let s := if st = 3 then s.stopRunning b else s
    let s := (s.setCtxState b c 7).modCtx b c fun v => { v with loop := none, resv := none, wait := .none, pendVa := none }
    (s.wr (ctxA b c) R.CTX_STATE.PEND_ERR 0).settleHalt b false
  else s.ctxIgn b c

/-- CTX_START (R209). -/
def execCtxStart (b c : Nat) (s : State) : Host.Outcome State Fault Refusal :=
  .next <| if s.ctxOk b c then s.ctxStart b c else s
/-- CTX_RESUME (R209). -/
def execCtxResume (b c : Nat) (s : State) : Host.Outcome State Fault Refusal :=
  .next <| if s.ctxOk b c then s.ctxResume b c else s
/-- CTX_ABORT (R217). -/
def execCtxAbort (b c : Nat) (s : State) : Host.Outcome State Fault Refusal :=
  .next <| if s.ctxOk b c then s.ctxAbort b c else s

/-! ## Debug commands (R486, R496 to R500) -/

/-- The debug level in force (R487). -/
def State.level (s : State) : Nat := s.rd (dbgA 0) R.DBG_LEVEL.LEVEL
/-- LEVEL_DENIED of a quadrant, with event 738 (R486, R551). -/
def State.levelDenied (s : State) (q : Nat) : State := s.setFlag (dbgA q) R.DBG_STAT.LEVEL_DENIED 738
/-- CMD_IGN of an engine (R500, R501). -/
def State.dbgIgn (s : State) (b : Nat) : State := s.wr (dbgEngA b) R.DBG_ENG_STAT.CMD_IGN 1

/-- HALT of an engine at debug level 2 (R486, R496, R500). -/
def State.dbgHalt (s : State) (b : Nat) : State := if s.level < 2 then s.levelDenied (b / 32) else s.haltReq b 1

/-- ENGINE_HALT (R496). -/
def execEngineHalt (b : Nat) (s : State) : Host.Outcome State Fault Refusal :=
  .next <| if s.bayOk b then s.dbgHalt b else s

/-- DEFER_EXPIRY (R497): the 64 cycles of a deferral pass. -/
def execDeferExpiry (b : Nat) (s : State) : Host.Outcome State Fault Refusal :=
  .next <|
    match (s.dbg b).deferred with
    | some r => if s.engineOn b then (s.wr (dbgEngA b) R.DBG_ENG_STAT.DEFER_EXPIRED 1).takeHalt b r (s.rd (schedA b) R.SCHED_STAT.CUR) else s
    | none => s

/-- A context leaves the halt (R499). -/
def State.releaseCtx (s : State) (b c : Nat) : State :=
  if s.ctxState b c = 6 then
    let p := (s.ctx (b * 32 + c)).prev
    let s := s.setCtxState b c p
    if p = 3 then (s.wr (schedA b) R.SCHED_STAT.ACTIVE 1).wr (schedA b) R.SCHED_STAT.CUR c else s
  else s

/-- The effects of R162 when the engine of a bay in RUN is released. -/
def State.releaseBay (s : State) (b : Nat) : State :=
  if s.bayState b = 0 then
    let s := (s.wr (bayA b) R.WDOG_STAT.REMAIN (s.rd (bayA b) R.WDOG_CFG.TIMEOUT)).wr (bayA b) R.WDOG_STAT.WDOG_DEBUG_RELOAD 1
    let s := (s.modBay b fun v => { v with gapAdc := true }).regrid b
    ((s.resyncPins b).drivePins b).reflex b false
  else s

/-- Release a halted engine (R499): contexts return to their states, a READY context of higher priority runs first. -/
def State.releaseEngine (s : State) (b : Nat) : State :=
  let a := dbgEngA b
  let s := (s.wr a R.DBG_ENG_STAT.HALTED 0).wr a R.DBG_ENG_STAT.REASON 0
  let s := s.modDbg b fun v => { v with stepping := false, stepWait := false, deferred := none }
  let s := (List.range 32).foldl (fun s c => s.releaseCtx b c) s
  let s := match s.running b with
    | some r =>
      if (List.range 32).any (fun c => decide (s.ctxState b c = 2) && decide (s.prio b c < s.prio b r)) then s.yieldReady b r else s
    | none => s
  let c := s.rd (schedA b) R.SCHED_STAT.CUR
  (s.traceState b 2 c 0 (s.pcOf b c)).releaseBay b

/-- RELEASE of an engine at level 2 (R486, R499, R500). -/
def State.dbgRelease (s : State) (b : Nat) : State :=
  if s.level < 2 then s.levelDenied (b / 32)
  else if s.halted b then s.releaseEngine b
  else if (s.dbg b).deferred.isSome then s.modDbg b fun v => { v with deferred := none }
  else s.dbgIgn b

/-- ENGINE_RELEASE (R499). -/
def execEngineRelease (b : Nat) (s : State) : Host.Outcome State Fault Refusal :=
  .next <| if s.bayOk b then s.dbgRelease b else s

/-! ## Cross-trigger groups (R502, R503) -/

/-- The bays whose engine belongs to a group and that the broadcast tree reaches. -/
def State.xtMembers (s : State) (g : Nat) : List Nat :=
  (List.range 128).filter fun b =>
    s.bayOk b && s.treeReaches (b / 32) && (s.rd (dbgEngA b) R.DBG_ENG_CTRL.XT_OUT).testBit g

/-- A field of group `g`. -/
def State.xt (s : State) (g : Nat) (f : Fld) : Nat := s.rd (xtA 0) (f.shift (8 * g))

/-- A signal of group `g` reaches its members. -/
def State.xtSignal (s : State) (g : Nat) : State :=
  if s.xt g R.XT_CFG.EN = 1 then
    let s := (s.xtMembers g).foldl (fun s b => s.haltReq b 3) s
    let s := if s.xt g R.XT_CFG.CAPTURE = 1 then s.capture else s
    let s := if s.xt g R.XT_CFG.STOP = 1 then s.stopGroups (s.xt g R.XT_CFG.GMASK) else s
    s.raise (744 + g)
  else s

/-- The signals on their way arrive, in the order in which they reached Q0. -/
def State.xtDeliver (s : State) : State := s.xsig.foldl (fun s g => s.xtSignal g) { s with xsig := [] }

/-- PULSE of a group at level 2 (R486, R502). -/
def State.xtPulse (s : State) (g : Nat) : State := if s.level < 2 then s.levelDenied 0 else s.xtSignal g

/-- XT_PULSE (R502). -/
def execXtPulse (g : Nat) (s : State) : Host.Outcome State Fault Refusal :=
  .next <| if g < 8 then s.xtPulse g else s

/-- RELEASE of a group at level 2 (R486, R502). -/
def State.xtRelease (s : State) (g : Nat) : State :=
  if s.level < 2 then s.levelDenied 0
  else
    let s := (s.xtMembers g).foldl (fun s b => if s.halted b then s.releaseEngine b else s) s
    if s.xt g R.XT_CFG.STOP = 1 then s.goGroups (s.xt g R.XT_CFG.GMASK) else s

/-- XT_RELEASE (R502). -/
def execXtRelease (g : Nat) (s : State) : Host.Outcome State Fault Refusal :=
  .next <| if g < 8 then s.xtRelease g else s

end Sys2Proof.Machine
end

