-- ==== Sys2Proof/Machine/Bridges.lean ====
section
/-! DEFINITION. Machine/Bridges.lean: the bridges between quadrant dies (spec/15_multi_die.md): rotation check, wire groups, training and bad
frames. -/
namespace Sys2Proof.Machine

/-- The two sides of bridge `b`: quadrant and edge (R26, R27, R525). -/
def State.brgSides (s : State) (b : Nat) : List (Nat × Nat) :=
  match s.fuses.part with
  | .abn9640 => [(b, 0), ((b + 1) % 4, 1)]
  | .abn9620 => [(0, 0), (2, 0)]
  | .abn9610 => []

/-- The bridge at edge `k` of quadrant `q` (R525). -/
def State.brgOf (s : State) (q k : Nat) : Option Nat :=
  match s.fuses.part with
  | .abn9640 => if q < 4 ∧ k = 0 then some q else if q < 4 ∧ k = 1 then some ((q + 3) % 4) else none
  | .abn9620 => if (q = 0 ∨ q = 2) ∧ k = 0 then some 0 else none
  | .abn9610 => none

/-- A field of one side of a bridge. -/
def State.brg (s : State) (p : Nat × Nat) (f : Fld) : Nat := s.rd (brgA p.1 p.2) f
/-- Write it on every side of bridge `b`. -/
def State.setBrg (s : State) (b : Nat) (f : Fld) (v : Nat) : State :=
  (s.brgSides b).foldl (fun s p => s.wr (brgA p.1 p.2) f v) s
/-- Set a sticky flag on every side of bridge `b`; each change from 0 to 1 is one occurrence of event 760 + b (R526, R551). -/
def State.flagBrg (s : State) (b : Nat) (f : Fld) : State :=
  (s.brgSides b).foldl (fun s p => s.setFlag (brgA p.1 p.2) f (760 + b)) s

/-- The number of groups in a mask. -/
def groupCount (m : Nat) : Nat := ((List.range 8).filter (fun g => m.testBit g)).length

/-- Words in flight on an extension of bridge `b`, which have not yet reached the sink's end, are lost and counted at the sink's edge (R109). -/
def State.loseInFlight (s : State) (b : Nat) : State :=
  (s.brgSides b).foldl (fun s p =>
    s.cells.foldl (fun s kv =>
      match kv.2 with
      | none => s
      | some cfg =>
        if kv.1 / 96 = p.1 then
          cfg.chans.foldl (fun s x =>
            if x.source = false ∧ x.edge = 1 - p.2 ∧ (s.bridgeEnd kv.1 x.edge x.chan).isSome then
              let id := s.chanId kv.1 x.edge x.chan
              let words := (s.chan id).words
              (s.setChan id { s.chan id with words := words.filter (fun w => decide (2 ≤ w.2)) }).lost kv.1 x.edge
                (words.filter (fun w => decide (w.2 < 2))).length
            else s) s
        else s) s) s

/-- STATE and IN_USE of both sides; a bridge that leaves UP for DOWN or FENCED loses what is in flight on it; a change of either is one occurrence of event 760 + b (R526; log entry 24). -/
def State.brgBecomes (s : State) (b st use : Nat) : State :=
  let changed := (s.brgSides b).any fun p => decide (s.brg p R.BRG_STAT.STATE ≠ st ∨ s.brg p R.BRG_STAT.IN_USE ≠ use)
  let s := if (st = 0 ∨ st = 3) ∧ s.bridgeUp b then s.loseInFlight b else s
  ((s.setBrg b R.BRG_STAT.STATE st).setBrg b R.BRG_STAT.IN_USE use).raiseIf changed (760 + b)

/-- IN_USE = OWN AND PARTNER less the groups removed, UP or FENCED by their number; each side records a mismatch of the masks (R514). -/
def State.adoptMask (s : State) (b use : Nat) : State :=
  let sides := s.brgSides b
  let differ := sides.any fun p => decide (s.brg p R.BRG_STAT.OWN ≠ s.brg p R.BRG_STAT.PARTNER)
  let s :=
    if differ then
      let s := s.flagBrg b R.BRG_STAT.WIDTH_MISMATCH
      sides.foldl (fun s p =>
        let a := brgA p.1 p.2
        ((s.wr a R.BRG_LAST.OWN (s.rd a R.BRG_STAT.OWN)).wr a R.BRG_LAST.PARTNER (s.rd a R.BRG_STAT.PARTNER)).wr a
          R.BRG_LAST_NS.NS (nsOf (s.nowQ p.1))) s
    else s
  s.brgBecomes b (if 4 ≤ groupCount use then 2 else 3) use

/-- Training of bridge `b` begins once both of its quadrants are out of reset (R517, R518). A bridge that has seen a wrong rotation code
stays DOWN (R512). -/
def State.trainBridge (s : State) (b : Nat) : State :=
  if s.bridgeOk b && !s.deadBrg b && (s.brgSides b).all (fun p => !s.qReset p.1 && decide (s.brg p R.BRG_STAT.STATE ≠ 1)) then
    let use := match s.brgSides b with
      | p :: _ => s.brg p R.BRG_STAT.IN_USE
      | [] => 0
    let s := (List.range 8).foldl (fun s g => s.setBadFrames (b * 8 + g) []) s
    s.brgBecomes b 1 use
  else s

/-- RETRAIN written on edge `k` of quadrant `q` (R518). A retrain during training is absorbed. -/
def State.retrain (s : State) (q k : Nat) : State :=
  match s.brgOf q k with
  | some b => s.trainBridge b
  | none => s

/-- RETRAIN (R518). -/
def execRetrain (q k : Nat) (s : State) : Host.Outcome State Fault Refusal := .next (s.retrain q k)

/-- BRIDGE_TRAINING_DONE (R512 to R514, R517): `good0` and `good1` are the groups whose received direction passed on each side, `spare0` and
`spare1` those that use their spare wire there. -/
def execBridgeTrainingDone (b : Nat) (codeOk : Bool) (good0 good1 spare0 spare1 : Nat) (s : State) : Host.Outcome State Fault Refusal :=
  .next <|
    match s.brgSides b with
    | [p0, p1] =>
      if s.bridgeOk b ∧ s.deadBrg b = false ∧ s.qReset p0.1 = false ∧ s.qReset p1.1 = false ∧ s.brg p0 R.BRG_STAT.STATE = 1 then
        if codeOk then
          let own0 := clearBits (good0 % 256) (s.brg p0 R.BRG_CTRL.GRP_DIS)
          let own1 := clearBits (good1 % 256) (s.brg p1 R.BRG_CTRL.GRP_DIS)
          let a0 := brgA p0.1 p0.2
          let a1 := brgA p1.1 p1.2
          let s := (s.wr a0 R.BRG_STAT.OWN own0).wr a0 R.BRG_STAT.PARTNER own1
          let s := (s.wr a1 R.BRG_STAT.OWN own1).wr a1 R.BRG_STAT.PARTNER own0
          let s := (s.wr a0 R.BRG_SPARE.SPARE spare0).wr a1 R.BRG_SPARE.SPARE spare1
          s.adoptMask b (own0 &&& own1)
        else ((s.setDeadBrg b true).flagBrg b R.BRG_STAT.CODE_ERR).brgBecomes b 0 0
      else s
    | _ => s

/-- BRIDGE_BAD_FRAME (R516): a frame that `group` spoiled toward `side` is resent; the sixteenth within 1 ms takes the group out of use. -/
def execBridgeBadFrame (b side group : Nat) (s : State) : Host.Outcome State Fault Refusal :=
  .next <|
    match (s.brgSides b)[side]? with
    | some p =>
      let use := s.brg p R.BRG_STAT.IN_USE
      if s.bridgeOk b && decide (2 ≤ s.brg p R.BRG_STAT.STATE) && decide (group < 8) && use.testBit group then
        let s := s.bump (brgA p.1 p.2) R.BRG_REPLAY.REPLAY 1
        let recent := s.counter :: (s.badFrames (b * 8 + group)).filter (fun t => decide (s.counter < t + 1000000))
        if 16 ≤ recent.length then
          ((s.setBadFrames (b * 8 + group) []).flagBrg b R.BRG_STAT.DEGRADED).adoptMask b (putBit use group false)
        else s.setBadFrames (b * 8 + group) recent
      else s
    | none => s

end Sys2Proof.Machine
end

