-- ==== Sys2Proof/Machine/Queues.lean ====
section
/-! DEFINITION. Machine/Queues.lean: the completion of an engine instruction, the hardware queues, and the movers' command side (R198, R221 to R235,
spec/06_contexts_queues.md). -/
namespace Sys2Proof.Machine
open Sys2Proof

/-! ## Completing an instruction (R171, R198) -/

/-- An instruction is complete: the PC moves on, and the last instruction of a loop's body starts the next iteration or ends the loop. -/
def State.complete (s : State) (b c : Nat) : State :=
  let v := s.ctx (b * 32 + c)
  let pc := s.pcOf b c
  match v.loop with
  | none => s.setPc b c (pc + 4)
  | some l =>
    if pc = l.last then
      let v := if l.rotl then v.rotate 1 else v
      if l.count ≤ 1 then (s.setCtx (b * 32 + c) { v with loop := none }).setPc b c (pc + 4)
      else (s.setCtx (b * 32 + c) { v with loop := some { l with count := l.count - 1, captured := true } }).setPc b c l.first
    else s.setPc b c (pc + 4)

/-- A waiting instruction completes: `wd` takes its result and the context is READY. -/
def State.finishWait (s : State) (b c wd : Nat) (x : BitVec 32) : State :=
  ((s.modCtx b c fun v => v.setW wd x).complete b c).makeReady b c

/-! ## Queue registers (R221 to R227) -/

/-- Q_EVTSTAT bit of a queue sets; a change from 0 to 1 raises event 4b (R226). -/
def State.queueEvt (s : State) (b q : Nat) : State :=
  let f := R.Q_EVTSTAT.QEVT.shift (4 * (q / 32))
  let v := s.rd (schedA b) f
  if v.testBit (q % 32) then s else (s.wr (schedA b) f (putBit v (q % 32) true)).raise (4 * b)

/-- A field of queue `q`. -/
def State.qf (s : State) (b q : Nat) (f : Fld) : Nat := s.rd (queueA b q) f
/-- The log of the number of entries: LEN above 16 acts as 16 (R221). -/
def State.qLog (s : State) (b q : Nat) : Nat := min (s.qf b q R.Q_CFG.LEN) 16
/-- The number of entries held. -/
def State.qCount (s : State) (b q : Nat) : Nat :=
  let m := 2 ^ (s.qLog b q + 1)
  (s.qf b q R.Q_TAIL.TAIL + m - s.qf b q R.Q_HEAD.HEAD % m) % m
/-- Whether the queue is full. -/
def State.qFull (s : State) (b q : Nat) : Bool := decide (2 ^ s.qLog b q ≤ s.qCount b q)
/-- Whether it is empty. -/
def State.qEmpty (s : State) (b q : Nat) : Bool := decide (s.qCount b q = 0)
/-- Whether it is enabled. -/
def State.qOn (s : State) (b q : Nat) : Bool := s.bit (queueA b q) R.Q_CFG.EN
/-- The ring's physical address. -/
def State.qBase (s : State) (b q : Nat) : Nat := s.qf b q R.Q_BASE_LO.BASE * 32 + s.qf b q R.Q_BASE_HI.BASE * 2 ^ 32
/-- The physical address of the slot of counter value `i`. -/
def State.qSlot (s : State) (b q i : Nat) : Nat := s.qBase b q + 32 * (i % 2 ^ s.qLog b q)

/-- Whether a ring of `size` bytes at `base` lies wholly in external memory or in the SRAM of bay `b`, aligned to its size (R222). -/
def ringPlaced (b base size : Nat) : Bool :=
  decide (base % size = 0) &&
    (decide (base + size ≤ 0x8000000000) || (decide (winA b ≤ base) && decide (base + size ≤ winA b + 0x40000)))

/-- A bay's port on the NoC as a requester (R254, R305). -/
def bayWho (b : Nat) : Who := ⟨routerNum (b / 32) (b % 32), 1, false, false, 3, false⟩

/-- Queue hardware reads the 32 bytes of a slot: whether it succeeded, the data and the state. -/
def State.ringRead (s : State) (b pa : Nat) : Bool × Nat × State :=
  if winA b ≤ pa ∧ pa < winA b + 0x40000 then
    let r := s.sramRead b (pa - winA b) 32
    (!r.2.1, r.1, r.2.2)
  else
    let r := s.farRead pa 32 (bayWho b)
    (decide (r.1 = 0), r.2.1, r.2.2)

/-- Queue hardware writes the 32 bytes of a slot. -/
def State.ringWrite (s : State) (b pa v : Nat) : Bool × State :=
  if winA b ≤ pa ∧ pa < winA b + 0x40000 then
    let r := s.sramWrite b (pa - winA b) 32 (allBytes 32) v
    (!r.1, r.2)
  else
    let r := s.farWrite pa 32 (allBytes 32) v (bayWho b)
    (decide (r.1 = 0), r.2)

/-- Whether a context waits on a queue. -/
def State.waitsOn (s : State) (b c q : Nat) : Bool :=
  decide (s.effState b c = 4) &&
    match (s.ctx (b * 32 + c)).wait with
    | .qpush k _ _ _ => decide (k = q)
    | .qpop k _ _ _ => decide (k = q)
    | _ => false

/-- A context that waits on a queue ends its wait with REFUSED (R200, R224). -/
def State.refuseWait (s : State) (b c : Nat) : State :=
  match (s.ctx (b * 32 + c)).wait with
  | .qpush _ wd _ _ => s.finishWait b c wd 2
  | .qpop _ wd _ _ => s.finishWait b c wd 2
  | _ => s

/-- EN of a queue is cleared: every context waiting on it is refused (R224). -/
def State.queueOff (s : State) (b q : Nat) : State :=
  let s := s.wr (queueA b q) R.Q_CFG.EN 0
  (List.range 32).foldl (fun s c => if s.waitsOn b c q then s.refuseWait b c else s) s

/-- RING_ERR (R222, R224, R226). -/
def State.ringErr (s : State) (b q : Nat) : State :=
  ((s.wr (queueA b q) R.Q_ERR.RING_ERR 1).queueEvt b q).queueOff b q

/-- An entry has been produced; `wasEmpty` says whether the queue was empty before (R226). -/
def State.produced (s : State) (b q : Nat) (wasEmpty : Bool) : State :=
  match s.qf b q R.Q_CFG.EVT with
  | 1 => if wasEmpty then s.queueEvt b q else s
  | 2 => s.queueEvt b q
  | _ => s

/-- Queue hardware produces an entry: the slot is written, then TAIL advances (R224). -/
def State.produce (s : State) (b q v : Nat) : Bool × State :=
  let tail := s.qf b q R.Q_TAIL.TAIL
  let empty := s.qEmpty b q
  let r := s.ringWrite b (s.qSlot b q tail) v
  if r.1 then (true, (r.2.wr (queueA b q) R.Q_TAIL.TAIL ((tail + 1) % 2 ^ (s.qLog b q + 1))).produced b q empty)
  else (false, r.2.ringErr b q)

/-- HEAD advances by one entry. -/
def State.advanceHead (s : State) (b q : Nat) : State :=
  if s.qOn b q && !s.qEmpty b q then
    s.wr (queueA b q) R.Q_HEAD.HEAD ((s.qf b q R.Q_HEAD.HEAD + 1) % 2 ^ (s.qLog b q + 1))
  else s

/-- Read the oldest entry; an error response disables the queue (R224). -/
def State.oldest (s : State) (b q : Nat) : Bool × Nat × State :=
  let r := s.ringRead b (s.qSlot b q (s.qf b q R.Q_HEAD.HEAD))
  if r.1 then (true, r.2.1, r.2.2) else (false, 0, r.2.2.ringErr b q)

/-- A write of Q_CFG (R222, R226). -/
def State.qCfgWrite (s : State) (b q v : Nat) : State :=
  let a := queueA b q
  let s := if bits v 26 25 = 3 then s else s.wr a R.Q_CFG.EVT (bits v 26 25)
  if s.qOn b q then
    if bits v 31 31 = 0 then s.queueOff b q else s
  else
    let s := if bits v 30 29 = 3 then s else s.wr a R.Q_CFG.PROD (bits v 30 29)
    let s := if bits v 28 27 = 3 then s else s.wr a R.Q_CFG.CONS (bits v 28 27)
    let s := s.wr a R.Q_CFG.LEN (bits v 20 16)
    if bits v 31 31 = 0 then s
    else if ringPlaced b (s.qBase b q) (32 * 2 ^ s.qLog b q) then
      ((s.wr a R.Q_HEAD.HEAD 0).wr a R.Q_TAIL.TAIL 0).wr a R.Q_CFG.EN 1
    else (s.wr a R.Q_ERR.RING_ERR 1).queueEvt b q

/-- QUEUE_ENABLE (R222): a write of Q_CFG. -/
def execQueueEnable (b q : Nat) (value : BitVec 32) (s : State) : Host.Outcome State Fault Refusal :=
  .next <| if s.bayTakes b && decide (q < 64) then s.qCfgWrite b q value.toNat else s

/-- A software write of Q_TAIL (R224): with a SOFT producer, one that adds entries produces them (R226). -/
def State.qTailWrite (s : State) (b q v : Nat) : State :=
  if s.qf b q R.Q_CFG.PROD = 0 then
    let m := 2 ^ (s.qLog b q + 1)
    let v := v % 2 ^ 17
    if m ≤ v ∨ 2 ^ s.qLog b q < (v + m - s.qf b q R.Q_HEAD.HEAD % m) % m then s.wr (queueA b q) R.Q_ERR.OVERRUN 1
    else
      let held := s.qCount b q
      let s := s.wr (queueA b q) R.Q_TAIL.TAIL v
      if held < s.qCount b q then s.produced b q (decide (held = 0)) else s
  else s

/-- Q_TAIL_WRITE (R224). -/
def execQTailWrite (b q : Nat) (value : BitVec 32) (s : State) : Host.Outcome State Fault Refusal :=
  .next <| if s.bayTakes b && decide (q < 64) then s.qTailWrite b q value.toNat else s

/-- A software write of Q_HEAD (R224): with a SOFT consumer it consumes entries. -/
def State.qHeadWrite (s : State) (b q v : Nat) : State :=
  if s.qf b q R.Q_CFG.CONS = 0 then
    let m := 2 ^ (s.qLog b q + 1)
    let v := v % 2 ^ 17
    if m ≤ v ∨ s.qCount b q < (v + m - s.qf b q R.Q_HEAD.HEAD % m) % m then s.wr (queueA b q) R.Q_ERR.UNDERRUN 1
    else s.wr (queueA b q) R.Q_HEAD.HEAD v
  else s

/-- Q_HEAD_WRITE (R224). -/
def execQHeadWrite (b q : Nat) (value : BitVec 32) (s : State) : Host.Outcome State Fault Refusal :=
  .next <| if s.bayTakes b && decide (q < 64) then s.qHeadWrite b q value.toNat else s

/-! ## Pushes and pops of engine contexts (R200, R223 to R225) -/

/-- Push the descriptor at SRAM address `addr` for context `c`: the status, or an uncorrectable error in the descriptor. -/
def State.pushDesc (s : State) (b q addr : Nat) : Nat × Bool × State :=
  if s.qOn b q && decide (s.qf b q R.Q_CFG.PROD = 1) then
    if s.qFull b q then (1, false, s)
    else
      let r := s.sramRead b addr 32
      if r.2.1 then (0, true, r.2.2)
      else
        let w := r.2.2.produce b q r.1
        (if w.1 then 0 else 2, false, w.2)
  else (2, false, s)

/-- Pop the oldest entry to SRAM address `addr`. -/
def State.popDesc (s : State) (b q addr : Nat) : Nat × State :=
  if s.qOn b q && decide (s.qf b q R.Q_CFG.CONS = 1) then
    if s.qEmpty b q then (1, s)
    else
      let r := s.oldest b q
      if r.1 then
        let w := r.2.2.sramWrite b addr 32 (allBytes 32) r.2.1
        (0, w.2.advanceHead b q)
      else (2, r.2.2)
  else (2, s)

/-- Whether no other context that waits on the queue in the same way comes before `c`: by priority, then by number (R225). -/
def State.firstWaiter (s : State) (b c q : Nat) (push : Bool) : Bool :=
  (List.range 32).all fun k =>
    decide (k = c) ||
      !(s.waitsOn b k q && (match (s.ctx (b * 32 + k)).wait with
        | .qpush _ _ _ _ => push
        | _ => !push)) ||
      decide (s.prio b c < s.prio b k) || (decide (s.prio b c = s.prio b k) && decide (c < k))

/-- QUEUE_WAIT_DONE (R224, R225): a context that waits in QPUSH or QPOP is served, or released with REFUSED; a remote ring access
completes in the same way. -/
def execQueueWaitDone (b c : Nat) (s : State) : Host.Outcome State Fault Refusal :=
  .next <|
    if s.engineOn b && decide (c < 32) && decide (s.effState b c = 4) then
      match (s.ctx (b * 32 + c)).wait with
      | .qpush q wd addr w =>
        if s.firstWaiter b c q true then
          let r := s.pushDesc b q addr
          if r.2.1 then r.2.2.faultCtx b c 4 addr 0 false false
          else if s.waitsOn b c q && !r.2.2.waitsOn b c q then r.2.2
          else if r.1 = 1 ∧ w then r.2.2
          else r.2.2.finishWait b c wd (BitVec.ofNat 32 r.1)
        else s
      | .qpop q wd addr w =>
        if s.firstWaiter b c q false then
          let r := s.popDesc b q addr
          if s.waitsOn b c q && !r.2.waitsOn b c q then r.2
          else if r.1 = 1 ∧ w then r.2
          else r.2.finishWait b c wd (BitVec.ofNat 32 r.1)
        else s
      | _ => s
    else s

/-! ## Movers: descriptors, completions and commands (R228 to R235) -/

/-- MV_STATE.STATE: 0 IDLE, 1 ACTIVE, 2 FAULTED, 3 DISABLED. -/
def State.mvState (s : State) (b n : Nat) : Nat := s.rd (mvA b n) R.MV_STATE.STATE
/-- Set it. -/
def State.setMvState (s : State) (b n st : Nat) : State := s.wr (mvA b n) R.MV_STATE.STATE st
/-- A command ignored (R234). -/
def State.mvIgn (s : State) (b n : Nat) : State := s.wr (mvA b n) R.MV_STATE.CMD_IGN 1
/-- Whether the unit exists. -/
def State.mvOk (s : State) (b n : Nat) : Bool := s.bayTakes b && decide (n < 4)

/-- A completion descriptor's 32 bytes (R230), with the time of completion. -/
def Compl.pack (k : Compl) (t : Int) : Nat :=
  k.tag % 65536 + k.status % 256 * 2 ^ 16 + k.cause % 256 * 2 ^ 24 + k.done % 2 ^ 32 * 2 ^ 32 + k.fva % 2 ^ 48 * 2 ^ 64
    + nsOf t * 2 ^ 128 + secOf t % 2 ^ 32 * 2 ^ 160 + fracOf t / 256 * 2 ^ 192

/-- The mover has finished its descriptor: the CMDQ's HEAD advances, and it is IDLE, or DISABLED once EN is 0 (R231, R234). -/
def State.mvFinished (s : State) (b n : Nat) : State :=
  let s := s.advanceHead b (s.rd (mvA b n) R.MV_CFG.CMDQ)
  let s := s.setMover (b * 4 + n) MoverSt.init
  (s.wr (mvA b n) R.MV_STATE.CPL_BLOCKED 0).setMvState b n (if s.bit (mvA b n) R.MV_CFG.EN then 0 else 3)

/-- Write a completion, or wait for the CPLQ to take it (R226, R231). -/
def State.mvComplete (s : State) (b n : Nat) (k : Compl) : State :=
  let q := s.rd (mvA b n) R.MV_CFG.CPLQ
  if s.qOn b q && decide (s.qf b q R.Q_CFG.PROD = 2) && !s.qFull b q then
    let w := s.produce b q (k.pack (stampOf (s.nowQ (b / 32))))
    if w.1 then ((if k.evt then w.2.queueEvt b q else w.2)).mvFinished b n
    else (w.2.setMover (b * 4 + n) ⟨(s.mover (b * 4 + n)).desc, some k⟩).wr (mvA b n) R.MV_STATE.CPL_BLOCKED 1
  else (s.setMover (b * 4 + n) ⟨(s.mover (b * 4 + n)).desc, some k⟩).wr (mvA b n) R.MV_STATE.CPL_BLOCKED 1

/-- End a descriptor: its completion where one is due, its event, and the advance of the CMDQ (R229, R231). -/
def State.mvEnd (s : State) (b n : Nat) (write : Bool) (k : Compl) : State :=
  if write then s.mvComplete b n k
  else ((if k.evt then s.queueEvt b (s.rd (mvA b n) R.MV_CFG.CPLQ) else s)).mvFinished b n

/-- MOVER_COMPLETION_WRITE (R231): a waiting completion is written once its CPLQ can take it. -/
def execMoverCompletionWrite (b n : Nat) (s : State) : Host.Outcome State Fault Refusal :=
  .next <|
    if s.mvOk b n && s.engineOn b then
      match (s.mover (b * 4 + n)).cpl with
      | some k => s.mvComplete b n k
      | none => s
    else s

/-- Whether a command descriptor's content is well formed (R229). -/
def descOk (v : Nat) : Bool :=
  decide (bits v 63 48 = 0) && decide (bits v 127 112 = 0) && decide (bits v 183 176 < 2) && decide (bits v 191 186 = 0) &&
    decide (bits v 255 224 = 0)

/-- A command descriptor's content (R229). -/
def descOf (v : Nat) : Desc :=
  ⟨bits v 47 0, bits v 111 64, bits v 159 128, bits v 175 160, decide (bits v 183 176 = 1), v.testBit 184, v.testBit 185, bits v 223 192⟩

/-- Whether a queue's commands go to mover `n`: the lowest-numbered enabled mover that names it (R223). -/
def State.mvTakes (s : State) (b n q : Nat) : Bool :=
  s.qOn b q && decide (s.qf b q R.Q_CFG.CONS = 2) &&
    (List.range n).all (fun k => !(s.bit (mvA b k) R.MV_CFG.EN && decide (s.rd (mvA b k) R.MV_CFG.CMDQ = q)))

/-- MOVER_DESCRIPTOR_START (R229, R231): an idle mover takes the next descriptor; a malformed one completes with FORMAT. -/
def execMoverDescriptorStart (b n : Nat) (s : State) : Host.Outcome State Fault Refusal :=
  .next <|
    let q := s.rd (mvA b n) R.MV_CFG.CMDQ
    if s.mvOk b n && s.engineOn b && !s.halted b && decide (s.mvState b n = 0) && s.mvTakes b n q && !s.qEmpty b q then
      let r := s.oldest b q
      if r.1 then
        let d := descOf r.2.1
        let s := (r.2.2.setMvState b n 1).wr (mvA b n) R.MV_DONE.BYTES_DONE 0
        let s := s.setMover (b * 4 + n) ⟨some d, none⟩
        if descOk r.2.1 then s else s.mvEnd b n true ⟨d.tag, 2, 0, 0, 0, d.evt⟩
      else r.2.2
    else s

/-- A write of MV_CFG (R234, R235). -/
def State.mvCfgWrite (s : State) (b n v : Nat) : State :=
  let a := mvA b n
  let st := s.mvState b n
  let s := if st = 0 ∨ s.bit a R.MV_CFG.EN = false then s.wr a R.MV_CFG.TCTX (bits v 27 16) else s
  let s := (s.wr a R.MV_CFG.CPLQ (bits v 13 8)).wr a R.MV_CFG.CMDQ (bits v 5 0)
  let s := s.wr a R.MV_CFG.EN (bits v 31 31)
  if bits v 31 31 = 1 then (if st = 3 then s.setMvState b n 0 else s)
  else if st = 0 then s.setMvState b n 3
  else s

/-- MOVER_CFG_WRITE (R234). -/
def execMoverCfgWrite (b n : Nat) (value : BitVec 32) (s : State) : Host.Outcome State Fault Refusal :=
  .next <| if s.mvOk b n then s.mvCfgWrite b n value.toNat else s

/-- RESUME of a faulted mover (R234). -/
def State.mvResume (s : State) (b n : Nat) : State := if s.mvState b n = 2 then s.setMvState b n 1 else s.mvIgn b n

/-- ABORT of a faulted mover (R230, R234). -/
def State.mvAbort (s : State) (b n : Nat) : State :=
  if s.mvState b n = 2 ∧ (s.mover (b * 4 + n)).cpl = none then
    let a := mvA b n
    let evt := match (s.mover (b * 4 + n)).desc with
      | some d => d.evt
      | none => false
    let fva := s.rd a R.MV_FVA_LO.FVA + s.rd a R.MV_FVA_HI.FVA * 2 ^ 32
    (s.setMvState b n 1).mvEnd b n true
      ⟨s.rd a R.MV_FINFO.TAG, 1, s.rd a R.MV_FINFO.CAUSE, s.rd a R.MV_DONE.BYTES_DONE, fva, evt⟩
  else s.mvIgn b n

/-- MOVER_RESUME (R234). -/
def execMoverResume (b n : Nat) (s : State) : Host.Outcome State Fault Refusal :=
  .next <| if s.mvOk b n then s.mvResume b n else s
/-- MOVER_ABORT (R234). -/
def execMoverAbort (b n : Nat) (s : State) : Host.Outcome State Fault Refusal :=
  .next <| if s.mvOk b n then s.mvAbort b n else s

end Sys2Proof.Machine
end

