-- ==== Sys2Proof/Machine/Engine.lean ====
section
/-! DEFINITION. Machine/Engine.lean: what every engine instruction shares: its issue, loads and stores, branches, special registers and the
translation cache that a store meets at issue (spec/05_engine_isa.md; R213, R218 and R241 in spec/06_contexts_queues.md). -/
namespace Sys2Proof.Machine
open Sys2Proof

/-! ## Issue (R178, R182, R205 to R207, R219) -/

/-- Whether context `c` may issue: it is RUNNING, and the engine works and is not halted, or is in a step. -/
def State.canIssue (s : State) (b c : Nat) : Bool :=
  s.engineOn b && decide (c < 32) && decide (s.ctxState b c = 3) && (!s.halted b || (s.dbg b).stepping)

/-- Whether the fetch of the instruction at the PC finds an uncorrectable error; a loop whose body is captured fetches nothing (R182, R198). -/
def State.fetchCheck (s : State) (b c : Nat) : Bool × State :=
  if (match (s.ctx (b * 32 + c)).loop with
    | some l => l.captured
    | none => false) then (false, s)
  else
    let r := s.sramWord b (s.pcOf b c / 4) false
    (r.1.ue, r.2)

/-- Context `c` issues an instruction whose effect is `f`: a posted-store error not yet taken, FETCH and an error of the fetch come first. `stc`
says that the instruction is an STC, which ends the deferral of a halt (R497). -/
def State.issue (s : State) (b c : Nat) (stc : Bool) (f : State → State) : State :=
  if s.canIssue b c then
    match (s.ctx (b * 32 + c)).pendVa with
    | some va => s.faultCtx b c 0x16 (va % 2 ^ 32) (va / 2 ^ 32) true true
    | none =>
      let pc := s.pcOf b c
      if 0x40000 ≤ pc then s.faultCtx b c 3 pc 0 false false
      else
        let r := s.fetchCheck b c
        if r.1 then r.2.faultCtx b c 4 pc 0 false false else (f r.2).settleHalt b stc
  else s

/-- The context's own state. -/
def State.cx (s : State) (b c : Nat) : CtxSt := s.ctx (b * 32 + c)

/-- An instruction writes `x` to `wd` and completes. -/
def State.result (s : State) (b c wd : Nat) (x : BitVec 32) : State := (s.modCtx b c fun v => v.setW wd x).complete b c

/-- ILLEGAL with the instruction word (R189, R206). -/
def State.illegal (s : State) (b c word : Nat) : State := s.faultCtx b c 1 word 0 false false

/-- An instruction over two registers of the ALU group (R190). -/
def State.alu (s : State) (b c wd wa wb : Nat) (f : BitVec 32 → BitVec 32 → BitVec 32) : State :=
  s.issue b c false fun s => s.result b c wd (f ((s.cx b c).getW wa) ((s.cx b c).getW wb))

/-- An instruction over a register and an immediate (R191). -/
def State.aluImm (s : State) (b c wd wa : Nat) (f : BitVec 32 → BitVec 32) : State :=
  s.issue b c false fun s => s.result b c wd (f ((s.cx b c).getW wa))

/-! ## Loads (R178, R192, R195, R207, R218) -/

/-- One load of an instruction: its effective address, size in bytes, whether it sign-extends, its destination register, and the pointer it
post-modifies. -/
structure LoadAcc where
  ea : Nat
  size : Nat
  sx : Bool
  wd : Nat
  ptr : Option Nat
  deriving DecidableEq, Repr

/-- What the loads of an instruction come to: their values, an exception, or a translated access to wait for. -/
inductive LoadRes where
  | done (vals : List Nat)
  | fault (cause info infoh : Nat)
  | wait
  deriving DecidableEq, Repr

/-- The virtual address of an effective address outside bay SRAM (R178). -/
def CtxSt.va (v : CtxSt) (ea : Nat) : Nat := v.vhi.toNat * 2 ^ 32 + ea

/-- Whether the post-modify that an access asks for is not allowed (R174). -/
def CtxSt.badMode (v : CtxSt) (ptr : Option Nat) : Bool :=
  match ptr with
  | some p => (v.modify p).isNone
  | none => false

/-- Carry out loads in turn. `ext` performs a translated load: cause (0 none) and value; without it the instruction waits there. -/
def State.doLoads (b c : Nat) (ext : Option (State → Nat → Nat → (Nat × Nat) × State)) : List LoadAcc → State → LoadRes × State
  | [], s => (.done [], s)
  | a :: rest, s =>
    if (s.cx b c).badMode a.ptr then
      (.fault 6 (match a.ptr with
        | some p => ((s.cx b c).getP p).toNat
        | none => 0) 0, s)
    else if a.ea % a.size ≠ 0 then (.fault 2 a.ea 0, s)
    else if a.ea < 0x40000 then
      let r := s.sramRead b a.ea a.size
      if r.2.1 then (.fault 4 a.ea 0, r.2.2)
      else
        match State.doLoads b c ext rest r.2.2 with
        | (.done vs, s') => (.done (r.1 :: vs), s')
        | other => other
    else
      match ext with
      | none => (.wait, s)
      | some g =>
        let va := (s.cx b c).va a.ea
        let r := g s va a.size
        if r.1.1 ≠ 0 then (.fault r.1.1 (va % 2 ^ 32) (va / 2 ^ 32), r.2)
        else
          match State.doLoads b c ext rest r.2 with
          | (.done vs, s') => (.done (r.1.2 :: vs), s')
          | other => other

/-- A loaded value extended to 32 bits. -/
def LoadAcc.extend (a : LoadAcc) (x : Nat) : BitVec 32 :=
  if a.sx then BitVec.ofInt 32 (sext (8 * a.size) x) else BitVec.ofNat 32 x

/-- Post-modify a pointer if the access asks for it. -/
def CtxSt.modifyPtr (v : CtxSt) (ptr : Option Nat) : CtxSt :=
  match ptr with
  | some p => v.setP p ((v.modify p).getD (v.getP p))
  | none => v

/-- Write the loaded values to their registers, load A before load B, then update the pointers. -/
def CtxSt.takeLoads : List LoadAcc → List Nat → CtxSt → CtxSt
  | a :: as, x :: xs, v => CtxSt.takeLoads as xs ((v.setW a.wd (a.extend x)).modifyPtr a.ptr)
  | _, _, v => v

/-- The access of an I-format load. -/
def CtxSt.accI (v : CtxSt) (wd wa : Nat) (imm : BitVec 16) (size : Nat) (sx : Bool) : LoadAcc :=
  ⟨(v.getW wa + imm.signExtend 32).toNat, size, sx, wd, none⟩
/-- The effective address and post-modified pointer of a P-format access (R192). -/
def CtxSt.eaP (v : CtxSt) (p : Nat) (pm : Bool) (off : BitVec 14) : Nat × Option Nat :=
  if pm then ((v.getP p).toNat, some p) else ((v.getP p + off.signExtend 32).toNat, none)
/-- The access of LDP. -/
def CtxSt.accP (v : CtxSt) (w p size : Nat) (x pm : Bool) (off : BitVec 14) : LoadAcc :=
  ⟨(v.eaP p pm off).1, 2 ^ size, x, w, (v.eaP p pm off).2⟩
/-- The accesses of MAC and MSU (R195): load A through p0 to p3, load B through p4 to p7. -/
def CtxSt.accM (v : CtxSt) (la pa lb pb : Nat) (ldA ldB : Bool) : List LoadAcc :=
  let sx := !v.mode.getLsbD 3
  (if ldA then [⟨(v.getP (pa % 4)).toNat, 2, sx, 16 + la % 16, some (pa % 4)⟩] else []) ++
    (if ldB then [⟨(v.getP (4 + pb % 4)).toNat, 2, sx, 16 + lb % 16, some (4 + pb % 4)⟩] else [])

/-- The accesses of a load instruction. -/
def CtxSt.loadPlan (v : CtxSt) : Instr → List LoadAcc
  | .ldw _ _ wd wa imm => [v.accI wd wa imm 4 false]
  | .ldh _ _ wd wa imm => [v.accI wd wa imm 2 true]
  | .ldhu _ _ wd wa imm => [v.accI wd wa imm 2 false]
  | .ldb _ _ wd wa imm => [v.accI wd wa imm 1 true]
  | .ldbu _ _ wd wa imm => [v.accI wd wa imm 1 false]
  | .ldp _ _ w p size x pm off => [v.accP w p size x pm off]
  | .mac _ _ _ _ _ la pa lb pb ldA ldB => v.accM la pa lb pb ldA ldB
  | .msu _ _ _ _ _ la pa lb pb ldA ldB => v.accM la pa lb pb ldA ldB
  | _ => []

/-- One multiply-accumulate (R66, R67, R195). -/
def CtxSt.macc (v : CtxSt) (sub : Bool) (acc wa wb : Nat) : CtxSt :=
  let p := product (v.mode.toNat % 4) (v.mode.getLsbD 2) ((v.getW wa).truncate 16) ((v.getW wb).truncate 16)
  let r := accumulate sub (v.getA acc) p.1
  ((v.setA acc r.1).stick 0 p.2).stick 1 r.2

/-- What a load instruction does beside its loads, before any load writes. -/
def CtxSt.macPart (v : CtxSt) : Instr → CtxSt
  | .mac _ _ acc wa wb _ _ _ _ _ _ => v.macc false acc wa wb
  | .msu _ _ acc wa wb _ _ _ _ _ _ => v.macc true acc wa wb
  | _ => v

/-- A load instruction issues: its values arrive, it faults, or its context gives way. -/
def State.loadInstr (s : State) (b c : Nat) (i : Instr) : State :=
  match State.doLoads b c none ((s.cx b c).loadPlan i) s with
  | (.done vs, s') =>
    (s'.modCtx b c fun v => (CtxSt.takeLoads (v.loadPlan i) vs (v.macPart i))).complete b c
  | (.fault cause info infoh, s') => s'.faultCtx b c cause info infoh false false
  | (.wait, s') => s'.giveWay b c (.load i)

/-! ## Stores (R178, R182, R192, R218, R241) -/

/-- The store of an instruction: its effective address, size, data and post-modified pointer. -/
structure StoreAcc where
  ea : Nat
  size : Nat
  data : Nat
  ptr : Option Nat
  deriving DecidableEq, Repr

/-- The store of a store instruction. -/
def CtxSt.storePlan (v : CtxSt) : Instr → Option StoreAcc
  | .stw _ _ wd wa imm => some ⟨(v.getW wa + imm.signExtend 32).toNat, 4, (v.getW wd).toNat, none⟩
  | .sth _ _ wd wa imm => some ⟨(v.getW wa + imm.signExtend 32).toNat, 2, (v.getW wd).toNat % 2 ^ 16, none⟩
  | .stb _ _ wd wa imm => some ⟨(v.getW wa + imm.signExtend 32).toNat, 1, (v.getW wd).toNat % 2 ^ 8, none⟩
  | .stp _ _ w p size _ pm off => some ⟨(v.eaP p pm off).1, 2 ^ size, (v.getW w).toNat % 2 ^ (8 * 2 ^ size), (v.eaP p pm off).2⟩
  | _ => none

/-- The root address of a translation context, from quadrant `q`'s copy (R242). -/
def State.tctxRoot (s : State) (q t : Nat) : Nat :=
  s.rd (tctxA q t) R.TCTX_LO.ROOT * 4096 + s.rd (tctxA q t) R.TCTX_HI.ROOT * 2 ^ 32

/-- A cached final translation of a virtual address (R241). -/
def State.cachedFinal (s : State) (q t va : Nat) : Option Final :=
  (s.xu q).finals.find? (fun f => decide (f.tctx = t) && decide (va / 2 ^ f.log = f.va / 2 ^ f.log))

/-- Post a store (R180). -/
def State.post (s : State) (b c va pa size data : Nat) : State :=
  s.modCtx b c fun v => { v with posted := v.posted ++ [⟨va, pa, size, data⟩] }

/-- A translated store whose context needs no table read, or whose whole translation the unit holds, is posted at issue; any other makes the
context give way (R218). Whether a cached translation is still held is open (log entry 1). -/
def State.issueStore (s : State) (b c : Nat) (i : Instr) (a : StoreAcc) : State :=
  let va := (s.cx b c).va a.ea
  let t := s.rd (ctxA b c) R.CTX_CFG.TCTX
  let q := b / 32
  let posted := fun (s : State) (pa : Nat) => ((s.post b c va pa a.size a.data).modCtx b c fun v => v.modifyPtr a.ptr).complete b c
  let walk := fun (s : State) =>
    if s.bit (tctxA q t) R.TCTX_LO.V then s.giveWay b c (.store i) else s.faultCtx b c 0x13 (va % 2 ^ 32) (va / 2 ^ 32) true false
  if t = 0 then posted s va
  else
    match s.cachedFinal q t va with
    | none => walk s
    | some f =>
      if s.freeChoice then
        if f.w && !s.bit (tctxA q t) R.TCTX_LO.RO then posted s.drawn (f.pa + va % 2 ^ f.log)
        else s.drawn.faultCtx b c 0x11 (va % 2 ^ 32) (va / 2 ^ 32) true false
      else walk s.drawn

/-- A store instruction issues. -/
def State.storeInstr (s : State) (b c : Nat) (i : Instr) : State :=
  match (s.cx b c).storePlan i with
  | none => s
  | some a =>
    if (s.cx b c).badMode a.ptr then
      s.faultCtx b c 6 (match a.ptr with
        | some p => ((s.cx b c).getP p).toNat
        | none => 0) 0 true false
    else if a.ea % a.size ≠ 0 then s.faultCtx b c 2 a.ea 0 true false
    else if a.ea < 0x40000 then
      let r := s.sramWrite b a.ea a.size (allBytes a.size) a.data
      if r.1 then r.2.faultCtx b c 4 a.ea 0 true false
      else (r.2.modCtx b c fun v => v.modifyPtr a.ptr).complete b c
    else s.issueStore b c i a

/-! ## Control flow (R197, R198) -/

/-- A taken branch or jump: the loop ends and the PC is the target (R197, R198). -/
def State.branchTo (s : State) (b c target : Nat) : State :=
  (s.modCtx b c fun v => { v with loop := none }).setPc b c target

/-- The target `n` instructions away from the PC. -/
def State.target (s : State) (b c : Nat) (n : Int) : Nat := wrapTo 32 ((s.pcOf b c : Int) + 4 * n)

/-- A conditional branch (R197). -/
def State.branch (s : State) (b c cond wa wb : Nat) (off : BitVec 13) : State :=
  s.issue b c false fun s =>
    if branchCond cond ((s.cx b c).getW wa) ((s.cx b c).getW wb) then s.branchTo b c (s.target b c off.toInt) else s.complete b c

/-! ## Special registers (R175 to R177) -/

/-- A special register of a context; none where the table lists no such number. -/
def State.special (s : State) (b c num : Nat) : Option (BitVec 32) :=
  let v := s.cx b c
  if num = 0 then some v.mode
  else if num = 1 then some (v.flags.zeroExtend 32)
  else if num = 2 then some (v.rb.zeroExtend 32)
  else if num = 3 then some (BitVec.ofNat 32 (match v.loop with
    | some l => l.count
    | none => 0))
  else if num = 4 then some (v.vhi.zeroExtend 32)
  else if num = 5 then some (BitVec.ofNat 32 c)
  else if num = 6 then some v.tsec
  else if num = 7 then some v.tsech
  else if num = 8 then some (v.tfrac.zeroExtend 32)
  else if num = 9 then some v.epend
  else if num = 10 then
    some (if s.adcOk then BitVec.ofNat 32 (s.rd (bayA b) R.ADC_LAST.SAMPLE + 65536 * s.rd (bayA b) R.ADC_LAST.INDEX) else 0)
  else if num = 11 then some (BitVec.ofNat 32 (s.rd (bayA b) R.FRAME_NO.FRAME_NO))
  else if 0x10 ≤ num ∧ num ≤ 0x17 then some ((v.getM (num - 0x10)).zeroExtend 32)
  else if 0x18 ≤ num ∧ num ≤ 0x1F then some ((v.getS (num - 0x18)).zeroExtend 32)
  else none

/-- Write a special register; none where the number is not listed or the register is RO. -/
def CtxSt.setSpecial (v : CtxSt) (num : Nat) (x : BitVec 32) : Option CtxSt :=
  if num = 0 then
    let keep := if x.toNat % 4 = 3 then v.mode &&& 3 else x &&& 3
    some { v with mode := (x &&& 0xFF0C) ||| keep }
  else if num = 1 then some { v with flags := x.truncate 3 }
  else if num = 2 then some { v with rb := x.truncate 4 }
  else if num = 4 then some { v with vhi := x.truncate 16 }
  else if num = 9 then some { v with epend := v.epend &&& ~~~x }
  else if 0x10 ≤ num ∧ num ≤ 0x17 then some { v with m := Tab.put (fun _ => 0) v.m (num - 0x10) (x.truncate 24) }
  else if 0x18 ≤ num ∧ num ≤ 0x1F then some { v with st := Tab.put (fun _ => 0) v.st (num - 0x18) (x.truncate 16) }
  else none

end Sys2Proof.Machine
end

