-- ==== Sys2Proof/Machine/EngineAlu.lean ====
section
/-! DEFINITION. Machine/EngineAlu.lean: the ALU group and the immediate instructions (R190, R191, spec/05_engine_isa.md). -/
namespace Sys2Proof.Machine
open Sys2Proof

/-- ADD (R190): the sum modulo 2^32. -/
def execAdd (b c wd wa wb : Nat) (s : State) : Host.Outcome State Fault Refusal :=
  .next (s.alu b c wd wa wb fun x y => x + y)

/-- SUB (R190): the difference modulo 2^32. -/
def execSub (b c wd wa wb : Nat) (s : State) : Host.Outcome State Fault Refusal :=
  .next (s.alu b c wd wa wb fun x y => x - y)

/-- AND (R190): bitwise AND. -/
def execAnd (b c wd wa wb : Nat) (s : State) : Host.Outcome State Fault Refusal :=
  .next (s.alu b c wd wa wb fun x y => x &&& y)

/-- OR (R190): bitwise OR. -/
def execOr (b c wd wa wb : Nat) (s : State) : Host.Outcome State Fault Refusal :=
  .next (s.alu b c wd wa wb fun x y => x ||| y)

/-- XOR (R190): bitwise XOR. -/
def execXor (b c wd wa wb : Nat) (s : State) : Host.Outcome State Fault Refusal :=
  .next (s.alu b c wd wa wb fun x y => x ^^^ y)

/-- SHL (R190): shift left by wb[4:0]. -/
def execShl (b c wd wa wb : Nat) (s : State) : Host.Outcome State Fault Refusal :=
  .next (s.alu b c wd wa wb fun x y => shiftBy 0 x (y.toNat % 32))

/-- SHR (R190): shift right by wb[4:0] with zero fill. -/
def execShr (b c wd wa wb : Nat) (s : State) : Host.Outcome State Fault Refusal :=
  .next (s.alu b c wd wa wb fun x y => shiftBy 1 x (y.toNat % 32))

/-- SAR (R190): shift right by wb[4:0] with sign fill. -/
def execSar (b c wd wa wb : Nat) (s : State) : Host.Outcome State Fault Refusal :=
  .next (s.alu b c wd wa wb fun x y => shiftBy 2 x (y.toNat % 32))

/-- ROR (R190): rotate right by wb[4:0]. -/
def execRor (b c wd wa wb : Nat) (s : State) : Host.Outcome State Fault Refusal :=
  .next (s.alu b c wd wa wb fun x y => shiftBy 3 x (y.toNat % 32))

/-- SLT (R190): 1 if wa < wb signed, else 0. -/
def execSlt (b c wd wa wb : Nat) (s : State) : Host.Outcome State Fault Refusal :=
  .next (s.alu b c wd wa wb fun x y => oneIf (x.slt y))

/-- SLTU (R190): 1 if wa < wb unsigned, else 0. -/
def execSltu (b c wd wa wb : Nat) (s : State) : Host.Outcome State Fault Refusal :=
  .next (s.alu b c wd wa wb fun x y => oneIf (x.ult y))

/-- MIN (R190): the signed minimum. -/
def execMin (b c wd wa wb : Nat) (s : State) : Host.Outcome State Fault Refusal :=
  .next (s.alu b c wd wa wb fun x y => if y.slt x then y else x)

/-- MAX (R190): the signed maximum. -/
def execMax (b c wd wa wb : Nat) (s : State) : Host.Outcome State Fault Refusal :=
  .next (s.alu b c wd wa wb fun x y => if x.slt y then y else x)

/-- MINU (R190): the unsigned minimum. -/
def execMinu (b c wd wa wb : Nat) (s : State) : Host.Outcome State Fault Refusal :=
  .next (s.alu b c wd wa wb fun x y => if y.ult x then y else x)

/-- MAXU (R190): the unsigned maximum. -/
def execMaxu (b c wd wa wb : Nat) (s : State) : Host.Outcome State Fault Refusal :=
  .next (s.alu b c wd wa wb fun x y => if x.ult y then y else x)

/-- MUL (R190): the low 32 bits of the product. -/
def execMul (b c wd wa wb : Nat) (s : State) : Host.Outcome State Fault Refusal :=
  .next (s.alu b c wd wa wb fun x y => x * y)

/-- MULH (R190): the high 32 bits of the signed product. -/
def execMulh (b c wd wa wb : Nat) (s : State) : Host.Outcome State Fault Refusal :=
  .next (s.alu b c wd wa wb fun x y => BitVec.ofInt 32 (x.toInt * y.toInt / 4294967296))

/-- MULHU (R190): the high 32 bits of the unsigned product. -/
def execMulhu (b c wd wa wb : Nat) (s : State) : Host.Outcome State Fault Refusal :=
  .next (s.alu b c wd wa wb fun x y => BitVec.ofNat 32 (x.toNat * y.toNat / 4294967296))

/-- CLZ (R190): the number of leading zero bits; wb must be 0, else ILLEGAL (R189). -/
def execClz (b c wd wa wb : Nat) (s : State) : Host.Outcome State Fault Refusal :=
  .next (s.issue b c false fun s =>
    if wb % 32 ≠ 0 then s.illegal b c (wordR 0 wd wa wb 0x13)
    else s.result b c wd (BitVec.ofNat 32 (leadingZeros ((s.cx b c).getW wa))))

/-- ADDI (R191): the sum with the sign-extended immediate. -/
def execAddi (b c wd wa : Nat) (imm : BitVec 16) (s : State) : Host.Outcome State Fault Refusal :=
  .next (s.aluImm b c wd wa fun x => x + imm.signExtend 32)

/-- ANDI (R191): AND with the zero-extended immediate. -/
def execAndi (b c wd wa : Nat) (imm : BitVec 16) (s : State) : Host.Outcome State Fault Refusal :=
  .next (s.aluImm b c wd wa fun x => x &&& imm.zeroExtend 32)

/-- ORI (R191): OR with the zero-extended immediate. -/
def execOri (b c wd wa : Nat) (imm : BitVec 16) (s : State) : Host.Outcome State Fault Refusal :=
  .next (s.aluImm b c wd wa fun x => x ||| imm.zeroExtend 32)

/-- XORI (R191): XOR with the zero-extended immediate. -/
def execXori (b c wd wa : Nat) (imm : BitVec 16) (s : State) : Host.Outcome State Fault Refusal :=
  .next (s.aluImm b c wd wa fun x => x ^^^ imm.zeroExtend 32)

/-- SLTI (R191): 1 if wa < the sign-extended immediate, signed. -/
def execSlti (b c wd wa : Nat) (imm : BitVec 16) (s : State) : Host.Outcome State Fault Refusal :=
  .next (s.aluImm b c wd wa fun x => oneIf (x.slt (imm.signExtend 32)))

/-- SLTUI (R191): 1 if wa < the zero-extended immediate, unsigned. -/
def execSltui (b c wd wa : Nat) (imm : BitVec 16) (s : State) : Host.Outcome State Fault Refusal :=
  .next (s.aluImm b c wd wa fun x => oneIf (x.ult (imm.zeroExtend 32)))

/-- MOVHI (R191): the immediate in the upper half; wa must be 0, else ILLEGAL. -/
def execMovhi (b c wd wa : Nat) (imm : BitVec 16) (s : State) : Host.Outcome State Fault Refusal :=
  .next (s.issue b c false fun s =>
    if wa % 32 ≠ 0 then s.illegal b c (wordI 7 wd wa imm) else s.result b c wd (imm.zeroExtend 32 <<< 16))

/-- SHI (R191): imm16[6:5] selects SHL, SHR, SAR or ROR by imm16[4:0]; imm16[15:7] must be 0, else ILLEGAL. -/
def execShi (b c wd wa : Nat) (imm : BitVec 16) (s : State) : Host.Outcome State Fault Refusal :=
  .next (s.issue b c false fun s =>
    if 128 ≤ imm.toNat then s.illegal b c (wordI 8 wd wa imm)
    else s.result b c wd (shiftBy (imm.toNat / 32) ((s.cx b c).getW wa) (imm.toNat % 32)))

end Sys2Proof.Machine
end

