-- ==== Sys2Proof/Machine/EngineFlow.lean ====
section
/-! DEFINITION. Machine/EngineFlow.lean: branches, loops, the window, queues, time, waits, stimulus, BRK and special registers (R172, R197 to R204,
spec/05_engine_isa.md). -/
namespace Sys2Proof.Machine
open Sys2Proof

/-- BEQ (R197): branches when wa = wb. -/
def execBeq (b c wa wb : Nat) (off : BitVec 13) (s : State) : Host.Outcome State Fault Refusal := .next (s.branch b c 0 wa wb off)

/-- BNE (R197): branches when wa ≠ wb. -/
def execBne (b c wa wb : Nat) (off : BitVec 13) (s : State) : Host.Outcome State Fault Refusal := .next (s.branch b c 1 wa wb off)

/-- BLT (R197): branches when wa < wb signed. -/
def execBlt (b c wa wb : Nat) (off : BitVec 13) (s : State) : Host.Outcome State Fault Refusal := .next (s.branch b c 2 wa wb off)

/-- BGE (R197): branches when wa ≥ wb signed. -/
def execBge (b c wa wb : Nat) (off : BitVec 13) (s : State) : Host.Outcome State Fault Refusal := .next (s.branch b c 3 wa wb off)

/-- BLTU (R197): branches when wa < wb unsigned. -/
def execBltu (b c wa wb : Nat) (off : BitVec 13) (s : State) : Host.Outcome State Fault Refusal := .next (s.branch b c 4 wa wb off)

/-- BGEU (R197): branches when wa ≥ wb unsigned. -/
def execBgeu (b c wa wb : Nat) (off : BitVec 13) (s : State) : Host.Outcome State Fault Refusal := .next (s.branch b c 5 wa wb off)

/-- BDEC (R197): wa falls by one; the branch is taken unless it became 0; with ROTB the window advances either way. -/
def execBdec (b c wa : Nat) (rotb : Bool) (off : BitVec 20) (s : State) : Host.Outcome State Fault Refusal :=
  .next (s.issue b c false fun s =>
    let x := (s.cx b c).getW wa - 1
    let s := s.modCtx b c fun v => let v := v.setW wa x; if rotb then v.rotate 1 else v
    if x ≠ 0 then s.branchTo b c (s.target b c off.toInt) else s.complete b c)

/-- JMP (R197). -/
def execJmp (b c : Nat) (off : BitVec 26) (s : State) : Host.Outcome State Fault Refusal :=
  .next (s.issue b c false fun s => s.branchTo b c (s.target b c off.toInt))

/-- CALL (R197): w15 takes the return address. -/
def execCall (b c : Nat) (off : BitVec 26) (s : State) : Host.Outcome State Fault Refusal :=
  .next (s.issue b c false fun s =>
    (s.modCtx b c fun v => v.setW 15 (BitVec.ofNat 32 (s.pcOf b c + 4))).branchTo b c (s.target b c off.toInt))

/-- JR (R197): a target that is not aligned raises FETCH there (R206). -/
def execJr (b c wa : Nat) (s : State) : Host.Outcome State Fault Refusal :=
  .next (s.issue b c false fun s =>
    let t := ((s.cx b c).getW wa).toNat
    let s := s.branchTo b c t
    if t % 4 ≠ 0 then s.faultCtx b c 3 t 0 false false else s)

/-- LOOP (R198): a body of len + 1 instructions runs wa times; with an active loop it is ILLEGAL. -/
def execLoop (b c wa len : Nat) (rotl : Bool) (s : State) : Host.Outcome State Fault Refusal :=
  .next (s.issue b c false fun s =>
    let v := s.cx b c
    let pc := s.pcOf b c
    let n := (v.getW wa).toNat
    if v.loop.isSome then
      s.illegal b c (0x2D * 2 ^ 26 + (if rotl then 2 ^ 25 else 0) + wa % 32 * 2 ^ 20 + len % 32)
    else if n = 0 then s.setPc b c (pc + 4 * (len % 32 + 2))
    else (s.modCtx b c fun v => { v with loop := some ⟨pc + 4, pc + 4 * (len % 32 + 1), n, rotl, false⟩ }).setPc b c (pc + 4))

/-- ROT with Z = 0 (R172, R199): the window advances by k steps. -/
def execRot (b c k : Nat) (s : State) : Host.Outcome State Fault Refusal :=
  .next (s.issue b c false fun s => (s.modCtx b c fun v => v.rotate k).complete b c)

/-- The window registers cleared, and RB 0 (R199). -/
def CtxSt.clearWindow (v : CtxSt) : CtxSt :=
  (List.range 16).foldl (fun v k => v.setPhys (16 + k) 0) { v with rb := 0 }

/-- ROT with Z = 1 (R199). -/
def execRotZ (b c : Nat) (s : State) : Host.Outcome State Fault Refusal :=
  .next (s.issue b c false fun s => (s.modCtx b c CtxSt.clearWindow).complete b c)

/-- Whether a queue's ring lies in the bay's own SRAM; any other is a remote access (R224). -/
def State.qLocal (s : State) (b q : Nat) : Bool := decide (winA b ≤ s.qBase b q ∧ s.qBase b q < winA b + 0x40000)

/-- QPUSH (R200, R224): copies the descriptor at wa into queue wq; a full queue with W = 1, or a remote ring, makes the context wait. -/
def execQpush (b c wd wq wa : Nat) (w : Bool) (s : State) : Host.Outcome State Fault Refusal :=
  .next (s.issue b c false fun s =>
    let q := ((s.cx b c).getW wq).toNat % 64
    let ea := ((s.cx b c).getW wa).toNat
    if 0x40000 ≤ ea then s.faultCtx b c 7 ea 0 false false
    else if ea % 32 ≠ 0 then s.faultCtx b c 2 ea 0 false false
    else if s.qOn b q && decide (s.qf b q R.Q_CFG.PROD = 1) then
      if s.qFull b q then (if w then s.giveWay b c (.qpush q wd ea w) else s.result b c wd 1)
      else if s.qLocal b q then
        let r := s.pushDesc b q ea
        if r.2.1 then r.2.2.faultCtx b c 4 ea 0 false false else r.2.2.result b c wd (BitVec.ofNat 32 r.1)
      else s.giveWay b c (.qpush q wd ea w)
    else s.result b c wd 2)

/-- QPOP (R200, R224): removes the oldest entry of queue wq and writes it at wa. -/
def execQpop (b c wd wq wa : Nat) (w : Bool) (s : State) : Host.Outcome State Fault Refusal :=
  .next (s.issue b c false fun s =>
    let q := ((s.cx b c).getW wq).toNat % 64
    let ea := ((s.cx b c).getW wa).toNat
    if 0x40000 ≤ ea then s.faultCtx b c 7 ea 0 false false
    else if ea % 32 ≠ 0 then s.faultCtx b c 2 ea 0 false false
    else if s.qOn b q && decide (s.qf b q R.Q_CFG.CONS = 1) then
      if s.qEmpty b q then (if w then s.giveWay b c (.qpop q wd ea w) else s.result b c wd 1)
      else if s.qLocal b q then
        let r := s.popDesc b q ea
        r.2.result b c wd (BitVec.ofNat 32 r.1)
      else s.giveWay b c (.qpop q wd ea w)
    else s.result b c wd 2)

/-- TIME (R201): one instant, at 2^-8 ns: nanoseconds to wd, seconds and fraction to TSEC, TSECH and TFRAC. -/
def execTime (b c wd : Nat) (s : State) : Host.Outcome State Fault Refusal :=
  .next (s.issue b c false fun s =>
    let t := stampOf (s.nowQ (b / 32))
    (s.modCtx b c fun v =>
      { v.setW wd (BitVec.ofNat 32 (nsOf t)) with
        tsec := BitVec.ofNat 32 (secOf t), tsech := BitVec.ofNat 32 (secOf t / 2 ^ 32), tfrac := BitVec.ofNat 16 (fracOf t) }).complete b c)

/-- FSYNC (R203): waits for the first boundary that reaches the bay from now on. -/
def execFsync (b c wd : Nat) (s : State) : Host.Outcome State Fault Refusal :=
  .next (s.issue b c false fun s => s.giveWay b c (.fsync wd (s.bay b).boundaries))

/-- FSYNC_WAKE (R203): a boundary has reached the bay since the FSYNC issued. -/
def execFsyncWake (b c : Nat) (s : State) : Host.Outcome State Fault Refusal :=
  .next <|
    if s.engineOn b && decide (c < 32) && decide (s.effState b c = 4) then
      match (s.cx b c).wait with
      | .fsync wd since =>
        if (s.bay b).boundaries = since then s else s.finishWait b c wd (BitVec.ofNat 32 (s.rd (bayA b) R.FRAME_NO.FRAME_NO))
      | _ => s
    else s

/-- WFE (R202): takes the selected pending bits at once, or waits. -/
def execWfe (b c wd wa wb : Nat) (s : State) : Host.Outcome State Fault Refusal :=
  .next (s.issue b c false fun s =>
    let v := s.cx b c
    let mask := v.getW wa
    let got := v.epend &&& mask
    if got ≠ 0 then (s.modCtx b c fun v => { v with epend := v.epend &&& ~~~mask }).result b c wd got
    else s.giveWay b c (.wfe wd mask (v.getW wb).toNat))

/-- A waiting WFE takes the selected bits (R202). -/
def State.wfeTake (s : State) (b c wd : Nat) (mask : BitVec 32) : State :=
  let got := (s.cx b c).epend &&& mask
  (s.modCtx b c fun v => { v with epend := v.epend &&& ~~~mask }).finishWait b c wd got

/-- WFE_EVENT (R202): a selected bit has set. -/
def execWfeEvent (b c : Nat) (s : State) : Host.Outcome State Fault Refusal :=
  .next <|
    if s.engineOn b && decide (c < 32) && decide (s.effState b c = 4) then
      match (s.cx b c).wait with
      | .wfe wd mask _ => if (s.cx b c).epend &&& mask = 0 then s else s.wfeTake b c wd mask
      | _ => s
    else s

/-- WFE_TIMEOUT (R202): the limit expires; a selected bit that has set still ends the wait as an event. -/
def execWfeTimeout (b c : Nat) (s : State) : Host.Outcome State Fault Refusal :=
  .next <|
    if s.engineOn b && decide (c < 32) && decide (s.effState b c = 4) then
      match (s.cx b c).wait with
      | .wfe wd mask limit =>
        if limit = 0 then s
        else if (s.cx b c).epend &&& mask = 0 then s.finishWait b c wd 0
        else s.wfeTake b c wd mask
      | _ => s
    else s

/-- STIM (R204, R505): a packet where the port is enabled; size 0b11 is ILLEGAL. -/
def execStim (b c port wa size : Nat) (s : State) : Host.Outcome State Fault Refusal :=
  .next (s.issue b c false fun s =>
    if 3 ≤ size then s.illegal b c (0x35 * 2 ^ 26 + port % 256 * 2 ^ 18 + wa % 32 * 2 ^ 13 + size % 4 * 2 ^ 11)
    else
      let p := port % 256
      let x := ((s.cx b c).getW wa).toNat % 2 ^ (8 * 2 ^ size)
      let on := (s.rd (dbgEngA b) (R.STIM_EN.EN.shift (4 * (p / 32)))).testBit (p % 32)
      (if on then s.tracePkt b 0 size c p x else s).complete b c)

/-- BRK (R204, R496): halts the engine with BRK_EN = 1 at level 2, else raises BREAK with the code. -/
def execBrk (b c : Nat) (code : BitVec 16) (s : State) : Host.Outcome State Fault Refusal :=
  .next (s.issue b c false fun s =>
    if s.bit (dbgEngA b) R.DBG_ENG_CTRL.BRK_EN && decide (2 ≤ s.level) then s.takeHalt b 2 c
    else s.faultCtx b c 5 code.toNat 0 false false)

/-- FENCE (R180): waits while a translated access of the context is outstanding. -/
def execFence (b c : Nat) (s : State) : Host.Outcome State Fault Refusal :=
  .next (s.issue b c false fun s =>
    if (s.cx b c).posted.isEmpty then s.complete b c else s.giveWay b c .fence)

/-- The context leaves the set of runnable contexts, with its PC at the next instruction (R204). -/
def State.goIdle (s : State) (b c : Nat) : State :=
  let s := s.complete b c
  let s := s.modCtx b c fun v => { v with wait := .none }
  let s := if s.ctxState b c = 3 then s.stopRunning b else s
  (s.setEff b c 1).settleHalt b false

/-- IDLE (R204). -/
def execIdle (b c : Nat) (s : State) : Host.Outcome State Fault Refusal :=
  .next (s.issue b c false fun s =>
    if (s.cx b c).posted.isEmpty then s.goIdle b c else s.giveWay b c .idle)

/-- NOP (R204). -/
def execNop (b c : Nat) (s : State) : Host.Outcome State Fault Refusal := .next (s.issue b c false fun s => s.complete b c)

/-- MFS (R175): an unlisted number is ILLEGAL. -/
def execMfs (b c wd num : Nat) (s : State) : Host.Outcome State Fault Refusal :=
  .next (s.issue b c false fun s =>
    match s.special b c (num % 256) with
    | some x => s.result b c wd x
    | none => s.illegal b c (0x37 * 2 ^ 26 + wd % 32 * 2 ^ 21 + num % 256))

/-- MTS (R175, R186): an unlisted number or an RO register is ILLEGAL; EPEND takes write-1-to-clear. -/
def execMts (b c wa num : Nat) (s : State) : Host.Outcome State Fault Refusal :=
  .next (s.issue b c false fun s =>
    match (s.cx b c).setSpecial (num % 256) ((s.cx b c).getW wa) with
    | some v => (s.modCtx b c fun _ => v).complete b c
    | none => s.illegal b c (0x38 * 2 ^ 26 + wa % 32 * 2 ^ 16 + num % 256))

end Sys2Proof.Machine
end

