-- ==== Sys2Proof/Machine/EngineMem.lean ====
section
/-! DEFINITION. Machine/EngineMem.lean: loads, stores, reservations, pointers and accumulators (R192 to R196, spec/05_engine_isa.md). -/
namespace Sys2Proof.Machine
open Sys2Proof

/-- LDW (R192): a word from wa + the sign-extended offset. -/
def execLdw (b c wd wa : Nat) (imm : BitVec 16) (s : State) : Host.Outcome State Fault Refusal :=
  .next (s.issue b c false fun s => s.loadInstr b c (.ldw b c wd wa imm))

/-- LDH (R192): a sign-extended halfword from wa + the sign-extended offset. -/
def execLdh (b c wd wa : Nat) (imm : BitVec 16) (s : State) : Host.Outcome State Fault Refusal :=
  .next (s.issue b c false fun s => s.loadInstr b c (.ldh b c wd wa imm))

/-- LDHU (R192): a zero-extended halfword from wa + the sign-extended offset. -/
def execLdhu (b c wd wa : Nat) (imm : BitVec 16) (s : State) : Host.Outcome State Fault Refusal :=
  .next (s.issue b c false fun s => s.loadInstr b c (.ldhu b c wd wa imm))

/-- LDB (R192): a sign-extended byte from wa + the sign-extended offset. -/
def execLdb (b c wd wa : Nat) (imm : BitVec 16) (s : State) : Host.Outcome State Fault Refusal :=
  .next (s.issue b c false fun s => s.loadInstr b c (.ldb b c wd wa imm))

/-- LDBU (R192): a zero-extended byte from wa + the sign-extended offset. -/
def execLdbu (b c wd wa : Nat) (imm : BitVec 16) (s : State) : Host.Outcome State Fault Refusal :=
  .next (s.issue b c false fun s => s.loadInstr b c (.ldbu b c wd wa imm))

/-- STW (R192): stores a word of wd at wa + the sign-extended offset. -/
def execStw (b c wd wa : Nat) (imm : BitVec 16) (s : State) : Host.Outcome State Fault Refusal :=
  .next (s.issue b c false fun s => s.storeInstr b c (.stw b c wd wa imm))

/-- STH (R192): stores a halfword of wd at wa + the sign-extended offset. -/
def execSth (b c wd wa : Nat) (imm : BitVec 16) (s : State) : Host.Outcome State Fault Refusal :=
  .next (s.issue b c false fun s => s.storeInstr b c (.sth b c wd wa imm))

/-- STB (R192): stores a byte of wd at wa + the sign-extended offset. -/
def execStb (b c wd wa : Nat) (imm : BitVec 16) (s : State) : Host.Outcome State Fault Refusal :=
  .next (s.issue b c false fun s => s.storeInstr b c (.stb b c wd wa imm))

/-- Whether a P-format instruction has a field value that R192 does not allow. -/
def badP (size : Nat) (pm : Bool) (off : BitVec 14) : Bool := decide (3 ≤ size) || (pm && decide (off ≠ 0))

/-- LDP (R192): a load through a pointer, with an offset or a post-modify. -/
def execLdp (b c w p size : Nat) (x pm : Bool) (off : BitVec 14) (s : State) : Host.Outcome State Fault Refusal :=
  .next (s.issue b c false fun s =>
    if badP size pm off then s.illegal b c (wordP 0x10 w p size x pm off) else s.loadInstr b c (.ldp b c w p size x pm off))

/-- STP (R192): a store through a pointer; X must be 0. -/
def execStp (b c w p size : Nat) (x pm : Bool) (off : BitVec 14) (s : State) : Host.Outcome State Fault Refusal :=
  .next (s.issue b c false fun s =>
    if badP size pm off || x then s.illegal b c (wordP 0x11 w p size x pm off) else s.storeInstr b c (.stp b c w p size x pm off))

/-- LDL (R193): loads the aligned SRAM word and reserves it. -/
def execLdl (b c wd wa : Nat) (imm : BitVec 16) (s : State) : Host.Outcome State Fault Refusal :=
  .next (s.issue b c false fun s =>
    let ea := ((s.cx b c).getW wa + imm.signExtend 32).toNat
    if 0x40000 ≤ ea then s.faultCtx b c 7 ea 0 false false
    else if ea % 4 ≠ 0 then s.faultCtx b c 2 ea 0 false false
    else
      let r := s.sramWord b (ea / 4) false
      if r.1.ue then r.2.faultCtx b c 4 ea 0 false false
      else (r.2.modCtx b c fun v => { v with resv := some (ea / 4) }).result b c wd (BitVec.ofNat 32 r.1.data))

/-- STC (R193): stores wb at wa only while the reservation names that word; wd says whether it did. Any STC ends the reservation. -/
def execStc (b c wd wa wb : Nat) (s : State) : Host.Outcome State Fault Refusal :=
  .next (s.issue b c true fun s =>
    let ea := ((s.cx b c).getW wa).toNat
    let x := ((s.cx b c).getW wb).toNat
    if 0x40000 ≤ ea then s.faultCtx b c 7 ea 0 true false
    else if ea % 4 ≠ 0 then s.faultCtx b c 2 ea 0 true false
    else if (s.cx b c).resv = some (ea / 4) then
      let s := (s.sramPut b (ea / 4) 15 x).2
      (s.modCtx b c fun v => { v with resv := none }).result b c wd 1
    else (s.modCtx b c fun v => { v with resv := none }).result b c wd 0)

/-- MOVP (R194): p ← w. -/
def execMovp (b c p w : Nat) (s : State) : Host.Outcome State Fault Refusal :=
  .next (s.issue b c false fun s => (s.modCtx b c fun v => v.setP p (v.getW w)).complete b c)

/-- MFP (R194): w ← p. -/
def execMfp (b c w p : Nat) (s : State) : Host.Outcome State Fault Refusal :=
  .next (s.issue b c false fun s => s.result b c w ((s.cx b c).getP p))

/-- ADDP (R194): adds the immediate under the linear or modulo rule of R173, whatever BR holds. -/
def execAddp (b c p : Nat) (imm : BitVec 16) (s : State) : Host.Outcome State Fault Refusal :=
  .next (s.issue b c false fun s =>
    (s.modCtx b c fun v => v.setP p (advancePtr (v.getP p) (v.getM p).toNat imm.toInt)).complete b c)

/-- MAC (R195). -/
def execMac (b c acc wa wb la pa lb pb : Nat) (ldA ldB : Bool) (s : State) : Host.Outcome State Fault Refusal :=
  .next (s.issue b c false fun s => s.loadInstr b c (.mac b c acc wa wb la pa lb pb ldA ldB))

/-- MSU (R195). -/
def execMsu (b c acc wa wb la pa lb pb : Nat) (ldA ldB : Bool) (s : State) : Host.Outcome State Fault Refusal :=
  .next (s.issue b c false fun s => s.loadInstr b c (.msu b c acc wa wb la pa lb pb ldA ldB))

/-- CLRA (R196). -/
def execClra (b c acc : Nat) (s : State) : Host.Outcome State Fault Refusal :=
  .next (s.issue b c false fun s => (s.modCtx b c fun v => v.setA acc 0).complete b c)

/-- SAC (R196): the store unit's result; saturation sets SAT. -/
def execSac (b c w acc n : Nat) (rnd wide uns : Bool) (s : State) : Host.Outcome State Fault Refusal :=
  .next (s.issue b c false fun s =>
    let r := storeUnit ((s.cx b c).getA acc) (n % 32) rnd wide uns
    (s.modCtx b c fun v => (v.setW w r.1).stick 2 r.2).complete b c)

/-- MTA (R196): acc ← the sign-extended w shifted left by sh, 0 to 8; above 8 is ILLEGAL. -/
def execMta (b c acc w sh : Nat) (s : State) : Host.Outcome State Fault Refusal :=
  .next (s.issue b c false fun s =>
    if 8 < sh then s.illegal b c (0x22 * 2 ^ 26 + acc % 4 * 2 ^ 24 + 2 * 2 ^ 21 + w % 32 * 2 ^ 16 + sh % 16 * 2 ^ 12)
    else (s.modCtx b c fun v => v.setA acc ((v.getW w).signExtend 40 <<< sh)).complete b c)

/-- MFAG (R196): the guard bits, sign-extended. -/
def execMfag (b c w acc : Nat) (s : State) : Host.Outcome State Fault Refusal :=
  .next (s.issue b c false fun s => s.result b c w (((s.cx b c).getA acc).sshiftRight 32 |>.truncate 32))

/-- MFAL (R196): the low 32 bits. -/
def execMfal (b c w acc : Nat) (s : State) : Host.Outcome State Fault Refusal :=
  .next (s.issue b c false fun s => s.result b c w (((s.cx b c).getA acc).truncate 32))

end Sys2Proof.Machine
end

