-- ==== Sys2Proof/Machine/EngineStep.lean ====
section
/-! DEFINITION. Machine/EngineStep.lean: instruction words (R187 to R189, spec/05_engine_isa.md), single steps and the debugger's access to context
state (R498, R501, spec/14_debug.md). -/
namespace Sys2Proof.Machine
open Sys2Proof

/-! ## Instruction words (R187 to R189) -/

/-- The instruction of a word of the ALU group; wb of CLZ must be 0. -/
def decodeAlu (b c wd wa wb func : Nat) : Option Instr :=
  match func with
  | 0x01 => some (.add b c wd wa wb)
  | 0x02 => some (.sub b c wd wa wb)
  | 0x03 => some (.and b c wd wa wb)
  | 0x04 => some (.or b c wd wa wb)
  | 0x05 => some (.xor b c wd wa wb)
  | 0x06 => some (.shl b c wd wa wb)
  | 0x07 => some (.shr b c wd wa wb)
  | 0x08 => some (.sar b c wd wa wb)
  | 0x09 => some (.ror b c wd wa wb)
  | 0x0A => some (.slt b c wd wa wb)
  | 0x0B => some (.sltu b c wd wa wb)
  | 0x0C => some (.min b c wd wa wb)
  | 0x0D => some (.max b c wd wa wb)
  | 0x0E => some (.minu b c wd wa wb)
  | 0x0F => some (.maxu b c wd wa wb)
  | 0x10 => some (.mul b c wd wa wb)
  | 0x11 => some (.mulh b c wd wa wb)
  | 0x12 => some (.mulhu b c wd wa wb)
  | 0x13 => some (.clz b c wd wa wb)
  | _ => none

/-- The instruction of a word of the accumulator group (R196). -/
def decodeAcc (b c v : Nat) : Option Instr :=
  let acc := bits v 25 24
  let w := bits v 20 16
  match bits v 23 21 with
  | 0 => if w = 0 ∧ bits v 15 0 = 0 then some (.clra b c acc) else none
  | 1 => if bits v 7 0 = 0 then some (.sac b c w acc (bits v 15 11) (v.testBit 10) (v.testBit 9) (v.testBit 8)) else none
  | 2 => if bits v 11 0 = 0 then some (.mta b c acc w (bits v 15 12)) else none
  | 3 => if bits v 15 0 = 0 then some (.mfag b c w acc) else none
  | 4 => if bits v 15 0 = 0 then some (.mfal b c w acc) else none
  | _ => none

/-- The instruction of a word of format I or P with opcode `op`. -/
def decodeI (b c op v : Nat) : Option Instr :=
  let wd := bits v 25 21
  let wa := bits v 20 16
  let imm := BitVec.ofNat 16 v
  match op with
  | 0x01 => some (.addi b c wd wa imm)
  | 0x02 => some (.andi b c wd wa imm)
  | 0x03 => some (.ori b c wd wa imm)
  | 0x04 => some (.xori b c wd wa imm)
  | 0x05 => some (.slti b c wd wa imm)
  | 0x06 => some (.sltui b c wd wa imm)
  | 0x07 => some (.movhi b c wd wa imm)
  | 0x08 => some (.shi b c wd wa imm)
  | 0x10 => some (.ldp b c wd (bits v 20 18) (bits v 17 16) (v.testBit 15) (v.testBit 14) (BitVec.ofNat 14 v))
  | 0x11 => some (.stp b c wd (bits v 20 18) (bits v 17 16) (v.testBit 15) (v.testBit 14) (BitVec.ofNat 14 v))
  | 0x12 => some (.ldw b c wd wa imm)
  | 0x13 => some (.ldh b c wd wa imm)
  | 0x14 => some (.ldhu b c wd wa imm)
  | 0x15 => some (.ldb b c wd wa imm)
  | 0x16 => some (.ldbu b c wd wa imm)
  | 0x17 => some (.stw b c wd wa imm)
  | 0x18 => some (.sth b c wd wa imm)
  | 0x19 => some (.stb b c wd wa imm)
  | 0x1A => some (.ldl b c wd wa imm)
  | _ => none

/-- The instruction of a word of the pointer group (R194). -/
def decodePtr (b c v : Nat) : Option Instr :=
  let w := bits v 25 21
  let p := bits v 20 18
  match bits v 17 16 with
  | 0 => if bits v 15 0 = 0 then some (.movp b c p w) else none
  | 1 => if bits v 15 0 = 0 then some (.mfp b c w p) else none
  | 2 => if w = 0 then some (.addp b c p (BitVec.ofNat 16 v)) else none
  | _ => none

/-- The instruction of a branch word (R197). -/
def decodeB (b c v : Nat) : Option Instr :=
  let wa := bits v 22 18
  let wb := bits v 17 13
  let off := BitVec.ofNat 13 v
  match bits v 25 23 with
  | 0 => some (.beq b c wa wb off)
  | 1 => some (.bne b c wa wb off)
  | 2 => some (.blt b c wa wb off)
  | 3 => some (.bge b c wa wb off)
  | 4 => some (.bltu b c wa wb off)
  | 5 => some (.bgeu b c wa wb off)
  | _ => none

/-- The instruction of a word with opcode 0x2C and above. -/
def decodeX (b c op v : Nat) : Option Instr :=
  let wd := bits v 25 21
  match op with
  | 0x2C => if wd = 0 ∧ bits v 15 0 = 0 then some (.jr b c (bits v 20 16)) else none
  | 0x2D => if bits v 19 5 = 0 then some (.loop b c (bits v 24 20) (bits v 4 0) (v.testBit 25)) else none
  | 0x2E =>
    if bits v 24 4 ≠ 0 then none
    else if v.testBit 25 then (if bits v 3 0 = 0 then some (.rotZ b c) else none)
    else some (.rot b c (bits v 3 0))
  | 0x30 => if bits v 9 0 = 0 then some (.qpush b c (bits v 24 20) (bits v 19 15) (bits v 14 10) (v.testBit 25)) else none
  | 0x31 => if bits v 9 0 = 0 then some (.qpop b c (bits v 24 20) (bits v 19 15) (bits v 14 10) (v.testBit 25)) else none
  | 0x32 => if bits v 20 0 = 0 then some (.time b c wd) else none
  | 0x33 => if bits v 10 0 = 0 then some (.wfe b c wd (bits v 20 16) (bits v 15 11)) else none
  | 0x34 => if bits v 20 0 = 0 then some (.fsync b c wd) else none
  | 0x35 => if bits v 10 0 = 0 then some (.stim b c (bits v 25 18) (bits v 17 13) (bits v 12 11)) else none
  | 0x36 => if bits v 25 16 = 0 then some (.brk b c (BitVec.ofNat 16 v)) else none
  | 0x37 => if bits v 20 8 = 0 then some (.mfs b c wd (bits v 7 0)) else none
  | 0x38 => if wd = 0 ∧ bits v 15 8 = 0 then some (.mts b c (bits v 20 16) (bits v 7 0)) else none
  | 0x39 => if bits v 25 0 = 0 then some (.fence b c) else none
  | 0x3A => if bits v 25 0 = 0 then some (.idle b c) else none
  | 0x3E => if bits v 25 0 = 0 then some (.nop b c) else none
  | _ => none

/-- The instruction of an M-format word (R195). -/
def decodeM (b c v : Nat) (sub : Bool) : Instr :=
  if sub then
    .msu b c (bits v 25 24) (bits v 23 19) (bits v 18 14) (bits v 13 10) (bits v 9 8) (bits v 7 4) (bits v 3 2) (v.testBit 1) (v.testBit 0)
  else
    .mac b c (bits v 25 24) (bits v 23 19) (bits v 18 14) (bits v 13 10) (bits v 9 8) (bits v 7 4) (bits v 3 2) (v.testBit 1) (v.testBit 0)

/-- The instruction that a word stands for in context `c` of bay `b`; none is ILLEGAL (R189). A field value that an instruction's own rule does not
allow is left to its meaning. -/
def decodeEngine (b c v : Nat) : Option Instr :=
  let op := bits v 31 26
  if op = 0 then (if bits v 10 6 = 0 then decodeAlu b c (bits v 25 21) (bits v 20 16) (bits v 15 11) (bits v 5 0) else none)
  else if op ≤ 0x1A then decodeI b c op v
  else if op = 0x1B then
    (if bits v 10 0 = 0 then some (.stc b c (bits v 25 21) (bits v 20 16) (bits v 15 11)) else none)
  else if op = 0x1C then decodePtr b c v
  else if op = 0x20 then some (decodeM b c v false)
  else if op = 0x21 then some (decodeM b c v true)
  else if op = 0x22 then decodeAcc b c v
  else if op = 0x28 then decodeB b c v
  else if op = 0x29 then some (.bdec b c (bits v 24 20) (v.testBit 25) (BitVec.ofNat 20 v))
  else if op = 0x2A then some (.jmp b c (BitVec.ofNat 26 v))
  else if op = 0x2B then some (.call b c (BitVec.ofNat 26 v))
  else decodeX b c op v

/-- ILLEGAL_INSTRUCTION (R189): a word that no table lists raises ILLEGAL. -/
def execIllegalInstruction (b c : Nat) (word : BitVec 32) (s : State) : Host.Outcome State Fault Refusal :=
  .next (s.issue b c false fun s => if (decodeEngine b c word.toNat).isNone then s.illegal b c word.toNat else s)

/-! ## Single steps (R498) -/

/-- The meaning of an engine instruction. -/
def engineExec (i : Instr) (s : State) : Host.Outcome State Fault Refusal :=
  match i with
  | .add b c wd wa wb => execAdd b c wd wa wb s
  | .sub b c wd wa wb => execSub b c wd wa wb s
  | .and b c wd wa wb => execAnd b c wd wa wb s
  | .or b c wd wa wb => execOr b c wd wa wb s
  | .xor b c wd wa wb => execXor b c wd wa wb s
  | .shl b c wd wa wb => execShl b c wd wa wb s
  | .shr b c wd wa wb => execShr b c wd wa wb s
  | .sar b c wd wa wb => execSar b c wd wa wb s
  | .ror b c wd wa wb => execRor b c wd wa wb s
  | .slt b c wd wa wb => execSlt b c wd wa wb s
  | .sltu b c wd wa wb => execSltu b c wd wa wb s
  | .min b c wd wa wb => execMin b c wd wa wb s
  | .max b c wd wa wb => execMax b c wd wa wb s
  | .minu b c wd wa wb => execMinu b c wd wa wb s
  | .maxu b c wd wa wb => execMaxu b c wd wa wb s
  | .mul b c wd wa wb => execMul b c wd wa wb s
  | .mulh b c wd wa wb => execMulh b c wd wa wb s
  | .mulhu b c wd wa wb => execMulhu b c wd wa wb s
  | .clz b c wd wa wb => execClz b c wd wa wb s
  | .addi b c wd wa imm => execAddi b c wd wa imm s
  | .andi b c wd wa imm => execAndi b c wd wa imm s
  | .ori b c wd wa imm => execOri b c wd wa imm s
  | .xori b c wd wa imm => execXori b c wd wa imm s
  | .slti b c wd wa imm => execSlti b c wd wa imm s
  | .sltui b c wd wa imm => execSltui b c wd wa imm s
  | .movhi b c wd wa imm => execMovhi b c wd wa imm s
  | .shi b c wd wa imm => execShi b c wd wa imm s
  | .ldw b c wd wa imm => execLdw b c wd wa imm s
  | .ldh b c wd wa imm => execLdh b c wd wa imm s
  | .ldhu b c wd wa imm => execLdhu b c wd wa imm s
  | .ldb b c wd wa imm => execLdb b c wd wa imm s
  | .ldbu b c wd wa imm => execLdbu b c wd wa imm s
  | .stw b c wd wa imm => execStw b c wd wa imm s
  | .sth b c wd wa imm => execSth b c wd wa imm s
  | .stb b c wd wa imm => execStb b c wd wa imm s
  | .ldp b c w p size x pm off => execLdp b c w p size x pm off s
  | .stp b c w p size x pm off => execStp b c w p size x pm off s
  | .ldl b c wd wa imm => execLdl b c wd wa imm s
  | .stc b c wd wa wb => execStc b c wd wa wb s
  | .movp b c p w => execMovp b c p w s
  | .mfp b c w p => execMfp b c w p s
  | .addp b c p imm => execAddp b c p imm s
  | .mac b c acc wa wb la pa lb pb ldA ldB => execMac b c acc wa wb la pa lb pb ldA ldB s
  | .msu b c acc wa wb la pa lb pb ldA ldB => execMsu b c acc wa wb la pa lb pb ldA ldB s
  | .clra b c acc => execClra b c acc s
  | .sac b c w acc n rnd wide uns => execSac b c w acc n rnd wide uns s
  | .mta b c acc w sh => execMta b c acc w sh s
  | .mfag b c w acc => execMfag b c w acc s
  | .mfal b c w acc => execMfal b c w acc s
  | .beq b c wa wb off => execBeq b c wa wb off s
  | .bne b c wa wb off => execBne b c wa wb off s
  | .blt b c wa wb off => execBlt b c wa wb off s
  | .bge b c wa wb off => execBge b c wa wb off s
  | .bltu b c wa wb off => execBltu b c wa wb off s
  | .bgeu b c wa wb off => execBgeu b c wa wb off s
  | .bdec b c wa rotb off => execBdec b c wa rotb off s
  | .jmp b c off => execJmp b c off s
  | .call b c off => execCall b c off s
  | .jr b c wa => execJr b c wa s
  | .loop b c wa len rotl => execLoop b c wa len rotl s
  | .rot b c k => execRot b c k s
  | .rotZ b c => execRotZ b c s
  | .qpush b c wd wq wa w => execQpush b c wd wq wa w s
  | .qpop b c wd wq wa w => execQpop b c wd wq wa w s
  | .time b c wd => execTime b c wd s
  | .fsync b c wd => execFsync b c wd s
  | .wfe b c wd wa wb => execWfe b c wd wa wb s
  | .stim b c port wa size => execStim b c port wa size s
  | .brk b c code => execBrk b c code s
  | .fence b c => execFence b c s
  | .idle b c => execIdle b c s
  | .nop b c => execNop b c s
  | .mfs b c wd num => execMfs b c wd num s
  | .mts b c wa num => execMts b c wa num s
  | _ => .next s

/-- Whether a halted context counts as READY for a step: it was READY, or it was RUNNING at the halt. -/
def State.stepReady (s : State) (b c : Nat) : Bool :=
  decide (s.ctxState b c = 6) && (decide ((s.cx b c).prev = 2) || decide ((s.cx b c).prev = 3))

/-- The context that a step takes: the one that was RUNNING comes first among those of its priority (R498). -/
def State.stepPick (s : State) (b : Nat) : Option Nat :=
  match s.selectCtx b (s.stepReady b) with
  | none => none
  | some c =>
    match (List.range 32).find? (fun r => decide (s.ctxState b r = 6) && decide ((s.cx b r).prev = 3)) with
    | some r => if s.prio b r = s.prio b c then some r else some c
    | none => some c

/-- The word at a context's PC, corrected; an error of the fetch is left to the issue. -/
def State.wordAt (s : State) (b pc : Nat) : Nat := (eccDecode 32 (s.bytes (sramA b pc) 4) (s.diff (chkSram b (pc / 4)))).data

/-- Issue one instruction from context `c` of a halted engine, and halt again; with a valid reservation the halt is deferred (R497, R498). -/
def State.stepCtx (s : State) (b c : Nat) : State :=
  let s := (List.range 32).foldl
    (fun s r => if s.ctxState b r = 6 ∧ (s.cx b r).prev = 3 then s.modCtx b r fun v => { v with prev := 2 } else s) s
  let s := (s.runCtx b c).modDbg b fun v => { v with stepping := true, stepWait := false }
  let word := s.wordAt b (s.pcOf b c)
  let s := match decodeEngine b c word with
    | some i => outState s (engineExec i s)
    | none => s.issue b c false fun s => s.illegal b c word
  if (s.dbg b).stepping then
    if s.ctxState b c = 3 ∧ (s.cx b c).resv.isSome then s.modDbg b fun v => { v with deferred := some 4 }
    else s.takeHalt b 4 c
  else s

/-- STEP at level 2 (R486, R498, R500): with no context READY the step waits. -/
def State.dbgStep (s : State) (b : Nat) : State :=
  if s.level < 2 then s.levelDenied (b / 32)
  else if s.halted b then
    if (s.dbg b).stepping then s
    else
      match s.stepPick b with
      | some c => s.stepCtx b c
      | none => s.modDbg b fun v => { v with stepWait := true }
  else s.dbgIgn b

/-- ENGINE_STEP (R498). -/
def execEngineStep (b : Nat) (s : State) : Host.Outcome State Fault Refusal :=
  .next <| if s.bayOk b then s.dbgStep b else s

/-! ## Context state for the debugger (R501) -/

/-- Read the selected state. -/
def State.ctxData (s : State) (b c reg : Nat) : Nat :=
  let v := s.cx b c
  if reg < 0x20 then (v.phys reg).toNat
  else if reg = 0x20 then s.pcOf b c
  else if reg < 0x25 then (v.getA (reg - 0x21)).toNat % 2 ^ 32
  else if reg < 0x29 then ((v.getA (reg - 0x25)).sshiftRight 32 |>.toNat) % 2 ^ 32
  else if 0x30 ≤ reg ∧ reg < 0x38 then (v.getP (reg - 0x30)).toNat
  else if 0x40 ≤ reg ∧ reg < 0x60 then
    match s.special b c (reg - 0x40) with
    | some x => x.toNat
    | none => 0
  else if reg = 0x60 then (match v.loop with
    | some l => l.first
    | none => 0)
  else if reg = 0x61 then (match v.loop with
    | some l => l.last
    | none => 0)
  else if reg = 0x62 then (match v.loop with
    | some l => l.count
    | none => 0)
  else 0

/-- Write the selected state; a register that is RO or not listed is left alone and sets CMD_IGN. -/
def State.setCtxData (s : State) (b c reg x : Nat) : State :=
  let w := BitVec.ofNat 32 x
  if reg < 0x20 then s.modCtx b c fun v => v.setPhys reg w
  else if reg = 0x20 then s.setPc b c x
  else if reg < 0x25 then
    s.modCtx b c fun v => v.setA (reg - 0x21) (BitVec.ofNat 40 ((v.getA (reg - 0x21)).toNat / 2 ^ 32 * 2 ^ 32 + x % 2 ^ 32))
  else if reg < 0x29 then
    s.modCtx b c fun v => v.setA (reg - 0x25) (BitVec.ofNat 40 ((v.getA (reg - 0x25)).toNat % 2 ^ 32 + x % 256 * 2 ^ 32))
  else if 0x30 ≤ reg ∧ reg < 0x38 then s.modCtx b c fun v => v.setP (reg - 0x30) w
  else if 0x40 ≤ reg ∧ reg < 0x60 then
    match (s.cx b c).setSpecial (reg - 0x40) w with
    | some v => s.modCtx b c fun _ => v
    | none => s.dbgIgn b
  else s.dbgIgn b

/-- Read DBG_CTXDATA at level 1 (R486, R501). -/
def State.ctxDataRead (s : State) (b : Nat) : Nat × State :=
  let a := dbgEngA b
  if s.level < 1 then (0, s.levelDenied (b / 32))
  else if s.halted b then (s.ctxData b (s.rd a R.DBG_CTXSEL.CTX) (s.rd a R.DBG_CTXSEL.REG), s)
  else (0, s.dbgIgn b)

/-- Write DBG_CTXDATA at level 2. -/
def State.ctxDataWrite (s : State) (b x : Nat) : State :=
  let a := dbgEngA b
  if s.level < 2 then s.levelDenied (b / 32)
  else if s.halted b then s.setCtxData b (s.rd a R.DBG_CTXSEL.CTX) (s.rd a R.DBG_CTXSEL.REG) x
  else s.dbgIgn b

/-- CTXDATA_ACCESS (R501). -/
def execCtxdataAccess (b : Nat) (write : Bool) (value : BitVec 32) (s : State) : Host.Outcome State Fault Refusal :=
  .next <|
    if s.bayOk b then
      if write then s.ctxDataWrite b value.toNat
      else
        let r := s.ctxDataRead b
        r.2.emit (.regValue (dbgEngA b + 0xC) r.1)
    else s

end Sys2Proof.Machine
end

