-- ==== Sys2Proof/Machine/Debug.lean ====
section
/-! DEFINITION. Machine/Debug.lean: the debug block's registers, unlocking, debug bus masters, trace sinks and the JTAG instructions that reach no
register (spec/14_debug.md). -/
namespace Sys2Proof.Machine

/-! ## Levels (R486) -/

/-- Store a field that needs debug level `need`; a denied change sets LEVEL_DENIED of the quadrant. -/
def State.wrLevel (s : State) (q need a : Nat) (f : Fld) (v : Nat) : State :=
  if need ≤ s.level then s.wr a f v
  else if s.rd a f = v % 2 ^ f.width then s else s.levelDenied q

/-- A write of DBG_ENG_CTRL of bay `b` (R486, R508): of several command bits only the highest acts. -/
def State.engCtrlWrite (s : State) (b v : Nat) : State :=
  let a := dbgEngA b
  let q := b / 32
  let s := s.wrLevel q 2 a R.DBG_ENG_CTRL.XT_OUT (bits v 31 24)
  let s := s.wrLevel q 2 a R.DBG_ENG_CTRL.XT_IN (bits v 23 16)
  let s := s.wrLevel q 1 a R.DBG_ENG_CTRL.TRC_SWITCH (bits v 9 9)
  let s := s.wrLevel q 1 a R.DBG_ENG_CTRL.TRC_STATE (bits v 8 8)
  let s := s.wrLevel q 2 a R.DBG_ENG_CTRL.BRK_EN (bits v 4 4)
  let s := s.wrLevel q 2 a R.DBG_ENG_CTRL.HOLD_RST (bits v 3 3)
  if v.testBit 2 then s.dbgStep b
  else if v.testBit 1 then s.dbgRelease b
  else if v.testBit 0 then s.dbgHalt b
  else s

/-- A write of XT_CFG of group `g` at level 2 (R486, R509). -/
def State.xtCfgWrite (s : State) (g v : Nat) : State :=
  let w := fun (s : State) (f : Fld) (x : Nat) => s.wrLevel 0 2 (xtA 0) (f.shift (8 * g)) x
  let s := w s R.XT_CFG.EN (bits v 31 31)
  let s := w s R.XT_CFG.CAPTURE (bits v 30 30)
  let s := w s R.XT_CFG.STOP (bits v 29 29)
  let s := w s R.XT_CFG.EVT_EN (bits v 28 28)
  let s := w s R.XT_CFG.GMASK (bits v 27 24)
  w s R.XT_CFG.EVENT (bits v 9 0)

/-- A write of XT_CMD of group `g`: with both bits 1, RELEASE takes effect (R509). -/
def State.xtCmdWrite (s : State) (g v : Nat) : State :=
  if v.testBit 1 then s.xtRelease g else if v.testBit 0 then s.xtPulse g else s

/-! ## Unlocking (R487 to R489) -/

/-- A fused level as it acts: 3 acts as 2. -/
def fusedLevel (n : Nat) : Nat := min n 2
/-- CEIL (R487). -/
def State.dbgCeil (s : State) : Nat := fusedLevel s.fuses.dbgCeil
/-- The level of a device reset: OPEN, at most CEIL (R487). -/
def State.dbgOpen (s : State) : Nat := min (fusedLevel s.fuses.dbgOpen) s.dbgCeil

/-- Word `i` of the challenge (R488). -/
def State.challenge (s : State) (i : Nat) : Nat :=
  if i < 4 then (Config.freeBits 128 s.nonce).toNat / 2 ^ (32 * i) % 2 ^ 32
  else if i < 6 then s.fuses.uid / 2 ^ (32 * (i - 4)) % 2 ^ 32
  else if i = 6 then s.unlocks % 2 ^ 32
  else 0

/-- Draw a new nonce. -/
def State.newNonce (s : State) : State := { s.drawn with nonce := s.free }

/-- An unlock attempt ends (R487 to R489). -/
def State.unlockEnds (s : State) (ok : Bool) : State :=
  let a := dbgA 0
  let want := s.rd a R.DBG_UNLOCK.LEVEL
  let s := { (s.wr a R.DBG_STAT.UBUSY 0).newNonce with unlocks := s.unlocks + 1 }
  if ok && decide (want ≤ s.dbgCeil) && !s.bit a R.DBG_STAT.LOCKOUT then
    if s.level < want then (s.wr a R.DBG_LEVEL.LEVEL want).raise 736 else s
  else
    let s := (s.bump a R.DBG_STAT.FAILS 1).wr a R.DBG_STAT.UNLOCK_FAIL 1
    let s := if 16 ≤ s.rd a R.DBG_STAT.FAILS then s.wr a R.DBG_STAT.LOCKOUT 1 else s
    s.raise 737

/-- A write of DBG_UNLOCK (R488): ignored during a check. A refusal without a check, under LOCKOUT or with CEIL = 0, is a failed attempt at once
(log entry 27). -/
def State.unlockWrite (s : State) (v : Nat) : State :=
  let a := dbgA 0
  if s.bit a R.DBG_STAT.UBUSY then s
  else
    let s := s.wr a R.DBG_UNLOCK.LEVEL (bits v 1 0)
    if s.bit a R.DBG_STAT.LOCKOUT || decide (s.dbgCeil = 0) then s.unlockEnds false else s.wr a R.DBG_STAT.UBUSY 1

/-- DEBUG_UNLOCK (R488). -/
def execDebugUnlock (value : BitVec 32) (s : State) : Host.Outcome State Fault Refusal := .next (s.unlockWrite value.toNat)

/-- UNLOCK_CHECK_DONE (R489): the outcome of the signature and key-hash check is the operand. -/
def execUnlockCheckDone (ok : Bool) (s : State) : Host.Outcome State Fault Refusal :=
  .next <| if s.bit (dbgA 0) R.DBG_STAT.UBUSY then s.unlockEnds ok else s

/-! ## Debug bus masters (R494) -/

/-- A field of DBM port `p`. -/
def dbmF (p : Nat) (f : Fld) : Fld := f.shift (0x80 * p)
/-- Read it. -/
def State.dbm (s : State) (p : Nat) (f : Fld) : Nat := s.rd (dbgA 0) (dbmF p f)
/-- The address of a DBM port. -/
def State.dbmAddr (s : State) (p : Nat) : Nat := s.dbm p R.DBM_ADDR_LO.PA + 2 ^ 32 * s.dbm p R.DBM_ADDR_HI.PA
/-- Whether register space or SRAM and memory rules forbid an access of `n` bytes (R9, R36). -/
def accessAllowed (pa n : Nat) : Bool :=
  decide (pa % n = 0) && (if registerSpace pa then decide (n = 4 ∨ n = 8) else true)
/-- A DBM port ends its access with a status. -/
def State.dbmEnd (s : State) (p status : Nat) : State :=
  (s.wr (dbgA 0) (dbmF p R.DBM_STAT.BUSY) 0).wr (dbgA 0) (dbmF p R.DBM_STAT.STATUS) status

/-- The port number of a router's port as an initiator. -/
def portOf (router sport : Nat) : Nat := router * 4 + sport
/-- The control router of a quadrant (R254). -/
def controlRouter (q : Nat) : Nat := routerNum q 35

/-- GO of DBM port `p` (R486, R494): a read needs level 1, a write level 2; the request then stands outstanding at the unit port of the Q0 control
router under the tag that the port number gives. -/
def State.dbmGo (s : State) (p : Nat) : State :=
  let a := dbgA 0
  let wr := decide (s.dbm p R.DBM_CTRL.WR = 1)
  let n := 2 ^ s.dbm p R.DBM_CTRL.SIZE
  let pa := s.dbmAddr p
  if s.dbm p R.DBM_STAT.BUSY = 1 then s
  else if s.level < (if wr then 2 else 1) then (s.wr a (dbmF p R.DBM_STAT.LEVEL_DENIED) 1).dbmEnd p 1
  else if !accessAllowed pa n then s.dbmEnd p 1
  else
    { s.wr a (dbmF p R.DBM_STAT.BUSY) 1 with
      outst := s.outst ++ [⟨portOf (controlRouter 0) 1, 0x2000 + p, wr, pa, n, .dbm p⟩] }

/-- DBM_GO (R494). -/
def execDbmGo (p : Nat) (s : State) : Host.Outcome State Fault Refusal := .next <| if p < 2 then s.dbmGo p else s

/-- The response of a DBM access arrives: DBM_DATA takes the bytes of a read where they lie in their line (R258, R494). -/
def State.dbmDone (s : State) (p status data : Nat) (o : Outst) : State :=
  let s :=
    if !o.write && decide (status = 0) then
      let line := data % 2 ^ (8 * o.size) * 2 ^ (8 * (o.pa % 64))
      let f := if p = 0 then R.DBM_DATA0.DATA else R.DBM_DATA1.DATA
      (List.range 16).foldl (fun s i =>
        if o.pa % 64 < 4 * i + 4 ∧ 4 * i < o.pa % 64 + o.size then
          s.wr (dbgA 0) (f.shift (4 * i)) (mergeBytes 4
            ((2 ^ o.size - 1) * 2 ^ (o.pa % 64) / 2 ^ (4 * i)) (s.rd (dbgA 0) (f.shift (4 * i))) (line / 2 ^ (32 * i)))
        else s) s
    else s
  s.dbmEnd p status

/-! ## Trace sinks (R506, R507, R510) -/

/-- The 16 bytes of a trace packet. -/
def TrcPkt.pack (p : TrcPkt) (loss : Bool) : Nat :=
  nsOf p.stamp + 2 ^ 32 * (secOf p.stamp % 2 ^ 24 + 2 ^ 24 * (fracOf p.stamp / 256))
    + 2 ^ 64 * (p.kind % 16 * 2 ^ 28 + (if p.loss || loss then 2 ^ 27 else 0) + p.size % 4 * 2 ^ 25 + p.bay % 128 * 2 ^ 18
      + p.ctx % 32 * 2 ^ 13 + p.port % 256 * 32)
    + 2 ^ 96 * (p.data % 2 ^ 32)

/-- A packet that the sink drops (R507). -/
def State.dropTrace (s : State) (q : Nat) : State :=
  ((s.bump (trcA q) R.TRC_DROP.COUNT 1).setSink q { s.sink q with loss := true }).raise (740 + q)

/-- The sink takes a packet into its FIFO or its ring. -/
def State.sinkTake (s : State) (q : Nat) (p : TrcPkt) (net : Net) : State :=
  let a := trcA q
  let v := s.sink q
  if s.rd a R.TRC_CFG.RING = 0 then
    if v.fifo.length < 64 then s.setSink q ⟨v.fifo ++ [{ p with loss := p.loss || v.loss }], false⟩ else s.dropTrace q
  else
    let n := 2 ^ (min (s.rd a R.TRC_CFG.LEN) 14 + 8)
    let base := s.rd a R.TRC_BASE_LO.BASE * 16 + s.rd a R.TRC_CFG.BASE * 2 ^ 32
    let wr := s.rd a R.TRC_WR.WR
    if base % (16 * n) ≠ 0 ∨ 0x8000000000 < base + 16 * n ∨ (wr + 1) % n = s.rd a R.TRC_RD.RD % n ∨ net.status ≠ 0 then s.dropTrace q
    else
      let r := s.farWrite (base + 16 * (wr % n)) 16 (allBytes 16) (p.pack v.loss) ⟨controlRouter q, 1, false, false, 3, false⟩
      if r.1 = 0 then (r.2.wr a R.TRC_WR.WR ((wr + 1) % n)).setSink q { v with loss := false } else r.2.dropTrace q

/-- TRACE_PACKET (R507): the sink of bay `b`'s quadrant takes the bay's oldest staged packet. -/
def execTracePacket (b : Nat) (net : Net) (s : State) : Host.Outcome State Fault Refusal :=
  .next <|
    match (s.dbg b).stage with
    | p :: rest =>
      if s.bayOk b && s.bit (trcA (b / 32)) R.TRC_CFG.EN then
        (s.modDbg b fun v => { v with stage := rest }).sinkTake (b / 32) p net
      else s
    | [] => s

/-- A read of TRC_POP: word 0 of the oldest packet, its other words latched (R510). -/
def State.trcPop (s : State) (q : Nat) : Nat × State :=
  let a := trcA q
  let v := s.sink q
  let w := match v.fifo with
    | p :: _ => p.pack false
    | [] => 0
  let s := s.setSink q { v with fifo := v.fifo.drop 1 }
  (w % 2 ^ 32, (List.range 3).foldl (fun s i => s.wr a (R.TRC_HOLD.WORD.shift (4 * i)) (w / 2 ^ (32 * (i + 1)))) s)

/-- TRC_POP (R486, R510). -/
def execTrcPop (q : Nat) (s : State) : Host.Outcome State Fault Refusal :=
  .next <|
    if s.quadLive q then
      if s.level < 1 then (s.levelDenied q).emit (.regValue (trcA q + 0x14) 0)
      else
        let r := s.trcPop q
        r.2.emit (.regValue (trcA q + 0x14) r.1)
    else s

/-- A write of TRC_CFG at level 1: RING and the ring's place change only while EN = 0 (R507, R510). -/
def State.trcCfgWrite (s : State) (q v : Nat) : State :=
  let a := trcA q
  let en := s.bit a R.TRC_CFG.EN
  let s :=
    if en then s
    else
      let s := s.wrLevel q 1 a R.TRC_CFG.RING (bits v 30 30)
      (s.wrLevel q 1 a R.TRC_CFG.LEN (bits v 27 24)).wrLevel q 1 a R.TRC_CFG.BASE (bits v 15 0)
  s.wrLevel q 1 a R.TRC_CFG.EN (bits v 31 31)

/-- A write of TRC_BASE_LO (R507). -/
def State.trcBaseWrite (s : State) (q v : Nat) : State :=
  if s.bit (trcA q) R.TRC_CFG.EN then s else s.wrLevel q 1 (trcA q) R.TRC_BASE_LO.BASE (bits v 31 4)

/-! ## JTAG (R492, R545) -/

/-- An instruction takes effect: what drives the covered balls, and what the selected data register is. -/
def State.tap (s : State) (ir balls : Nat) (o : Output) : State :=
  ({ s with jtag := { s.jtag with ir := ir, balls := balls } }).emit o

/-- BYPASS, also for an instruction that is not listed or is denied. -/
def State.bypass (s : State) : State := s.tap 0xFF 0 (.scan 1 0)

/-- Boundary-scan instructions need level 2, or CFG_STAT in UNCONFIGURED or ERROR (R486). -/
def State.boundaryOk (s : State) : Bool :=
  decide (2 ≤ s.level) || decide (s.rd (cfgA 0) R.CFG_STAT.STATE = 0 ∨ s.rd (cfgA 0) R.CFG_STAT.STATE = 8)

/-- A boundary-scan instruction; denied, it acts as BYPASS and sets LEVEL_DENIED (R486, R492; log entry 28). -/
def State.boundary (s : State) (ir balls : Nat) (o : Output) : State :=
  if s.boundaryOk then s.tap ir balls o else (s.levelDenied 0).bypass

/-- The identification register (R492). -/
def State.idcode (s : State) : Nat :=
  let part := match s.fuses.part with
    | .abn9640 => 0x9640
    | .abn9620 => 0x9620
    | .abn9610 => 0x9610
  Tab.get (fun _ => 0) s.fuses.stepping 0 % 16 * 2 ^ 28 + part * 2 ^ 12 + 0x35D * 2 + 1

/-- IDCODE (R492). -/
def execIdcode (s : State) : Host.Outcome State Fault Refusal := .next (s.tap 1 0 (.scan 32 s.idcode))
/-- SAMPLE/PRELOAD (R492): the balls keep their functional drive. -/
def execSamplePreload (s : State) : Host.Outcome State Fault Refusal := .next (s.boundary 2 0 .boundaryScan)
/-- EXTEST (R492, R545). -/
def execExtest (s : State) : Host.Outcome State Fault Refusal := .next (s.boundary 3 1 .boundaryScan)
/-- CLAMP (R492, R545): the boundary-scan register drives the outputs, the bypass register is selected. -/
def execClamp (s : State) : Host.Outcome State Fault Refusal := .next (s.boundary 4 1 (.scan 1 0))
/-- HIGHZ (R492, R545). -/
def execHighz (s : State) : Host.Outcome State Fault Refusal := .next (s.boundary 5 2 (.scan 1 0))
/-- BYPASS (R492): any code that the table does not list selects it too. -/
def execBypass (s : State) : Host.Outcome State Fault Refusal := .next s.bypass

end Sys2Proof.Machine
end

