-- ==== Sys2Proof/Machine/Lanes.lean ====
section
/-! DEFINITION. Machine/Lanes.lean: serial lanes, the register side of the Ethernet MACs and CAN FD controllers, and the frame rings' registers
(R325 to R351, spec/09_lanes.md). PAM4 lanes are numbered 0 to 95 and NRZ lanes from 96 on. -/
namespace Sys2Proof.Machine
open Sys2Proof

/-! ## Units and their numbers (R28, R326, R337, R343) -/

/-- The registers of a lane. -/
def lnA (l : Nat) : Nat := if l < 96 then pamA l else nrzA (l - 96)
/-- The quadrant of a lane. -/
def lnQuad (l : Nat) : Nat := if l < 96 then l / 24 else (l - 96) / 6
/-- The local number of a lane among its kind. -/
def lnLocal (l : Nat) : Nat := if l < 96 then l % 24 else (l - 96) % 6
/-- Whether a lane is present. -/
def State.laneOk (s : State) (l : Nat) : Bool := decide (l < 120) && s.quadLive (lnQuad l)
/-- Whether a MAC is present. -/
def State.macOk (s : State) (e : Nat) : Bool := decide (e < 16) && s.quadLive (e / 4)
/-- Whether a CAN FD controller is present. -/
def State.canOk (s : State) (n : Nat) : Bool := decide (n < 8) && s.quadLive (n / 2)
/-- Change a lane's own state. -/
def State.modLane (s : State) (l : Nat) (f : LaneSt → LaneSt) : State := s.setLane l (f (s.lane l))
/-- Change a MAC's own state. -/
def State.modMac (s : State) (e : Nat) (f : MacSt → MacSt) : State := s.setMac e (f (s.mac e))
/-- Change a controller's own state. -/
def State.modCan (s : State) (n : Nat) (f : CanSt → CanSt) : State := s.setCan n (f (s.can n))
/-- A field of a lane's registers. -/
def State.lf (s : State) (l : Nat) (f : Fld) : Nat := s.rd (lnA l) f
/-- A one-bit field of a lane's registers. -/
def State.lb (s : State) (l : Nat) (f : Fld) : Bool := s.bit (lnA l) f

/-- Whether a lane supports a mode (R326). -/
def laneSupports (l mode : Nat) : Bool :=
  if l < 96 then decide (mode = 0 ∨ mode = 1 ∨ mode = 4)
  else if lnLocal l < 4 then decide (mode ≤ 4)
  else decide (mode = 0 ∨ mode = 3 ∨ mode = 4)
/-- Whether a lane supports a rate in a mode (R326). -/
def laneRate (l mode rate : Nat) : Bool :=
  decide (rate < 2) || (decide (rate = 2) && (decide (mode = 4) || (decide (96 ≤ l) && decide (mode = 3))))

/-- The lanes of a MAC's port (R337). -/
def State.macLanes (s : State) (e : Nat) : List Nat :=
  let p := e / 4 * 24 + e % 4 * 6
  match s.rd (macA e) R.MAC_CFG.PORT with
  | 1 => [96 + e / 4 * 6 + e % 4]
  | 2 => [96 + e / 4 * 6 + e % 4]
  | 3 => [p]
  | 4 => [p, p + 1]
  | 5 => [p]
  | 6 => [p, p + 1, p + 2, p + 3]
  | 7 => [p, p + 1]
  | 8 => [p, p + 1, p + 2, p + 3]
  | _ => []

/-- The MAC whose port includes a lane. -/
def State.laneMac (s : State) (l : Nat) : Option Nat :=
  let e := if l < 96 then l / 24 * 4 + l % 24 / 6 else lnQuad l * 4 + lnLocal l
  if (l < 96 ∨ lnLocal l < 4) ∧ l ∈ s.macLanes e then some e else none

/-- Whether a MAC's port aligns its lane by blocks: 10GBASE-R, or 25GBASE-R without RS-FEC (R330). -/
def State.macBlocks (s : State) (e : Nat) : Bool :=
  let p := s.rd (macA e) R.MAC_CFG.PORT
  decide (p = 1) || (decide (p = 2) && decide (s.rd (macA e) R.MAC_CFG.FEC ≠ 2))

/-- Whether a MAC's port uses an FEC (R337). -/
def State.macFec (s : State) (e : Nat) : Bool :=
  decide (3 ≤ s.rd (macA e) R.MAC_CFG.PORT) || decide (s.rd (macA e) R.MAC_CFG.FEC ≠ 0)

/-- Whether a lane aligns itself by the sync header (R330). -/
def State.laneBlocks (s : State) (l : Nat) : Bool :=
  decide (96 ≤ l) &&
    match s.lf l R.LN_CFG.MODE with
    | 1 => match s.laneMac l with
      | some e => s.macBlocks e
      | none => false
    | 2 => true
    | 3 => true
    | _ => false

/-! ## Link and attention (R337, R339, R347, R351) -/

/-- Whether LINK is due (R339). -/
def State.linkDue (s : State) (e : Nat) : Bool :=
  let lanes := s.macLanes e
  !lanes.isEmpty &&
    lanes.all (fun l => decide (s.lf l R.LN_CFG.MODE = 1) && s.lb l R.LN_STAT.CDR_LOCK &&
      (!s.macBlocks e || s.lb l R.LN_STAT.BLOCK_LOCK)) &&
    (s.macBlocks e || (s.mac e).pcs) && (!s.macFec e || (s.mac e).fec) &&
    !s.bit (macA e) R.MAC_STAT.LOCAL_FAULT && !s.bit (macA e) R.MAC_STAT.REMOTE_FAULT

/-- Bring LANES_NOT_READY and LINK of a MAC up to date; a change of LINK sets LINK_CHG (R337, R339). -/
def State.macUpdate (s : State) (e : Nat) : State :=
  let a := macA e
  let s := s.wr a R.MAC_STAT.LANES_NOT_READY (if (s.macLanes e).all (fun l => decide (s.lf l R.LN_CFG.MODE = 1)) then 0 else 1)
  let up := s.linkDue e
  if s.bit a R.MAC_STAT.LINK = up then s
  else (s.wr a R.MAC_STAT.LINK (if up then 1 else 0)).setFlag a R.MAC_STAT.LINK_CHG (628 + e / 4)

/-- Bring a lane's bit of LN_ATTN up to date; a bit that sets raises event 608 + q (R347, R351). -/
def State.attn (s : State) (l : Nat) : State :=
  let q := lnQuad l
  let k := if l < 96 then l % 24 else 24 + lnLocal l
  let on := s.lb l R.LN_STAT.LOCK_LOST || decide (s.lf l R.LN_STAT.SLIPS ≠ 0) || decide (s.lf l R.LN_BADSH.COUNT ≠ 0) ||
    decide (s.lf l R.LN_PRBSERR.COUNT ≠ 0) ||
    (decide (96 ≤ l) && (decide (s.lf l R.LN_RAWCNT.TX_UNDER ≠ 0) || decide (s.lf l R.LN_RAWCNT.RX_OVF ≠ 0)))
  let v := s.rd (lnAttnA q) R.LN_ATTN.ATTN
  if v.testBit k = on then s
  else if on then (s.wr (lnAttnA q) R.LN_ATTN.ATTN (v + 2 ^ k)).raise (608 + q)
  else s.wr (lnAttnA q) R.LN_ATTN.ATTN (v - 2 ^ k)

/-- The lane of a port of the system link: U and R are ports 0 and 1, Dj is port 2 + j (R407). -/
def laneOfPort (p : Nat) : Nat := if p < 4 then 96 + p else 96 + 6 * ((p - 4) / 4 + 1) + (p - 4) % 4
/-- The port on a lane. -/
def portOfLane (l : Nat) : Option Nat :=
  if l < 96 then none else (List.range 16).find? (fun p => decide (laneOfPort p = l))

/-- Bring the port of the system link on a lane up to date: it is UP while its lane is in SYSLINK mode, awake and locked (R334, R407), and FAILED under any
loopback (R332); becoming UP or FAILED raises event 726 (R418). -/
def State.portSync (s : State) (l : Nat) : State :=
  match portOfLane l with
  | none => s
  | some p =>
    let on := decide (s.lf l R.LN_CFG.MODE = 2)
    let loop := decide (s.lf l R.LN_CFG.LOOP ≠ 0)
    let up := on && !loop && s.lb l R.LN_STAT.TX_ON && s.lb l R.LN_STAT.RX_ON && s.lb l R.LN_STAT.BLOCK_LOCK
    let v := s.port p
    let failed := on && (loop || (v.failed && !(up && !v.up)))
    if v.up = up ∧ v.failed = failed then s
    else
      let s := (s.setPort p { v with up := up, failed := failed }).raiseIf ((up && !v.up) || (failed && !v.failed)) 726
      if p = 0 ∧ up ∧ !v.up then { s with slink := { s.slink with upActive := 0 } } else s

/-- After a change of a lane: its attention bit, its port of the system link and its MAC's link. A MAC whose lane has no clock recovery has no PCS or FEC lock. -/
def State.laneSync (s : State) (l : Nat) : State :=
  let s := (s.attn l).portSync l
  match s.laneMac l with
  | some e =>
    let s := if s.lb l R.LN_STAT.CDR_LOCK then s else s.modMac e fun v => { v with pcs := false, fec := false }
    s.macUpdate e
  | none => s

/-! ## Modes, restarts, loopback and sleep (R327, R332 to R334) -/

/-- The receiver returns to acquisition. -/
def State.rxRestart (s : State) (l : Nat) : State :=
  let a := lnA l
  (((s.wr a R.LN_STAT.CDR_LOCK 0).wr a R.LN_STAT.BLOCK_LOCK 0).wr a R.LN_STAT.CHK_LOCK 0).modLane l fun v =>
    { v with hunt := 0, win := 0, bad := 0, pRx := 0, seeded := 0, clean := 0, errs := [] }

/-- The transmitter starts again; a frame in transmission is cut short (R327, R329). -/
def State.txRestart (s : State) (l : Nat) : State :=
  let s := s.modLane l fun v => { v with pTx := 0, txScr := none }
  match s.laneMac l with
  | some e => s.modMac e fun v => { v with tx := v.tx.map fun j => { j with cut := true } }
  | none => s

/-- Whether TX_SLEEP waits for the end of the frame in transmission (R334). -/
def State.txHeld (s : State) (l : Nat) : Bool :=
  decide (s.lf l R.LN_CFG.MODE = 1) && s.lb l R.LN_STAT.TX_ON &&
    match s.laneMac l with
    | some e => (s.mac e).tx.isSome
    | none => false

/-- Put each direction to sleep or wake it as MODE and the sleep bits say (R333, R334). -/
def State.laneSettle (s : State) (l : Nat) : State :=
  let a := lnA l
  let on := decide (s.lf l R.LN_CFG.MODE ≠ 0)
  let tx := on && (!s.lb l R.LN_CTRL.TX_SLEEP || s.txHeld l)
  let rx := on && !s.lb l R.LN_CTRL.RX_SLEEP
  let s := (s.wr a R.LN_STAT.TX_ON (if tx then 1 else 0)).wr a R.LN_STAT.RX_ON (if rx then 1 else 0)
  let s :=
    if rx then s
    else ((s.wr a R.LN_STAT.CDR_LOCK 0).wr a R.LN_STAT.BLOCK_LOCK 0).modLane l fun v => { v with hunt := 0, win := 0, bad := 0 }
  s.laneSync l

/-- A write of LN_CFG (R326, R327, R332, R335). -/
def State.lnCfgWrite (s : State) (l v : Nat) : State :=
  let a := lnA l
  let get := fun (t : State) =>
    (t.rd a R.LN_CFG.MODE, t.rd a R.LN_CFG.RATE, t.rd a R.LN_CFG.PRECODE, t.rd a R.LN_CFG.TX_INV, t.rd a R.LN_CFG.RX_INV)
  let t := if laneSupports l (bits v 31 28) then s.wr a R.LN_CFG.MODE (bits v 31 28) else s
  let mode := t.rd a R.LN_CFG.MODE
  let t := if laneRate l mode (bits v 27 24) then t.wr a R.LN_CFG.RATE (bits v 27 24) else t
  let t := if mode = 0 then t else t.wr a R.LN_CFG.LOOP (bits v 23 22)
  let t := if l < 96 then t.wr a R.LN_CFG.PRECODE (bits v 21 21) else t
  let t := if bits v 19 18 = 3 then t else t.wr a R.LN_CFG.PRBS (bits v 19 18)
  let t := ((t.wr a R.LN_CFG.TXQUIET (bits v 20 20)).wr a R.LN_CFG.TX_INV (bits v 17 17)).wr a R.LN_CFG.RX_INV (bits v 16 16)
  let t := t.wr a R.LN_CFG.TXEQ (bits v 11 8)
  let t :=
    if get t ≠ get s then (t.rxRestart l).txRestart l
    else if t.rd a R.LN_CFG.LOOP ≠ s.rd a R.LN_CFG.LOOP then t.rxRestart l
    else t
  t.laneSettle l

/-- LANE_CFG_WRITE (R327). -/
def execLaneCfgWrite (l : Nat) (value : BitVec 32) (s : State) : Host.Outcome State Fault Refusal :=
  .next <| if s.laneOk l then s.lnCfgWrite l value.toNat else s

/-- LANE_TX_SLEEP (R333, R334). -/
def execLaneTxSleep (l : Nat) (sleep : Bool) (s : State) : Host.Outcome State Fault Refusal :=
  .next <| if s.laneOk l then (s.wr (lnA l) R.LN_CTRL.TX_SLEEP (if sleep then 1 else 0)).laneSettle l else s

/-- LANE_RX_SLEEP (R333, R334): `inFrame` says that an enabled MAC in ETH mode has a frame in reception, which is discarded and counted. -/
def execLaneRxSleep (l : Nat) (sleep inFrame : Bool) (s : State) : Host.Outcome State Fault Refusal :=
  .next <|
    if s.laneOk l then
      let s := match s.laneMac l with
        | some e =>
          if sleep && inFrame && s.lb l R.LN_STAT.RX_ON && decide (s.lf l R.LN_CFG.MODE = 1) && s.bit (macA e) R.MAC_CFG.EN then
            s.bump (macA e) R.MAC_TXDROP.RX_DROP 1
          else s
        | none => s
      (s.wr (lnA l) R.LN_CTRL.RX_SLEEP (if sleep then 1 else 0)).laneSettle l
    else s

/-! ## The reference and clock recovery (R325, R330, R333) -/

/-- The lanes of a quadrant. -/
def quadLanes (q : Nat) : List Nat := (List.range 24).map (· + 24 * q) ++ (List.range 6).map (· + 96 + 6 * q)

/-- Show on REF_OK of every lane of a quadrant whether LREFCLK is there. -/
def State.showRef (s : State) (q : Nat) : State :=
  (quadLanes q).foldl (fun s l => s.wr (lnA l) R.LN_STAT.REF_OK (if s.noLref q then 0 else 1)) s

/-- LREFCLK_LOSS (R325). -/
def execLrefclkLoss (q : Nat) (s : State) : Host.Outcome State Fault Refusal :=
  .next <| if s.quadOk q then (s.setNoLref q true).showRef q else s
/-- LREFCLK_RETURN (R325). -/
def execLrefclkReturn (q : Nat) (s : State) : Host.Outcome State Fault Refusal :=
  .next <| if s.quadOk q then (s.setNoLref q false).showRef q else s

/-- CDR_LOCK_ACQUIRE (R330, R332, R333): a powered receiver locks on a valid signal and its hunt begins; under a near-end loopback the
transmitter must be awake. -/
def execCdrLockAcquire (l : Nat) (s : State) : Host.Outcome State Fault Refusal :=
  .next <|
    if s.laneOk l && s.lb l R.LN_STAT.REF_OK && s.lb l R.LN_STAT.RX_ON && !s.lb l R.LN_STAT.CDR_LOCK &&
        (s.lb l R.LN_STAT.TX_ON || decide (s.lf l R.LN_CFG.LOOP = 0 ∨ s.lf l R.LN_CFG.LOOP = 3)) then
      ((s.wr (lnA l) R.LN_STAT.CDR_LOCK 1).modLane l fun v => { v with hunt := 0, win := 0, bad := 0 }).laneSync l
    else s

/-- CDR_LOCK_LOSS (R330): the lane returns to HUNT and LOCK_LOST sets. -/
def execCdrLockLoss (l : Nat) (s : State) : Host.Outcome State Fault Refusal :=
  .next <|
    if s.laneOk l && s.lb l R.LN_STAT.CDR_LOCK then
      let a := lnA l
      let s := ((s.wr a R.LN_STAT.CDR_LOCK 0).wr a R.LN_STAT.BLOCK_LOCK 0).wr a R.LN_STAT.LOCK_LOST 1
      (s.modLane l fun v => { v with hunt := 0, win := 0, bad := 0 }).laneSync l
    else s

/-! ## Blocks (R330, R331) -/

/-- Scramble or descramble the low `n` bits of `v`, bit 0 first, with x⁵⁸ + x³⁹ + 1 over the last 58 line bits `st` (bit 0 the most recent);
`tx` says that the line bits are the results. -/
def scramble (tx : Bool) : Nat → Nat → Nat → Nat × Nat
  | 0, _, st => (0, st)
  | n + 1, v, st =>
    let b := (v % 2 + st / 2 ^ 38 % 2 + st / 2 ^ 57 % 2) % 2
    let r := scramble tx n (v / 2) ((2 * st + (if tx then b else v % 2)) % 2 ^ 58)
    (b + 2 * r.1, r.2)

/-- The island with the fabric port of NRZ lane `l` (R331). -/
def laneIsland (l : Nat) : Nat := lnQuad l * 96 + 2 * lnLocal l

/-- Deliver a block to the fabric port of a lane in RAW66 mode, or count it in RX_OVF. -/
def State.rawDeliver (s : State) (l hdr payload : Nat) : State :=
  let i := laneIsland l
  let a := s.chanId i 7 2
  let b := s.chanId i 7 3
  let s := (s.setChan a (s.chan a).sourceEdge).setChan b (s.chan b).sourceEdge
  if (s.chan a).full 8 || (s.chan b).full 8 || decide (s.chanMode i 7 2 ≠ 0) then s.bump (lnA l) R.LN_RAWCNT.RX_OVF 1
  else
    (s.setChan a ((s.chan a).push (hdr * 2 ^ 34 + payload % 2 ^ 32))).setChan b ((s.chan b).push (payload / 2 ^ 32 % 2 ^ 32))

/-- Whether what a lane receives gets through: a near-end loopback carries data only while the transmitter is awake too (R332). -/
def State.rxPath (s : State) (l : Nat) : Bool :=
  s.lb l R.LN_STAT.RX_ON && s.lb l R.LN_STAT.CDR_LOCK &&
    (s.lb l R.LN_STAT.TX_ON || decide (s.lf l R.LN_CFG.LOOP = 0 ∨ s.lf l R.LN_CFG.LOOP = 3))

/-- In FES the transmitter ball sends the retimed received data (R332). -/
def State.retime (s : State) (l : Nat) (o : Output) : State :=
  if s.lf l R.LN_CFG.LOOP = 3 ∧ s.lb l R.LN_STAT.TX_ON then s.emit o else s

/-- BLOCK_RECEIVE (R330 to R332): the header at the candidate boundary is tested; in LOCK the block goes to the lane's owner. -/
def execBlockReceive (l hdr payload : Nat) (s : State) : Host.Outcome State Fault Refusal :=
  .next <|
    if s.laneOk l && s.laneBlocks l && s.rxPath l then
      let a := lnA l
      let s := s.retime l (.block l (hdr % 4) (payload % 2 ^ 64))
      let inv := s.lb l R.LN_CFG.RX_INV
      let hdr := if inv then 3 - hdr % 4 else hdr % 4
      let payload := if inv then 2 ^ 64 - 1 - payload % 2 ^ 64 else payload % 2 ^ 64
      let ok := decide (hdr = 1 ∨ hdr = 2)
      let d := scramble false 64 payload (s.lane l).rxScr
      let s := s.modLane l fun v => { v with rxScr := d.2 }
      let v := s.lane l
      if s.lb l R.LN_STAT.BLOCK_LOCK then
        let s := if ok then s else s.bump a R.LN_BADSH.COUNT 1
        let bad := v.bad + (if ok then 0 else 1)
        if bad = 16 then
          (((s.wr a R.LN_STAT.BLOCK_LOCK 0).wr a R.LN_STAT.LOCK_LOST 1).setLane l { v with hunt := 0, win := 0, bad := 0 }).laneSync l
        else
          let s := s.setLane l (if v.win + 1 = 64 then { v with win := 0, bad := 0 } else { v with win := v.win + 1, bad := bad })
          (if s.lf l R.LN_CFG.MODE = 3 then s.rawDeliver l hdr d.1 else s).laneSync l
      else if ok then
        if v.hunt + 1 = 64 then
          ((s.wr a R.LN_STAT.BLOCK_LOCK 1).setLane l { v with hunt := 0, win := 0, bad := 0 }).laneSync l
        else s.setLane l { v with hunt := v.hunt + 1 }
      else ((s.bump a R.LN_STAT.SLIPS 1).setLane l { v with hunt := 0 }).laneSync l
    else s

/-- Whether the transmitter ball carries the lane's own data: not in FES, nor quiet under a near-end loopback (R332). -/
def State.ownData (s : State) (l : Nat) : Bool :=
  match s.lf l R.LN_CFG.LOOP with
  | 0 => true
  | 3 => false
  | _ => !s.lb l R.LN_CFG.TXQUIET

/-! ## PAM4 coding and the PRBS test (R328, R329, R335) -/

/-- The Gray value of a bit pair, the bit sent first being the more significant (R328). -/
def gray (hi lo : Nat) : Nat := if hi = 0 then lo else 3 - lo
/-- The bit pair of a Gray value. -/
def ungray (g : Nat) : List Nat :=
  match g with
  | 0 => [0, 0]
  | 1 => [0, 1]
  | 2 => [1, 1]
  | _ => [1, 0]
/-- The precoded value (R329). -/
def precode (g prev : Nat) : Nat := (g + 4 - prev % 4) % 4
/-- The Gray value recovered from two precoded values (R329). -/
def unprecode (p prev : Nat) : Nat := (p + prev) % 4

/-- The degree of the pattern's polynomial and its second tap (R335). -/
def prbsTaps (sel : Nat) : Nat × Nat :=
  match sel with
  | 0 => (7, 6)
  | 1 => (15, 14)
  | _ => (31, 28)
/-- The bit that follows the last bits `st` (bit 0 the most recent). -/
def prbsNext (sel st : Nat) : Nat := (st / 2 ^ ((prbsTaps sel).1 - 1) + st / 2 ^ ((prbsTaps sel).2 - 1)) % 2
/-- Take a bit into the last bits. -/
def prbsPush (sel st b : Nat) : Nat := (2 * st + b) % 2 ^ (prbsTaps sel).1

/-- `n` bits of the pattern, and the generator after them. -/
def prbsBits (sel : Nat) : Nat → Nat → List Nat × Nat
  | 0, st => ([], st)
  | n + 1, st =>
    let b := prbsNext sel st
    let r := prbsBits sel n (prbsPush sel st b)
    (b :: r.1, r.2)

/-- The symbols of a bit stream, and the last precoded value (R328, R329). -/
def pamEncode (pre : Bool) : List Nat → Nat → List Nat × Nat
  | hi :: lo :: t, prev =>
    let p := if pre then precode (gray hi lo) prev else gray hi lo
    let r := pamEncode pre t p
    (p :: r.1, r.2)
  | _, prev => ([], prev)

/-- The bit stream of received symbols, and the last precoded value. -/
def pamDecode (pre : Bool) : List Nat → Nat → List Nat × Nat
  | [], prev => ([], prev)
  | p :: t, prev =>
    let r := pamDecode pre t (p % 4)
    (ungray (if pre then unprecode (p % 4) prev else p % 4) ++ r.1, r.2)

/-- The next 66 bits of the pattern leave the transmitter; where the generator starts is an open value (log entry 1). -/
def State.sendPattern (s : State) (l : Nat) : State :=
  let sel := s.lf l R.LN_CFG.PRBS
  let seed := match (s.lane l).gen with
    | some g => g % 2 ^ (prbsTaps sel).1
    | none => (s.freeVal 31).toNat % 2 ^ (prbsTaps sel).1
  let s := if (s.lane l).gen.isSome then s else s.drawn
  let r := prbsBits sel 66 (if seed = 0 then 1 else seed)
  let s := s.modLane l fun v => { v with gen := some r.2 }
  let inv := s.lb l R.LN_CFG.TX_INV
  if l < 96 then
    let e := pamEncode (s.lb l R.LN_CFG.PRECODE) r.1 (s.lane l).pTx
    let s := s.modLane l fun v => { v with pTx := e.2 }
    if s.ownData l then s.emit (.symbols l (if inv then e.1.map (3 - ·) else e.1)) else s
  else if s.ownData l then s.emit (.symbols l (if inv then r.1.map (1 - ·) else r.1))
  else s

/-- BLOCK_TRANSMIT (R331, R335): at a block time a RAW66 lane sends a popped pair or the idle block; a lane under test sends its pattern. -/
def execBlockTransmit (l : Nat) (s : State) : Host.Outcome State Fault Refusal :=
  .next <|
    if s.laneOk l && s.lb l R.LN_STAT.TX_ON then
      if s.lf l R.LN_CFG.MODE = 4 then s.sendPattern l
      else if s.lf l R.LN_CFG.MODE = 3 then
        let i := laneIsland l
        let a := s.chanId i 7 0
        let b := s.chanId i 7 1
        let s := (s.setChan a (s.chan a).sinkEdge).setChan b (s.chan b).sinkEdge
        let pair := (s.chan a).valid && (s.chan b).valid && decide (s.chanMode i 7 0 ≠ 2)
        let w0 := (((s.chan a).words.head?).map (·.1)).getD 0
        let w1 := (((s.chan b).words.head?).map (·.1)).getD 0
        let s :=
          if pair then (s.setChan a (s.chan a).pop).setChan b (s.chan b).pop
          else (s.bump (lnA l) R.LN_RAWCNT.TX_UNDER 1).attn l
        let hdr := if pair then w0 / 2 ^ 34 % 4 else 2
        let data := if pair then w0 % 2 ^ 32 + w1 % 2 ^ 32 * 2 ^ 32 else 0x1E
        let st := match (s.lane l).txScr with
          | some x => x
          | none => (s.freeVal 58).toNat
        let s := if (s.lane l).txScr.isSome then s else s.drawn
        let r := scramble true 64 data st
        let s := s.modLane l fun v => { v with txScr := some r.2 }
        let inv := s.lb l R.LN_CFG.TX_INV
        if s.ownData l then s.emit (.block l (if inv then 3 - hdr else hdr) (if inv then 2 ^ 64 - 1 - r.1 else r.1)) else s
      else s
    else s

/-- The checker tests one bit (R335). -/
def State.checkPrbs (s : State) (l : Nat) (b : Nat) : State :=
  let sel := s.lf l R.LN_CFG.PRBS
  let v := s.lane l
  if v.seeded < (prbsTaps sel).1 then s.setLane l { v with ref := prbsPush sel v.ref b, seeded := v.seeded + 1 }
  else
    let p := prbsNext sel v.ref
    let v := { v with ref := prbsPush sel v.ref p }
    let wrong := decide (p ≠ b)
    if s.lb l R.LN_STAT.CHK_LOCK then
      let s := if wrong then s.bump (lnA l) R.LN_PRBSERR.COUNT 1 else s
      let errs := (wrong :: v.errs).take 256
      if 64 ≤ errs.count true then
        (s.wr (lnA l) R.LN_STAT.CHK_LOCK 0).setLane l { v with seeded := 0, clean := 0, errs := [] }
      else s.setLane l { v with errs := errs }
    else if wrong then s.setLane l { v with seeded := 0, clean := 0 }
    else if v.clean + 1 = 64 then (s.wr (lnA l) R.LN_STAT.CHK_LOCK 1).setLane l { v with clean := 0, errs := [] }
    else s.setLane l { v with clean := v.clean + 1 }

/-- PRBS_CHECKER (R335): received bits of an NRZ lane, or received symbols of a PAM4 lane, reach the checker. -/
def execPrbsChecker (l : Nat) (syms : List Nat) (s : State) : Host.Outcome State Fault Refusal :=
  .next <|
    if s.laneOk l && decide (s.lf l R.LN_CFG.MODE = 4) && s.rxPath l then
      let s := s.retime l (.symbols l syms)
      let inv := s.lb l R.LN_CFG.RX_INV
      if l < 96 then
        let r := pamDecode (s.lb l R.LN_CFG.PRECODE) (if inv then syms.map (fun p => 3 - p % 4) else syms) (s.lane l).pRx
        ((r.1.foldl (fun s b => s.checkPrbs l b) s).modLane l fun v => { v with pRx := r.2 }).attn l
      else ((syms.map (fun b => if inv then 1 - b % 2 else b % 2)).foldl (fun s b => s.checkPrbs l b) s).attn l
    else s

/-! ## MAC registers (R337 to R339, R349) -/

/-- A write of MAC_CFG (register 0), MAC_ADDR_LO (1) or MAC_ADDR_HI (2). -/
def State.macCfgWrite (s : State) (e reg v : Nat) : State :=
  let a := macA e
  let en := s.bit a R.MAC_CFG.EN
  match reg with
  | 0 =>
    let s := (s.wr a R.MAC_CFG.PROMISC (bits v 30 30)).wr a R.MAC_CFG.MCAST (bits v 29 29)
    let s := (s.wr a R.MAC_CFG.KEEPBAD (bits v 28 28)).wr a R.MAC_CFG.MAXLEN (bits v 13 0)
    let old := (s.rd a R.MAC_CFG.FEC, s.rd a R.MAC_CFG.PORT)
    let s := if en ∨ bits v 27 26 = 3 then s else s.wr a R.MAC_CFG.FEC (bits v 27 26)
    let s := if en ∨ 8 < bits v 23 20 then s else s.wr a R.MAC_CFG.PORT (bits v 23 20)
    let s := if old = (s.rd a R.MAC_CFG.FEC, s.rd a R.MAC_CFG.PORT) then s else s.modMac e fun m => { m with pcs := false, fec := false }
    let s := s.wr a R.MAC_CFG.EN (bits v 31 31)
    let s := if en ∨ bits v 31 31 = 0 then s else s.modMac e fun m => { m with seq := 0 }
    s.macUpdate e
  | 1 => if en then s else s.wr a R.MAC_ADDR_LO.ADDR v
  | 2 => if en then s else s.wr a R.MAC_ADDR_HI.ADDR (bits v 15 0)
  | _ => s

/-- MAC_CFG_WRITE (R339). -/
def execMacCfgWrite (e reg : Nat) (value : BitVec 32) (s : State) : Host.Outcome State Fault Refusal :=
  .next <| if s.macOk e then s.macCfgWrite e reg value.toNat else s

/-- MAC_LINK_CHANGE (R339): the PCS and FEC report; LINK follows, and an increase of MAC_FECUNC raises event 628 + q. -/
def execMacLinkChange (e : Nat) (report : MacReport) (s : State) : Host.Outcome State Fault Refusal :=
  .next <|
    if s.macOk e then
      let a := macA e
      let s := s.modMac e fun v => { v with pcs := report.pcs, fec := report.fec }
      let s := (s.wr a R.MAC_STAT.LOCAL_FAULT (if report.localFault then 1 else 0)).wr a R.MAC_STAT.REMOTE_FAULT
        (if report.remoteFault then 1 else 0)
      let s := s.wr a R.MAC_STAT.HI_BER (if report.hiBer then 1 else 0)
      let s := s.bump a R.MAC_FECCORR.COUNT report.corr
      let old := s.rd a R.MAC_FECUNC.COUNT
      let s := s.bump a R.MAC_FECUNC.COUNT report.unc
      (s.raiseIf (decide (s.rd a R.MAC_FECUNC.COUNT ≠ old)) (628 + e / 4)).macUpdate e
    else s

/-- Whether what a MAC sends reaches its balls (R332). -/
def State.macDrives (s : State) (e : Nat) : Bool := (s.macLanes e).all s.ownData
/-- Whether a MAC receives what it sends: its lanes loop near the end, with both directions awake (R332). -/
def State.macLoops (s : State) (e : Nat) : Bool :=
  !(s.macLanes e).isEmpty &&
    (s.macLanes e).all fun l => decide (s.lf l R.LN_CFG.LOOP = 1 ∨ s.lf l R.LN_CFG.LOOP = 2) && s.lb l R.LN_STAT.TX_ON && s.lb l R.LN_STAT.RX_ON

/-- A PAUSE frame with its quanta is honoured: transmission stops for the time it names, or resumes (R338). -/
def State.pauseTaken (s : State) (e quanta : Nat) : State := s.modMac e fun v => { v with paused := decide (quanta ≠ 0) }

/-- SEND (R338): an enabled MAC whose link is up transmits one PAUSE frame. -/
def State.pauseSend (s : State) (e : Nat) : State :=
  let quanta := s.rd (macA e) R.MAC_PAUSE.QUANTA
  if s.bit (macA e) R.MAC_CFG.EN && s.bit (macA e) R.MAC_STAT.LINK then
    let s := if s.macDrives e then s.emit (.pauseFrame e quanta) else s
    if s.macLoops e && s.bit (macA e) R.MAC_PAUSE.RX_PAUSE_EN then s.pauseTaken e quanta else s
  else s

/-- MAC_PAUSE_SEND (R338). -/
def execMacPauseSend (e : Nat) (s : State) : Host.Outcome State Fault Refusal :=
  .next <| if s.macOk e then s.pauseSend e else s

/-- PAUSE_TIMER_EXPIRY (R338). -/
def execPauseTimerExpiry (e : Nat) (s : State) : Host.Outcome State Fault Refusal :=
  .next <| if s.macOk e then s.modMac e fun v => { v with paused := false } else s

/-! ## Frame rings (R340, R348). Ring 2e is the TX ring and 2e + 1 the RX ring of MAC e; from 32 on those of the CAN FD controllers. -/

/-- The registers of a ring's unit. -/
def ringA (r : Nat) : Nat := if r < 32 then macA (r / 2) else canA ((r - 32) / 2)
/-- A field of a ring, given as the TX ring's. -/
def ringF (r : Nat) (f : Fld) : Fld := f.shift (r % 2 * 0x20)
/-- Whether the ring's unit is present. -/
def State.ringOk (s : State) (r : Nat) : Bool := if r < 32 then s.macOk (r / 2) else s.canOk ((r - 32) / 2)
/-- Read a field of a ring. -/
def State.rf (s : State) (r : Nat) (f : Fld) : Nat := s.rd (ringA r) (ringF r f)
/-- The event of a ring's RING_ERR and OVERRUN (R351). -/
def ringEvent (r : Nat) : Nat := if r < 32 then 628 + r / 8 else 632 + (r - 32) / 2
/-- Entries of a ring: LEN 0 acts as 1. -/
def State.ringCount (s : State) (r : Nat) : Nat := 2 ^ max 1 (s.rf r R.TX_CFG.LEN)
/-- Bytes of an entry (R341, R342, R345). -/
def State.ringEntry (s : State) (r : Nat) : Nat :=
  if 32 ≤ r then 128 else if r % 2 = 0 then 32 else 2 ^ (s.rd (ringA r) R.RX_CFG.SLOT + 11)
/-- The physical address of a ring. -/
def State.ringPa (s : State) (r : Nat) : Nat := s.rf r R.TX_BASE.BASE * 32 + s.rf r R.TX_CFG.BASE * 2 ^ 32
/-- The physical address of entry `i`. -/
def State.ringSlot (s : State) (r i : Nat) : Nat := s.ringPa r + i % s.ringCount r * s.ringEntry r

/-- Whether a ring lies wholly in external memory or in one bay's SRAM, aligned to its size (R340). -/
def State.ringFits (s : State) (r : Nat) : Bool :=
  let size := s.ringCount r * s.ringEntry r
  let base := s.ringPa r
  decide (base % size = 0) &&
    (decide (base + size ≤ 0x8000000000) ||
      (decide (0xC000000000 ≤ base ∧ base < 0xC080000000) && decide ((base - 0xC000000000) % 0x1000000 + size ≤ 0x40000)))

/-- RING_ERR sets and the ring is disabled (R340). -/
def State.ringFail (s : State) (r : Nat) : State :=
  (s.wr (ringA r) (ringF r R.TX_CFG.EN) 0).setFlag (ringA r) (ringF r R.TX_CFG.RING_ERR) (ringEvent r)

/-- A TX ring starts anew: no entry of it waits for its launch, and a frame on its way from before completes no entry. -/
def State.ringFresh (s : State) (r : Nat) : State :=
  if r % 2 = 1 then s
  else if r < 32 then s.modMac (r / 2) fun v => { v with waiting := false, tx := v.tx.map fun j => { j with ring := false } }
  else s.modCan ((r - 32) / 2) fun v => { v with waiting := false, own := v.own || v.tx.isSome }

/-- A write of RING_CFG. -/
def State.ringCfgWrite (s : State) (r v : Nat) : State :=
  let a := ringA r
  let s := if bits v 30 30 = 1 then s.wr a (ringF r R.TX_CFG.RING_ERR) 0 else s
  let s := if bits v 29 29 = 1 then s.wr a (ringF r R.TX_CFG.OVERRUN) 0 else s
  if s.rf r R.TX_CFG.EN = 1 then s.wr a (ringF r R.TX_CFG.EN) (bits v 31 31)
  else
    let s := (s.wr a (ringF r R.TX_CFG.LEN) (bits v 23 20)).wr a (ringF r R.TX_CFG.BASE) (bits v 15 0)
    let s := if r < 32 ∧ r % 2 = 1 then s.wr a R.RX_CFG.SLOT (bits v 25 24) else s
    if bits v 31 31 = 0 then s
    else if s.ringFits r then
      (((s.wr a (ringF r R.TX_WR.WR) 0).wr a (ringF r R.TX_RD.RD) 0).wr a (ringF r R.TX_CFG.EN) 1).ringFresh r
    else s.ringFail r

/-- A write of RING_BASE: taken only while EN = 0. -/
def State.ringBaseWrite (s : State) (r v : Nat) : State :=
  if s.rf r R.TX_CFG.EN = 1 then s else s.wr (ringA r) (ringF r R.TX_BASE.BASE) (bits v 31 5)

/-- RING_ENABLE (R340): a write of RING_CFG. -/
def execRingEnable (ring : Nat) (value : BitVec 32) (s : State) : Host.Outcome State Fault Refusal :=
  .next <| if decide (ring < 48) && s.ringOk ring then s.ringCfgWrite ring value.toNat else s

/-- A write of WR of a TX ring: it may not pass RD (R340). -/
def State.txWrWrite (s : State) (r v : Nat) : State :=
  let n := s.ringCount r
  let wr := s.rf r R.TX_WR.WR
  let occupied := (wr + n - s.rf r R.TX_RD.RD % n) % n
  let v := v % 2 ^ 15
  if n ≤ v ∨ n - 1 - occupied < (v + n - wr % n) % n then s.setFlag (ringA r) (ringF r R.TX_CFG.OVERRUN) (ringEvent r)
  else s.wr (ringA r) (ringF r R.TX_WR.WR) v

/-- TX_RING_WR_WRITE (R340). -/
def execTxRingWrWrite (ring : Nat) (value : BitVec 32) (s : State) : Host.Outcome State Fault Refusal :=
  .next <| if decide (ring < 48 ∧ ring % 2 = 0) && s.ringOk ring then s.txWrWrite ring value.toNat else s

/-! ## CAN FD registers (R343, R344, R346, R350) -/

/-- A write of CAN_CFG (register 0), CAN_NBT (1), CAN_DBT (2) or CAN_TDC (3). -/
def State.canCfgWrite (s : State) (n reg v : Nat) : State :=
  let a := canA n
  let en := s.bit a R.CAN_CFG.EN
  match reg with
  | 0 =>
    let s := (s.wr a R.CAN_CFG.EN (bits v 31 31)).wr a R.CAN_CFG.FD_EN (bits v 28 28)
    let s := s.wr a R.CAN_CFG.AUTO_REC (bits v 27 27)
    if bits v 30 29 = 3 then s else s.wr a R.CAN_CFG.MODE (bits v 30 29)
  | 1 =>
    if en then s
    else
      let s := (s.wr a R.CAN_NBT.NBRP (bits v 31 24)).wr a R.CAN_NBT.NTSEG1 (bits v 23 16)
      (s.wr a R.CAN_NBT.NTSEG2 (bits v 15 8)).wr a R.CAN_NBT.NSJW (bits v 7 0)
  | 2 =>
    if en then s
    else
      let s := (s.wr a R.CAN_DBT.DBRP (bits v 31 24)).wr a R.CAN_DBT.DTSEG1 (bits v 23 16)
      (s.wr a R.CAN_DBT.DTSEG2 (bits v 15 8)).wr a R.CAN_DBT.DSJW (bits v 7 0)
  | 3 => (s.wr a R.CAN_TDC.TDC_EN (bits v 31 31)).wr a R.CAN_TDC.TDCO (bits v 7 0)
  | _ => s

/-- CAN_CFG_WRITE (R343, R344). -/
def execCanCfgWrite (n reg : Nat) (value : BitVec 32) (s : State) : Host.Outcome State Fault Refusal :=
  .next <| if s.canOk n then s.canCfgWrite n reg value.toNat else s

/-- Set STATE of a controller; a change sets STATE_CHG (R350, R351). -/
def State.setCanState (s : State) (n st : Nat) : State :=
  if s.rd (canA n) R.CAN_STAT.STATE = st then s
  else (s.wr (canA n) R.CAN_STAT.STATE st).setFlag (canA n) R.CAN_STAT.STATE_CHG (632 + n)

/-- RESTART (R346, R350): ignored unless bus-off. -/
def State.canRestart (s : State) (n : Nat) : State :=
  if s.rd (canA n) R.CAN_STAT.STATE = 2 then s.modCan n fun v => { v with recovering := true } else s

/-- CAN_RESTART (R346). -/
def execCanRestart (n : Nat) (s : State) : Host.Outcome State Fault Refusal :=
  .next <| if s.canOk n then s.canRestart n else s

/-- CAN_BUS_OFF_RECOVERY (R346): the controller is error active again. -/
def execCanBusOffRecovery (n : Nat) (s : State) : Host.Outcome State Fault Refusal :=
  .next <|
    if s.canOk n && decide (s.rd (canA n) R.CAN_STAT.STATE = 2) && (s.bit (canA n) R.CAN_CFG.AUTO_REC || (s.can n).recovering) then
      let s := (s.wr (canA n) R.CAN_STAT.TEC 0).wr (canA n) R.CAN_STAT.REC 0
      (s.modCan n fun v => { v with recovering := false }).setCanState n 0
    else s

end Sys2Proof.Machine
end

