-- ==== Sys2Proof/Machine/Time.lean ====
section
/-! DEFINITION. Machine/Time.lean: the tide clock: domains and their servo, switching, the time-distribution streams, frames and the time snapshot
(R352 to R379, spec/10_time.md). -/
namespace Sys2Proof.Machine
open Sys2Proof

/-! ## The time in force and the domains' views (R353, R354, R358, R375, R376) -/

/-- Put an offset and a rate in force; TU_OFS_NOW and TU_RATE_NOW show them. -/
def State.force (s : State) (ofs rate : Int) : State :=
  let w := wrapTo 96 ofs
  let a := tuA 0
  let s := (s.wr a R.TU_OFS_NOW.OFS w).wr a (R.TU_OFS_NOW.OFS.shift 4) (w / 2 ^ 32)
  let s := (s.wr a (R.TU_OFS_NOW.OFS.shift 8) (w / 2 ^ 64)).wr a R.TU_RATE_NOW.RATE (wrapTo 32 rate)
  { s with ofsNow := sext 96 w, rateNow := sext 32 (wrapTo 32 rate) }

/-- OFS_d as it stands. -/
def State.dOfs (s : State) (d : Nat) : Int :=
  let a := domA 0 d
  sext 96 (s.rd a R.DOM_OFS.OFS + s.rd a (R.DOM_OFS.OFS.shift 4) * 2 ^ 32 + s.rd a (R.DOM_OFS.OFS.shift 8) * 2 ^ 64)
/-- Set OFS_d. -/
def State.setDOfs (s : State) (d : Nat) (v : Int) : State :=
  let w := wrapTo 96 v
  let a := domA 0 d
  ((s.wr a R.DOM_OFS.OFS w).wr a (R.DOM_OFS.OFS.shift 4) (w / 2 ^ 32)).wr a (R.DOM_OFS.OFS.shift 8) (w / 2 ^ 64)
/-- RATE_d. -/
def State.dRate (s : State) (d : Nat) : Int := sext 32 (s.rd (domA 0 d) R.DOM_RATE.RATE)
/-- The view T_d of the counter (R358). -/
def State.dNow (s : State) (d : Nat) : Int := timeOf s.counter (s.dOfs d) (s.dRate d)
/-- The active domain. -/
def State.act (s : State) : Nat := s.rd (tuA 0) R.TU_CTRL.ACT
/-- Whether a slewed switch is in progress. -/
def State.switching (s : State) : Bool := s.bit (tuA 0) R.TU_STAT.SWITCHING
/-- Change a domain's own state. -/
def State.modDom (s : State) (d : Nat) (f : DomSt → DomSt) : State := s.setDom d (f (s.dom d))
/-- The offset that keeps the time at counter `c` where the rate changes from `old` to `new` (R354, log entry 22). -/
def keepOfs (c : Nat) (ofs old new : Int) : Int := ofs + ((c : Int) * old) / 16777216 - ((c : Int) * new) / 16777216

/-! ## Frames (R368 to R370, R377) -/

/-- The frame period in 2⁻¹⁶ ns: a value below 1,000 acts as 1,000. -/
def State.framePeriod (s : State) : Int := ((max (s.rd (frA 0) R.FR_PERIOD.PERIOD) 1000 : Nat) : Int) * 65536

/-- Hold the next boundary of the schedule and show it in FR_NEXT. -/
def State.setNextB (s : State) (n : Option (Int × Nat)) : State :=
  let s := { s with nextB := n }
  match n with
  | some (t, _) => (s.wr (frA 0) R.FR_NEXT_NS.NEXT (nsOf t)).wr (frA 0) R.FR_NEXT_SECL.NEXT (secOf t)
  | none => s

/-- The device time has stepped: boundaries jumped over are counted and the next one is the first after the new time (R370). -/
def State.framesStep (s : State) : State :=
  match s.nextB with
  | none => s
  | some (t, n) =>
    if s.framesOn && decide (t ≤ s.now) then
      let k := ((s.now - t) / s.framePeriod).toNat + 1
      ((s.bump (frA 0) R.FR_SKIP.COUNT k).raiseN 649 k).setNextB
        (some (t + (k : Int) * s.framePeriod, (n + k) % 2 ^ 32))
    else s

/-- The device time takes a step (R359, R379): STEPPED of the time unit sets and the schedule follows. -/
def State.timeStep (s : State) (ofs rate : Int) : State :=
  ((s.force ofs rate).setFlag (tuA 0) R.TU_STAT.STEPPED 640).framesStep

/-- A write of FR_CTRL (R368): boundaries before the write are not generated. -/
def State.frCtrlWrite (s : State) (v : Nat) : State :=
  let was := s.bit (frA 0) R.FR_CTRL.EN
  let s := s.wr (frA 0) R.FR_CTRL.EN (bits v 31 31)
  if bits v 31 31 = 0 then { s with nextB := none }
  else if was then s
  else
    let a := frA 0
    let b0 : Int := ((s.rd a R.FR_START_SECL.SEC + s.rd a R.FR_START_SECH.SEC * 2 ^ 32 : Nat) : Int) * ticksPerSec
      + ((s.rd a R.FR_START_NS.NS : Nat) : Int) * 65536
    let n := if s.now ≤ b0 then 0 else ((s.now - b0 + s.framePeriod - 1) / s.framePeriod).toNat
    s.setNextB (some (b0 + (n : Int) * s.framePeriod, (s.rd a R.FR_FIRST.FIRST + n) % 2 ^ 32))

/-- FRAME_ENABLE (R368). -/
def execFrameEnable (value : BitVec 32) (s : State) : Host.Outcome State Fault Refusal :=
  .next <| if s.timeOk then s.frCtrlWrite value.toNat else s

/-- FR_PERIOD_WRITE (R369): the period of the first frame not yet noticed. -/
def execFrPeriodWrite (value : BitVec 32) (s : State) : Host.Outcome State Fault Refusal :=
  .next <| if s.timeOk then s.wr (frA 0) R.FR_PERIOD.PERIOD value.toNat else s

/-- FRAME_NOTICE (R367, R368): the tide clock generates the next boundary and sends its notice; event 648. A follower without its stream
generates boundaries from the schedule it holds. -/
def execFrameNotice (q : Nat) (s : State) : Host.Outcome State Fault Refusal :=
  .next <|
    match s.held q with
    | some h =>
      match h.nextB with
      | some (t, n) =>
        if s.timeOk && s.quadOk q then
          s.setHeld q (some { h with notice := some (t, n), nextB := some (t + h.period, (n + 1) % 2 ^ 32) })
        else s
      | none => s
    | none =>
      match s.nextB with
      | some (t, n) =>
        if s.framesOn && decide (q = 0) then
          let s := { s with notice := some (t, n) }
          ((s.wr (frA 0) R.FR_NO.NO n).setNextB (some (t + s.framePeriod, (n + 1) % 2 ^ 32))).raise 648
        else s
      | none => s

/-! ## Switching domains (R362) -/

/-- The slewed rate of a switch over a gap `delta`. -/
def State.slewRate (s : State) (delta : Int) : Int :=
  let k : Int := ((s.rd (tuA 0) R.TU_SWCFG.SW_SLEW : Nat) : Int) * 65536
  max (-2147483648) (min 2147483647 (s.dRate s.act + (if 0 < delta then k else -k)))

/-- A switch toward the active domain starts from the time in force. -/
def State.startSwitch (s : State) : State :=
  let a := tuA 0
  let old := s.now
  let delta := s.dNow s.act - old
  let r := s.slewRate delta
  let max : Int := ((s.rd a R.TU_SWCFG.SW_STEP_MAX : Nat) : Int) * 65536000
  if delta = 0 then ((s.wr a R.TU_STAT.SWITCHING 0).force (s.dOfs s.act) (s.dRate s.act)).raise 641
  else if max < delta ∨ max < -delta ∨ s.rd a R.TU_SWCFG.SW_SLEW = 0 ∨ r = s.dRate s.act then
    (s.wr a R.TU_STAT.SWITCHING 0).timeStep (s.dOfs s.act) (s.dRate s.act)
  else (s.wr a R.TU_STAT.SWITCHING 1).force (keepOfs s.counter s.ofsNow s.rateNow r) r

/-- A write of TU_CTRL (R362). -/
def State.actWrite (s : State) (v : Nat) : State :=
  let was := s.act
  let s := s.wr (tuA 0) R.TU_CTRL.ACT (v % 2)
  if was ≠ v % 2 ∨ s.switching then s.startSwitch else s

/-- DOMAIN_SWITCH (R362). -/
def execDomainSwitch (value : BitVec 32) (s : State) : Host.Outcome State Fault Refusal :=
  .next <| if s.timeOk then s.actWrite value.toNat else s

/-- SWITCH_COMPLETE (R362): the slewed time has reached the new domain's time, which takes over without a step. -/
def execSwitchComplete (s : State) : Host.Outcome State Fault Refusal :=
  .next <|
    let new := s.dNow s.act
    let faster := decide (s.dRate s.act < s.rateNow)
    if s.timeOk && s.switching && (if faster then decide (new ≤ s.now) else decide (s.now ≤ new)) then
      ((s.wr (tuA 0) R.TU_STAT.SWITCHING 0).force (s.dOfs s.act) (s.dRate s.act)).raise 641
    else s

/-- The OFS and RATE in force are those of the active domain, outside a switch (R354, R358). -/
def State.follow (s : State) : State := if s.switching then s else s.force (s.dOfs s.act) (s.dRate s.act)

/-- TIME_CHANGE_APPLY (R354): the changes that the domains allow are in force at this counter value in every quadrant. -/
def execTimeChangeApply (s : State) : Host.Outcome State Fault Refusal :=
  .next <| if s.timeOk then s.follow else s

/-! ## Changes of a domain's view (R359, R361) -/

/-- Set LOCKED of a domain; a change raises event 642 + d (R361). -/
def State.setLocked (s : State) (d : Nat) (v : Bool) : State :=
  if s.bit (domA 0 d) R.DOM_STAT.LOCKED = v then s
  else (s.wr (domA 0 d) R.DOM_STAT.LOCKED (if v then 1 else 0)).raise (642 + d)

/-- A step of a domain's offset to `ofs`. -/
def State.domStep (s : State) (d : Nat) (ofs : Int) : State :=
  if sext 96 (wrapTo 96 ofs) = s.dOfs d then s
  else
    let s := (s.setDOfs d ofs).wr (domA 0 d) R.DOM_STAT.STEPPED 1
    let s := (s.setLocked d false).modDom d fun v => { v with good := 0 }
    if d = s.act then
      if s.switching then s.startSwitch else s.timeStep (s.dOfs d) (s.dRate d)
    else s

/-- A change of a domain's rate: its view does not step (R354, R359). -/
def State.domRate (s : State) (d : Nat) (rate : Int) : State :=
  let old := s.dRate d
  if rate = old then s
  else
    let s := (s.setDOfs d (keepOfs s.counter (s.dOfs d) old rate)).wr (domA 0 d) R.DOM_RATE.RATE (wrapTo 32 rate)
    if d = s.act then (if s.switching then s.startSwitch else s.follow) else s

/-- A write of DOM_OFS0 to DOM_OFS2 (words 0 to 2). -/
def State.domOfsWrite (s : State) (d w v : Nat) : State :=
  match w with
  | 0 => s.modDom d fun x => { x with held0 := v }
  | 1 => s.modDom d fun x => { x with held1 := v }
  | _ => s.domStep d (sext 96 ((s.dom d).held0 + (s.dom d).held1 * 2 ^ 32 + v * 2 ^ 64))

/-- DOM_OFS_LOAD (R359). -/
def execDomOfsLoad (d : Nat) (value : BitVec 32) (s : State) : Host.Outcome State Fault Refusal :=
  .next <| if s.timeOk && decide (d < 2) then s.domOfsWrite d 2 value.toNat else s

/-- A write of DOM_ADJ_HI. -/
def State.domAdj (s : State) (d v : Nat) : State :=
  let s := s.wr (domA 0 d) R.DOM_ADJ_HI.ADJ v
  s.domStep d (s.dOfs d + sext 64 (s.rd (domA 0 d) R.DOM_ADJ_LO.ADJ + v * 2 ^ 32))

/-- DOM_ADJ (R359). -/
def execDomAdj (d : Nat) (value : BitVec 32) (s : State) : Host.Outcome State Fault Refusal :=
  .next <| if s.timeOk && decide (d < 2) then s.domAdj d value.toNat else s

/-- A write of DOM_RATE: ignored while the servo is on. -/
def State.domRateWrite (s : State) (d v : Nat) : State :=
  if s.bit (domA 0 d) R.DOM_CFG.SVO_EN then s else s.domRate d (sext 32 v)

/-- DOM_RATE_WRITE (R359). -/
def execDomRateWrite (d : Nat) (value : BitVec 32) (s : State) : Host.Outcome State Fault Refusal :=
  .next <| if s.timeOk && decide (d < 2) then s.domRateWrite d value.toNat else s

/-! ## The servo (R360, R361) -/

/-- A clamp of the servo that acts sets CLAMP (R360, R379). -/
def State.clamped (s : State) (d : Nat) (v : Int) : Int × State :=
  let m : Int := min 2147483647 (((s.rd (domA 0 d) R.DOM_SVO.RATE_MAX : Nat) : Int) * 65536)
  if m < v then (m, s.setFlag (domA 0 d) R.DOM_STAT.CLAMP 650)
  else if v < -m then (-m, s.setFlag (domA 0 d) R.DOM_STAT.CLAMP 650)
  else (v, s)

/-- The servo takes the offset sample `theta` (R360, R361). -/
def State.sample (s : State) (d : Nat) (theta : Int) : State :=
  if s.bit (domA 0 d) R.DOM_CFG.SVO_EN then
    let a := domA 0 d
    let last := (s.dom d).last
    let w := wrapTo 64 theta
    let s := (s.wr a R.DOM_LAST_LO.THETA w).wr a R.DOM_LAST_HI.THETA (w / 2 ^ 32)
    let s := ((s.bump a R.DOM_STAT.SAMPLES 1).wr a R.DOM_STAT.VALID 1).modDom d fun v => { v with last := some s.counter }
    let mag := theta.natAbs
    let good := if mag ≤ 6553600 then (s.dom d).good + 1 else 0
    let s := s.modDom d fun v => { v with good := good }
    let s := if 65536000 < mag then s.setLocked d false else if 8 ≤ good then s.setLocked d true else s
    let thr := s.rd a R.DOM_SVO.STEP_THR
    if thr ≠ 0 ∧ thr * 65536000 < mag then s.domStep d (s.dOfs d - theta)
    else
      match last with
      | none => s
      | some c =>
        let tau : Int := ((s.counter - c : Nat) : Int)
        let y : Int := if tau = 0 then sext 64 (s.freeVal 64).toNat else (theta * 16777216) / tau
        let s := if tau = 0 then s.drawn else s
        let i := sext 32 (s.rd a R.DOM_INT.I) - y / ((2 ^ s.rd a R.DOM_CFG.KI : Nat) : Int)
        let ri := s.clamped d i
        let s := ri.2.wr a R.DOM_INT.I (wrapTo 32 ri.1)
        let rr := s.clamped d (ri.1 - y / ((2 ^ s.rd a R.DOM_CFG.KP : Nat) : Int))
        rr.2.domRate d rr.1
  else s

/-- A write of DOM_SMP_HI: taken only with SRC = HOST. -/
def State.hostSample (s : State) (d v : Nat) : State :=
  let s := s.wr (domA 0 d) R.DOM_SMP_HI.THETA v
  if s.rd (domA 0 d) R.DOM_CFG.SRC = 2 then s.sample d (sext 64 (s.rd (domA 0 d) R.DOM_SMP_LO.THETA + v * 2 ^ 32)) else s

/-- HOST_SAMPLE (R360). -/
def execHostSample (d : Nat) (value : BitVec 32) (s : State) : Host.Outcome State Fault Refusal :=
  .next <| if s.timeOk && decide (d < 2) then s.hostSample d value.toNat else s

/-- A write of DOM_CFG: the first sample after SVO_EN rises only starts τ (R360, R376). -/
def State.domCfgWrite (s : State) (d v : Nat) : State :=
  let a := domA 0 d
  let was := s.bit a R.DOM_CFG.SVO_EN
  let s := if bits v 30 29 = 3 then s else s.wr a R.DOM_CFG.SRC (bits v 30 29)
  let s := (s.wr a R.DOM_CFG.SVO_EN (bits v 31 31)).wr a R.DOM_CFG.KP (bits v 27 24)
  let s := (s.wr a R.DOM_CFG.KI (bits v 23 20)).wr a R.DOM_CFG.DOMAIN (bits v 15 8)
  let s := (s.wr a R.DOM_CFG.PORT (bits v 7 4)).wr a R.DOM_CFG.DELAY (bits v 3 3)
  let s := (s.wr a R.DOM_CFG.XPORT (bits v 2 2)).wr a R.DOM_CFG.TWOSTEP (bits v 1 1)
  let s := s.wr a R.DOM_CFG.PTP_EN (bits v 0 0)
  if !was && decide (bits v 31 31 = 1) then s.modDom d fun x => { x with last := none } else s

/-- DOMAIN_SAMPLE_TIMEOUT (R361). -/
def execDomainSampleTimeout (d : Nat) (s : State) : Host.Outcome State Fault Refusal :=
  .next <|
    if s.timeOk && decide (d < 2) then
      ((s.wr (domA 0 d) R.DOM_STAT.VALID 0).setLocked d false).modDom d fun v => { v with good := 0 }
    else s

/-- PTP_MESSAGE_RECEIVE (R360, R364): the domain's ordinary clock takes a message of its domain on its MAC; `theta` is the offset sample where
the message completes an offset computation of IEEE 1588-2019. -/
def execPtpMessageReceive (d e : Nat) (theta : Option (BitVec 64)) (s : State) : Host.Outcome State Fault Refusal :=
  .next <|
    let a := domA 0 d
    if s.timeOk && decide (d < 2) && s.macOk e && s.bit a R.DOM_CFG.PTP_EN && decide (s.rd a R.DOM_CFG.PORT = e) then
      match theta with
      | some t => if s.rd a R.DOM_CFG.SRC = 0 then s.sample d t.toInt else s
      | none => s
    else s

/-! ## The time-distribution streams (R367) -/

/-- TD_STREAM_LOSS (R367): TD_LOCK clears, TD_LOST sets with event 644 + q, and the follower goes on with what it holds. -/
def execTdStreamLoss (q : Nat) (s : State) : Host.Outcome State Fault Refusal :=
  .next <|
    let lock := s.rd (tuA 0) R.TU_STAT.TD_LOCK
    let lost := s.rd (tuA 0) R.TU_STAT.TD_LOST
    if s.timeOk && s.quadOk q && decide (1 ≤ q ∧ q < 4) && lock.testBit q then
      let s := (s.wr (tuA 0) R.TU_STAT.TD_LOCK (clearBits lock (2 ^ q))).setHeld q
        (some ⟨s.ofsNow, s.rateNow, s.notice, s.nextB, s.framePeriod⟩)
      if lost.testBit q then s else (s.wr (tuA 0) R.TU_STAT.TD_LOST (lost + 2 ^ q)).raise (644 + q)
    else s

/-- TD_STREAM_RETURN (R367): the follower takes the leader's phase, offset, rate and schedule, and TD_LOCK sets. -/
def execTdStreamReturn (q : Nat) (s : State) : Host.Outcome State Fault Refusal :=
  .next <|
    if s.timeOk && s.quadOk q && decide (1 ≤ q ∧ q < 4) && s.treeReaches q then
      (s.setHeld q none).wr (tuA 0) R.TU_STAT.TD_LOCK (s.rd (tuA 0) R.TU_STAT.TD_LOCK ||| 2 ^ q)
    else s

/-! ## The time snapshot (R374) -/

/-- A write of SNAP in the identity block of a quadrant. -/
def State.timeSnap (s : State) (q : Nat) : State :=
  let t := s.nowQ q
  let a := idA q
  let s := (s.wr a R.LT_FRAC.FRAC (fracOf t)).wr a R.LT_NS.NS (nsOf t)
  let s := (s.wr a R.LT_SEC_LO.SEC (secOf t)).wr a R.LT_SEC_HI.SEC (secOf t / 2 ^ 32)
  (s.wr a R.LT_C_LO.C s.counter).wr a R.LT_C_HI.C (s.counter / 2 ^ 32)

/-- TIME_SNAPSHOT (R374). -/
def execTimeSnapshot (q : Nat) (s : State) : Host.Outcome State Fault Refusal :=
  .next <| if s.quadLive q then s.timeSnap q else s

end Sys2Proof.Machine
end

