-- ==== Sys2Proof/Machine/Power.lean ====
section
/-! DEFINITION. Machine/Power.lean: fabric rails and NoC clocks, sensors and the level cap, and the supply's warnings (R451 to R458, R473 to R480,
spec/13_power.md). -/
namespace Sys2Proof.Machine
open Sys2Proof

/-! ## Fabric rails and the NoC clock (R457, R458, R478) -/

/-- The generators of a quadrant: islands, deep stores and bays. -/
def quadGens (q : Nat) : List Nat :=
  (List.range 96).map (· + 96 * q) ++ (List.range 16).map (· + 384 + 16 * q) ++ (List.range 32).map (· + 448 + 32 * q)

/-- Whether a generator of the quadrant has rail `n` in RAIL_NOW or ramps to it. -/
def State.railUsed (s : State) (q n : Nat) : Bool :=
  (quadGens q).any fun g => decide (s.rd (genA g) R.ISL_CLKSTAT.RAIL_NOW = n) ||
    (s.bit (genA g) R.ISL_CLKSTAT.RAMPING && decide (s.rd (genA g) R.ISL_CLK.RAIL = n))

/-- A write of MHZ of fabric rail `n`. -/
def State.frCfgWrite (s : State) (q n v : Nat) : State :=
  if s.railUsed q n then s.wr (clkA q) R.CLK_STAT.CMD_IGN 1
  else (s.wr (clkA q) (R.FR_CFG0.MHZ.shift (4 * n)) (bits v 11 0)).wr (clkA q) (R.FR_CFG0.LOCKED.shift (4 * n)) 0

/-- FR_CFG_WRITE (R457). -/
def execFrCfgWrite (q n : Nat) (value : BitVec 32) (s : State) : Host.Outcome State Fault Refusal :=
  .next <| if s.quadLive q && decide (n < 4) then s.frCfgWrite q n value.toNat else s

/-- RAIL_LOCK (R457): the rail is locked, and the generators that wait on it go on. -/
def execRailLock (q n : Nat) (s : State) : Host.Outcome State Fault Refusal :=
  .next <|
    if s.quadLive q && decide (n < 4) then
      (quadGens q).foldl (fun s g => if s.bit (genA g) R.ISL_CLKSTAT.RAMPING then s.genUpdate g else s)
        (s.wr (clkA q) (R.FR_CFG0.LOCKED.shift (4 * n)) 1)
    else s

/-- RAIL_UNLOCK (R457, R485): a rail, or the NoC PLL as 4, loses lock; in use, its UNLOCK bit sets with event 701. -/
def execRailUnlock (q n : Nat) (s : State) : Host.Outcome State Fault Refusal :=
  .next <|
    if s.quadLive q && decide (n < 5) then
      let used := decide (n = 4) || s.railUsed q n
      let s := if n < 4 then s.wr (clkA q) (R.FR_CFG0.LOCKED.shift (4 * n)) 0 else s
      let v := s.rd (clkA q) R.CLK_STAT.UNLOCK
      if used && !v.testBit n then (s.wr (clkA q) R.CLK_STAT.UNLOCK (v + 2 ^ n)).raise 701 else s
    else s

/-- A write of NOC_CLK (R458). -/
def State.nocClkWrite (s : State) (q v : Nat) : State :=
  ((s.wr (clkA q) R.NOC_CLK.PLVL (bits v 26 24)).wr (clkA q) R.NOC_CLK.MHZ (bits v 11 0)).wr (clkA q) R.NOC_CLK.BUSY 1

/-- NOC_CLK_WRITE (R458). -/
def execNocClkWrite (q : Nat) (value : BitVec 32) (s : State) : Host.Outcome State Fault Refusal :=
  .next <| if s.quadLive q then s.nocClkWrite q value.toNat else s

/-- NOC_CLK_DONE (R458). -/
def execNocClkDone (q : Nat) (s : State) : Host.Outcome State Fault Refusal :=
  .next <| if s.quadLive q then s.wr (clkA q) R.NOC_CLK.BUSY 0 else s

/-! ## Sensors and the level cap (R473 to R475) -/

/-- The hottest of a list of signed readings and its place. -/
def hottest : List Int → Nat → Int × Nat → Int × Nat
  | [], _, best => best
  | t :: ts, i, best => hottest ts (i + 1) (if best.1 < t then (t, i) else best)

/-- SENSOR_UPDATE (R473, R474, R479): readings, the hottest sensor, and WARN with event 680 + q. -/
def execSensorUpdate (q : Nat) (sensors : Sensors) (s : State) : Host.Outcome State Fault Refusal :=
  .next <|
    if s.quadLive q then
      let a := pwrA q
      let temps := sensors.temps.take 16
      let s := (List.range temps.length).foldl (fun s i =>
        (s.wr a (R.TS.TEMP.shift (4 * i)) ((temps[i]?).getD 0).toNat).wr a (R.TS.VALID.shift (4 * i)) 1) s
      let s := s.wr a R.PWR_LOAD.LOAD sensors.load
      let s := if q = 0 then
          ((s.wr a R.PWR_VIN.VIN sensors.vin).wr a R.PWR_VIN.IIN sensors.iin).wr a R.PWR_PIN.IBUS sensors.ibus
        else s
      let s := if q = 0 then s.wr a R.PWR_PIN.PIN sensors.pin else s
      match temps with
      | [] => s
      | t :: ts =>
        let m := hottest (ts.map BitVec.toInt) 1 (t.toInt, 0)
        let s := (s.wr a R.THERM_STAT.TMAX (wrapTo 12 m.1)).wr a R.THERM_STAT.SMAX m.2
        if ((s.rd a R.THERM_CFG.WARN_T * 8 : Nat) : Int) < m.1 then s.setFlag a R.THERM_STAT.WARN (680 + q) else s
    else s

/-- The hottest reading of a quadrant. -/
def State.tmax (s : State) (q : Nat) : Int := sext 12 (s.rd (pwrA q) R.THERM_STAT.TMAX)
/-- THROT_T in 0.125 °C: a value above 105 °C acts as 105 °C. -/
def State.throt (s : State) (q : Nat) : Int := ((min (s.rd (pwrA q) R.THERM_CFG.THROT_T) 105 * 8 : Nat) : Int)
/-- The device's load power in 0.1 W. -/
def State.deviceLoad (s : State) : Nat := s.quads.foldl (fun n q => n + s.rd (pwrA q) R.PWR_LOAD.LOAD) 0
/-- The limit of load power in 0.1 W: LIMIT, and P_max at the measured VIN (R452, R453). -/
def State.loadLimit (s : State) : Nat :=
  min (min (s.rd (pwrA 0) R.PWR_LIMIT.LIMIT) 2500) (s.rd (pwrA 0) R.PWR_VIN.VIN * 336336 / 1000000)

/-- Set the cap of a quadrant, show what holds it, and bring its generators to it (R455, R475). -/
def State.setCap (s : State) (q cap : Nat) (therm limit : Bool) : State :=
  let a := pwrA q
  let s := ((s.wr a R.PWR_CAP.CAP cap).wr a R.PWR_CAP.THERM (if therm then 1 else 0)).wr a R.PWR_CAP.LIMIT (if limit then 1 else 0)
  ((quadGens q).foldl (fun s g => s.genUpdate g) s).raise (684 + q)

/-- Whether the telemetry of a quadrant is lost: its cap is then held as last set (R523). -/
def State.telemLost (s : State) (q : Nat) : Bool := decide (1 ≤ q) && (s.rd (pwrA 0) R.TELEM_STAT.LOST).testBit (q - 1)

/-- CAP_DROP (R475): one level down while temperature or load is over its limit. -/
def execCapDrop (q : Nat) (s : State) : Host.Outcome State Fault Refusal :=
  .next <|
    let hot := decide (s.throt q < s.tmax q)
    let loaded := decide (s.loadLimit < s.deviceLoad)
    let cap := s.rd (pwrA q) R.PWR_CAP.CAP
    if s.quadLive q && !s.telemLost q && (hot || loaded) && decide (cap < 7) then s.setCap q (cap + 1) hot loaded else s

/-- CAP_RISE (R475): one level up below the limits with margin. -/
def execCapRise (q : Nat) (s : State) : Host.Outcome State Fault Refusal :=
  .next <|
    let cap := s.rd (pwrA q) R.PWR_CAP.CAP
    if s.quadLive q && !s.telemLost q && decide (s.tmax q < s.throt q - 40) && decide (s.deviceLoad * 100 < s.loadLimit * 95) && decide (0 < cap) then
      s.setCap q (cap - 1) (s.bit (pwrA q) R.PWR_CAP.THERM && decide (1 < cap)) (s.bit (pwrA q) R.PWR_CAP.LIMIT && decide (1 < cap))
    else s

/-! ## The refusal log (R464, R482) -/

/-- CLR of the refusal log. -/
def State.pwrLogClear (s : State) (q : Nat) : State := (s.wr (pwrA q) R.PWR_LOGSTAT.NEXT 0).wr (pwrA q) R.PWR_LOGSTAT.FILLED 0

/-- PWR_LOG_CLEAR (R464). -/
def execPwrLogClear (q : Nat) (s : State) : Host.Outcome State Fault Refusal :=
  .next <| if s.quadLive q then s.pwrLogClear q else s

/-- Write an entry of the refusal log of quadrant `q` (R464, R482). -/
def State.refusalEntry (s : State) (q target w1 : Nat) : State :=
  let a := pwrA q
  let n := s.rd a R.PWR_LOGSTAT.NEXT
  let f := s.rd a R.PWR_LOGSTAT.FILLED
  let s := if n = 0 ∧ f = 16 then s.wr a R.PWR_LOGSTAT.LOG_WRAPPED 1 else s
  let t := s.nowQ q
  let s := (s.wr a (R.PWR_LOG.WORD.shift (16 * n)) target).wr a (R.PWR_LOG.WORD.shift (16 * n + 4)) w1
  let s := (s.wr a (R.PWR_LOG.WORD.shift (16 * n + 8)) (nsOf t)).wr a (R.PWR_LOG.WORD.shift (16 * n + 12)) (secOf t)
  (s.wr a R.PWR_LOGSTAT.NEXT ((n + 1) % 16)).wr a R.PWR_LOGSTAT.FILLED (min (f + 1) 16)

/-! ## Supply warnings (R451, R453, R485) -/

/-- VIN_WARNING (R451). -/
def execVinWarning (s : State) : Host.Outcome State Fault Refusal :=
  .next ((s.wr (pwrA 0) R.PWR_LIMIT.VIN_WARN 1).raise 672)
/-- VIN_WARNING_END (R451). -/
def execVinWarningEnd (s : State) : Host.Outcome State Fault Refusal :=
  .next ((s.wr (pwrA 0) R.PWR_LIMIT.VIN_WARN 0).raise 673)
/-- INPUT_CURRENT_LIMIT (R453): event 674 once per limiting episode. -/
def execInputCurrentLimit (s : State) : Host.Outcome State Fault Refusal :=
  .next <| if s.bit (pwrA 0) R.PWR_LIMIT.ILIM_ACTIVE then s else (s.wr (pwrA 0) R.PWR_LIMIT.ILIM_ACTIVE 1).raise 674
/-- INPUT_LIMIT_END (R453). -/
def execInputLimitEnd (s : State) : Host.Outcome State Fault Refusal :=
  .next (s.wr (pwrA 0) R.PWR_LIMIT.ILIM_ACTIVE 0)

end Sys2Proof.Machine
end

