-- ==== Sys2Proof/Machine/Mailbox.lean ====
section
/-! DEFINITION. Machine/Mailbox.lean: mailboxes (R444 to R446, R449) and the commands of the configuration port that its registers give (R433, R434,
R437, R439, R447, spec/12_configuration.md). -/
namespace Sys2Proof.Machine
open Sys2Proof

/-! ## Mailboxes -/

/-- A mailbox's own state. -/
def State.mb (s : State) (q k : Nat) : MbxSt := s.mbx (q * 40 + k)
/-- Whether quadrant `q` is in sleep state S2: its islands, bays and deep stores all are (R460). -/
def State.quadS2 (s : State) (q : Nat) : Bool :=
  (List.range 96).all (fun k => decide (s.unitSleep (96 * q + k) = 2)) && (List.range 32).all (fun k => decide (s.unitSleep (1000 + 32 * q + k) = 2)) &&
    (List.range 16).all (fun k => decide (s.unitSleep (2000 + 16 * q + k) = 2))
/-- Whether side B is down (R445). -/
def State.sideBDown (s : State) (q k : Nat) : Bool :=
  s.qReset q || decide (3 ≤ s.power.dev) ||
    (decide (k < 32) && decide (2 ≤ s.bayState (q * 32 + k))) || s.quadS2 q
/-- Raise the event of a side where it is enabled (R450). -/
def State.mbEvent (s : State) (q k : Nat) (sideB : Bool) : State :=
  if sideB then s.raiseIf (s.bit (mbxA q k) R.MB_CFG.EVT_B) (756 + q) else s.raiseIf (s.bit (mbxA q k) R.MB_CFG.EVT_A) (752 + q)
/-- Set a sticky bit of a side; its change raises the side's event. -/
def State.mbFlag (s : State) (q k : Nat) (sideB : Bool) (f : Fld) : State :=
  if s.bit (mbxA q k) f then s else (s.wr (mbxA q k) f 1).mbEvent q k sideB

/-- A write of a side's TX register (R445). -/
def State.mbTx (s : State) (q k : Nat) (sideB : Bool) (v : Nat) : State :=
  let m := s.mb q k
  if !sideB && s.sideBDown q k then s.mbFlag q k false R.MB_STAT.TIMEOUT_A
  else
    let l := if sideB then m.ba else m.ab
    let put := fun (s : State) (l : List (Nat × Bool)) =>
      s.setMbx (q * 40 + k) (if sideB then { m with ba := l } else { m with ab := l })
    if 4 ≤ l.length then (put s (l.take 3 ++ [(v, false)])).mbFlag q k sideB (if sideB then R.MB_STAT.COLLISION_B else R.MB_STAT.COLLISION_A)
    else (put s (l ++ [(v, false)])).mbEvent q k (!sideB)

/-- The oldest word for a side, 0 when there is none. -/
def State.mbPeek (s : State) (q k : Nat) (sideB : Bool) : Nat :=
  (((if sideB then (s.mb q k).ab else (s.mb q k).ba).head?).map (·.1)).getD 0
/-- A read of a side's RX register removes the oldest word. -/
def State.mbPop (s : State) (q k : Nat) (sideB : Bool) : State :=
  let m := s.mb q k
  s.setMbx (q * 40 + k) (if sideB then { m with ab := m.ab.drop 1 } else { m with ba := m.ba.drop 1 })

/-- FLUSH (R446, R449): at mailbox 32 of Q0 the agent's message begins anew as well, and what is left of its answers is dropped (log entry 44). -/
def State.mbFlush (s : State) (q k : Nat) : State :=
  let s := s.setMbx (q * 40 + k) MbxSt.init
  if q = 0 ∧ k = 32 then { s with agent := { s.agent with words := [], need := none, dead := false, out := [] } } else s

/-- MAILBOX_TIMEOUT (R445): the oldest word of a direction has waited TIMEOUT_US; TIMEOUT of its sender sets once for that word. -/
def execMailboxTimeout (q k : Nat) (fromB : Bool) (s : State) : Host.Outcome State Fault Refusal :=
  .next <|
    if s.quadLive q && decide (k < 40) && decide (s.rd (mbxA q k) R.MB_CFG.TIMEOUT_US ≠ 0) then
      let m := s.mb q k
      match (if fromB then m.ba else m.ab) with
      | (w, false) :: t =>
        let s := s.setMbx (q * 40 + k) (if fromB then { m with ba := (w, true) :: t } else { m with ab := (w, true) :: t })
        s.mbFlag q k fromB (if fromB then R.MB_STAT.TIMEOUT_B else R.MB_STAT.TIMEOUT_A)
      | _ => s
    else s

/-! ## The configuration port's commands -/

/-- CFG_STAT.STATE. -/
def State.cfgState (s : State) : Nat := s.rd (cfgA 0) R.CFG_STAT.STATE
/-- Set it. -/
def State.setCfgState (s : State) (v : Nat) : State := s.wr (cfgA 0) R.CFG_STAT.STATE v
/-- Change the configuration engine's own state. -/
def State.modLoad (s : State) (f : LoadSt → LoadSt) : State := { s with load := f s.load }
/-- Pull CFG_ERR_N low or release it (R437). -/
def State.errLine (s : State) (low : Bool) : State :=
  (s.modLoad fun v => { v with errLow := low }).wr (cfgA 0) R.CFG_STAT.ERR_IN (if low then 1 else 0)

/-- Whether a load, its release or a clearing is in progress (R434). -/
def State.loadBusy (s : State) : Bool :=
  decide (s.cfgState ≠ 0 ∧ s.cfgState ≠ 5 ∧ s.cfgState ≠ 8 ∧ s.cfgState ≠ 9)

/-- Empty the cells of a unit that a partial or quadrant load named, and hold it (R435). TGT names the unit as in R430. -/
def State.holdTarget (s : State) (t : Nat) : State :=
  let n := t % 8192
  let s := s.leaveSleep (if t / 8192 = 0 then n else 1000 * (t / 8192) + n)
  match t / 8192 with
  | 0 =>
    let s := s.clearEdges n
    ({ s with cells := Tab.drop (fun k => decide (k = n)) s.cells }.initFlops n).setIslState n 5
  | 1 => ((s.clearBay n).wr (bayA n) R.BAY_STATE.STATE 3).drivePins n
  | _ => s

/-- A load ends with an error of R435 at offset `pos`: what is to be cleared waits for CLEARING_DONE in a full load; a partial or quadrant load's
targets are cleared and held. -/
def State.loadError (s : State) (code pos : Nat) : State :=
  let partLoad := decide (s.load.prev = 5 ∨ (s.load.header ∧ s.load.kind ≠ 0))
  let a := cfgA 0
  let s := ((s.wr a R.CFG_STAT.ERR code).wr a R.CFG_ERRPOS.OFFSET pos).raise 705
  let s := s.modLoad fun v => { v with mode := 0 }
  if code = 7 then s.setCfgState s.load.prev
  else if partLoad then
    let s := if code = 2 ∨ code = 3 then s else s.load.targets.foldl (fun s t => s.holdTarget t) s
    s.setCfgState s.load.prev
  else if code = 2 ∨ code = 3 then (s.setCfgState 8).errLine true
  else s.setCfgState 7

/-- A START of a load (R421, R433, R434, R437). -/
def State.startLoad (s : State) (mode : Nat) : State :=
  let a := cfgA 0
  if s.cfgState = 9 then (s.wr a R.CFG_STAT.ERR 6).raise 705
  else if s.loadBusy then s.wr a R.CFG_STAT.CMD_IGN 1
  else
    let prev := s.cfgState
    let s := ((s.errLine false).wr a R.CFG_STAT.ERR 0).wr a R.CFG_PROG.BYTES 0
    let s := s.modLoad fun v =>
      { LoadSt.init with
        mode := mode, prev := prev, doneLow := v.doneLow, link := v.link, window := v.window, fresh := v.fresh, fill := v.fill }
    let s := s.setCfgState (if prev = 5 then 6 else 1)
    if mode = 1 then s.emit (.hostRead (s.rd a R.CFG_SRC_LO.ADDR * 16 + s.rd a R.CFG_SRC_HI.ADDR * 2 ^ 32)) else s

/-- Whether every byte of the image has been taken (R433). -/
def State.allTaken (s : State) : Bool := s.load.header && decide (280 + s.load.len ≤ s.rd (cfgA 0) R.CFG_PROG.BYTES)

/-- The stream ends (R433): a load that is not complete is TRUNCATED. -/
def State.endStream (s : State) : State :=
  if s.load.mode = 0 ∨ s.allTaken then s else s.loadError 5 (s.rd (cfgA 0) R.CFG_PROG.BYTES)

/-- RELEASE_NOW (R439): in WAIT_DONE the release is due; the stages follow (Machine/Image.lean). -/
def State.releaseNow (s : State) : State :=
  if s.cfgState = 3 then s.modLoad fun v => { v with stage := 1 } else s.wr (cfgA 0) R.CFG_STAT.CMD_IGN 1

/-- `n` more bytes of the image arrive; bytes beyond IMAGE_LEN are discarded (R433, R447). -/
def State.takeBytes (s : State) (n : Nat) : State :=
  let t := s.rd (cfgA 0) R.CFG_PROG.BYTES + n
  s.wr (cfgA 0) R.CFG_PROG.BYTES (if s.load.header then min t (280 + s.load.len) else t)

/-- A write of CFG_DATA appends 4 image bytes to a pushed load (R433). -/
def State.cfgData (s : State) : State := if s.load.mode = 2 then s.takeBytes 4 else s

/-- A write of CFG_CTRL: of several bits only the highest takes effect (R447). -/
def State.cfgCtrl (s : State) (v : Nat) : State :=
  if v.testBit 4 then s.releaseNow
  else if v.testBit 3 ∨ v.testBit 2 then s.endStream
  else if v.testBit 1 then s.startLoad 2
  else if v.testBit 0 then s.startLoad 1
  else s

/-- START_PULL (R433). -/
def execStartPull (s : State) : Host.Outcome State Fault Refusal := .next (s.startLoad 1)
/-- START_PUSH (R433). -/
def execStartPush (s : State) : Host.Outcome State Fault Refusal := .next (s.startLoad 2)
/-- CFG_DATA_WRITE (R433): the word's content is what the image's records carry (log entry 23). -/
def execCfgDataWrite (_value : BitVec 32) (s : State) : Host.Outcome State Fault Refusal := .next s.cfgData
/-- FINISH (R433). -/
def execFinish (s : State) : Host.Outcome State Fault Refusal := .next s.endStream
/-- ABORT (R433). -/
def execAbort (s : State) : Host.Outcome State Fault Refusal := .next s.endStream

/-- WINDOW_MISSED (R422): the readiness window closes before the image is complete; event 708. -/
def execWindowMissed (s : State) : Host.Outcome State Fault Refusal :=
  .next <|
    if s.load.window && decide (s.cfgState = 0 ∨ s.cfgState = 1 ∨ s.cfgState = 7 ∨ s.cfgState = 8 ∨ s.cfgState = 9) then
      (s.modLoad fun v => { v with window := false }).setFlag (cfgA 0) R.CFG_STAT.WINDOW_MISSED 708
    else s.modLoad fun v => { v with window := false }

end Sys2Proof.Machine
end

