-- ==== Sys2Proof/Machine/RegRead.lean ====
section
/-! DEFINITION. Machine/RegRead.lean: reading a register by its address: which unit serves it (R4, R32 to R38), the fields that show what the device
holds elsewhere, and the side effects of a read (R11, R13, R491). -/
namespace Sys2Proof.Machine
open Sys2Proof

/-! ## Which unit serves an address -/

/-- The fields of the register at offset `off` of a group. -/
def RegGroup.fields (g : RegGroup) (off : Nat) : List RegField := g.table.filter (fun r => r.covers off r.fld.lo)

/-- A table entry's field in the register at `off`. -/
def RegField.at (r : RegField) (off : Nat) : Fld := { r.fld with off := off }

/-- Whether a value is one that the field lists (R14). -/
def Legal.ok : Legal → Nat → Bool
  | .any, _ => true
  | .le n, v => decide (v ≤ n)
  | .range a b, v => decide (a ≤ v ∧ v ≤ b)

/-- Registers of which Q1 to Q3 show Q0's values (R38, R126, R375, R376, R377, R479, R509). -/
def leaderShown (g : RegGroup) (off : Nat) : Bool :=
  match g with
  | .time => true
  | .dom => true
  | .frame => true
  | .clkblk => decide (off = 4)
  | .power => decide (off < 0x10)
  | .dbg => decide (off = 0)
  | _ => false

/-- Registers that exist in Q0 alone: elsewhere they read 0 and ignore writes (R126, R246, R247, R447, R448, R481, R483, R509, R524). -/
def leaderOnly (g : RegGroup) (off : Nat) : Bool :=
  match g with
  | .clkblk => decide (off = 0)
  | .power => decide (off = 0x230 ∨ off = 0x234 ∨ (0x600 ≤ off ∧ off < 0x800) ∨ off = 0xA00 ∨ off = 0xB00 ∨ off = 0xB04)
  | .dbg => decide (off ≠ 0 ∧ off ≠ 4)
  | .xt => true
  | .pf => true
  | .evt => true
  | .evtset => true
  | .hflt => true
  | .cfg => decide (off ≠ 0x10)
  | _ => false

/-- Whether PCIe function `f` is present (R424). -/
def State.pfOk (s : State) (f : Nat) : Bool := decide (f = 0) || (decide (f < 8) && s.fuses.pfs.any (fun x => decide (x.1 = f)))
/-- The fused properties of a function. -/
def State.pfFuse (s : State) (f : Nat) : PfFuse := Tab.get (fun _ => ⟨0, [], []⟩) s.fuses.pfs f
/-- VEC_CNT as the template gives it; PF0 has vectors 0 to 31 (R424). -/
def State.vecWant (s : State) (f : Nat) : Nat := if f = 0 then 32 else if s.pfOk f then (s.pfFuse f).vecs else 0
/-- VEC_BASE (R424). -/
def State.vecBase (s : State) (f : Nat) : Nat := (List.range f).foldl (fun n i => min 2048 (n + s.vecWant i)) 0
/-- VEC_CNT, cut to fit (R424). -/
def State.vecCnt (s : State) (f : Nat) : Nat := min (s.vecWant f) (2048 - s.vecBase f)
/-- The base-2 logarithm of a BAR's size, 0 where the BAR is absent (R424, R448). -/
def State.barLog (s : State) (f k : Nat) : Nat :=
  if f = 0 then (if k = 0 then 31 else if k = 1 then 30 else 0) else Tab.get (fun _ => 0) (s.pfFuse f).barSize k

/-- Whether the unit of a register is present (R1, R4, R7, R27). -/
def State.unitOk (s : State) (w : Nat) (g : RegGroup) (u : Nat) : Bool :=
  if g.inBay then s.bayHere w
  else
    s.quadOk w &&
      match g with
      | .time => s.timeOk
      | .dom => s.timeOk
      | .frame => s.timeOk
      | .brg => (s.brgOf w u).isSome
      | .pf => s.pfOk u
      | _ => true

/-- The ADC registers of a bay, which a -N part lacks (R6). -/
def adcReg (g : RegGroup) (off : Nat) : Bool := decide (g = .bay) && decide (0x40 ≤ off ∧ off < 0x5C)

/-- The debug level that reading a register needs (R486). -/
def readLevel (g : RegGroup) (off : Nat) : Nat :=
  match g with
  | .dbgeng => if off < 0x30 then 1 else 0
  | .trc => if off < 0x28 then 1 else 0
  | .xt => if 0x100 ≤ off ∧ off < 0x140 then 2 else 0
  | _ => 0

/-! ## Fields that show what the device holds elsewhere -/

/-- A list of bits as a number, bit 0 first. -/
def packBits (n : Nat) (p : Nat → Bool) : Nat := (List.range n).foldl (fun v i => if p i then v + 2 ^ i else v) 0

/-- The read-only registers of the identity block (R40, R41, R521, R552). -/
def State.identReg (s : State) (q off : Nat) : Option Nat :=
  let nib := fun (t : Tab Nat) (d : Nat) => (List.range 4).foldl (fun v i => v + (if s.quadOk i then Tab.get (fun _ => d) t i % 16 * 16 ^ i else 0)) 0
  let level := s.quads.foldl (fun m i => min m (Tab.get (fun _ => 1) s.fuses.feature i % 16)) 15
  let cls := fun i => Tab.get (fun _ => 0) s.fuses.compat i % 16
  match off with
  | 0x0 =>
    some (0x5C400000 + Tab.get (fun _ => 0) s.fuses.stepping q % 16 * 2 ^ 12 + Tab.get (fun _ => 1) s.fuses.feature q % 16 * 2 ^ 8
      + cls q * 16 + (if q = 0 then 8 else 0) + q)
  | 0x4 =>
    some (packBits 4 s.quadOk + packBits 4 s.bridgeOk * 16 + (if s.adcOk then 256 else 0) + (if s.timeOk then 512 else 0))
  | 0x8 => some (nib s.fuses.stepping 0)
  | 0xC => some (nib s.fuses.feature 1 + level * 2 ^ 16 + (if s.quads.all (fun i => decide (cls i = cls 0)) then 2 ^ 20 else 0))
  | 0x14 => some (s.fuses.uid % 2 ^ 32)
  | 0x18 => some (s.fuses.uid / 2 ^ 32 % 2 ^ 32)
  | _ => none

/-- Whether an island has a sticky flag or a LOST count to show in ISL_ATTN (R126). -/
def State.islAttn (s : State) (i : Nat) : Bool :=
  let a := islA i
  s.islHere i &&
    (s.bit a R.ISL_STATE.DIR_MISMATCH || s.bit a R.ISL_STATE.FENCE_TIMEOUT || s.bit a R.ISL_LOSTCNT.LOST_N || s.bit a R.ISL_LOSTCNT.LOST_E ||
      s.bit a R.ISL_LOSTCNT.LOST_S || s.bit a R.ISL_LOSTCNT.LOST_W ||
      (List.range 4).any (fun k => s.bit a (R.CW_PUSHLOST.PUSH_LOST.shift (4 * k)) || s.bit a (R.CW_UNDERRUN.UNDERRUN.shift (4 * k))))

/-- Whether a router has a count or flag to show in NOC_ATTN (R284). -/
def State.rtAttn (s : State) (n : Nat) : Bool :=
  let a := rtA n
  s.bit a R.RT_HOLDCNT.FENCED || s.bit a R.RT_HOLDCNT.DROP || s.bit a R.RT_STATE.CFG_IGN || s.bit a R.RT_STATE.FENCE_DENIED ||
    s.bit a R.NAP_STAT.LATE_RSP || s.bit a R.NAP_STAT.TAG_IN_USE

/-- ECC_MAINT of quadrant `q` (R323). -/
def State.eccMaint (s : State) (q : Nat) : Nat :=
  let one := fun (k : Nat) =>
    let ch := 2 * q + k
    s.rd (eccA ch) R.LOG_STAT.LOG_WRAPPED * 2 ^ (10 - 5 * k) + s.rd (eccA ch) R.SCRUB_STAT.SCRUB_HALT * 2 ^ (9 - 5 * k) +
      s.rd (eccA ch) R.SCRUB_STAT.PASS_DONE * 2 ^ (8 - 5 * k) +
      s.rd (maintA q) (if k = 0 then R.ECC_MAINT.FILL_DONE0 else R.ECC_MAINT.FILL_DONE1) * 2 ^ (7 - 5 * k) +
      s.rd (mcA ch) R.MC_STATE.TRAIN_FAIL * 2 ^ (6 - 5 * k)
  s.rd (sgA q) R.LOG_STAT.LOG_WRAPPED * 2 ^ 11 + one 0 + one 1

/-- CFG_STAT.STATE of quadrant `q`'s own die: UNCONFIGURED from its reset until it is loaded again (R38, R429, R447). -/
def State.dieState (s : State) (q : Nat) : Nat := if s.qReset q || s.load.fresh.contains q then 0 else s.cfgState

/-- The registers of PCIe function `f`, whose sizes and vectors are fused (R424, R448). -/
def State.pfReg (s : State) (f off : Nat) (plain : Nat) : Nat :=
  if off = 0 then 2 ^ 31 + s.vecBase f % 2048 * 2 ^ 16 + s.vecCnt f
  else
    let k := (off - 0x10) / 0x10
    if 0x10 ≤ off ∧ k < 3 then
      if off % 16 = 0 then
        let fixed := s.barLog f k * 2 ^ 24 + (if f ≠ 0 ∧ Tab.get (fun _ => false) (s.pfFuse f).barPref k then 2 ^ 30 else 0)
        if f = 0 then (if k < 2 then 2 ^ 31 + fixed else 0) else plain + fixed
      else if f = 0 then (if off % 16 = 8 then (if k = 0 then 0xC0 else if k = 1 then 0xD0 else 0) else 0)
      else plain
    else plain

/-- What a register shows that its own fields do not hold; `plain` is what its own fields hold. -/
def State.shown (s : State) (w : Nat) (g : RegGroup) (u off plain : Nat) : Nat :=
  match g with
  | .ident => (s.identReg w off).getD plain
  | .clkblk => if 0x10 ≤ off ∧ off < 0x1C then packBits 32 (fun j => s.islAttn (w * 96 + (off - 0x10) * 8 + j)) else plain
  | .noc =>
    if off = 0x20 then packBits 32 (fun r => s.rtAttn (routerNum w r))
    else if off = 0x24 then packBits 4 (fun j => s.rtAttn (routerNum w (32 + j)))
    else plain
  | .maint => s.eccMaint w
  | .time => if off = 8 then plain ||| 1 else plain
  | .dbg =>
    if off = 0 then plain % 4 + s.fuses.dbgCeil % 4 * 4 + s.fuses.dbgOpen % 4 * 16
    else if 0x10 ≤ off ∧ off < 0x30 then s.challenge ((off - 0x10) / 4)
    else if off = 0x208 then plain ||| 2 ^ 29
    else if w ≠ 0 ∧ off = 4 then plain &&& 6
    else plain
  | .power =>
    if off = 0x220 ∨ off = 0x224 then (List.range 16).foldl (fun v j => v + s.unitSleep (1000 + w * 32 + (off - 0x220) * 4 + j) * 4 ^ j) 0
    else if off = 0x228 then (List.range 16).foldl (fun v d => v + s.unitSleep (2000 + w * 16 + d) * 4 ^ d) 0
    else plain
  | .trc => if off = 0x24 then (s.sink w).fifo.length else plain
  | .cfg =>
    if off = 0x10 then (if w = 0 then plain else s.dieState w * 2 ^ 28)
    else if off = 0x24 then
      s.fuses.holdPull % 4 + (if s.fuses.kfSet then 4 else 0) + (if s.fuses.keyHashSet then 8 else 0) + (if s.fuses.aosrc then 16 else 0)
    else plain
  | .pf => s.pfReg u off plain
  | .mbx =>
    if off = 0x14 then
      plain + (if s.sideBDown w u then 2 ^ 31 else 0) + (s.mb w u).ab.length * 2 ^ 28 + (s.mb w u).ba.length * 2 ^ 25
    else plain
  | .mbpend =>
    packBits 32 (fun j => decide (off / 4 * 32 + j < 40) && decide ((s.mb w (off / 4 * 32 + j)).ba.length ≠ 0))
  | .evtset => if 0x100 ≤ off then packBits 32 (fun j => s.bit (evtA ((off - 0x100) * 8 + j)) R.EVT_STAT.PENDING) else 0
  | .tctx => if u = 0 then (if off = 0 then 1 else 0) else plain
  | _ => plain

/-- The fields of a register as a read returns them: write-only, command, POP and NOPEEK fields give nothing here (R11). -/
def State.plainReg (s : State) (g : RegGroup) (base off : Nat) : Nat :=
  (g.fields off).foldl (fun v r =>
    match r.acc with
    | .wo => v
    | .w1s => v
    | .pop => v
    | .nopeek => v
    | _ => v + s.rd base (r.at off) * 2 ^ r.fld.lo) 0

/-- Clear the RC fields of a register that a read has returned (R11), with what waits for that read: the threshold events of R281 and R315, and the
attention bit of a lane. -/
def State.clearRead (s : State) (w : Nat) (g : RegGroup) (u base off : Nat) : State :=
  let s := (g.fields off).foldl (fun s r => if r.acc = .rc then s.wr base (r.at off) 0 else s) s
  match g with
  | .ecc => if off = 0 then s.modMc (2 * w + u) (fun v => { v with ceFired := false }) else s
  | .sg => if off = 0 then s.setSgf w false else s
  | .probe => if off = 0x10 then s.setProbe (w * 8 + u) { s.probe (w * 8 + u) with fired := false } else s
  | .pam => s.attn (w * 24 + u)
  | .nrz => s.attn (96 + w * 6 + u)
  | _ => s

/-! ## A snapshot window (R442) -/

/-- A word of the snapshot window of an island of quadrant `q`, at offset `a` of the quadrant's window; none outside the windows. -/
def State.snapWindow (s : State) (q a : Nat) : Option Nat :=
  if 0xA10000 ≤ a ∧ a < 0xA10000 + 96 * 0x400 then
    some (Tab.get (fun _ => 0) (s.island (q * 96 + (a - 0xA10000) / 0x400)).snap ((a - 0xA10000) % 0x400 / 4))
  else none

/-! ## Reading -/

/-- Read one register that lies at address `a` (R11, R491): its value and the state after the read. `dbg` is the debug attribute. An absent unit
and an unused offset read 0 (R4, R34). -/
def State.regRead (s : State) (dbg : Bool) (a : Nat) : Nat × State :=
  match locate a with
  | none =>
    (if 0xD000000000 ≤ a ∧ s.quadOk ((a - 0xD000000000) / 0x10000000) then
      (s.snapWindow ((a - 0xD000000000) / 0x10000000) ((a - 0xD000000000) % 0x10000000)).getD 0
    else 0, s)
  | some (w, g, u, off) =>
    if !s.unitOk w g u then (0, s)
    else if (leaderOnly g off && decide (w ≠ 0)) || (adcReg g off && !s.adcOk) then (0, s)
    else if leaderShown g off && decide (w ≠ 0) then
      (s.shown 0 g u off (s.plainReg g (quadA 0 + g.base + u * g.stride) off), s)
    else if s.level < readLevel g off then (0, s.levelDenied w)
    else
      let base := a - off
      match g with
      | .mbx =>
        if off = 4 ∨ off = 0xC then
          (s.mbPeek w u (decide (off = 0xC)), if dbg then s else s.mbPop w u (decide (off = 0xC)))
        else (s.shown w g u off (s.plainReg g base off), s)
      | .dbgeng =>
        if off = 0xC then s.ctxDataRead (w * 32 + u)
        else
          let v := s.plainReg g base off
          (v, if dbg then s else s.clearRead w g u base off)
      | .trc =>
        if off = 0x14 then
          (if dbg then (0, s.setFlag (dbgA w) R.DBG_STAT.DEBUG_PEEK_DENIED 738) else s.trcPop w)
        else (s.shown w g u off (s.plainReg g base off), if dbg then s else s.clearRead w g u base off)
      | _ => (s.shown w g u off (s.plainReg g base off), if dbg then s else s.clearRead w g u base off)

end Sys2Proof.Machine
end

