-- ==== Sys2Proof/Machine/RegWrite.lean ====
section
/-! DEFINITION. Machine/RegWrite.lean: writing a register by its address (R11, R14): the access codes of its fields, and for the registers that a
chapter gives an effect of their own, that effect. -/
namespace Sys2Proof.Machine
open Sys2Proof

/-! ## Fields by their access codes -/

/-- Write one field by its access code; a value that the field does not list leaves it as it is (R11, R14). -/
def State.putField (s : State) (base off v : Nat) (r : RegField) : State :=
  let f := r.at off
  let x := bits v f.hi f.lo
  match r.acc with
  | .rw => if r.legal.ok x then s.wr base f x else s
  | .rwl => if s.bit (cfgA 0) R.CFG_STAT.LOCK || !r.legal.ok x then s else s.wr base f x
  | .w1c => s.wr base f (clearBits (s.rd base f) x)
  | _ => s

/-- Write every field of a register by its access code. -/
def State.putReg (s : State) (g : RegGroup) (base off v : Nat) : State := (g.fields off).foldl (fun s r => s.putField base off v r) s

/-- The RW fields of a register keep their values; its other fields are written. -/
def State.putFlags (s : State) (g : RegGroup) (base off v : Nat) : State :=
  (g.fields off).foldl (fun s r => if r.acc = .rw then s else s.putField base off v r) s

/-! ## Operations that only a register write starts -/

/-- A write of a TCTX register reaches every present copy; context 0 is fixed (R236). -/
def State.tctxWrite (s : State) (t off v : Nat) : State :=
  if t = 0 then s else (s.quads.filter (fun q => !s.qReset q)).foldl (fun s q => s.putReg .tctx (tctxA q t) off v) s

/-- TCTX_WRITE (R236). -/
def execTctxWrite (addr : Nat) (value : BitVec 32) (s : State) : Host.Outcome State Fault Refusal :=
  .next <|
    match locate addr with
    | some (w, .tctx, t, off) => if s.quadLive w then s.tctxWrite t off value.toNat else s
    | _ => s

/-- A write of XU_INV_CTL of quadrant `q` (R241): an invalidation joins those in progress; a write while BUSY = 1 waits for its turn. -/
def State.invalidate (s : State) (q v : Nat) : State :=
  let scope := bits v 31 30
  if scope = 3 then s
  else
    let va := s.rd (xuA q) R.XU_INV_VA_LO.VA * 4096 + s.rd (xuA q) R.XU_INV_VA_HI.VA * 2 ^ 32
    { s.wr (xuA q) R.XU_INV_STAT.BUSY 1 with invWait := s.invWait ++ [(q * 4 + scope, bits v 11 0, va)] }

/-- XU_INVALIDATE (R241). -/
def execXuInvalidate (q : Nat) (value : BitVec 32) (s : State) : Host.Outcome State Fault Refusal :=
  .next <| if s.quadLive q then s.invalidate q value.toNat else s

/-- A write of EVT_SWSET: one occurrence of event 32k + j for each bit j written as 1 (R247). -/
def State.swSet (s : State) (k v : Nat) : State := (List.range 32).foldl (fun s j => s.raiseIf (v.testBit j) (32 * k + j)) s

/-- EVT_SWSET (R247). -/
def execEvtSwset (k : Nat) (value : BitVec 32) (s : State) : Host.Outcome State Fault Refusal :=
  .next <| if k < 32 then s.swSet k value.toNat else s

/-- Whether a fence of router `n` is denied (R278). -/
def State.fenceDenied (s : State) (n : Nat) : Bool :=
  (s.quads.filter (· ≠ 0)).any fun q =>
    (s.route (controlRouter 0) (controlRouter q)).contains n || (s.route (controlRouter q) (controlRouter 0)).contains n

/-- FENCE of router `n` (R274, R278, R279). -/
def State.rtFence (s : State) (n : Nat) : State :=
  if s.fenceDenied n then s.setFlag (rtA n) R.RT_STATE.FENCE_DENIED (524 + (routerLocal n).1)
  else if s.rtState n = 0 then s.wr (rtA n) R.RT_STATE.STATE 1
  else s

/-- UNFENCE of router `n` (R274, R277, R279). -/
def State.rtUnfence (s : State) (n : Nat) : State := s.wr (rtA n) R.RT_STATE.STATE 0

/-- A write of RT_CFG of router `n` (R277, R283). -/
def State.rtCfgWrite (s : State) (n v : Nat) : State :=
  if s.rtState n = 2 ∧ bits v 11 9 + bits v 8 6 + bits v 5 3 + bits v 2 0 + 4 ≤ 16 then s.putReg .router (rtA n) 8 v
  else s.setFlag (rtA n) R.RT_STATE.CFG_IGN (524 + (routerLocal n).1)

/-- ROUTER_FENCE (R274). -/
def execRouterFence (r : Nat) (s : State) : Host.Outcome State Fault Refusal := .next <| if s.rtOk r then s.rtFence r else s
/-- ROUTER_UNFENCE (R274). -/
def execRouterUnfence (r : Nat) (s : State) : Host.Outcome State Fault Refusal := .next <| if s.rtOk r then s.rtUnfence r else s
/-- RT_CFG_WRITE (R277). -/
def execRtCfgWrite (r : Nat) (value : BitVec 32) (s : State) : Host.Outcome State Fault Refusal :=
  .next <| if s.rtOk r then s.rtCfgWrite r value.toNat else s
/-- ROUTER_FENCED (R274, R286): the buffers of a draining router are empty. -/
def execRouterFenced (r : Nat) (s : State) : Host.Outcome State Fault Refusal :=
  .next <| if s.rtOk r && decide (s.rtState r = 1) then (s.wr (rtA r) R.RT_STATE.STATE 2).raise (512 + (routerLocal r).1) else s

/-- CLR of a probe (R281). -/
def State.probeClear (s : State) (q p : Nat) : State :=
  let a := prbA q p
  let s := (((s.wr a R.PRB_PKT.PKT 0).wr a R.PRB_FLIT.FLIT 0).wr a R.PRB_WAIT.WAIT 0).wr a R.PRB_AGEMAX.AGEMAX 0
  s

/-- PROBE_CLEAR (R281). -/
def execProbeClear (q p : Nat) (s : State) : Host.Outcome State Fault Refusal :=
  .next <| if s.quadLive q && decide (p < 8) then s.probeClear q p else s

/-- A write of PRB_CTRL or of a trace ring register of a probe (R281, R285). -/
def State.probeWrite (s : State) (q p off v : Nat) : State :=
  let a := prbA q p
  let en := s.bit a R.PRB_CTRL.EN
  let trace := s.bit a R.PRB_CTRL.TRACE
  if off = 0 then
    let router := s.rd a R.PRB_CTRL.ROUTER
    let s := s.putReg .probe a 0 v
    let s := if en then s.wr a R.PRB_CTRL.ROUTER router else s
    if v.testBit 0 then s.probeClear q p else s
  else if trace ∧ (off = 0x20 ∨ off = 0x24) then s
  else s.putReg .probe a off v

/-- Push the words that wait for the inbound bundle of router `n`'s NAP while its 18 channels have room (R268). A bundle in slack water takes none
(R107); where the image configures no bundle, the word goes to the fabric as it is. -/
def State.napFlush (s : State) (n : Nat) : State :=
  let i := napIsland n
  (List.range (s.nap n).inbound.length).foldl (fun s _ =>
    match (s.nap n).inbound with
    | [] => s
    | w :: t =>
      let done := s.setNap n { s.nap n with inbound := t }
      let word := fun (c : Nat) =>
        if c = 0 then w.1 else if c = 1 then w.2.1
        else w.2.2.1 / 2 ^ (32 * (c - 2)) % 2 ^ 32 + 2 ^ 32 * (w.2.2.2 / 2 ^ (4 * (c - 2)) % 16)
      if (s.chanCfg i 6 0).isNone then done.emit (.bundle n w.1 w.2.1 w.2.2.1 w.2.2.2)
      else if s.chanMode i 6 0 = 2 then done
      else if (List.range 18).any (fun c => (s.chan (s.chanId i 6 c)).full 8) then s
      else (List.range 18).foldl (fun s c => s.setChan (s.chanId i 6 c) ((s.chan (s.chanId i 6 c)).push (word c))) done) s

/-- Push a word of the inbound bundle of a NAP. -/
def State.napPush (s : State) (n ch0 ch1 data be : Nat) : State :=
  (s.setNap n { s.nap n with inbound := (s.nap n).inbound ++ [(ch0, ch1, data, be)] }).napFlush n

/-- Answer a master request of a NAP with a status of R259 (R269, R270): read data lies where it lies in its line. -/
def State.napAnswer (s : State) (n tag status data be : Nat) (write : Bool) : State :=
  let read := !write && decide (status = 0)
  s.napPush n ((if write then 2 ^ 34 else 0) + tag % 64 * 2 ^ 25 + status * 2 ^ 22) 0 (if read then data else 0) (if read then be else 0)

/-- ABORT of the held requests of a NAP (R243): each is answered XLATE. -/
def State.napAbort (s : State) (n : Nat) : State :=
  let v := s.nap n
  let s := v.held.foldl (fun s r => s.napAnswer n r.tag 7 0 0 r.write) s
  (s.setNap n { s.nap n with held := [] }).wr (napA n) R.NAP_FSTAT.HOLDING 0

/-! ## Registers with an effect of their own -/

/-- Whether the image-wide interface copies of a memory map field take a write: BASE, SIZE and CHOFF only while EN = 0 (R292). -/
def State.mapRegWrite (s : State) (q off v : Nat) : State :=
  if off = 0 then s.mapWrite R.MEM_TOP.TOP (bits v 11 0)
  else if 0x100 ≤ off then
    let i := (off - 0x100) / 0x10
    if off % 16 = 0 then s.ilCfgWrite q i v
    else if s.il q i R.IL_CFG.EN = 1 then s
    else if off % 16 = 4 then s.mapWrite (R.IL_BASE.BASE.shift (16 * i)) (bits v 11 0)
    else if off % 16 = 8 then s.mapWrite (R.IL_SIZE.SIZE.shift (16 * i)) (bits v 11 0)
    else s.mapWrite (R.IL_CHOFF.CHOFF.shift (16 * i)) (bits v 11 0)
  else s.putReg .memmap (mapA q) off v

/-- A write of a bay's own register (R166). Every change may change a reflex condition or a drive. -/
def State.bayRegWrite (s : State) (b off v : Nat) : State :=
  let a := bayA b
  let s :=
    match off with
    | 0x0 =>
      if v.testBit 2 then outState s (execBayReset b s)
      else if v.testBit 1 then outState s (execBayOnline b s)
      else if v.testBit 0 then outState s (execBayOffline b s)
      else s
    | 0x8 => outState s (execIslClkWrite (448 + b) (BitVec.ofNat 32 v) s)
    | 0x24 => outState s (execPinNextWrite b (BitVec.ofNat 32 v) s)
    | 0x2C => let s := s.putReg .bay a off v; outState s (execStuckRearm b (bits v 25 16) s)
    | 0x40 => s.adcCfgWrite b (v.testBit 31) (bits v 15 0)
    | 0x60 => s.wdogCfgWrite b (bits v 31 30) (v.testBit 29) (bits v 23 0)
    | 0x64 => outState s (execWdogKick b (BitVec.ofNat 32 v) s)
    | _ => s.putReg .bay a off v
  (s.reflex b false).drivePins b

/-- A write of a pin's register (R168). -/
def State.pinRegWrite (s : State) (b k off v : Nat) : State :=
  let x := BitVec.ofNat 32 v
  let s :=
    match off with
    | 0x0 => outState s (execPinModeWrite b k x s)
    | 0x4 => outState s (execPinThrWrite b k x s)
    | 0xC => outState s (execPinStkWrite b k x s)
    | _ => s.putReg .pin (pinA b k) off v
  (s.reflex b false).drivePins b

/-- A write of a mover's register (R235): of both commands ABORT takes effect. -/
def State.mvRegWrite (s : State) (b n off v : Nat) : State :=
  match off with
  | 0x0 => s.mvCfgWrite b n v
  | 0x8 => if v.testBit 1 then s.mvAbort b n else if v.testBit 0 then s.mvResume b n else s
  | _ => s.putReg .mover (mvA b n) off v

/-- A write of a context's register (R220): of several commands the highest takes effect. -/
def State.ctxRegWrite (s : State) (b c off v : Nat) : State :=
  match off with
  | 0x0 => s.ctxCfgWrite b c v
  | 0x8 =>
    if v.testBit 2 then s.ctxAbort b c
    else if v.testBit 1 then s.ctxResume b c
    else if v.testBit 0 then s.ctxStart b c
    else s
  | 0xC => s.ctxPcWrite b c v
  | _ => s.putReg .ctx (ctxA b c) off v

/-- A write of a queue's register (R222, R223, R227). -/
def State.queueRegWrite (s : State) (b n off v : Nat) : State :=
  match off with
  | 0x0 => s.qCfgWrite b n v
  | 0x4 => if s.qOn b n then s else s.putReg .queue (queueA b n) off v
  | 0x8 => if s.qOn b n then s else s.putReg .queue (queueA b n) off v
  | 0xC => s.qTailWrite b n v
  | 0x10 => s.qHeadWrite b n v
  | _ => s.putReg .queue (queueA b n) off v

/-- A write in a bay window's register space. -/
def State.bayWrite (s : State) (b : Nat) (g : RegGroup) (u off v : Nat) : State :=
  match g with
  | .bay => s.bayRegWrite b off v
  | .rfx => ((s.putReg .rfx (rfxA b u) off v).reflex b false).drivePins b
  | .pin => s.pinRegWrite b u off v
  | .mover => s.mvRegWrite b u off v
  | .ctx => s.ctxRegWrite b u off v
  | .queue => s.queueRegWrite b u off v
  | g => s.putReg g (winA b + g.base + u * g.stride) off v

/-- A write of an island's register (R118 to R124): of several command bits the highest acts. -/
def State.islRegWrite (s : State) (i off v : Nat) : State :=
  match off with
  | 0x0 => outState s (execIslClkWrite i (BitVec.ofNat 32 v) s)
  | 0x8 =>
    let s := s.putReg .island (islA i) off v
    if v.testBit 3 then outState s (execBistStart i s)
    else if v.testBit 2 then outState s (execIslandReset i s)
    else if v.testBit 1 then outState s (execIslandUnfence i s)
    else if v.testBit 0 then outState s (execIslandFence i s)
    else s
  | _ => s.putReg .island (islA i) off v

/-- A write of the clock block's own registers (R126, R478). -/
def State.clkRegWrite (s : State) (q off v : Nat) : State :=
  if off = 0 then
    match bits v 3 0 with
    | 4 => s.capture
    | 5 => s.stopGroups (bits v 7 4)
    | 6 => s.goGroups (bits v 7 4)
    | _ => s
  else if 0x1000 ≤ off ∧ off < 0x1010 then s.frCfgWrite q ((off - 0x1000) / 4) v
  else if off = 0x1010 then s.nocClkWrite q v
  else s.putReg .clkblk (clkA q) off v

/-- A write of a memory controller's register (R320). -/
def State.mcRegWrite (s : State) (ch off v : Nat) : State :=
  match off with
  | 0x0 => outState s (execMcCfgWrite ch (BitVec.ofNat 32 v) s)
  | 0x4 =>
    if v.testBit 3 then outState s (execMcOnline ch s)
    else if v.testBit 2 then outState s (execMcOffline ch s)
    else if v.testBit 1 then outState s (execMcFill ch s)
    else if v.testBit 0 then outState s (execMcInit ch s)
    else s
  | _ => s.putReg .mc (mcA ch) off v

/-- A write of an ECC register of a channel (R322): with both GO bits 1, GO_RD takes effect. -/
def State.eccRegWrite (s : State) (ch off v : Nat) : State :=
  let a := eccA ch
  match off with
  | 0xC =>
    let s := s.putReg .ecc a off v
    if v.testBit 30 then outState s (execLogClear (ch / 2) (ch % 2) s) else s
  | 0x10 =>
    let s := s.scrubCtlWrite ch (v.testBit 31) (bits v 7 0)
    if v.testBit 30 then outState s (execScrubRestart ch s) else s
  | 0x20 =>
    let s := s.putReg .ecc a off v
    if v.testBit 2 then outState s (execEccTestRead ch s)
    else if v.testBit 1 then outState s (execEccTestWrite ch s)
    else s
  | _ => s.putReg .ecc a off v

/-- A write of a store group register (R322). -/
def State.sgRegWrite (s : State) (q off v : Nat) : State :=
  let a := sgA q
  let s := s.putReg .sg a off v
  match off with
  | 0xC => if v.testBit 30 then outState s (execLogClear q 2 s) else s
  | 0x20 =>
    if v.testBit 2 then outState s (execSgTestRead q s)
    else if v.testBit 1 then outState s (execSgTestWrite q s)
    else s
  | _ => s

/-- A write of a lane's register (R347). -/
def State.laneRegWrite (s : State) (l off v : Nat) : State :=
  match off with
  | 0x0 => s.lnCfgWrite l v
  | 0x4 =>
    let s := outState s (execLaneTxSleep l (v.testBit 1) s)
    outState s (execLaneRxSleep l (v.testBit 0) false s)
  | _ => (s.putReg (if l < 96 then .pam else .nrz) (lnA l) off v).attn l

/-- A write of a ring register (R341, R348): `r` is the ring, `off` the offset from its BASE register. -/
def State.ringRegWrite (s : State) (g : RegGroup) (r off v : Nat) : State :=
  match off with
  | 0x0 => s.ringBaseWrite r v
  | 0x4 => s.ringCfgWrite r v
  | 0x8 => if r % 2 = 0 then s.txWrWrite r v else s
  | _ => s.putReg g (ringA r) (0x40 + r % 2 * 0x20 + off) v

/-- A write of a MAC's register (R349). -/
def State.macRegWrite (s : State) (e off v : Nat) : State :=
  if off < 0xC then s.macCfgWrite e (off / 4) v
  else if 0x40 ≤ off ∧ off < 0x80 then s.ringRegWrite .mac (2 * e + (off - 0x40) / 0x20) ((off - 0x40) % 0x20) v
  else
    let s := s.putReg .mac (macA e) off v
    if off = 0xC ∧ v.testBit 0 then s.pauseSend e else s

/-- A write of a CAN FD controller's register (R350). -/
def State.canRegWrite (s : State) (n off v : Nat) : State :=
  if off ≤ 0xC then s.canCfgWrite n (off / 4) v
  else if off = 0x14 then (if v.testBit 0 then s.canRestart n else s)
  else if 0x40 ≤ off ∧ off < 0x80 then s.ringRegWrite .can (32 + 2 * n + (off - 0x40) / 0x20) ((off - 0x40) % 0x20) v
  else s.putReg .can (canA n) off v

/-- A write of the time unit's registers on Q0 (R375 to R377). -/
def State.timeRegWrite (s : State) (g : RegGroup) (d off v : Nat) : State :=
  match g with
  | .time => if off = 0 then s.actWrite v else s.putReg .time (tuA 0) off v
  | .dom =>
    match off with
    | 0x0 => s.domCfgWrite d v
    | 0x4 => s.domOfsWrite d 0 v
    | 0x8 => s.domOfsWrite d 1 v
    | 0xC => s.domOfsWrite d 2 v
    | 0x10 => s.domRateWrite d v
    | 0x14 => s.wr (domA 0 d) R.DOM_ADJ_LO.ADJ v
    | 0x18 => s.domAdj d v
    | 0x1C => s.wr (domA 0 d) R.DOM_SMP_LO.THETA v
    | 0x20 => s.hostSample d v
    | _ => s.putReg .dom (domA 0 d) off v
  | _ =>
    if off = 0 then s.frCtrlWrite v
    else if (off = 4 ∨ off = 8 ∨ off = 0xC ∨ off = 0x14) ∧ s.bit (frA 0) R.FR_CTRL.EN then s
    else s.putReg .frame (frA 0) off v

/-- A write of an engine's debug registers at the level each field needs (R486, R508). -/
def State.dbgEngRegWrite (s : State) (b off v : Nat) : State :=
  let a := dbgEngA b
  let q := b / 32
  match off with
  | 0x0 => s.engCtrlWrite b v
  | 0x8 => (s.wrLevel q 2 a R.DBG_CTXSEL.CTX (bits v 12 8)).wrLevel q 2 a R.DBG_CTXSEL.REG (bits v 7 0)
  | 0xC => s.ctxDataWrite b v
  | _ =>
    if 0x10 ≤ off ∧ off < 0x30 then s.wrLevel q 1 a (R.STIM_EN.EN.shift (off - 0x10)) v
    else s.putReg .dbgeng a off v

/-- A write of the debug block's own registers (R509). GO follows the fields of its own write. -/
def State.dbgRegWrite (s : State) (q off v : Nat) : State :=
  let a := dbgA q
  if off = 4 ∧ q ≠ 0 then
    (s.wr a R.DBG_STAT.LEVEL_DENIED (clearBits (s.rd a R.DBG_STAT.LEVEL_DENIED) (bits v 2 2))).wr a R.DBG_STAT.DEBUG_PEEK_DENIED
      (clearBits (s.rd a R.DBG_STAT.DEBUG_PEEK_DENIED) (bits v 1 1))
  else if off = 0x30 then s.unlockWrite v
  else if 0x100 ≤ off ∧ off < 0x200 then (g0 s a off v)
  else if off = 0x208 ∨ off = 0x288 then
    let s := s.putReg .dbg a off v
    if v.testBit 31 then s.dbmGo ((off - 0x208) / 0x80) else s
  else s.putReg .dbg a off v
where
  /-- The key and signature words are held as written (R488). -/
  g0 (s : State) (a off v : Nat) : State := ((RegGroup.fields .dbg off).foldl (fun s r => s.wr a (r.at off) v) s)

/-- A write of a trace sink's register, level 1 (R486, R507, R510). -/
def State.trcRegWrite (s : State) (q off v : Nat) : State :=
  match off with
  | 0x0 => s.trcCfgWrite q v
  | 0x4 => s.trcBaseWrite q v
  | 0xC => s.wrLevel q 1 (trcA q) R.TRC_RD.RD (bits v 21 0)
  | _ => s

/-- RET fields of a retention register: R470 lists no 0b11, which leaves a field as it is (R14). -/
def mergeRet (old new : Nat) : Nat :=
  (List.range 16).foldl (fun v j => v + (if new / 4 ^ j % 4 = 3 then old / 4 ^ j % 4 else new / 4 ^ j % 4) * 4 ^ j) 0

/-- A write of the power block's registers (R465, R470, R479 to R483, R524). A write of WAKE_TIMER other than 0 starts the timer. -/
def State.pwrRegWrite (s : State) (q off v : Nat) : State :=
  let v := if 0x200 ≤ off ∧ off < 0x220 then mergeRet (s.rd (pwrA q) ⟨off, 31, 0⟩) v else v
  let s := s.putReg .power (pwrA q) off v
  if off = 0x500 ∧ v.testBit 30 then s.pwrLogClear q
  else if q = 0 ∧ off = 0xA00 then { s with power := { s.power with timer := decide (v ≠ 0) } }
  else s

/-- A write of the configuration block's registers on Q0 (R447). -/
def State.cfgRegWrite (s : State) (off v : Nat) : State :=
  match off with
  | 0x0 => s.cfgCtrl v
  | 0xC => s.cfgData
  | _ => s.putReg .cfg (cfgA 0) off v

/-- A write of a mailbox register (R445, R449). -/
def State.mbRegWrite (s : State) (q k off v : Nat) : State :=
  match off with
  | 0x0 => s.mbTx q k false v
  | 0x8 => s.mbTx q k true v
  | 0x10 =>
    let s := s.putReg .mbx (mbxA q k) off v
    if v.testBit 29 then s.mbFlush q k else s
  | _ => s.putReg .mbx (mbxA q k) off v

/-- A write of a NAP's fault registers other than RESUME (R243, R244). -/
def State.napRegWrite (s : State) (n off v : Nat) : State :=
  if off = 0x10 then (if v.testBit 1 ∧ s.bit (napA n) R.NAP_FSTAT.HOLDING then s.napAbort n else s)
  else s.putReg .nap (napA n) off v

/-- A write of a router's register (R283): with both bits 1, UNFENCE takes effect. -/
def State.rtRegWrite (s : State) (n off v : Nat) : State :=
  match off with
  | 0x0 => if v.testBit 1 then s.rtUnfence n else if v.testBit 0 then s.rtFence n else s
  | 0x8 => s.rtCfgWrite n v
  | _ => s.putReg .router (rtA n) off v

/-- A write of a register in a quadrant control window (R34). -/
def State.quadWrite (s : State) (q : Nat) (g : RegGroup) (u off v : Nat) : State :=
  match g with
  | .ident => if off = 0x20 ∧ v.testBit 0 then s.timeSnap q else s
  | .island => s.islRegWrite (q * 96 + u) off v
  | .deep => if off = 0 then outState s (execIslClkWrite (384 + q * 16 + u) (BitVec.ofNat 32 v) s) else s
  | .clkblk => s.clkRegWrite q off v
  | .power => s.pwrRegWrite q off v
  | .router => s.rtRegWrite (routerNum q u) off v
  | .probe => s.probeWrite q u off v
  | .mc => s.mcRegWrite (2 * q + u) off v
  | .memmap => s.mapRegWrite q off v
  | .ecc => s.eccRegWrite (2 * q + u) off v
  | .sg => s.sgRegWrite q off v
  | .pam => s.laneRegWrite (q * 24 + u) off v
  | .nrz => s.laneRegWrite (96 + q * 6 + u) off v
  | .mac => s.macRegWrite (4 * q + u) off v
  | .can => s.canRegWrite (2 * q + u) off v
  | .time => s.timeRegWrite .time 0 off v
  | .dom => s.timeRegWrite .dom u off v
  | .frame => s.timeRegWrite .frame 0 off v
  | .dbgeng => s.dbgEngRegWrite (q * 32 + u) off v
  | .dbg => s.dbgRegWrite q off v
  | .trc => s.trcRegWrite q off v
  | .xt =>
    if off < 0x100 ∨ 0x140 ≤ off then s
    else if off % 8 = 0 then s.xtCfgWrite ((off - 0x100) / 8) v
    else s.xtCmdWrite ((off - 0x100) / 8) v
  | .cfg => s.cfgRegWrite off v
  | .pf => if u = 0 then s else s.putReg .pf (pfA u) off v
  | .mbx => s.mbRegWrite q u off v
  | .evtset => if off < 0x80 then s.swSet (off / 4) v else s
  | .tctx => s.tctxWrite u off v
  | .xu => if off = 0xC then s.invalidate q v else s.putReg .xu (xuA q) off v
  | .nap => s.napRegWrite (routerNum q u) off v
  | .brg =>
    let s := s.putReg .brg (brgA q u) off v
    if off = 0 ∧ v.testBit 8 then s.retrain q u else s
  | g => s.putReg g (quadA q + g.base + u * g.stride) off v

/-- Write one register at address `a` (R11). An absent unit, a follower copy of a leader register and an unused offset ignore writes (R4, R34,
R38). -/
def State.regWrite (s : State) (a v : Nat) : State :=
  match locate a with
  | none => s
  | some (w, g, u, off) =>
    if !s.unitOk w g u then s
    else if (leaderOnly g off || leaderShown g off) && decide (w ≠ 0) && !g.inBay then s
    else if adcReg g off && !s.adcOk then s
    else if g.inBay then s.bayWrite w g u off v
    else s.quadWrite w g u off v

end Sys2Proof.Machine
end

