-- ==== Sys2Proof/Machine/Bus.lean ====
section
/-! DEFINITION. Machine/Bus.lean: how a physical address is decoded and reached (R9, R10, R32 to R37, R258 to R262, R275), translation (R236 to R241), and
reads and writes of every target. -/
namespace Sys2Proof.Machine
open Sys2Proof

/-! ## Decoding (R32 to R36, R260) -/

/-- Where an address leads. -/
inductive Target where
  | hole
  | absent
  | memory (ch : Nat)
  | napWindow (n : Nat)
  | sram (b off : Nat)
  | regs (router : Nat)
  deriving DecidableEq, Repr

/-- Decode a physical address (R32 to R35, R260). -/
def State.target? (s : State) (pa : Nat) : Target :=
  if pa < 0x8000000000 then
    match s.decodeMem pa with
    | some (ch, _) => .memory ch
    | none => .hole
  else if pa < 0xA400000000 then
    let n := (pa - 0x8000000000) / 0x40000000
    if s.rtHere n then .napWindow n else .absent
  else if 0xC000000000 ≤ pa ∧ pa < 0xC080000000 then
    let b := (pa - 0xC000000000) / 0x1000000
    let off := pa % 0x1000000
    if !s.bayHere b then .absent
    else if off < 0x40000 then .sram b off
    else if off < 0x800000 then .hole
    else .regs (routerNum (b / 32) (b % 32))
  else if 0xD000000000 ≤ pa ∧ pa < 0xD040000000 then
    let q := (pa - 0xD000000000) / 0x10000000
    if !s.quadOk q then .absent
    else if 0xF00000 ≤ pa % 0x10000000 then .hole
    else .regs (controlRouter q)
  else .hole

/-- The router whose port serves a target. -/
def Target.router : Target → Nat
  | .memory ch => routerNum (ch / 2) (32 + ch % 2)
  | .napWindow n => n
  | .sram b _ => routerNum (b / 32) (b % 32)
  | .regs n => n
  | _ => 0

/-- The port of that router: 0 the NAP, 1 the unit port. -/
def Target.dport : Target → Nat
  | .napWindow _ => 0
  | _ => 1

/-- Whether the target's port is a bay that its reset holds (R47). -/
def State.bayHeld (s : State) (pa : Nat) : Bool :=
  decide (0xC000000000 ≤ pa ∧ pa < 0xC080000000) && decide (s.bayState ((pa - 0xC000000000) / 0x1000000) = 2)

/-- Whether a NAP passes requests for its window to the fabric (R271). -/
def State.napServes (s : State) (n : Nat) : Bool :=
  s.bit (rtA n) R.NAP_CFG.TGT_EN && !slackState (s.islState (napIsland n)) && decide (s.rtState n ≠ 2)

/-! ## Reads -/

/-- Serve a read of `n` bytes at its target: status (R259), data and state. -/
def State.serveRead (s : State) (pa n : Nat) (dbg : Bool) (who : Who) (net : Net) : Nat × Nat × State :=
  match s.target? pa with
  | .hole => (2, 0, s)
  | .absent => (0, 0, s)
  | .memory _ => if n ∈ [1, 2, 4, 8, 16, 32, 64] ∧ pa % n = 0 then s.memRead pa n who else (1, 0, s)
  | .napWindow r => if s.napServes r && net.ok then (0, net.data % 2 ^ (8 * n), s) else (1, 0, s)
  | .sram b off =>
    if s.bayHeld pa then (1, 0, s)
    else if n ∈ [1, 2, 4, 8, 16, 32, 64] ∧ pa % n = 0 then
      let r := s.sramRead b off n
      if r.2.1 then (4, 0, r.2.2) else (0, r.1, r.2.2)
    else (1, 0, s)
  | .regs _ =>
    if s.bayHeld pa then (1, 0, s)
    else if n = 4 ∧ pa % 4 = 0 then
      let r := s.regRead dbg pa
      (0, r.1, r.2)
    else if n = 8 ∧ pa % 4 = 0 then
      let r := s.regRead dbg pa
      let r' := r.2.regRead dbg (pa + 4)
      (0, r.1 + 2 ^ 32 * r'.1, r'.2)
    else (1, 0, s)

/-- A read of `n` bytes by the port of `who`, with its way there and back. -/
def State.busRead (s : State) (pa n : Nat) (dbg : Bool) (who : Who) (net : Net) : Nat × Nat × State :=
  match s.target? pa with
  | .hole => (2, 0, s)
  | .absent => (0, 0, s)
  | t =>
    let g := s.newTag
    let q : Req := ⟨who, g.1, pa, n, false, dbg, t.router, t.dport⟩
    let w := g.2.passage q net
    if w.1 ≠ 0 then (w.1, 0, w.2)
    else
      let r := w.2.serveRead pa n dbg who net
      let x := r.2.2.answer q t.router t.dport r.1
      (x.1, if x.1 = 0 then r.2.1 else 0, x.2)

/-! ## Translation (R236 to R241) -/

/-- Keep an upper-level entry that a walk has read; it may answer later walks (R241). -/
def State.keepUpper (s : State) (q t level idx e : Nat) : State :=
  s.setXu q { s.xu q with
    uppers := ⟨t, level, idx, e⟩ :: (s.xu q).uppers.filter (fun u => !(decide (u.tctx = t) && decide (u.level = level) && decide (u.idx = idx))) }

/-- Read the entry of a walk at level `level`, from the cache where it is still held (open: log entry 1), else from memory; none is a read error. -/
def State.entry (s : State) (q t level idx a : Nat) : Option Nat × State :=
  let read := fun (s : State) =>
    let r := s.busRead a 8 false ⟨controlRouter q, 1, false, false, 3, false⟩ netOk
    (if r.1 = 0 then some r.2.1 else none, r.2.2)
  match (s.xu q).uppers.find? (fun u => decide (u.tctx = t) && decide (u.level = level) && decide (u.idx = idx)) with
  | some u => if s.freeChoice then (some u.entry, s.drawn) else read s.drawn
  | none => read s

/-- What one entry says (R238, R239): the next table, a leaf, or a fault. -/
inductive EntryRes where
  | table (a : Nat) (t64 : Bool)
  | leaf (a : Nat) (w dev : Bool)
  | fault (cause : Nat)
  deriving DecidableEq, Repr

/-- Check an entry read at a level: V, then its format (R238 to R240). `log` is the size of a leaf there, 0 where none is allowed; `tables` says
whether TABLE, and `t64s` whether T64, is allowed. -/
def checkEntry (e log : Nat) (tables t64s : Bool) : EntryRes :=
  let ty := bits e 2 1
  if e % 2 = 0 then .fault 0x10
  else if bits e 63 48 ≠ 0 ∨ bits e 7 5 ≠ 0 ∨ (ty ≠ 3 ∧ bits e 11 8 ≠ 0) then .fault 0x12
  else if ty = 1 ∧ tables then .table (bits e 47 12 * 4096) false
  else if ty = 3 ∧ t64s then .table (bits e 47 8 * 256) true
  else if ty = 2 ∧ log ≠ 0 ∧ bits e 47 12 * 4096 % 2 ^ log = 0 then .leaf (bits e 47 12 * 4096) (e.testBit 3) (e.testBit 4)
  else .fault 0x12

/-- Walk from the table at `a`: `lv` is the level 4 to 1, and 0 a 64 KiB table (R239). The result is the leaf with its page size, or the cause. -/
def State.walk (s : State) (q t va : Nat) : Nat → Nat → Nat → (Nat ⊕ (Nat × Nat × Bool × Bool)) × State
  | 0, _, _ => (.inl 0x12, s)
  | fuel + 1, lv, a =>
    let log := if lv = 3 then 30 else if lv = 2 then 21 else if lv = 1 then 12 else if lv = 0 then 16 else 0
    let shift := if lv = 0 then 16 else 12 + 9 * (lv - 1)
    let i := if lv = 0 then va / 2 ^ 16 % 32 else va / 2 ^ shift % 512
    let r := s.entry q t lv (va / 2 ^ shift) (a + 8 * i)
    match r.1 with
    | none => (.inl 0x14, r.2)
    | some e =>
      match checkEntry e log (decide (2 ≤ lv)) (decide (lv = 2)) with
      | .fault c => (.inl c, r.2)
      | .leaf pa w dev => (.inr (pa, log, w, dev), r.2)
      | .table a' t64 =>
        let w := r.2.walk q t va fuel (if t64 then 0 else lv - 1) a'
        match w.1 with
        | .inl c => (.inl c, w.2)
        | .inr x => (.inr x, w.2.keepUpper q t lv (va / 2 ^ shift) e)

/-- Translate a virtual address in the unit of quadrant `q` (R236 to R241): cause 0 and the physical address, or the cause of the fault. Whether a
cached translation is still held, and answers although its context or tables have changed, is open (log entry 1). -/
def State.translate (s : State) (q t va : Nat) (write : Bool) : Nat × Nat × State :=
  let ro := s.bit (tctxA q t) R.TCTX_LO.RO
  let leaf := fun (s : State) (pa log : Nat) (w : Bool) =>
    if write && (!w || ro) then (0x11, 0, s) else (0, pa + va % 2 ^ log, s)
  let fresh := fun (s : State) =>
    if s.bit (tctxA q t) R.TCTX_LO.V then
      let r := s.walk q t va 6 4 (s.tctxRoot q t)
      match r.1 with
      | .inl c => (c, 0, r.2)
      | .inr (pa, log, w, dev) =>
        let x := leaf r.2 pa log w
        if x.1 = 0 then
          (0, x.2.1, x.2.2.setXu q { x.2.2.xu q with
            finals := ⟨t, va / 2 ^ log * 2 ^ log, log, pa, w, dev⟩ ::
              (x.2.2.xu q).finals.filter (fun f => !(decide (f.tctx = t) && decide (f.log = log) && decide (f.va / 2 ^ log = va / 2 ^ log))) })
        else x
    else (0x13, 0, s)
  if t = 0 then (0, va, s)
  else
    match s.cachedFinal q t va with
    | some f => if s.freeChoice then leaf s.drawn f.pa f.log f.w else fresh s.drawn
    | none => fresh s

/-- DEV of the leaf by which the unit of quadrant `q` has translated an address (R238, R258). -/
def State.leafDev (s : State) (q t va : Nat) : Bool :=
  match s.cachedFinal q t va with
  | some f => decide (t ≠ 0) && f.dev
  | none => false

/-! ## NAP masters (R243, R269, R270) -/

/-- A field of a NAP's own fault registers. -/
def State.napF (s : State) (n : Nat) (f : Fld) : Nat := s.rd (napA n) f

/-- Record a translation fault of a NAP (R243). -/
def State.napFault (s : State) (n cause va : Nat) (write : Bool) : State :=
  let a := napA n
  let s :=
    if s.bit a R.NAP_FSTAT.FAULT then s.bump a R.NAP_FCNT.COUNT 1
    else
      let s := ((s.wr a R.NAP_FSTAT.FAULT 1).wr a R.NAP_FSTAT.CAUSE cause).wr a R.NAP_FSTAT.WRITE (if write then 1 else 0)
      (s.wr a R.NAP_FVA_LO.FVA va).wr a R.NAP_FVA_HI.FVA (va / 2 ^ 32)
  s.raise (572 + rtQuad n)

/-- Whether a master request at a NAP passes translation: its physical address, or the cause; an access never crosses a page (R258). -/
def State.napTranslate (s : State) (n : Nat) (r : MasterReq) : Nat × Nat × State :=
  s.translate (rtQuad n) (s.napF n R.NAP_XCFG.TCTX) (r.va % 2 ^ 48) r.write

/-- Inject a translated master request (R260, R270): it stands outstanding at the NAP port under its tag, or is answered at the entry port. -/
def State.napInject (s : State) (n pa : Nat) (r : MasterReq) : State :=
  match s.target? pa with
  | .hole => s.napAnswer n r.tag 2 0 0 r.write
  | .absent => s.napAnswer n r.tag 0 0 (allBytes (2 ^ r.size) * 2 ^ (pa % 64)) r.write
  | _ => { s with outst := s.outst ++ [⟨portOf n 0, r.tag % 64, r.write, pa, 2 ^ r.size, .nap⟩] }

/-- Carry out one master request of a NAP; `held` says that RESUME brings it again (R243, R270). -/
def State.napMaster (s : State) (n : Nat) (r : MasterReq) : State :=
  if s.bit (rtA n) R.NAP_CFG.MST_EN = false then s.napAnswer n r.tag 1 0 0 r.write
  else if s.outst.any (fun o => decide (o.port = portOf n 0) && decide (o.tag = r.tag % 64)) ||
      (s.nap n).held.any (fun h => decide (h.tag % 64 = r.tag % 64)) then
    (s.setFlag (rtA n) R.NAP_STAT.TAG_IN_USE (528 + rtQuad n)).napAnswer n r.tag 6 0 0 r.write
  else if (s.nap n).held ≠ [] then s.setNap n { s.nap n with held := (s.nap n).held ++ [r] }
  else
    let x := s.napTranslate n r
    if x.1 = 0 then x.2.2.napInject n x.2.1 r
    else
      let s := x.2.2.napFault n x.1 r.va r.write
      if s.bit (napA n) R.NAP_XCFG.FMODE then
        (s.setNap n { s.nap n with held := (s.nap n).held ++ [r] }).wr (napA n) R.NAP_FSTAT.HOLDING 1
      else s.napAnswer n r.tag 7 0 0 r.write

/-- RESUME (R243): the held requests are translated again and carried out in order; the first that faults again holds it and all later ones. -/
def State.napResume (s : State) (n : Nat) : State :=
  if s.bit (napA n) R.NAP_FSTAT.HOLDING then
    let held := (s.nap n).held
    let s := (s.setNap n { s.nap n with held := [] }).wr (napA n) R.NAP_FSTAT.HOLDING 0
    held.foldl (fun s r => s.napMaster n r) s
  else s

/-! ## Writes -/

/-- A register write with the one effect that needs translation: RESUME of a NAP (R244). With ABORT also written, ABORT acts first and leaves
nothing to resume. -/
def State.regStore (s : State) (a v : Nat) : State :=
  let s := s.regWrite a v
  match locate a with
  | some (q, .nap, u, 0x10) => if v.testBit 0 && s.quadOk q then s.napResume (routerNum q u) else s
  | _ => s

/-- Serve a write of `n` bytes under byte enables at its target: status and state. -/
def State.serveWrite (s : State) (pa n be v : Nat) (who : Who) (net : Net) : Nat × State :=
  match s.target? pa with
  | .hole => (2, s)
  | .absent => (0, s)
  | .memory _ => if n ∈ [1, 2, 4, 8, 16, 32, 64] ∧ pa % n = 0 then s.memWrite pa n be v who else (1, s)
  | .napWindow r => if s.napServes r && net.ok then (0, s) else (1, s)
  | .sram b off =>
    if s.bayHeld pa then (1, s)
    else if n ∈ [1, 2, 4, 8, 16, 32, 64] ∧ pa % n = 0 then
      let r := s.sramWrite b off n be v
      (if r.1 then 4 else 0, r.2)
    else (1, s)
  | .regs _ =>
    let be := be % 2 ^ n
    if s.bayHeld pa then (1, s)
    else if n = 4 ∧ pa % 4 = 0 ∧ be = 15 then (0, s.regStore pa (v % 2 ^ 32))
    else if n = 8 ∧ pa % 4 = 0 ∧ (be % 16 = 15 ∨ be % 16 = 0) ∧ (be / 16 = 15 ∨ be / 16 = 0) then
      let s := if be % 16 = 15 then s.regStore pa (v % 2 ^ 32) else s
      (0, if be / 16 = 15 then s.regStore (pa + 4) (v / 2 ^ 32 % 2 ^ 32) else s)
    else (1, s)

/-- A write of `n` bytes by the port of `who`, with its way there and back. -/
def State.busWrite (s : State) (pa n be v : Nat) (who : Who) (net : Net) : Nat × State :=
  match s.target? pa with
  | .hole => (2, s)
  | .absent => (0, s)
  | t =>
    let g := s.newTag
    let q : Req := ⟨who, g.1, pa, n, true, false, t.router, t.dport⟩
    let w := g.2.passage q net
    if w.1 ≠ 0 then w
    else
      let r := w.2.serveWrite pa n be v who net
      r.2.answer q t.router t.dport r.1

end Sys2Proof.Machine
end

