-- ==== Sys2Proof/Machine/Network.lean ====
section
/-! DEFINITION. Machine/Network.lean: packets of the on-chip network and what ends them, NAPs, probes, the event controller's deliveries and the end of
an invalidation (spec/07_noc.md; R241 to R250 of spec/06_contexts_queues.md). -/
namespace Sys2Proof.Machine
open Sys2Proof

/-! ## Probes (R282) -/

/-- PROBE_TRACE_RECORD (R282): the oldest staged record is written to the probe's ring, or dropped. -/
def execProbeTraceRecord (q p : Nat) (s : State) : Host.Outcome State Fault Refusal :=
  .next <|
    let v := s.probe (q * 8 + p)
    if s.quadLive q && decide (p < 8) then
      match v.stage with
      | [] => s
      | r :: rest =>
        let a := prbA q p
        let s := s.setProbe (q * 8 + p) { v with stage := rest }
        let n := 2 ^ (min 14 (s.rd a R.PRB_TRING_HI.LEN) + 8)
        let base := s.rd a R.PRB_TRING_LO.BASE * 32 + s.rd a R.PRB_TRING_HI.BASE * 2 ^ 32
        let wr := s.rd a R.PRB_TWR.WR
        if base % (32 * n) ≠ 0 ∨ 0x8000000000 < base + 32 * n ∨ (wr + 1) % n = s.rd a R.PRB_TRD.RD then s.probeDrop q p
        else
          let w := r.hdr + r.req * 2 ^ 64 + nsOf r.stamp * 2 ^ 128 + secOf r.stamp % 2 ^ 32 * 2 ^ 160 + fracOf r.stamp / 256 * 2 ^ 192
            + p % 8 * 32 * 2 ^ 200 + ((if v.loss then 1 else 0) + (if r.waited then 2 else 0)) * 2 ^ 208
          let x := s.busWrite (base + 32 * (wr % n)) 32 (allBytes 32) w ⟨routerNum q (s.rd a R.PRB_CTRL.ROUTER), 2, false, false, 3, false⟩ netOk
          if x.1 = 0 then
            (x.2.setProbe (q * 8 + p) { x.2.probe (q * 8 + p) with loss := false }).wr a R.PRB_TWR.WR ((wr + 1) % n)
          else x.2.probeDrop q p
    else s

/-! ## Requests (R258, R260, R271, R275) -/

/-- Forget that a packet is held: it goes on, or its hold has ended. -/
def State.unhold (s : State) (request : Bool) (port tag : Nat) (write : Bool) : State :=
  { s with blocked := s.blocked.filter (fun h =>
      !(decide (h.request = request) && decide (h.port = port) && decide (h.tag = tag) && decide (h.write = write))) }

/-- Hold a packet at router `n` (R275). -/
def State.hold (s : State) (n : Nat) (request : Bool) (port tag : Nat) (write : Bool) : State :=
  let s := s.unhold request port tag write
  { s with blocked := s.blocked ++ [⟨n, request, port, tag, write⟩] }

/-- Send a response on its way from port `sport` of router `src`; 3 stands for an answer of the initiator's own port, which passes no router. -/
def State.respond (s : State) (src sport port tag : Nat) (write : Bool) (status data : Nat) : State :=
  { s with flight := s.flight ++ [⟨src, port, tag, write, status, if status = 0 then data else 0, sport⟩] }

/-- Pass the requests that wait in a NAP to the fabric while TGT_OUT allows (R271): each takes a free TTAG; which one is open (log entry 1). -/
def State.napPass (s : State) (n : Nat) : State :=
  (s.nap n).tgt.foldl (fun s t =>
    let v := s.nap n
    let out := v.tgt.filter (fun x => decide (x.ttag < 64))
    if t.ttag < 64 ∨ min 63 (s.rd (rtA n) R.NAP_CFG.TGT_OUT) < out.length then s
    else
      let start := (s.freeVal 6).toNat
      match ((List.range 64).map (fun k => (start + k) % 64)).find? (fun k => out.all (fun x => decide (x.ttag ≠ k))) with
      | none => s
      | some k =>
        let rec mark : List TgtReq → List TgtReq
          | [] => []
          | x :: xs => if x = t then { x with ttag := k } :: xs else x :: mark xs
        let s := s.drawn.setNap n { v with tgt := mark v.tgt }
        s.napPush n (2 ^ 35 + (if t.write then 2 ^ 34 else 0) + t.size % 8 * 2 ^ 31 + k * 2 ^ 25 + t.port / 4) t.off t.data t.be) s

/-- A request packet reaches its target (R258, R260): `be` and `data` lie in the 64-byte line that holds PA. -/
def State.request (s : State) (p : Packet) (write : Bool) (be data : Nat) (net : Net) : State :=
  let port := portOf p.src (p.sport % 4)
  let pa := p.pa % 2 ^ 48
  let n := 2 ^ p.size
  let lane := pa % 64
  let s := s.unhold true port p.tag write
  if !s.rtOk p.src || decide (6 < p.size) || decide (pa % n ≠ 0) then s
  else
    match s.target? pa with
    | .hole => s.respond p.src 3 port p.tag write 2 0
    | .absent => s.respond p.src 3 port p.tag write 0 0
    | t =>
      let dest := t.router
      let dport := match t with
        | .napWindow _ => 0
        | _ => 1
      match s.heldOn (s.route p.src dest) with
      | some h => s.hold h true port p.tag write
      | none =>
        let hdr := flitHdr dest dport p.src p.sport p.tc (if write then 1 else 0) p.age p.tag (!write)
        let word := pa + p.size * 2 ^ 48 + (if p.dev then 2 ^ 51 else 0) + (if p.dbg then 2 ^ 52 else 0)
        let s := if s.probing then s.probeRoute (s.route p.src dest) dport hdr word pa (if write then 2 else 1) true else s
        let who : Who := ⟨p.src, p.sport % 4, false, false, 3, false⟩
        match t with
        | .napWindow r =>
          if s.napServes r then
            let q : TgtReq := ⟨64, port, p.tag, write, p.size, pa % 2 ^ 30, if write then data % 2 ^ 512 else 0, if write then be % 2 ^ 64 else 0⟩
            (s.setNap r { s.nap r with tgt := (s.nap r).tgt ++ [q] }).napPass r
          else s.respond r 0 port p.tag write 1 0
        | _ =>
          if write then
            let x := s.serveWrite pa n (be / 2 ^ lane % 2 ^ n) (data / 2 ^ (8 * lane) % 2 ^ (8 * n)) who net
            x.2.respond dest 1 port p.tag true x.1 0
          else
            let x := s.serveRead pa n p.dbg who net
            x.2.2.respond dest 1 port p.tag false x.1 (x.2.1 * 2 ^ (8 * lane))

/-- RD_REQ (R258): a read request reaches its target, which answers with an RD_RSP. -/
def execRdReq (p : Packet) (net : Net) (s : State) : Host.Outcome State Fault Refusal := .next (s.request p false 0 0 net)
/-- WR_REQ (R258): a write request reaches its target, which writes the enabled bytes inside the access and answers with a WR_RSP. -/
def execWrReq (p : Packet) (be data : Nat) (net : Net) (s : State) : Host.Outcome State Fault Refusal := .next (s.request p true be data net)

/-! ## Responses (R259, R261, R276) -/

/-- An initiator's request completes with a status; read data lies in its line. -/
def State.finish (s : State) (o : Outst) (status data : Nat) : State :=
  match o.owner with
  | .nap => s.napAnswer (o.port / 4) o.tag status data (allBytes o.size * 2 ^ (o.pa % 64)) o.write
  | .dbm p => s.dbmDone p status (data / 2 ^ (8 * (o.pa % 64))) o
  | .other => s.emit (.response o.port o.tag status data)

/-- An engine context as a requester on class RT (R263); `va` is the address that it accesses. -/
def State.ctxWho (s : State) (b c va : Nat) : Who := { bayWho b with tc := 2, dev := s.leafDev (b / 32) (s.rd (ctxA b c) R.CTX_CFG.TCTX) va }

/-- The oldest posted store of a bay's context is carried out; an error response is the posted-store error of R219. A context in ABORTING discards
it (R217). -/
def State.landStore (s : State) (b c : Nat) (net : Net) : State :=
  match (s.ctx (b * 32 + c)).posted with
  | [] => s
  | p :: rest =>
    let s := s.modCtx b c fun v => { v with posted := rest }
    let x := s.busWrite p.pa p.size (allBytes p.size) p.data (s.ctxWho b c p.va) net
    if x.1 = 0 then x.2 else x.2.postedErr b c p.va

/-- A response reaches its initiator port (R259, R276), or stays held at a blocked hop (R275). -/
def State.arrive (s : State) (port tag : Nat) (write : Bool) : State :=
  match s.flight.find? (fun r => decide (r.port = port) && decide (r.tag = tag) && decide (r.write = write)) with
  | none =>
    let b := rtQuad (port / 4) * 32 + (routerLocal (port / 4)).2
    if write && decide (port % 4 = 1) && decide ((routerLocal (port / 4)).2 < 32) && decide (tag < 32) && s.engineOn b then s.landStore b tag netOk
    else s
  | some r =>
    match if r.sport = 3 then none else s.heldOn (s.route r.src (port / 4)) with
    | some h => s.hold h false port tag write
    | none =>
      let s := s.unhold false port tag write
      let s :=
        if s.probing ∧ r.sport ≠ 3 then
          s.drawn.probeRoute (s.route r.src (port / 4)) (port % 4)
            (s.rspHdr (port / 4) (port % 4) r.src r.sport tag r.status write) 0 0 1 false
        else s
      let s := { s with flight := s.flight.erase r }
      match s.outst.find? (fun o => decide (o.port = port) && decide (o.tag = tag)) with
      | some o => { s with outst := s.outst.erase o }.finish o r.status r.data
      | none => s.bump (nocA (rtQuad (port / 4))) R.NOC_LATE.COUNT 1

/-- RD_RSP (R259). -/
def execRdRsp (port tag : Nat) (s : State) : Host.Outcome State Fault Refusal := .next <| if s.rtOk (port / 4) then s.arrive port tag false else s
/-- WR_RSP (R259): it completes the write; a bay's posted store is carried out with its response (R180). -/
def execWrRsp (port tag : Nat) (s : State) : Host.Outcome State Fault Refusal := .next <| if s.rtOk (port / 4) then s.arrive port tag true else s

/-- RSP_TIMEOUT_EXPIRY (R276). -/
def execRspTimeoutExpiry (port tag : Nat) (s : State) : Host.Outcome State Fault Refusal :=
  .next <|
    match s.outst.find? (fun o => decide (o.port = port) && decide (o.tag = tag)) with
    | some o => ({ s with outst := s.outst.erase o }.raise (520 + rtQuad (port / 4))).finish o 5 0
    | none => s

/-- HOLD_LIMIT_EXPIRY (R275): the packet held longest at router `r` is discarded; a request is answered ROUTE_FENCED from there. -/
def execHoldLimitExpiry (r : Nat) (s : State) : Host.Outcome State Fault Refusal :=
  .next <|
    match s.blocked.find? (fun h => decide (h.router = r)) with
    | none => s
    | some h =>
      let s := ({ s with blocked := s.blocked.erase h }).holdEnds r h.request
      if h.request then s.respond r 1 h.port h.tag h.write 3 0
      else
        { s with flight := (match s.flight.find? (fun x => decide (x.port = h.port) && decide (x.tag = h.tag) && decide (x.write = h.write)) with
            | some x => s.flight.erase x
            | none => s.flight) }

/-! ## Messages (R257, R306) -/

/-- Spacing of an initiator port's requests to a channel begins, or begins anew (R306). -/
def State.throttle (s : State) (port ch gap : Nat) : State := { s with throttled := Tab.put (fun _ => 0) s.throttled (port * 8 + ch % 8) (gap % 256 + 1) }

/-- MSG (R257, R306): a posted message reaches its port. The messages whose content the spec gives are THROTTLE, which every initiator port accepts, and
telemetry records, which have a command of their own. A message whose route is blocked is held. -/
def execMsg (src dest dport payload : Nat) (s : State) : Host.Outcome State Fault Refusal :=
  .next <|
    if s.rtOk src && s.rtHere dest then
      match s.heldOn (s.route src dest) with
      | some h => s.hold h false (portOf dest dport) 0x4000 false
      | none =>
        let s := s.unhold false (portOf dest dport) 0x4000 false
        let s :=
          if s.probing then
            s.drawn.drawn.probeRoute (s.route src dest) dport
              (flitHdr dest dport src 1 1 4 (s.drawn.ageAt (rtQuad src) 1) (s.freeVal 14).toNat true) 0 0 1 false
          else s
        if payload % 256 = 1 then s.throttle (portOf dest (dport % 4)) (bits payload 10 8) (bits payload 23 16) else s
    else s

/-- THROTTLE (R306). The time of the spacing is not the state's; THROTTLE_EXPIRY ends it. -/
def execThrottle (port ch gap _time : Nat) (s : State) : Host.Outcome State Fault Refusal :=
  .next <| if s.rtOk (port / 4) && decide (port % 4 < 3) then s.throttle port ch gap else s
/-- THROTTLE_EXPIRY (R306). -/
def execThrottleExpiry (port ch : Nat) (s : State) : Host.Outcome State Fault Refusal :=
  .next { s with throttled := Tab.put (fun _ => 0) s.throttled (port * 8 + ch % 8) 0 }

/-! ## NAPs (R243, R268 to R273) -/

/-- Take one outbound bundle word of a NAP, where the image configures the bundle: channel 0, channel 1, data and byte enables (R268, R269). -/
def State.napTake (s : State) (n : Nat) : Option (Nat × Nat × Nat × Nat) × State :=
  let i := napIsland n
  let head := fun (c : Nat) => ((s.chan (s.chanId i 5 c)).words.head?.map (·.1)).getD 0
  if s.chanMode i 5 0 = 2 ∨ (List.range 18).any (fun c => (s.chan (s.chanId i 5 c)).words.isEmpty) then (none, s)
  else
    let data := (List.range 16).foldl (fun v j => v + head (j + 2) % 2 ^ 32 * 2 ^ (32 * j)) 0
    let be := (List.range 16).foldl (fun v j => v + head (j + 2) / 2 ^ 32 % 16 * 2 ^ (4 * j)) 0
    (some (head 0, head 1, data, be),
      (List.range 18).foldl (fun s c => s.setChan (s.chanId i 5 c) ((s.chan (s.chanId i 5 c)).pop)) s)

/-- Whether the image configures the outbound bundle of a NAP. -/
def State.napBundle (s : State) (n : Nat) : Bool := (s.chanCfg (napIsland n) 5 0).isSome

/-- The master request of an outbound bundle word (R269). -/
def masterOf (w : Nat × Nat × Nat × Nat) : MasterReq :=
  ⟨w.1.testBit 34, bits w.1 33 31, bits w.1 30 25, bits w.1 15 0 * 2 ^ 32 + w.2.1 % 2 ^ 32, w.2.2.1, w.2.2.2⟩

/-- Fabric logic answers a target request (R271). -/
def State.napTgtRsp (s : State) (n ttag status data : Nat) : State :=
  let v := s.nap n
  match v.tgt.find? (fun t => decide (t.ttag = ttag % 64)) with
  | none => s.setFlag (rtA n) R.NAP_STAT.LATE_RSP (528 + rtQuad n)
  | some t =>
    let s := s.setNap n { v with tgt := v.tgt.erase t }
    (s.respond n 0 t.port t.tag t.write (if status = 0 then 0 else 1) (data % 2 ^ 512)).napPass n

/-- NAP_MASTER_REQUEST (R269, R270): where the image configures the outbound bundle, its word is the request; else the operand is. -/
def execNapMasterRequest (r : Nat) (req : MasterReq) (s : State) : Host.Outcome State Fault Refusal :=
  .next <|
    if s.rtOk r then
      let s := s.napFlush r
      if s.napBundle r then
        match s.napTake r with
        | (some w, s') => if w.1.testBit 35 then s'.napTgtRsp r (bits w.1 30 25) (bits w.1 24 22) w.2.2.1 else s'.napMaster r (masterOf w)
        | (none, s') => s'
      else s.napMaster r req
    else s

/-- NAP_TARGET_RESPONSE (R269, R271), with the word taken as for NAP_MASTER_REQUEST. -/
def execNapTargetResponse (r ttag status data : Nat) (s : State) : Host.Outcome State Fault Refusal :=
  .next <|
    if s.rtOk r then
      let s := s.napFlush r
      if s.napBundle r then
        match s.napTake r with
        | (some w, s') => if w.1.testBit 35 then s'.napTgtRsp r (bits w.1 30 25) (bits w.1 24 22) w.2.2.1 else s'.napMaster r (masterOf w)
        | (none, s') => s'
      else s.napTgtRsp r ttag status data
    else s

/-- NAP_RESUME (R243). -/
def execNapResume (r : Nat) (s : State) : Host.Outcome State Fault Refusal := .next <| if s.rtOk r then s.napResume r else s
/-- NAP_ABORT (R243). -/
def execNapAbort (r : Nat) (s : State) : Host.Outcome State Fault Refusal :=
  .next <| if s.rtOk r && s.bit (napA r) R.NAP_FSTAT.HOLDING then s.napAbort r else s
/-- NAP_HOLD_EXPIRY (R243): HOLD = 0 sets no limit. -/
def execNapHoldExpiry (r : Nat) (s : State) : Host.Outcome State Fault Refusal :=
  .next <|
    if s.rtOk r && s.bit (napA r) R.NAP_FSTAT.HOLDING && decide (s.napF r R.NAP_XCFG.HOLD ≠ 0) then
      (s.napAbort r).wr (napA r) R.NAP_FSTAT.HOLD_EXPIRED 1
    else s

/-- USER_EVENT_EDGE (R273): UEVk of router `r` rises. Routers with local index 32 to 35 have no UEV lines. -/
def execUserEventEdge (r k : Nat) (s : State) : Host.Outcome State Fault Refusal :=
  .next <|
    if s.rtOk r && decide ((routerLocal r).2 < 32) && decide (k < 2) then s.raise (768 + 64 * rtQuad r + 2 * (routerLocal r).2 + k) else s

/-! ## Deliveries (R247 to R250, R424) -/

/-- Whether the undelivered occurrences of an event are due (R249). -/
def State.evtDue (s : State) (e : Nat) : Bool :=
  let a := evtA e
  let v := s.evt e
  let t := s.rd a R.EVT_RATE.COAL_TIME
  decide (v.count ≠ 0) && (decide (max 1 (s.rd a R.EVT_RATE.COAL_CNT) ≤ v.count) || (decide (t ≠ 0) && decide (v.first + 1000 * t ≤ s.counter))) &&
    match v.last with
    | none => true
    | some l => decide (l + 64 * s.rd a R.EVT_RATE.SPACING ≤ s.counter)

/-- The MSI-X message of a vector, where it lies in a function's range (R424). -/
def State.msixOf (s : State) (v : Nat) : State :=
  match (List.range 8).find? (fun f => s.pfOk f && decide (s.vecBase f ≤ v ∧ v < s.vecBase f + s.vecCnt f)) with
  | some f => s.emit (.msix f (v - s.vecBase f))
  | none => s

/-- An event sets its EPEND bit (R248): not in an absent bay, nor in one in RESET or HOLD. -/
def State.epend (s : State) (e : Nat) : State :=
  let a := evtA e
  let b := s.rd a R.EVT_ENG.BAY
  if s.bayOk b && decide (s.bayState b < 2) then
    s.modCtx b (s.rd a R.EVT_ENG.CTX) fun v => { v with epend := v.epend ||| BitVec.ofNat 32 (2 ^ s.rd a R.EVT_ENG.BIT) }
  else s

/-- EVENT_DELIVERY (R249): every undelivered occurrence goes to the routes in one group. -/
def execEventDelivery (e : Nat) (s : State) : Host.Outcome State Fault Refusal :=
  .next <|
    if e < 1024 ∧ s.evtDue e then
      let a := evtA e
      let s := (s.setEvt e ⟨0, 0, some s.counter⟩).wr a R.EVT_STAT.PENDING 0
      let s := if s.bit a R.EVT_CFG.HOST_EN then s.msixOf (s.rd a R.EVT_CFG.VECTOR) else s
      if s.bit a R.EVT_CFG.ENG_EN then s.epend e else s
    else s

/-! ## The end of an invalidation (R241) -/

/-- Discard the cached entries of one unit that an invalidation names. -/
def XuSt.discard (u : XuSt) (scope t va : Nat) : XuSt :=
  let upper := fun (x : Upper) => decide (x.tctx = t) && (decide (scope = 1) || decide (x.idx = va / 2 ^ (12 + 9 * (x.level - 1))))
  let final := fun (x : Final) => decide (x.tctx = t) && (decide (scope = 1) || decide (x.va / 2 ^ x.log = va / 2 ^ x.log))
  if scope = 0 then XuSt.init else ⟨u.finals.filter (fun x => !final x), u.uppers.filter (fun x => !upper x)⟩

/-- XU_INV_DONE (R241): the oldest invalidation in progress is done in every unit; BUSY of its quadrant falls when no other waits there. -/
def execXuInvDone (s : State) : Host.Outcome State Fault Refusal :=
  .next <|
    match s.invWait with
    | [] => s
    | (k, t, va) :: rest =>
      let q := k / 4
      let s := { s with invWait := rest }
      let s := s.quads.foldl (fun s i => s.setXu i ((s.xu i).discard (k % 4) t va)) s
      let s := if rest.any (fun x => decide (x.1 / 4 = q)) then s else s.wr (xuA q) R.XU_INV_STAT.BUSY 0
      s.raise 733

end Sys2Proof.Machine
end

