-- ==== Sys2Proof/Machine/Transfers.lean ====
section
/-! DEFINITION. Machine/Transfers.lean: what an engine, a mover or the host moves over the network: translated loads and stores (R180, R204, R217 to
R219), movers (R229 to R233), host reads and writes through a BAR (R245, R246, R425), and single register accesses (R9 to R16). -/
namespace Sys2Proof.Machine
open Sys2Proof

/-! ## Translated accesses of an engine context (R218, R219) -/

/-- The translation context of an engine context. -/
def State.ctxT (s : State) (b c : Nat) : Nat := s.rd (ctxA b c) R.CTX_CFG.TCTX

/-- One translated load: its cause (R240), 0 for none, its value and the state. -/
def State.extLoad (b c : Nat) (net : Net) (s : State) (va n : Nat) : (Nat × Nat) × State :=
  let t := s.translate (b / 32) (s.ctxT b c) va false
  if t.1 ≠ 0 then ((t.1, 0), t.2.2)
  else
    let r := t.2.2.busRead t.2.1 n false (t.2.2.ctxWho b c va) net
    if r.1 = 0 then ((0, r.2.1), r.2.2) else ((0x15, 0), r.2.2)

/-- Carry out every posted store of a context, oldest first (R180, R217, R219). -/
def State.landStores (s : State) (b c : Nat) (net : Net) : State :=
  (List.range (s.ctx (b * 32 + c)).posted.length).foldl (fun s _ => s.landStore b c net) s

/-- Whether a context waits in its engine. -/
def State.waiting (s : State) (b c : Nat) : Bool := s.engineOn b && decide (c < 32) && decide (s.effState b c = 4)

/-- TRANSLATED_LOAD_RETURN (R218): the context's older stores are done by then; the loads of its instruction answer. -/
def execTranslatedLoadReturn (b c : Nat) (net : Net) (s : State) : Host.Outcome State Fault Refusal :=
  .next <|
    if s.waiting b c then
      match (s.cx b c).wait with
      | .load i =>
        let s := s.landStores b c netOk
        if s.waiting b c then
          match State.doLoads b c (some (State.extLoad b c net)) ((s.cx b c).loadPlan i) s with
          | (.done vs, s') =>
            ((s'.modCtx b c fun v => CtxSt.takeLoads (v.loadPlan i) vs (v.macPart i)).complete b c).makeReady b c
          | (.fault cause info infoh, s') => s'.faultCtx b c cause info infoh false false
          | (.wait, s') => s'
        else s
      | _ => s
    else s

/-- TRANSLATED_STORE_POST (R218): the walk of a waiting store ends; the store is posted, or its context faults with PC at the store. -/
def execTranslatedStorePost (b c : Nat) (net : Net) (s : State) : Host.Outcome State Fault Refusal :=
  .next <|
    if s.waiting b c then
      match (s.cx b c).wait with
      | .store i =>
        match (s.cx b c).storePlan i with
        | none => s
        | some a =>
          let va := (s.cx b c).va a.ea
          let t := s.translate (b / 32) (s.ctxT b c) va true
          let cause := if net.status ≠ 0 ∧ t.1 = 0 then 0x14 else t.1
          if cause ≠ 0 then t.2.2.faultCtx b c cause (va % 2 ^ 32) (va / 2 ^ 32) true false
          else
            (((t.2.2.post b c va t.2.1 a.size a.data).modCtx b c fun v => v.modifyPtr a.ptr).complete b c).makeReady b c
      | _ => s
    else s

/-- POSTED_STORE_ERROR (R219): the oldest posted store of the context receives an error response and is lost. -/
def execPostedStoreError (b c : Nat) (s : State) : Host.Outcome State Fault Refusal :=
  .next <|
    if s.engineOn b && decide (c < 32) then
      match (s.ctx (b * 32 + c)).posted with
      | [] => s
      | p :: rest => (s.modCtx b c fun v => { v with posted := rest }).postedErr b c p.va
    else s

/-- FENCE_COMPLETE (R180, R204): the last older translated access of a waiting FENCE or IDLE completes. -/
def execFenceComplete (b c : Nat) (net : Net) (s : State) : Host.Outcome State Fault Refusal :=
  .next <|
    if s.waiting b c then
      match (s.cx b c).wait with
      | .fence =>
        let s := s.landStores b c net
        if s.waiting b c then (s.complete b c).makeReady b c else s
      | .idle =>
        let s := s.landStores b c net
        if s.waiting b c then s.goIdle b c else s
      | _ => s
    else s

/-- ABORT_COMPLETE (R217): the last outstanding access of an aborting context completes; the context enters IDLE, under a debug halt too (R495). -/
def execAbortComplete (b c : Nat) (net : Net) (s : State) : Host.Outcome State Fault Refusal :=
  .next <|
    if s.engineOn b && decide (c < 32) && decide (s.effState b c = 7) then (s.landStores b c net).setCtxState b c 1 else s

/-! ## Spans of bytes -/

/-- The largest access that begins at address `a` and stays within `n` bytes: a power of two up to 64, aligned (R258; log entry 32). -/
def pieceSize (a n : Nat) : Nat :=
  if a % 64 = 0 ∧ 64 ≤ n then 64 else if a % 32 = 0 ∧ 32 ≤ n then 32 else if a % 16 = 0 ∧ 16 ≤ n then 16
  else if a % 8 = 0 ∧ 8 ≤ n then 8 else if a % 4 = 0 ∧ 4 ≤ n then 4 else if a % 2 = 0 ∧ 2 ≤ n then 2 else 1

/-- Read `n` bytes at physical address `pa` piece by piece: the first error status and the data. -/
def State.spanRead (s : State) (who : Who) (net : Net) : Nat → Nat → Nat → Nat × Nat × State
  | 0, _, _ => (0, 0, s)
  | fuel + 1, pa, n =>
    if n = 0 then (0, 0, s)
    else
      let k := pieceSize pa n
      let r := s.busRead pa k false who net
      if r.1 ≠ 0 then (r.1, 0, r.2.2)
      else
        let t := r.2.2.spanRead who net fuel (pa + k) (n - k)
        (t.1, r.2.1 + 2 ^ (8 * k) * t.2.1, t.2.2)

/-- Write `n` bytes at physical address `pa` piece by piece under byte enables, up to the first error. -/
def State.spanWrite (s : State) (who : Who) (net : Net) : Nat → Nat → Nat → Nat → Nat → Nat × State
  | 0, _, _, _, _ => (0, s)
  | fuel + 1, pa, n, be, v =>
    if n = 0 then (0, s)
    else
      let k := pieceSize pa n
      let r := s.busWrite pa k (be % 2 ^ k) (v % 2 ^ (8 * k)) who net
      if r.1 ≠ 0 then r else r.2.spanWrite who net fuel (pa + k) (n - k) (be / 2 ^ k) (v / 2 ^ (8 * k))

/-! ## Movers (R229, R231 to R233) -/

/-- How a mover's run over its descriptor ends. -/
inductive MvEnd where
  | done
  | fault (off cause : Nat) (dst : Bool)
  deriving DecidableEq, Repr

/-- The FILL bytes of `n` destination bytes from virtual address `va` on (R229). -/
def fillBytes (pattern va : Nat) : Nat → Nat
  | 0 => 0
  | n + 1 => pattern / 256 ^ (va % 4) % 256 + 256 * fillBytes pattern (va + 1) n

/-- The bytes of a chunk of `n` bytes at virtual address `va` whose pages translate: how many come before the first failing page, the cause there,
and the physical addresses of the two parts of the chunk (R231). -/
def State.spanPages (s : State) (q t va n : Nat) (write : Bool) : Nat × Nat × (Nat × Nat) × State :=
  let a := s.translate q t (va % 2 ^ 48) write
  if a.1 ≠ 0 then (0, a.1, (0, 0), a.2.2)
  else
    let m := 4096 - va % 4096
    if m < n then
      let b := a.2.2.translate q t ((va + m) % 2 ^ 48) write
      if b.1 ≠ 0 then (m, b.1, (a.2.1, 0), b.2.2) else (n, 0, (a.2.1, b.2.1), b.2.2)
    else (n, 0, (a.2.1, 0), a.2.2)

/-- Whether a COPY overlaps so that its destination contents are not defined (R231). -/
def Desc.overlaps (d : Desc) : Bool := !d.fill && decide (d.src < d.dst ∧ d.dst < d.src + 1024 ∧ d.dst < d.src + d.len)

/-- Move the first `m` bytes of a chunk at offset `o` under translation context `t`: none, or the side that failed (R233). -/
def State.moveChunk (s : State) (b t : Nat) (d : Desc) (o m va : Nat) (src dst : Nat × Nat) (net : Net) : Option Bool × State :=
  let whoAt := fun (s : State) (a : Nat) => { bayWho b with dev := s.leafDev (b / 32) t (a % 2 ^ 48) }
  let data : Option Nat × State :=
    if d.fill then (some (fillBytes d.pattern va m), s)
    else
      let sv := d.src + o
      let m1 := min m (4096 - sv % 4096)
      let r := s.spanRead (whoAt s sv) net 64 src.1 m1
      if r.1 ≠ 0 then (none, r.2.2)
      else
        let r2 := r.2.2.spanRead (whoAt r.2.2 (sv + m1)) net 64 src.2 (m - m1)
        (if r2.1 ≠ 0 then none else some (r.2.1 + 2 ^ (8 * m1) * r2.2.1), r2.2.2)
  match data.1 with
  | none => (some false, data.2)
  | some x =>
    let s := data.2
    let w := if d.overlaps then s.drawn.spanWrite (whoAt s va) net 64 dst.1 m (allBytes m) (s.freeVal 512).toNat
      else s.spanWrite (whoAt s va) net 64 dst.1 m (allBytes m) x
    (if w.1 = 0 then none else some true, w.2)

/-- Run over the descriptor chunk by chunk from offset `o` (R231 to R233). `at_` is an error response that the network brings to the chunk which holds
that offset. Chunks already issued beyond a failing one may be carried out or not (log entry 1). -/
def State.mvRun (s : State) (b t : Nat) (d : Desc) (at_ : Option (Nat × Bool)) (net : Net) (failed : Option (Nat × Bool)) :
    Nat → Nat → Nat → MvEnd × State
  | 0, _, _ => (match failed with
      | some (f, dir) => .fault f 0x15 dir
      | none => .done, s)
  | fuel + 1, o, later =>
    if d.len ≤ o ∨ (failed.isSome ∧ 15 ≤ later) then
      (match failed with
        | some (f, dir) => .fault f 0x15 dir
        | none => .done, s)
    else
      let va := d.dst + o
      let n := min (64 - va % 64) (d.len - o)
      let q := b / 32
      let sp := if d.fill then (n, 0, (0, 0), s) else s.spanPages q t (d.src + o) n false
      let dp := sp.2.2.2.spanPages q t va n true
      let s := dp.2.2.2
      let m := min sp.1 dp.1
      let stop := decide (m < n)
      let srcFirst := if sp.1 = dp.1 then s.freeChoice else decide (sp.1 < dp.1)
      let s := if stop && decide (sp.1 = dp.1) then s.drawn else s
      match failed with
      | some (f, dir) =>
        if stop then (.fault f 0x15 dir, s)
        else
          let s' := if s.freeChoice then (s.drawn.moveChunk b t d o m va sp.2.2.1 dp.2.2.1 net).2 else s.drawn
          s'.mvRun b t d at_ net failed fuel (o + n) (later + 1)
      | none =>
        let hit := match at_ with
          | some (x, dir) => if o ≤ x ∧ x < o + m then some dir else none
          | none => none
        let r := match hit with
          | some dir => (some dir, s)
          | none => s.moveChunk b t d o m va sp.2.2.1 dp.2.2.1 net
        match r.1 with
        | some dir => if stop then (.fault o 0x15 dir, r.2) else r.2.mvRun b t d at_ net (some (o, dir)) fuel (o + n) 0
        | none =>
          if stop then (.fault (o + m) (if srcFirst then sp.2.1 else dp.2.1) (!srcFirst), r.2)
          else r.2.mvRun b t d at_ net none fuel (o + n) 0

/-- The descriptor of an active mover runs to its end: its completion, or FAULTED with the record of R232 and R233. -/
def State.mvWork (s : State) (b n : Nat) (at_ : Option (Nat × Bool)) (net : Net) : State :=
  let a := mvA b n
  match (s.mover (b * 4 + n)).desc with
  | none => s
  | some d =>
    let r := s.mvRun b (s.rd a R.MV_CFG.TCTX) d at_ net none (d.len / 64 + 2) (s.rd a R.MV_DONE.BYTES_DONE) 0
    let s := r.2
    match r.1 with
    | .done => (s.wr a R.MV_DONE.BYTES_DONE d.len).mvEnd b n d.cpl ⟨d.tag, 0, 0, d.len, 0, d.evt⟩
    | .fault off cause dst =>
      let va := ((if dst then d.dst else d.src) + off) % 2 ^ 48
      let s := (s.wr a R.MV_DONE.BYTES_DONE off).wr a R.MV_FINFO.CAUSE cause
      let s := (s.wr a R.MV_FINFO.DIR (if dst then 1 else 0)).wr a R.MV_FINFO.TAG d.tag
      let s := (s.wr a R.MV_FVA_LO.FVA va).wr a R.MV_FVA_HI.FVA (va / 2 ^ 32)
      (s.setMvState b n 2).raise (4 * b + 1)

/-- Whether a mover has a descriptor to run; under a debug halt it issues nothing (R228). -/
def State.mvActive (s : State) (b n : Nat) : Bool :=
  s.mvOk b n && s.engineOn b && !s.halted b && decide (s.mvState b n = 1) && decide ((s.mover (b * 4 + n)).cpl = none)

/-- MOVER_DESCRIPTOR_DONE (R231): every chunk of the descriptor is carried out; one that fails ends it as MOVER_FAULT does. -/
def execMoverDescriptorDone (b n : Nat) (net : Net) (s : State) : Host.Outcome State Fault Refusal :=
  .next <| if s.mvActive b n then s.mvWork b n none net else s
/-- MOVER_FAULT (R232, R233): `at_` is the offset at which the network brings an error response, and whether to the write. -/
def execMoverFault (b n : Nat) (at_ : Option (Nat × Bool)) (net : Net) (s : State) : Host.Outcome State Fault Refusal :=
  .next <| if s.mvActive b n then s.mvWork b n at_ net else s

/-! ## Host accesses through a BAR (R10, R245, R246, R425) -/

/-- The base of a BAR and whether it is enabled, with its translation context (R424, R425). -/
def State.bar (s : State) (f k : Nat) : Nat × Bool × Nat :=
  if f = 0 then (if k = 0 then 0xC000000000 else 0xD000000000, decide (k < 2), 0)
  else
    let a := pfA f
    let base := s.rd a (R.BAR_VB_LO.VBASE.shift (0x10 * k)) * 2 ^ 20 + s.rd a (R.BAR_VB_HI.VBASE.shift (0x10 * k)) * 2 ^ 32
    let size := 2 ^ s.barLog f k
    (base / size * size, s.bit a (R.BAR_CFG.EN.shift (0x10 * k)) && decide (s.barLog f k ≠ 0), s.rd a (R.BAR_CFG.TCTX.shift (0x10 * k)))

/-- Record a host fault (R245, R246). -/
def State.hostFault (s : State) (f cause va : Nat) (write : Bool) : State :=
  let a := hfltA f
  let s := s.bump a R.HFLT_CNT.COUNT 1
  let s :=
    if s.bit a R.HFLT_STAT.VALID then s.wr a R.HFLT_STAT.OVERFLOW 1
    else
      let s := ((s.wr a R.HFLT_STAT.VALID 1).wr a R.HFLT_STAT.WRITE (if write then 1 else 0)).wr a R.HFLT_STAT.CAUSE cause
      (s.wr a R.HFLT_VA_LO.VA va).wr a R.HFLT_VA_HI.VA (va / 2 ^ 32)
  s.raise 732

/-- Translate every page of a host request before any access (R243): the cause and virtual address of the first that faults, else the physical
address of each page in turn. -/
def State.hostPages (s : State) (t : Nat) (write : Bool) : Nat → Nat → Nat → Option (Nat × Nat) × List (Nat × Nat) × State
  | 0, _, _ => (none, [], s)
  | fuel + 1, va, n =>
    if n = 0 then (none, [], s)
    else
      let m := min n (4096 - va % 4096)
      let r := s.translate 0 t (va % 2 ^ 48) write
      if r.1 ≠ 0 then (some (r.1, va), [], r.2.2)
      else
        let w := r.2.2.hostPages t write fuel (va + m) (n - m)
        (w.1, (r.2.1, m) :: w.2.1, w.2.2)

/-- The host as a requester: the PCIe port's control router (R254). -/
def hostWho : Who := ⟨controlRouter 0, 1, false, false, 3, false⟩

/-- Whether a request for `n` bytes breaks the widths of R9 and R10 in register space. -/
def widthRefused (pages : List (Nat × Nat)) (n : Nat) : Bool :=
  pages.any fun p => registerSpace p.1 && !(decide (n = 4 ∨ n = 8) && decide (p.1 % 4 = 0))

/-- Read the pages of a host request in turn. -/
def State.hostReads (s : State) (net : Net) : List (Nat × Nat) → Nat × Nat × State
  | [] => (0, 0, s)
  | p :: t =>
    let r := s.spanRead hostWho net (p.2 + 1) p.1 p.2
    if r.1 ≠ 0 then (r.1, 0, r.2.2)
    else
      let w := r.2.2.hostReads net t
      (w.1, r.2.1 + 2 ^ (8 * p.2) * w.2.1, w.2.2)

/-- Write the pages of a host request in turn. -/
def State.hostWrites (s : State) (net : Net) : List (Nat × Nat) → Nat → Nat → Nat × State
  | [], _, _ => (0, s)
  | p :: t, be, v =>
    let r := s.spanWrite hostWho net (p.2 + 1) p.1 p.2 (be % 2 ^ p.2) (v % 2 ^ (8 * p.2))
    let w := r.2.hostWrites net t (be / 2 ^ p.2) (v / 2 ^ (8 * p.2))
    (if r.1 ≠ 0 then r.1 else w.1, w.2)

/-- Whether the link serves function `f` (R420, R421). -/
def State.hostServed (s : State) (f : Nat) : Bool := s.pfOk f && s.load.link && decide (s.power.dev = 0)

/-- A read by the host (R10, R245, R425): `addr` is the offset in the BAR. An error response of the target is a Completer Abort (log entry 33). -/
def State.hostRead (s : State) (f bar addr len : Nat) (net : Net) : State :=
  if s.hostServed f then
    let w := s.bar f (bar / 2)
    if w.2.1 = false ∨ 2 ^ s.barLog f (bar / 2) < addr + len then s.emit (.completion f 1 0)
    else
      let p := s.hostPages w.2.2 false (len + 1) (w.1 + addr) len
      match p.1 with
      | some (cause, va) => (p.2.2.hostFault f cause va false).emit (.completion f 4 0)
      | none =>
        if widthRefused p.2.1 len then p.2.2.emit (.completion f 4 0)
        else
          let r := p.2.2.hostReads net p.2.1
          if r.1 = 0 then r.2.2.emit (.completion f 0 r.2.1)
          else r.2.2.emit (.completion f 4 0)
  else s

/-- A write by the host (R10, R245, R425): `data` and its byte enables begin at the byte that `addr` names. It is posted: an error response of the
target is not recorded (log entry 33). -/
def State.hostWrite (s : State) (f bar addr len data be : Nat) (net : Net) : State :=
  if s.hostServed f then
    let w := s.bar f (bar / 2)
    if w.2.1 = false ∨ 2 ^ s.barLog f (bar / 2) < addr + len then s
    else
      let p := s.hostPages w.2.2 true (len + 1) (w.1 + addr) len
      match p.1 with
      | some (cause, va) => p.2.2.hostFault f cause va true
      | none =>
        if widthRefused p.2.1 len then p.2.2.hostFault f 0x15 (w.1 + addr) true
        else (p.2.2.hostWrites net p.2.1 be data).2
  else s

end Sys2Proof.Machine
end

