-- ==== Sys2Proof/Machine/Resets.lean ====
section
/-! DEFINITION. Machine/Resets.lean: the reset domains (R17, R43 to R48), supply and restart (R419 to R421, R451 to R454, R472, R476, R477), PCIe
configuration requests and function resets (R420 to R424), telemetry (R522 to R524), the device watchdog (R504) and the JTAG instructions that reach
registers or reset (R492, R493). -/
namespace Sys2Proof.Machine
open Sys2Proof

/-! ## Which fields a reset reaches -/

/-- The reset domain of a register field by its key. -/
def keyDom (k : Nat) : Dom :=
  match locate (k / 32) with
  | some (_, g, _, off) =>
    match g.table.find? (fun r => r.covers off (k % 32)) with
    | some r => r.dom
    | none => .quadrant
  | none => .quadrant

/-- The quadrant in whose windows a register field lies. -/
def keyQuad (k : Nat) : Nat :=
  match locate (k / 32) with
  | some (w, g, _, _) => if g.inBay then w / 32 else w
  | none => 4

/-- Whether a device reset reaches a field. -/
def devKey (k : Nat) : Bool := decide (keyDom k ≠ Dom.powerOn) && decide (keyDom k ≠ Dom.vin)

/-- Whether a reset of quadrant `q` reaches a field. -/
def quadKey (q k : Nat) : Bool := decide (keyQuad k = q) && devKey k && decide (keyDom k ≠ Dom.device)

/-! ## Leaving a reset (R48, R131, R436, R517) -/

/-- Bays whose reset was part of the quadrant's end it in HOLD (R436); lanes show their reference. -/
def State.quadUp (s : State) (q : Nat) : State :=
  ((List.range 32).foldl (fun s k =>
    if s.bayState (32 * q + k) = 2 then s.wr (bayA (32 * q + k)) R.BAY_STATE.STATE 3 else s) s).showRef q

/-- Train every present bridge (R517). -/
def State.trainAll (s : State) : State := (List.range 4).foldl (fun s b => s.trainBridge b) s

/-- Whether every present die shares the compatibility class of Q0 (R421). -/
def State.oneClass (s : State) : Bool :=
  s.quads.all fun q => decide (Tab.get (fun _ => 0) s.fuses.compat q % 16 = Tab.get (fun _ => 0) s.fuses.compat 0 % 16)

/-- Dies of different classes halt the start-up until the next power-on reset (R421, R437). -/
def State.classHalt (s : State) : State :=
  if s.oneClass then s else ((s.setCfgState 9).wr (cfgA 0) R.CFG_STAT.ERR 6).errLine true

/-! ## The power-on reset (R43, R451) -/

/-- A power-on reset: everything on the quadrant dies returns to its reset state; the sticky power record stays (R454), and so does what lies outside the
device: the part, the supply, the level of PERST_N and the lane reference clocks. -/
def State.powerOnReset (s : State) : State :=
  let t : State := { State.reset with
    pending := s.pending
    fuses := s.fuses
    flds := Tab.drop (fun k => decide (keyDom k ≠ Dom.vin)) s.flds
    out := s.out
    free := s.free
    lrefOff := s.lrefOff
    power := { PowerSt.init with on := s.power.on, perstLow := s.power.perstLow } }
  t.newNonce.wr (dbgA 0) R.DBG_LEVEL.LEVEL t.dbgOpen

/-- The power-on steps begin (R419): bridges train in step 5. -/
def State.startUp (s : State) : State := (s.powerOnReset).trainAll

/-- Set a bit of the sticky record (R454, R479). -/
def State.sticky (s : State) (f : Fld) : State := s.wr (pwrA 0) f 1

/-- VIN_START (R451): VIN rises through the start threshold. A running device, and one held in S4, is not restarted by it (R460; log entry 40). -/
def execVinStart (s : State) : Host.Outcome State Fault Refusal :=
  .next <|
    if s.power.dev ≠ 4 ∧ (s.power.on = false ∨ s.power.stepsDone = false) then
      { s with power := { s.power with on := true } }.startUp
    else s

/-- POWER_ON_STEPS_DONE (R419, R421): bridges have left training. -/
def execPowerOnStepsDone (s : State) : Host.Outcome State Fault Refusal :=
  .next <|
    if s.power.on && !s.power.stepsDone && (List.range 4).all (fun b => (s.brgSides b).all (fun p => decide (s.brg p R.BRG_STAT.STATE ≠ 1))) then
      let s := { s with power := { s.power with stepsDone := true } }
      (s.quads.foldl (fun s q => s.quadUp q) s).classHalt
    else s

/-- BROWNOUT (R43, R451). -/
def execBrownout (s : State) : Host.Outcome State Fault Refusal :=
  .next <|
    if s.power.on then { (s.powerOnReset.sticky R.PWR_STICKY.BROWNOUT) with power := { PowerSt.init with on := false, perstLow := s.power.perstLow } }
    else s

/-- RECORD_LOSS (R451, R454): the record is cleared but for VIN_FRESH. -/
def execRecordLoss (s : State) : Host.Outcome State Fault Refusal :=
  .next { s with flds := Tab.drop (fun k => decide (keyDom k = Dom.vin)) s.flds }

/-- IBUS_UNDERVOLTAGE (R453): in S3 and S4 the bus is off. -/
def execIbusUndervoltage (s : State) : Host.Outcome State Fault Refusal :=
  .next <| if s.power.on && decide (s.power.dev = 0) then s.startUp.sticky R.PWR_STICKY.IBUS_UV else s

/-- REG_FAULT (R479). -/
def execRegFault (s : State) : Host.Outcome State Fault Refusal :=
  .next <| if s.power.on && decide (s.power.dev ≠ 4) then s.startUp.sticky R.PWR_STICKY.REG_FAULT else s

/-- SB_OVERCURRENT (R472): retained state is lost and the device makes a cold start. In S4 the standby rail is off (R476). -/
def execSbOvercurrent (s : State) : Host.Outcome State Fault Refusal :=
  .next <| if s.power.on && decide (s.power.dev ≠ 4) then s.startUp.sticky R.PWR_STICKY.SB_OVERCURRENT else s

/-- The device is off in S4; `thermal` says that a cool die restarts it (R460, R476, R477). -/
def State.enterS4 (s : State) (thermal : Bool) : State :=
  let t := s.powerOnReset
  { t with power := { t.power with dev := 4, thermal := thermal } }

/-- THERMAL_SHUTDOWN (R476, R477): a second one within 60 s of a thermal restart holds the device in S4. -/
def execThermalShutdown (s : State) : Host.Outcome State Fault Refusal :=
  .next <|
    if s.power.on && decide (s.power.dev ≠ 4) then
      let again := s.power.thermal && decide (s.counter < 60000000000)
      let t := (s.enterS4 (!again)).sticky R.PWR_STICKY.THERM_SHUTDOWN
      if again then t.sticky R.PWR_STICKY.THERM_REPEAT else t
    else s

/-- THERMAL_RESTART (R477). -/
def execThermalRestart (s : State) : Host.Outcome State Fault Refusal :=
  .next <|
    if s.power.on && decide (s.power.dev = 4) && s.power.thermal then
      let t := s.startUp
      { t with power := { t.power with thermal := true } }
    else s

/-! ## The device reset (R43, R45, R46, R434) -/

/-- What a device reset makes of the device: every field and unit that it reaches returns to its reset state. The contents of SRAM and stores, the counter and
the time unit, and everything of the power-on domain stay. -/
def State.deviceClear (s : State) : State :=
  let s := { s with
    flds := Tab.drop devKey s.flds
    mem := Tab.drop (fun k => decide (dramA 0 0 ≤ k)) s.mem
    chk := Tab.drop (fun k => decide (chkLine 0 0 ≤ k)) s.chk
    image := [], bays := [], ctxs := [], movers := [], islands := [], cells := [], chans := [], outst := [], flight := []
    blocked := [], throttled := [], naps := [], probes := [], xus := [], invWait := [], mcs := [], sgFired := [], evts := []
    deeps := [], dbgs := [], sinks := [], xsig := [], lanes := [], macs := [], cans := [], mbxs := [], badFr := []
    shadow := [], lostSh := [], userObjs := [], sessions := [], pfSt := [], agent := AgentSt.init, load := LoadSt.init
    power := { PowerSt.init with on := s.power.on, stepsDone := s.power.stepsDone, thermal := s.power.thermal, perstLow := s.power.perstLow, timer := s.power.timer } }
  let s := (List.range 16).foldl (fun s p => s.setPort p { s.port p with up := false }) s
  (s.newNonce).wr (dbgA 0) R.DBG_LEVEL.LEVEL s.dbgOpen

/-- RST_CAUSE of a quadrant records a reset (R42). -/
def State.recordReset (s : State) (q cause : Nat) : State :=
  (s.bump (idA q) R.RST_CAUSE.COUNT 1).wr (idA q) R.RST_CAUSE.CAUSE cause

/-- A device reset begins, for a cause of R42. During the power-on steps or another device reset it is absorbed (R46); in S3 and S4 nothing applies one. -/
def State.deviceReset (s : State) (cause : Nat) : State :=
  if s.power.on && s.power.stepsDone && decide (s.power.dev = 0) && !s.qReset 0 then
    let s := s.deviceClear
    (s.quads.foldl (fun s q => (s.recordReset q cause).setQReset q true) s).classHalt
  else s

/-- DEVICE_RESET_DONE (R43): every quadrant leaves reset in its reset state, and the bridges train (R518; log entry 36). -/
def execDeviceResetDone (s : State) : Host.Outcome State Fault Refusal :=
  .next <|
    if s.qReset 0 then
      let s := s.deviceClear.classHalt
      let s := s.quads.foldl (fun s q => s.setQReset q false) s
      (s.quads.foldl (fun s q => s.quadUp q) s).trainAll
    else s

/-- From the commit point of an S3 entry until its exit completes, PERST_N is a wake source only (R465). -/
def State.perstMasked (s : State) : Bool := decide (s.power.dev = 3) || (decide (2 ≤ s.power.phase) && decide (s.power.curS = 3))

/-- PERST_ASSERT (R43, R465): the falling edge of PERST_N raises event 702, and resets the device unless it only wakes it. -/
def execPerstAssert (s : State) : Host.Outcome State Fault Refusal :=
  .next <|
    if s.power.on && !s.power.perstLow then
      let s := { s with power := { s.power with perstLow := true } }.raise 702
      if s.perstMasked then s else s.deviceReset 1
    else { s with power := { s.power with perstLow := true } }

/-- PERST_RELEASE (R420): the link may come up once the device reset is complete. -/
def execPerstRelease (s : State) : Host.Outcome State Fault Refusal := .next { s with power := { s.power with perstLow := false } }

/-- DEVICE_WDOG_EXPIRY (R504). -/
def execDeviceWdogExpiry (s : State) : Host.Outcome State Fault Refusal := .next (s.deviceReset 3)

/-! ## The quadrant reset (R43 to R48, R519) -/

/-- Requests and responses that a reset of quadrant `q` catches (R47): those inside it, and those addressed to it, are gone. Whether one that it has sent had
already left is open (log entry 1). -/
def State.quadPackets (s : State) (q : Nat) : State :=
  let mine := fun (port : Nat) => decide (rtQuad (port / 4) = q)
  let s := { s with
    outst := s.outst.filter (fun o => !mine o.port)
    blocked := s.blocked.filter (fun h => !mine h.port && decide (rtQuad h.router ≠ q))
    throttled := Tab.drop (fun k => mine (k / 8)) s.throttled }
  let old := s.flight
  old.foldl (fun s r =>
    if mine r.port then s
    else if (s.route r.src (r.port / 4)).any (fun n => decide (rtQuad n = q)) then
      (if s.freeChoice then { s with flight := s.flight ++ [r] } else s).drawn
    else { s with flight := s.flight ++ [r] }) { s with flight := [] }

/-- The channels of quadrant `q`'s islands: those inside it are empty, and so are those that come in over its bridges. -/
def State.quadChannels (s : State) (q : Nat) : State :=
  let s := s.cells.foldl (fun s kv =>
    match kv.2 with
    | none => s
    | some cfg =>
      if kv.1 / 96 = q then cfg.chans.foldl (fun s x => if x.source then s else s.setChan (s.chanId kv.1 x.edge x.chan) Chan.init) s else s) s
  { s with chans := Tab.drop (fun k => decide (k / 512 / 96 = q) && (s.bridgeEnd (k / 512) (k / 64 % 8) (k % 64)).isNone) s.chans }

/-- Whether a register field belongs to a memory controller or an I/O cell of quadrant `q`: these take their image values after a reset (R320, R538). -/
def quadImageKey (q k : Nat) : Bool :=
  match locate (k / 32) with
  | some (w, .mc, _, _) => decide (w = q)
  | some (w, .iopin, _, _) => decide (w = q)
  | some (w, .iogen, _, _) => decide (w = q)
  | _ => false

/-- What a reset of quadrant `q` makes of its die. -/
def State.quadClear (s : State) (q : Nat) : State :=
  let s := (List.range 4).foldl (fun s b => if (s.brgSides b).any (fun p => decide (p.1 = q)) then s.brgBecomes b 0 0 else s) s
  let s := (List.range 32).foldl (fun s k => s.loseShadow (32 * q + k)) s
  let s := (List.range 17).foldl (fun s n =>
    if (s.sess n).st < 2 then s else s.setSess n { s.sess n with lostQ := (s.sess n).lostQ ++ [q] }) s
  let s := (s.quadPackets q).quadChannels q
  let per := fun (n : Nat) (k : Nat) => decide (k / n = q)
  let s := { s with
    flds := Tab.drop (quadKey q) s.flds
    image := Tab.drop (fun k => decide (keyQuad k = q) && !quadImageKey q k) s.image
    bays := Tab.drop (per 32) s.bays
    ctxs := Tab.drop (per 1024) s.ctxs
    movers := Tab.drop (per 128) s.movers
    islands := Tab.drop (per 96) s.islands
    cells := Tab.drop (per 96) s.cells
    naps := Tab.drop (fun n => decide (rtQuad n = q)) s.naps
    probes := Tab.drop (per 8) s.probes
    xus := Tab.drop (per 1) s.xus
    invWait := s.invWait.filter (fun x => decide (x.1 / 4 ≠ q))
    sgFired := Tab.drop (per 1) s.sgFired
    deeps := Tab.drop (per 16) s.deeps
    dbgs := Tab.drop (per 32) s.dbgs
    sinks := Tab.drop (per 1) s.sinks
    lanes := Tab.drop (fun l => decide (lnQuad l = q)) s.lanes
    macs := Tab.drop (per 4) s.macs
    cans := Tab.drop (per 2) s.cans
    mbxs := Tab.drop (per 40) s.mbxs
    power := { s.power with
      asleep := s.power.asleep.filter (fun x =>
        !decide (x.1 < 1000 ∧ x.1 / 96 = q) && !decide (1000 ≤ x.1 ∧ x.1 < 2000 ∧ (x.1 - 1000) / 32 = q) && !decide (2000 ≤ x.1 ∧ (x.1 - 2000) / 16 = q))
      fenced := s.power.fenced.filter (fun x =>
        !decide (x.1 < 1000 ∧ x.1 / 96 = q) && !decide (1000 ≤ x.1 ∧ x.1 < 2000 ∧ (x.1 - 1000) / 32 = q) && !decide (2000 ≤ x.1 ∧ (x.1 - 2000) / 16 = q)) } }
  let s := (List.range 2).foldl (fun s k => (s.dropContents (2 * q + k) true).setMc (2 * q + k) McSt.init) s
  (List.range 4).foldl (fun s j =>
    match portOfLane (96 + 6 * q + j) with
    | some p => s.setPort p { s.port p with up := false }
    | none => s) s

/-- A quadrant reset begins (R43, R46): only Q1 to Q3 have one of their own; a second one, or one inside a device reset, is absorbed. -/
def State.quadReset (s : State) (q cause : Nat) : State :=
  if decide (1 ≤ q ∧ q < 4) && s.quadOk q && s.power.on && s.power.stepsDone && !s.qReset 0 && !s.qReset q then
    let s := ((s.quadClear q).recordReset q cause).setQReset q true
    s.modLoad fun v => { v with fresh := q :: v.fresh.filter (· ≠ q) }
  else s

/-- Whether a register of Q0 belongs to the tables that a quadrant copies when it leaves its reset: translation contexts and the memory map (R236, R292). -/
def copiedKey (k : Nat) : Bool :=
  match locate (k / 32) with
  | some (0, .tctx, _, _) => true
  | some (0, .memmap, _, off) => decide (off = 0 ∨ 0x100 ≤ off)
  | _ => false

/-- Copy the tables of Q0 to quadrant `q`. -/
def State.copyTables (s : State) (q : Nat) : State :=
  s.flds.foldl (fun s kv => if copiedKey kv.1 then { s with flds := Tab.put regReset s.flds (kv.1 + q * 0x10000000 * 32) kv.2 } else s) s

/-- QUADRANT_RESET_DONE (R43, R48, R320, R538). -/
def execQuadrantResetDone (q : Nat) (s : State) : Host.Outcome State Fault Refusal :=
  .next <|
    if decide (1 ≤ q ∧ q < 4) && s.qReset q && !s.qReset 0 then
      let s := (((s.setQReset q false).copyTables q).loadImage (quadImageKey q)).quadUp q
      (List.range 4).foldl (fun s b => if (s.brgSides b).any (fun p => decide (p.1 = q)) then s.trainBridge b else s) s
    else s

/-! ## Telemetry (R522 to R524) -/

/-- TELEMETRY_SEND (R522, R523): the record of a quadrant's follower code reaches Q0 and ends a loss; a blocked route holds it (R275). -/
def execTelemetrySend (q : Nat) (s : State) : Host.Outcome State Fault Refusal :=
  .next <|
    if decide (1 ≤ q ∧ q < 4) && s.quadOk q && !s.qReset q && !s.qReset 0 then
      match s.heldOn (s.route (controlRouter q) (controlRouter 0)) with
      | some h => s.hold h false (portOf (controlRouter 0) 1) (0x4000 + q) false
      | none =>
        let s := s.unhold false (portOf (controlRouter 0) 1) (0x4000 + q) false
        let lost := s.rd (pwrA 0) R.TELEM_STAT.LOST
        if lost.testBit (q - 1) then (s.wr (pwrA 0) R.TELEM_STAT.LOST (clearBits lost (2 ^ (q - 1)))).raise (764 + q) else s
    else s

/-- TELEMETRY_LOST (R523): LOST[q] sets; with FAULT_RESET[q] the quadrant is reset, after the load where one is in progress. -/
def execTelemetryLost (q : Nat) (s : State) : Host.Outcome State Fault Refusal :=
  .next <|
    if decide (1 ≤ q ∧ q < 4) && s.quadOk q then
      let lost := s.rd (pwrA 0) R.TELEM_STAT.LOST
      let s := if lost.testBit (q - 1) then s else (s.wr (pwrA 0) R.TELEM_STAT.LOST (lost ||| 2 ^ (q - 1))).raise (764 + q)
      if (s.rd (pwrA 0) R.TELEM_CFG.FAULT_RESET).testBit (q - 1) && !s.qReset q then
        if s.loadBusy then { s with power := { s.power with faultQ := q :: s.power.faultQ.filter (· ≠ q) } }
        else s.quadReset q 7
      else s
    else s

/-- Fault resets that waited for the end of a load (R523). -/
def State.faultResets (s : State) : State :=
  if s.loadBusy ∨ s.power.faultQ = [] then s
  else s.power.faultQ.foldl (fun s q => s.quadReset q 7) { s with power := { s.power with faultQ := [] } }

/-! ## The PCIe port (R420 to R424) -/

/-- PCIE_LINK_UP (R420): after the device reset, with PERST_N released, the link reaches L0 and the readiness window opens. -/
def execPcieLinkUp (s : State) : Host.Outcome State Fault Refusal :=
  .next <|
    if s.power.on && s.power.stepsDone && decide (s.power.dev = 0) && !s.qReset 0 && !s.power.perstLow then
      s.modLoad fun v => { v with link := true, window := !v.link || v.window }
    else s

/-- The device ID of PF0 (R424). -/
def State.deviceId (s : State) : Nat :=
  match s.fuses.part with
  | .abn9640 => 0x9640
  | .abn9620 => 0x9620
  | .abn9610 => 0x9610

/-- PCIE_CONFIG_REQUEST (R420, R421, R424): before CONFIGURED, PF1 to PF7 ask for a retry; dies of different classes present PF0 alone. The
configuration space is the PCI Express specification's: of it the model holds the command register (offset 4), which an FLR clears, and PF0's device ID
(offset 0, upper half); every other value that a read returns is open (log entry 41). -/
def execPcieConfigRequest (f offset : Nat) (write : Bool) (value : Nat) (s : State) : Host.Outcome State Fault Refusal :=
  .next <|
    if s.load.link && decide (s.power.dev = 0) && !s.qReset 0 then
      if !s.pfOk f || (decide (f ≠ 0) && decide (s.cfgState = 9)) then s.emit (.config f 1 0)
      else if f ≠ 0 ∧ s.cfgState ≠ 5 ∧ s.cfgState ≠ 6 then s.emit (.config f 2 0)
      else if write then
        (if offset = 4 then s.setPfState f { s.pfState f with command := value % 65536 } else s).emit (.config f 0 0)
      else
        let x := (s.freeVal 32).toNat
        let v :=
          if offset = 0 ∧ f = 0 then s.deviceId * 65536 + (Config.freeBits 16 0).toNat
          else if offset = 4 then x / 65536 * 65536 + (s.pfState f).command
          else x
        s.drawn.emit (.config f 0 v)
    else s

/-- FLR (R423): the function's PCIe state is cleared; no unit of the device is reset. -/
def execFlr (f : Nat) (s : State) : Host.Outcome State Fault Refusal :=
  .next <| if s.pfOk f && s.load.link then s.setPfState f PfSt.init else s

/-! ## JTAG (R492, R493) -/

/-- DEVRESET (R486, R492): at level 2 a device reset with cause JTAG; else it acts as BYPASS (log entry 28). -/
def execDevreset (s : State) : Host.Outcome State Fault Refusal :=
  .next <|
    if 2 ≤ s.level then (s.tap 0x11 0 (.scan 1 0)).deviceReset 5 else (s.levelDenied 0).bypass

/-- Whether the debug level denies a field or command of an access to the Q0 debug block (R486). -/
def State.dapDenied (s : State) (write : Bool) (a v : Nat) : Bool :=
  if write then ((s.wr (dbgA 0) R.DBG_STAT.LEVEL_DENIED 0).regStore a v).bit (dbgA 0) R.DBG_STAT.LEVEL_DENIED
  else
    match locate a with
    | some (_, g, _, off) => decide (s.level < readLevel g off)
    | none => false

/-- DAP (R486, R490, R493): an access to the Q0 debug block at byte `offset`, with the debug attribute; its status and data leave at the next Capture-DR. -/
def execDap (op offset data : Nat) (s : State) : Host.Outcome State Fault Refusal :=
  .next <|
    let a := quadA 0 + 0x900000 + offset % 0x100000 / 4 * 4
    let ends := fun (s : State) (st v : Nat) => ({ s with jtag := { s.jtag with ir := 0x10, balls := 0, status := st, data := v } }).emit (.dap st v)
    match op % 4 with
    | 1 =>
      if s.dapDenied false a 0 then ends (s.regRead true a).2 2 0
      else
        let r := s.regRead true a
        ends r.2 0 r.1
    | 2 =>
      let denied := s.dapDenied true a data
      ends (s.regStore a (data % 2 ^ 32)) (if denied then 2 else 0) s.jtag.data
    | _ => { s with jtag := { s.jtag with ir := 0x10, balls := 0 } }

end Sys2Proof.Machine
end

