-- ==== Sys2Proof/Machine/Agent.lean ====
section
/-! DEFINITION. Machine/Agent.lean: the agent of the object dictionary as a reader and writer of Clanex messages (R401 to R406): the layout of messages and
records, the mailbox, UDP, CAN FD and system-link transports, and kept answers. What the operations do stands in Machine/Sessions.lean. -/
namespace Sys2Proof.Machine
open Sys2Proof

/-! ## Bytes -/

/-- A byte string. -/
abbrev Bytes := List (BitVec 8)

/-- Byte `i` of a string, 0 beyond its end. -/
def byteAt (l : Bytes) (i : Nat) : Nat := ((l[i]?).map BitVec.toNat).getD 0
/-- The number in `n` bytes from byte `i` on, least significant first (R381, R402). -/
def leAt (l : Bytes) (i n : Nat) : Nat := (List.range n).foldl (fun v k => v + byteAt l (i + k) * 256 ^ k) 0
/-- The number in `n` bytes from byte `i` on, most significant first, as network headers have it. -/
def beAt (l : Bytes) (i n : Nat) : Nat := (List.range n).foldl (fun v k => v * 256 + byteAt l (i + k)) 0
/-- The low `n` bytes of a number, least significant first. -/
def leBytes (v n : Nat) : Bytes := (List.range n).map fun k => BitVec.ofNat 8 (v / 256 ^ k)
/-- The low `n` bytes of a number, most significant first. -/
def beBytes (v n : Nat) : Bytes := (leBytes v n).reverse
/-- Zero bytes. -/
def zeros (n : Nat) : Bytes := List.replicate n 0

/-! ## Messages (R402 to R404) -/

/-- What a request asks for (R404). `bad` is an operation code or an argument block that R404 refuses. -/
inductive ClOp where
  | read (recs : List ClRec)
  | write (recs : List ClRec)
  | begin
  | commit (mode frame : Nat)
  | rollback
  | describe (recs : List ClRec)
  | global (gop at_ : Nat)
  | bad
  deriving DecidableEq, Repr

/-- The operation code (R404). -/
def ClOp.code : ClOp → Nat
  | .read _ => 1
  | .write _ => 2
  | .begin => 3
  | .commit _ _ => 4
  | .rollback => 5
  | .describe _ => 6
  | .global _ _ => 0x10
  | .bad => 0

/-- The records of a request. -/
def ClOp.recs : ClOp → List ClRec
  | .read r => r
  | .write r => r
  | .describe r => r
  | _ => []

/-- The bytes of a record with its status (R403). -/
def recPack (r : ClRec) (st : Nat) : Bytes :=
  leBytes r.index 2 ++ leBytes r.sub 1 ++ leBytes r.type 1 ++ leBytes r.len 2 ++ leBytes st 1 ++ zeros 1 ++ leBytes r.val r.len ++ zeros ((4 - r.len % 4) % 4)

/-- The bytes of a request that has the given operation. -/
def ClOp.size (o : ClOp) : Nat :=
  16 + (match o with
    | .commit _ _ => 8
    | .global _ _ => 24
    | _ => 0) + (o.recs.map (fun r => 8 + (r.len + 3) / 4 * 4)).foldl (· + ·) 0

/-- Read `n` records from byte `i` on; none where the message ends before them. -/
def parseRecs (l : Bytes) : Nat → Nat → Option (List ClRec)
  | 0, _ => some []
  | n + 1, i =>
    let len := leAt l (i + 4) 2
    if l.length < i + 8 + len then none
    else (parseRecs l n (i + 8 + (len + 3) / 4 * 4)).map fun t => ⟨leAt l i 2, byteAt l (i + 2), byteAt l (i + 3), len, leAt l (i + 8) len⟩ :: t

/-- The header of a message (R402). -/
def headOf (l : Bytes) : ClHead := ⟨leAt l 4 2, leAt l 6 2, leAt l 8 2, byteAt l 10, (byteAt l 2) % 2 = 1, leAt l 14 2⟩

/-- Whether the bytes from `i` on, `n` of them, are zero. -/
def allZero (l : Bytes) (i n : Nat) : Bool := (List.range n).all fun k => decide (byteAt l (i + k) = 0)

/-- The operation of a request (R402, R404). -/
def opOf (l : Bytes) : ClOp :=
  let n := leAt l 12 2
  if l.length < 16 ∨ byteAt l 0 ≠ 1 ∨ 1 < byteAt l 2 ∨ byteAt l 3 ≠ 0 ∨ byteAt l 11 ≠ 0 then .bad
  else
    let recs := fun (f : List ClRec → ClOp) => ((parseRecs l n 16).map f).getD .bad
    match byteAt l 1 with
    | 1 => recs .read
    | 2 => recs .write
    | 3 => .begin
    | 4 => if l.length < 24 ∨ 2 < byteAt l 16 ∨ !allZero l 17 3 then .bad else .commit (byteAt l 16) (leAt l 20 4)
    | 5 => .rollback
    | 6 => recs .describe
    | 0x10 => if l.length < 40 ∨ byteAt l 16 = 0 ∨ 5 < byteAt l 16 ∨ !allZero l 17 7 then .bad else .global (byteAt l 16) (leAt l 24 16)
    | _ => .bad

/-- An answer (R402): header with the status, argument block, and records with their statuses. Bits that the spec gives a request alone are 0. -/
def answerBytes (node : Nat) (h : ClHead) (op status session : Nat) (arg : Bytes) (recs : List (ClRec × Nat)) : Bytes :=
  leBytes 1 1 ++ leBytes (op + 0x80) 1 ++ zeros 1 ++ leBytes status 1 ++ leBytes h.src 2 ++ leBytes node 2 ++ leBytes h.seq 2 ++ leBytes session 1 ++ zeros 1
    ++ leBytes recs.length 2 ++ zeros 2 ++ arg ++ recs.flatMap (fun r => recPack r.1 r.2)

/-- A request as bytes (R402 to R404). -/
def requestBytes (h : ClHead) (o : ClOp) : Bytes :=
  leBytes 1 1 ++ leBytes o.code 1 ++ leBytes (if h.via then 1 else 0) 1 ++ zeros 1 ++ leBytes h.dst 2 ++ leBytes h.src 2 ++ leBytes h.seq 2 ++ leBytes h.session 1
    ++ zeros 1 ++ leBytes o.recs.length 2 ++ leBytes h.linkDst 2
    ++ (match o with
      | .commit m f => leBytes m 1 ++ zeros 3 ++ leBytes f 4
      | .global g t => leBytes g 1 ++ zeros 7 ++ leBytes t 16
      | _ => [])
    ++ o.recs.flatMap (fun r => recPack r 0)

/-- The status of a message: the first record status other than OK (R402). -/
def firstStatus : List (ClRec × Nat) → Nat
  | [] => 0
  | r :: t => if r.2 = 0 then firstStatus t else r.2

/-! ## The agent -/

/-- Change the agent. -/
def State.modAgent (s : State) (f : AgentSt → AgentSt) : State := { s with agent := f s.agent }

/-- Whether the manager's firmware runs: the device has power and clocks, is out of reset and not in S3 or S4 (R38, R419, R504). -/
def State.agentOn (s : State) : Bool := s.power.on && s.power.stepsDone && !s.qReset 0 && decide (s.power.dev = 0)

/-! ### The mailbox (R444 to R446) -/

/-- Words of waiting answers go into mailbox 32 while it has room. -/
def State.mailOut (s : State) : Nat → State
  | 0 => s
  | n + 1 =>
    match s.agent.out with
    | [] => s
    | w :: t => if (s.mb 0 32).ba.length < 4 then ((s.modAgent fun v => { v with out := t }).mbTx 0 32 true w).mailOut n else s

/-- Queue an answer for the mailbox: its length, then its words with byte 0 in bits 7 to 0 (R446). -/
def State.mailAnswer (s : State) (b : Bytes) : State :=
  (s.modAgent fun v => { v with out := v.out ++ b.length :: (List.range ((b.length + 3) / 4)).map (fun i => leAt b (4 * i) 4) }).mailOut 4

/-! ### UDP (R401; the headers are those of Ethernet, IPv4 and UDP; log entry 42) -/

/-- The one's-complement sum of 16-bit words. -/
def onesSum (l : Bytes) : Nat :=
  (List.range ((l.length + 1) / 2)).foldl (fun v i => let t := v + beAt l (2 * i) 2; t % 65536 + t / 65536) 0

/-- The IPv4 pseudo-header of a UDP checksum. -/
def pseudo (src dst len : Nat) : Bytes := beBytes src 4 ++ beBytes dst 4 ++ [0, 17] ++ beBytes len 2

/-- The frame of a UDP answer from MAC `e` to the endpoint `ip`, `port` at Ethernet address `eth`. Header fields that neither the spec nor the protocols fix
are open (log entry 1). -/
def State.udpFrame (s : State) (e ip port eth : Nat) (b : Bytes) : Bytes :=
  let x := (s.freeVal 64).toNat
  let len := b.length + 8
  let own := s.rd (macA e) R.MAC_ADDR_LO.ADDR + s.rd (macA e) R.MAC_ADDR_HI.ADDR * 2 ^ 32
  let h0 := beBytes 0x45 1 ++ beBytes (x % 256) 1 ++ beBytes (len + 20) 2 ++ beBytes (x / 2 ^ 8) 2 ++ beBytes (x / 2 ^ 24 % 2 * 0x4000) 2
    ++ beBytes (x / 2 ^ 32) 1 ++ beBytes 17 1
  let h1 := beBytes s.agent.ip 4 ++ beBytes ip 4
  let sum := 65535 - onesSum (h0 ++ [0, 0] ++ h1)
  let u := beBytes s.agent.udpPort 2 ++ beBytes port 2 ++ beBytes len 2
  let usum := 65535 - onesSum (pseudo s.agent.ip ip len ++ u ++ [0, 0] ++ b)
  let usum := if x / 2 ^ 40 % 2 = 0 then 0 else if usum = 0 then 65535 else usum
  let f := beBytes eth 6 ++ beBytes own 6 ++ beBytes 0x0800 2 ++ h0 ++ beBytes sum 2 ++ h1 ++ u ++ beBytes usum 2 ++ b
  f ++ zeros (60 - f.length)

/-- The Clanex message in a frame that MAC `e` received, with its origin: an unfragmented IPv4/UDP datagram to IP_ADDR and UDP_PORT whose checksums
hold (R401). -/
def State.udpMessage (s : State) (e : Nat) (f : Bytes) : Option (Origin × Bytes) :=
  let ihl := byteAt f 14 % 16 * 4
  let u := 14 + ihl
  let tot := beAt f 16 2
  let len := beAt f (u + 4) 2
  if s.agent.udpMac = e ∧ beAt f 12 2 = 0x0800 ∧ byteAt f 14 / 16 = 4 ∧ 20 ≤ ihl ∧ byteAt f 23 = 17 ∧ beAt f 20 2 % 0x4000 = 0 ∧
      beAt f 30 4 = s.agent.ip ∧ beAt f (u + 2) 2 = s.agent.udpPort ∧ 8 ≤ len ∧ ihl + len ≤ tot ∧ 14 + tot ≤ f.length ∧
      onesSum ((f.drop 14).take ihl) = 65535 ∧
      (beAt f (u + 6) 2 = 0 ∨ onesSum (pseudo (beAt f 26 4) (beAt f 30 4) len ++ (f.drop u).take len) = 65535) then
    some (.udp e (beAt f 26 4) (beAt f u 2) (beAt f 6 6), (f.drop (u + 8)).take (len - 8))
  else none

/-! ### CAN FD (R406) -/

/-- The data lengths of CAN FD frames by DLC. -/
def fdSizes : List Nat := [0, 1, 2, 3, 4, 5, 6, 7, 8, 12, 16, 20, 24, 32, 48, 64]

/-- The smallest DLC for `n` bytes. -/
def fdDlc (n : Nat) : Nat := (fdSizes.findIdx? (fun k => decide (n ≤ k))).getD 15

/-- The frames of a message from node `src` to node `dst`: 63 bytes each, with the segment control byte. The bytes that fill up the last frame are open. -/
def canSegments (base dst src : Nat) (brs esi : Bool) (fill : BitVec 8) (n : Nat) : Nat → Bytes → List CanFrame
  | 0, _ => []
  | fuel + 1, b =>
    let last := decide (b.length ≤ 63)
    let part := (BitVec.ofNat 8 ((if n = 0 then 128 else 0) + (if last then 64 else 0) + n % 64)) :: b.take 63
    let dlc := fdDlc part.length
    let size := (fdSizes[dlc]?).getD 64
    ⟨base % 32 * 2 ^ 24 + dst % 65536 * 256 + src % 256, true, false, dlc, true, brs, esi, part ++ List.replicate (size - part.length) fill⟩
      :: (if last then [] else canSegments base dst src brs esi fill (n + 1) fuel (b.drop 63))

/-- Queue an answer for node `node` on controller `n`, ahead of its ring (R401, R406). -/
def State.canAnswer (s : State) (n node : Nat) (b : Bytes) : State :=
  let x := (s.freeVal 9).toNat
  let fr := canSegments s.agent.canBase node s.agent.node (decide (x / 256 = 1)) (decide (s.rd (canA n) R.CAN_STAT.STATE = 1)) (BitVec.ofNat 8 x) 0 64 b
  s.drawn.modCan n fun v => { v with agent := v.agent ++ fr }

/-- Whether a received frame belongs to the agent (R401, R406). -/
def State.canOwn (s : State) (n : Nat) (f : CanFrame) : Bool :=
  s.agent.canMask.testBit n && f.ide && f.fdf && !f.rtr && decide (f.id / 2 ^ 24 % 32 = s.agent.canBase) &&
    decide (f.id / 256 % 65536 = s.agent.node ∨ f.id / 256 % 65536 = 0xFFFF) && !f.data.isEmpty

/-- A segment of a message arrives (R406): the message when it is the last, else none; a segment out of number discards what came before. -/
def State.canSegment (s : State) (n : Nat) (f : CanFrame) : Option Bytes × State :=
  let node := f.id % 256
  let ctl := byteAt f.data 0
  let mine := fun (g : Segs) => decide (g.n = n) && decide (g.node = node)
  let rest := s.agent.segs.filter (fun g => !mine g)
  let put := fun (b : Bytes) (k : Nat) =>
    if ctl / 64 % 2 = 1 then (some b, s.modAgent fun v => { v with segs := rest })
    else (none, s.modAgent fun v => { v with segs := ⟨n, node, k, b⟩ :: rest })
  if ctl / 128 = 1 then
    if ctl % 64 = 0 then put (f.data.drop 1) 1 else (none, s.modAgent fun v => { v with segs := rest })
  else
    match s.agent.segs.find? mine with
    | some g => if g.next = ctl % 64 then put (g.bytes ++ f.data.drop 1) (g.next + 1) else (none, s.modAgent fun v => { v with segs := rest })
    | none => (none, s)

/-- CLANEX_SEGMENT_TIMEOUT (R406): a gap of more than 10 ms discards the message. -/
def execClanexSegmentTimeout (n node : Nat) (s : State) : Host.Outcome State Fault Refusal :=
  .next (s.modAgent fun v => { v with segs := v.segs.filter (fun g => !(decide (g.n = n) && decide (g.node = node % 256))) })

/-! ### The system link's packets (R408, R409, R411, R412) -/

/-- Change the device's place in the system link. -/
def State.modLink (s : State) (f : LinkSt → LinkSt) : State := { s with slink := f s.slink }
/-- Change a port. -/
def State.modPort (s : State) (p : Nat) (f : PortSt → PortSt) : State := s.setPort p (f (s.port p))

/-- Whether a port is present (R407). -/
def State.portOk (s : State) (p : Nat) : Bool := decide (p < 16) && s.laneOk (laneOfPort p)
/-- Whether a port is UP. -/
def State.portUp (s : State) (p : Nat) : Bool := s.portOk p && (s.port p).up && !(s.port p).failed
/-- STATE of a port (R417): 0 DOWN, 1 TRAINING, 2 UP, 3 FAILED. -/
def State.portState (s : State) (p : Nat) : Nat :=
  let l := laneOfPort p
  if s.lf l R.LN_CFG.MODE ≠ 2 then 0
  else if (s.port p).failed then 3
  else if (s.port p).up then 2
  else 1

/-- The up-port in use: U while it is UP, else R while that is (R411). -/
def State.upPort (s : State) : Option Nat := [0, 1].find? s.portUp

/-- Where a packet goes (R409): none for the device itself, a down-port whose range holds the address, else up. The second part is false where no port
takes it. -/
def State.linkRoute (s : State) (la : Nat) : Option Nat × Bool :=
  if s.slink.laValid ∧ s.slink.la = la then (none, true)
  else
    match (List.range 14).find? (fun j =>
      match (s.port (2 + j)).range with
      | some r => decide (r.1 ≤ la ∧ la ≤ r.2)
      | none => false) with
    | some j =>
      match ((List.range 14).filter (fun k => decide ((s.port (2 + k)).range = (s.port (2 + j)).range))).find? (fun k => s.portUp (2 + k)) with
      | some k => (some (2 + k), true)
      | none => (none, false)
    | none =>
      match s.upPort with
      | some p => (some p, true)
      | none => (none, false)

/-- Send a packet on a port under its window of 32 (R408). -/
def State.linkXmit (s : State) (p : Nat) (k : LinkPkt) : State :=
  let v := s.port p
  if v.win.length < 32 ∧ v.queue.isEmpty then
    (s.setPort p { v with win := v.win ++ [(v.seq, 0, k)], seq := (v.seq + 1) % 256 }).emit (.packet p v.seq k)
  else s.setPort p { v with queue := v.queue ++ [k] }

/-- Fill a port's window from its queue. -/
def State.linkFill (s : State) (p : Nat) : Nat → State
  | 0 => s
  | n + 1 =>
    let v := s.port p
    match v.queue with
    | k :: t =>
      if v.win.length < 32 then ((s.setPort p { v with queue := [] }).linkXmit p k |>.modPort p fun w => { w with queue := t }).linkFill p n
      else s
    | [] => s

/-- BAD_MSG as the answer to a Clanex request that cannot be carried on (R412). -/
def refusalTo (k : LinkPkt) : Bytes := answerBytes 0 (headOf k.bytes) (byteAt k.bytes 1 % 128) 0x11 (byteAt k.bytes 10) [] []

/-- Send a packet toward its address; a request that no port takes is answered BAD_MSG toward its source (R412). -/
def State.linkSend (s : State) (k : LinkPkt) : State :=
  match s.linkRoute k.dst with
  | (some p, _) => s.linkXmit p k
  | (none, true) => s
  | (none, false) =>
    if k.type = 1 ∧ byteAt k.bytes 1 < 128 ∧ k.src ≠ s.slink.la then
      match s.linkRoute k.src with
      | (some p, _) => s.linkXmit p ⟨1, k.src, k.dst, refusalTo k⟩
      | _ => s
    else s

/-! ### Answers (R402, R405) -/

/-- What tells one origin from another (R389): the Ethernet address of a sender does not. -/
def originKey : Origin → Origin
  | .udp e ip port _ => .udp e ip port 0
  | o => o

/-- The longest message of a transport (R405), with MAXLEN as it acts (R349). -/
def State.clLimit (s : State) : Origin → Nat
  | .pf0 => 4096
  | .udp e _ _ _ => min 9600 (max 1518 (s.rd (macA e) R.MAC_CFG.MAXLEN)) - 46
  | .can _ _ => 4032
  | .link _ => 4096

/-- Send bytes to where a request came from. -/
def State.transmit (s : State) (o : Origin) (b : Bytes) : State :=
  match o with
  | .pf0 => s.mailAnswer b
  | .udp e ip port eth => s.drawn.modMac e fun v => { v with agent := v.agent ++ [s.udpFrame e ip port eth b] }
  | .can n node => s.canAnswer n node b
  | .link la => s.linkSend ⟨1, la, s.slink.la, b⟩

/-- Send and keep an answer; a broadcast request gets none (R405). -/
def State.answerWith (s : State) (o : Origin) (h : ClHead) (b : Bytes) : State :=
  if h.dst = 0xFFFF then s
  else (s.modAgent fun v => { v with kept := ⟨o, h.seq, s.counter, b⟩ :: v.kept.filter (fun k => decide (originKey k.origin ≠ originKey o)) }).transmit o b

/-- Answer a request; an answer beyond its transport's limit is TOO_LONG alone (log entry 43). -/
def State.clAnswer (s : State) (o : Origin) (h : ClHead) (op status session : Nat) (arg : Bytes) (recs : List (ClRec × Nat)) : State :=
  let b := answerBytes s.agent.node h op status session arg recs
  s.answerWith o h (if s.clLimit o < b.length then answerBytes s.agent.node h op 0x0F session [] [] else b)

end Sys2Proof.Machine
end

