-- ==== Sys2Proof/Machine/Sleep.lean ====
section
/-! DEFINITION. Machine/Sleep.lean: sleep states, their refusals, wake slots and retention (R460 to R471, R481 to R483, spec/13_power.md). -/
namespace Sys2Proof.Machine
open Sys2Proof

/-! ## Targets (R460, R461) -/

/-- The units of a quadrant: islands, bays and deep stores. -/
def quadUnits (q : Nat) : List Nat :=
  (List.range 96).map (· + 96 * q) ++ (List.range 32).map (· + (1000 + 32 * q)) ++ (List.range 16).map (· + (2000 + 16 * q))

/-- TKIND of a target word. -/
def tgtKind (t : Nat) : Nat := bits t 31 28
/-- NUMBER of a target word. -/
def tgtNum (t : Nat) : Nat := bits t 11 0

/-- The units that a target word names. -/
def State.targetUnits (s : State) (t : Nat) : List Nat :=
  match tgtKind t with
  | 0 => [tgtNum t]
  | 1 => [1000 + tgtNum t]
  | 2 => [2000 + tgtNum t]
  | 3 => (List.range 384).filter (fun i => s.islHere i && (s.rd (islA i) R.ISL_CTRL.GRP).testBit (tgtNum t))
  | 4 => quadUnits (tgtNum t)
  | 5 => s.quads.flatMap quadUnits
  | _ => []

/-- Whether a target is present (R4, R462); a word that names none counts as absent (log entry 45). -/
def State.targetOk (s : State) (t : Nat) : Bool :=
  decide (bits t 27 12 = 0) &&
    match tgtKind t with
    | 0 => s.islHere (tgtNum t)
    | 1 => s.bayHere (tgtNum t)
    | 2 => decide (tgtNum t < 64) && s.quadOk (tgtNum t / 16)
    | 3 => decide (tgtNum t < 4)
    | 4 => s.quadOk (tgtNum t)
    | 5 => decide (tgtNum t = 0)
    | _ => false

/-- The quadrant of a unit. -/
def unitQuad (k : Nat) : Nat := if k < 1000 then k / 96 else if k < 2000 then (k - 1000) / 32 else (k - 2000) / 16
/-- The UID of a unit in the refusal log (R482). -/
def unitUid (k : Nat) : Nat := if k < 1000 then k else if k < 2000 then 0x1000 + (k - 1000) else 0x2000 + (k - 2000)
/-- The UID recorded for a target as a whole: its unit, or the device manager where it is none of the kinds of R482 (log entry 45). -/
def tgtUid (t : Nat) : Nat := if tgtKind t < 3 then tgtKind t * 0x1000 + tgtNum t else 0x9000

/-- Whether anything of a target sleeps. -/
def State.tgtSleeps (s : State) (t : Nat) : Bool :=
  s.targetOk t && (s.targetUnits t).any (fun k => decide (s.unitSleep k ≠ 0))

/-! ## The standby budget (R470, R471) -/

/-- RET of an island: a value that R470 does not list is never held. -/
def State.islRet (s : State) (i : Nat) : Nat := s.rd (pwrA (i / 96)) (R.PWR_ISLRET.RET.shift (4 * (i % 96 / 16))) / 4 ^ (i % 16) % 4
/-- RET of a bay. -/
def State.bayRet (s : State) (b : Nat) : Nat := s.rd (pwrA (b / 32)) (R.PWR_BAYRET.RET.shift (4 * (b % 32 / 16))) / 4 ^ (b % 16) % 4

/-- The base current in 0.01 mA. -/
def Part.sbBase : Part → Nat
  | .abn9640 => 4000
  | .abn9620 => 3100
  | .abn9610 => 2400

/-- The currents of everything retained, before K, in 0.01 mA (R470). -/
def State.sbSum (s : State) : Nat :=
  s.quads.foldl (fun n q =>
    let n := (List.range 96).foldl (fun n k => n + (match s.islRet (96 * q + k) with
      | 1 => 30
      | 2 => 52
      | _ => 0)) n
    (List.range 32).foldl (fun n k => n + (match s.bayRet (32 * q + k) with
      | 1 => 20
      | 2 => 110
      | _ => 0)) n) s.fuses.part.sbBase

/-- The hottest sensor of the device, in 0.125 °C. -/
def State.devTmax (s : State) : Int :=
  match s.quads with
  | [] => 0
  | q :: t => t.foldl (fun m q => max m (s.tmax q)) (s.tmax q)

/-- K(Tj) as a fraction: linear between the points of R470; above 105 °C it is open (log entry 1). -/
def State.sbK (s : State) : Nat × Nat :=
  let t := s.devTmax
  let n := t.toNat
  if t ≤ 400 then (1, 1)
  else if t ≤ 560 then (400 + n, 800)
  else if t ≤ 680 then (16 + n, 480)
  else if t ≤ 840 then (9 * n - 1480, 3200)
  else ((s.freeVal 32).toNat, 3200)

/-- PWR_SBEST shows the estimate to the nearest 0.01 mA. -/
def State.sbShow (s : State) : State :=
  let k := s.sbK
  (if s.devTmax ≤ 840 then s else s.drawn).wr (pwrA 0) R.PWR_SBEST.EST (min 65535 ((2 * s.sbSum * k.1 + k.2) / (2 * k.2)))

/-- Whether the estimate is above SB_LIMIT, which acts as 25,000 above that (R471, R481). -/
def State.sbOver (s : State) : Bool := decide (min (s.rd (pwrA 0) R.PWR_SBLIM.SB_LIMIT) 25000 * s.sbK.2 < s.sbSum * s.sbK.1)

/-! ## Wake slots (R465, R483) -/

/-- Slot `w` as its event, where it is enabled, and its target. -/
def State.wakeSlot (s : State) (w : Nat) : Option Nat × Nat :=
  (if s.bit (pwrA 0) (R.WAKE_EVT.EN.shift (8 * w)) then some (s.rd (pwrA 0) (R.WAKE_EVT.EVENT.shift (8 * w))) else none,
    s.rd (pwrA 0) (R.WAKE_TGT.TARGET.shift (8 * w)))

/-- The events of the always-on group that wake from S3. -/
def wakesS3 (e : Nat) : Bool := decide (e = 672 ∨ e = 692 ∨ (693 ≤ e ∧ e ≤ 700) ∨ e = 702)

/-- Whether an enabled slot can wake the device from S3. -/
def State.canWake (s : State) : Bool :=
  (List.range 64).any fun w =>
    match s.wakeSlot w with
    | (some e, t) => wakesS3 e && decide (tgtKind t = 5) && s.targetOk t
    | _ => false

/-! ## Checks and refusals (R462 to R464) -/

/-- Whether a target kind is listed for a state (R460). -/
def kindOk (st kind : Nat) : Bool := if st = 1 ∨ st = 2 then decide (kind ≤ 4) else decide (st = 3 ∨ st = 4) && decide (kind = 5)

/-- Whether a unit's state forbids the entry: its transition, an island in RESET, BIST or HOLD, a deep store that its release has not opened, a bay
that is not in OFFLINE. -/
def State.unitBad (s : State) (st k : Nat) : Bool :=
  let u := s.unitSleep k
  (decide (u ≠ 0) && !(decide (u = 1) && decide (st = 2))) ||
    (if k < 1000 then decide (s.islState k = 3 ∨ s.islState k = 4 ∨ s.islState k = 5)
    else if k < 2000 then decide (st < 3) && decide (s.bayState (k - 1000) ≠ 1)
    else !(s.deep (k - 2000)).wrEn)

/-- The first cause that refuses an entry, as reason and refuser; none when it is accepted (R462). -/
def State.sleepCheck (s : State) (t st : Nat) : Option (Nat × Nat) :=
  let units := s.targetUnits t
  if s.power.phase ≠ 0 then some (1, 0x9000)
  else if !kindOk st (tgtKind t) then some (2, tgtUid t)
  else
    match (if s.targetOk t then units.find? (s.unitBad st) else none) with
    | some k => some (2, unitUid k)
    | none =>
      if !s.targetOk t then some (3, tgtUid t)
      else if s.loadBusy then some (4, 0x5000)
      else if 3 ≤ st ∧ s.sessions.any (fun v => decide (2 ≤ v.2.st)) then some (5, 0x6000)
      else if st = 3 ∧ s.sbOver then some (6, 0x8000)
      else if st = 3 ∧ s.canWake = false then some (7, 0x9000)
      else if units.any (fun k => decide (1000 ≤ k ∧ k < 2000) && s.halted (k - 1000)) then some (8, 0x7000)
      else none

/-- Add 1 to the refusal count of a unit, which stays at 0xFF (R464, R482). -/
def State.bumpRef (s : State) (k : Nat) : State :=
  let q := unitQuad k
  let l := if k < 1000 then k % 96 else if k < 2000 then (k - 1000) % 32 else (k - 2000) % 16
  let f := (if k < 1000 then R.PWR_REFI.COUNT else if k < 2000 then R.PWR_REFB.COUNT else R.PWR_REFD.COUNT).shift (l / 4 * 4)
  let v := s.rd (pwrA q) f
  if v / 256 ^ (l % 4) % 256 = 255 then s else s.wr (pwrA q) f (v + 256 ^ (l % 4))

/-- A refused or aborted entry is counted and logged, with event 677 (R464). -/
def State.refuseSleep (s : State) (t st reason uid : Nat) (aborted : Bool) : State :=
  let ok := s.targetOk t
  let s := if ok then (s.targetUnits t).foldl (fun s k => s.bumpRef k) s else s
  let s :=
    match tgtKind t with
    | 3 => s.bump (pwrA 0) R.PWR_REFQ.GROUP 1
    | 4 => if ok then s.bump (pwrA (tgtNum t)) R.PWR_REFQ.QUAD 1 else s
    | 5 => s.bump (pwrA 0) R.PWR_REFQ.DEVICE 1
    | _ => s
  let q := if ok = false ∨ tgtKind t = 3 ∨ tgtKind t = 5 then 0 else if tgtKind t = 4 then tgtNum t else unitQuad ((s.targetUnits t).headD 0)
  let s := s.refusalEntry q t (uid % 2 ^ 16 * 2 ^ 16 + reason * 256 + st % 16 * 16 + (if aborted then 8 else 0))
  let s := if reason = 1 then s else { s with power := { s.power with status := if aborted then 5 else 4 } }
  s.raise 677

/-- The status that GO is answered with when its entry is refused: one that is not OK; the spec names none (log entry 1). -/
def State.goRefused (s : State) : Nat := (s.freeVal 8).toNat % 254 + 1

/-- Answer the GO that waits for its commit point (R463). -/
def State.answerGo (s : State) (st : Nat) : State :=
  match s.agent.waiting with
  | none => s
  | some w =>
    let recs := w.recs.map fun r => if r.2 = 255 then (r.1, st) else r
    (s.modAgent fun v => { v with waiting := none }).clAnswer w.origin w.head w.op (firstStatus recs) w.head.session [] recs

/-! ## Exits (R466, R467, R469) -/

/-- An exit begins: the bridges train when the device leaves S3. -/
def State.startExit (s : State) (t : Nat) : State :=
  let deep := decide (s.power.dev = 3)
  let s := { s with power := { s.power with phase := 3, curT := t, curS := if deep then 3 else 2, status := 3 } }
  if deep then s.trainAll else s

/-- Once nothing is in progress, the next target that is to exit does so. -/
def State.nextWake (s : State) : State :=
  if s.power.dev = 3 then
    match s.power.wakes.find? (fun t => decide (tgtKind t = 5)) with
    | some t => { s with power := { s.power with wakes := s.power.wakes.filter (fun u => decide (tgtKind u ≠ 5)) } }.startExit t
    | none => s
  else
    match s.power.wakes.find? s.tgtSleeps with
    | some t => { s with power := { s.power with wakes := s.power.wakes.filter (· ≠ t) } }.startExit t
    | none => { s with power := { s.power with wakes := [] } }

/-- A target is to exit: at once, or when what is in progress completes (R466). -/
def State.wakeTarget (s : State) (t : Nat) : State :=
  let s := { s with power := { s.power with wakes := s.power.wakes.filter (· ≠ t) ++ [t] } }
  if s.power.phase = 0 then s.nextWake else s

/-- The wake slots of an occurrence of event `e` (R465). -/
def State.serveWake (s : State) (e : Nat) : State :=
  (List.range 64).foldl (fun s w =>
    match s.wakeSlot w with
    | (some x, t) =>
      let deep := decide (s.power.dev = 3) || (decide (s.power.phase = 1 ∨ s.power.phase = 2) && decide (s.power.curS = 3))
      if x = e ∧ s.targetOk t ∧ (deep = false ∨ (wakesS3 e ∧ tgtKind t = 5)) then s.wakeTarget t else s
    | _ => s) s

/-- The wake slots of every event that waits for them. -/
def State.serveWakes (s : State) : State :=
  s.power.wakeQ.foldl (fun s e => s.serveWake e) { s with power := { s.power with wakeQ := [] } }

/-- Bay SRAM is filled with zero (R87). -/
def State.zeroSram (s : State) (b : Nat) : State :=
  { s with
    mem := Tab.drop (fun k => decide (sramA b 0 ≤ k ∧ k < sramA b 0x40000)) s.mem
    chk := Tab.drop (fun k => decide (chkSram b 0 ≤ k ∧ k < chkSram (b + 1) 0)) s.chk }

/-- A deep store is filled with zero. -/
def State.zeroDeep (s : State) (d : Nat) : State :=
  { s with
    rows := Tab.drop (fun k => decide (deepKey d 0 ≤ k ∧ k < deepKey (d + 1) 0)) s.rows
    chk := Tab.drop (fun k => decide (chkDeep d 0 ≤ k ∧ k < chkDeep (d + 1) 0)) s.chk }

/-- The effects of a bay reset, with the bay in OFFLINE at its end (R467). -/
def State.bayFresh (s : State) (b : Nat) : State :=
  (((((s.clearBay b).loadImage (bayKey b)).startContexts b).zeroSram b).enterOffline b).holdReset b

/-- A unit leaves S1 or S2 (R467). -/
def State.wakeUnit (s : State) (k : Nat) : State :=
  let e := Tab.get (fun _ => (0, 0)) s.power.asleep k
  let s := s.leaveSleep k
  match e.1 with
  | 1 => if k < 1000 then s.setIslState k (if e.2 = 6 then 0 else e.2) else s
  | 2 =>
    if k < 1000 then ((s.zeroStores k).initFlops k).setIslState k (if e.2 = 0 ∨ e.2 = 6 then 0 else 2)
    else if k < 2000 then s.bayFresh (k - 1000)
    else s.zeroDeep (k - 2000)
  | _ => s

/-- What an island keeps through S3 (R469, R470): its state before the entry, or HOLD with cleared cells. -/
def State.islandKept (s : State) (i : Nat) : State :=
  let s := s.zeroStores i
  let back := fun (s : State) =>
    match s.power.fenced.find? (fun x => decide (x.1 = i)) with
    | some x => s.setIslState i x.2
    | none => s
  match s.islRet i with
  | 1 => back (s.initFlops i)
  | 2 => back s
  | _ => (({ s with cells := Tab.drop (fun k => decide (k = i)) s.cells }).initFlops i).setIslState i 5

/-- Whether a field is one of a bay's context registers. -/
def ctxKey (b k : Nat) : Bool := decide (ctxA b 0 * 32 ≤ k ∧ k < ctxA b 32 * 32)

/-- What a bay keeps through S3 (R469, R470). -/
def State.bayKept (s : State) (b : Nat) : State :=
  match s.bayState b, s.bayRet b with
  | 1, 1 => s.bayFresh b
  | 1, 2 =>
    let flds := s.flds.filter (fun kv => ctxKey b kv.1)
    let ctxs := s.ctxs
    let s := (s.clearBay b).loadImage (bayKey b)
    let s := { s with flds := List.foldl (fun (t : Tab Nat) (kv : Nat × Nat) => Tab.put regReset t kv.1 kv.2) (Tab.drop (ctxKey b) s.flds) flds, ctxs := ctxs }
    let s := (List.range 32).foldl (fun s c => if s.ctxState b c = 3 then s.setCtxState b c 2 else s) s
    s.enterOffline b
  | _, _ => (((s.clearBay b).zeroSram b).wr (bayA b) R.BAY_STATE.STATE 3).drivePins b

/-- The device leaves S3 (R469, R504). Deep stores hold zero, lanes wake, channels are READY, boundaries that passed are skipped. -/
def State.leaveS3 (s : State) : State :=
  let s := { s with power := { s.power with dev := 0 }, chans := [], xus := [] }
  let s := s.quads.foldl (fun s q =>
    let s := (List.range 96).foldl (fun s i => s.islandKept (96 * q + i)) s
    let s := (List.range 32).foldl (fun s b => s.bayKept (32 * q + b)) s
    let s := (List.range 16).foldl (fun s d => s.zeroDeep (16 * q + d)) s
    let s := (List.range 2).foldl (fun s k => if s.mcState (2 * q + k) = 4 then s.setMcState (2 * q + k) 3 else s) s
    (quadLanes q).foldl (fun s l => s.laneSettle l) s) s
  let s := { s with power := { s.power with fenced := [] } }
  (s.wr (xtA 0) R.DEV_WDOG.REMAIN (s.rd (xtA 0) R.DEV_WDOG.TIMEOUT)).framesStep

/-- SLEEP_EXIT_DONE (R465, R469): event 676; with PERST_N low the device reset follows an exit from S3. -/
def execSleepExitDone (s : State) : Host.Outcome State Fault Refusal :=
  .next <|
    if s.power.phase = 3 ∧ (s.power.curS ≠ 3 ∨ (List.range 4).all (fun b => (s.brgSides b).all (fun p => decide (s.brg p R.BRG_STAT.STATE ≠ 1)))) then
      let deep := decide (s.power.curS = 3)
      let s := if deep then s.leaveS3 else (s.targetUnits s.power.curT).foldl (fun s k => s.wakeUnit k) s
      let s := { s with power := { s.power with phase := 0, status := 0 } }.raise 676
      if deep && s.power.perstLow then s.deviceReset 1 else s.nextWake
    else s

/-! ## Entries (R463, R466 to R468) -/

/-- Islands in RUN or STOPPED are fenced toward the commit point. -/
def State.fenceFor (s : State) (k : Nat) : State :=
  if k < 1000 ∧ (s.islState k = 0 ∨ s.islState k = 6) then
    { s.fence k with power := { s.power with fenced := s.power.fenced ++ [(k, s.islState k)] } }
  else s

/-- Bays in RUN are taken to OFFLINE for S3. -/
def State.offlineFor (s : State) (k : Nat) : State :=
  if 1000 ≤ k ∧ k < 2000 ∧ s.bayState (k - 1000) = 0 then
    let t := s.enterOffline (k - 1000)
    { t with power := { t.power with fenced := t.power.fenced ++ [(k, 0)] } }
  else s

/-- An accepted entry begins (R463, R468): S1 and S4 are at their commit point at once. -/
def State.startEntry (s : State) (t st : Nat) : State :=
  let first := st = 1 ∨ st = 4
  let s := { s with power := { s.power with phase := if first then 2 else 1, curT := t, curS := st, status := 1, fenced := [] } }
  if st = 4 then s.sticky R.PWR_STICKY.OFF_CMD
  else if st = 1 then s
  else
    let units := s.targetUnits t
    let s := if st = 3 then units.foldl (fun s k => s.offlineFor k) s else s
    units.foldl (fun s k => s.fenceFor k) s

/-- GO (R461 to R466): 0 the command is accepted and its commit point reached, 1 it is refused, 2 its answer waits for the commit point. -/
def State.sleepGo (s : State) (t st : Nat) : Nat × State :=
  let s := { s with power := { s.power with target := t, state := st } }
  if st = 0 then
    if s.power.phase = 3 then (1, s.refuseSleep t 0 1 0x9000 false)
    else if !s.targetOk t then (1, s.refuseSleep t 0 3 (tgtUid t) false)
    else (0, s.wakeTarget t)
  else
    let c := s.sleepCheck t st
    let early :=
      match c with
      | some (r, _) => decide (r < 6)
      | none => false
    let s := if st = 3 ∧ early = false then s.sbShow else s
    match c with
    | some (r, u) => (1, s.refuseSleep t st r u false)
    | none => (if st = 1 ∨ st = 4 then 0 else 2, s.startEntry t st)

/-- SLEEP_EXIT (R461). -/
def execSleepExit (target : BitVec 32) (s : State) : Host.Outcome State Fault Refusal :=
  .next <| if s.agentOn then (s.sleepGo target.toNat 0).2 else s
/-- SLEEP_S1 (R461, R463). -/
def execSleepS1 (target : BitVec 32) (s : State) : Host.Outcome State Fault Refusal :=
  .next <| if s.agentOn then (s.sleepGo target.toNat 1).2 else s
/-- SLEEP_S2 (R461, R463). -/
def execSleepS2 (target : BitVec 32) (s : State) : Host.Outcome State Fault Refusal :=
  .next <| if s.agentOn then (s.sleepGo target.toNat 2).2 else s
/-- SLEEP_S3 (R468, R471). -/
def execSleepS3 (target : BitVec 32) (s : State) : Host.Outcome State Fault Refusal :=
  .next <| if s.agentOn then (s.sleepGo target.toNat 3).2 else s
/-- SLEEP_S4 (R461). -/
def execSleepS4 (target : BitVec 32) (s : State) : Host.Outcome State Fault Refusal :=
  .next <| if s.agentOn then (s.sleepGo target.toNat 4).2 else s

/-- Whether a unit has drained (R463): an island is in SLACK, a deep store has taken its commands. -/
def State.unitDrained (s : State) (k : Nat) : Bool :=
  if k < 1000 then decide (s.islState k = 2)
  else if k < 2000 then true
  else [true, false].all (fun b => (s.chan (s.deepChan (k - 2000) b 29)).words.isEmpty)

/-- SLEEP_COMMIT_POINT (R463, R468): every fence has drained, and for S3 the MACs have finished their frames; GO is answered OK. -/
def execSleepCommitPoint (s : State) : Host.Outcome State Fault Refusal :=
  .next <|
    if s.power.phase = 1 ∧ (s.targetUnits s.power.curT).all s.unitDrained ∧
        (s.power.curS ≠ 3 ∨ (List.range 16).all (fun e => (s.mac e).tx.isNone)) then
      { s with power := { s.power with phase := 2 } }.answerGo 0
    else s

/-- A fence of the entry ended by DRAIN_LIMIT: what it fenced returns to its state before, and the GO is answered with the refusal (R463, R464). -/
def State.abortEntry (s : State) (i : Nat) : State :=
  let s := s.power.fenced.foldl (fun s x => if x.1 < 1000 then s.setIslState x.1 x.2 else s.enterOnline (x.1 - 1000)) s
  let t := s.power.curT
  let st := s.power.curS
  let s := { s with power := { s.power with phase := 0, fenced := [] } }
  let s := s.refuseSleep t st 9 (unitUid i) true
  let r := s.goRefused
  (s.drawn.answerGo r).nextWake

/-- ISLAND_FENCE_TIMEOUT (R108, R463). -/
def execIslandFenceTimeout (i : Nat) (s : State) : Host.Outcome State Fault Refusal :=
  .next <|
    if s.islOk i && decide (s.islState i = 1) then
      let s := s.fenceTimeout i
      if s.power.phase = 1 ∧ i ∈ s.targetUnits s.power.curT then s.abortEntry i else s
    else s

/-- A unit enters S1 (R467): an island is STOPPED, the clock of a bay or deep store stops. -/
def State.enterUnitS1 (s : State) (k : Nat) : State :=
  let st := if k < 1000 then s.islState k else 0
  let s := { s with power := { s.power with asleep := Tab.put (fun _ => (0, 0)) s.power.asleep k (1, st) } }
  if k < 1000 then s.setIslState k 6 else s

/-- A unit enters S2 (R109, R467): an island is OFF, its edges cleared. -/
def State.enterUnitS2 (s : State) (k : Nat) : State :=
  let e := Tab.get (fun _ => (0, 0)) s.power.asleep k
  let before :=
    if e.1 = 1 then e.2
    else
      match s.power.fenced.find? (fun x => decide (x.1 = k)) with
      | some x => x.2
      | none => if k < 1000 then 2 else 0
  let s := { s with power := { s.power with asleep := Tab.put (fun _ => (0, 0)) s.power.asleep k (2, before) } }
  if k < 1000 then (s.setIslState k 7).clearEdges k else s

/-- The device enters S3 (R467, R468): channels are in self-refresh, every lane direction sleeps, the link is idle, the bridges are without power. -/
def State.enterS3 (s : State) : State :=
  let s := s.quads.foldl (fun s q =>
    let s := (List.range 2).foldl (fun s k => if s.mcState (2 * q + k) = 3 then s.setMcState (2 * q + k) 4 else s) s
    (quadLanes q).foldl (fun s l =>
      (((s.wr (lnA l) R.LN_STAT.TX_ON 0).wr (lnA l) R.LN_STAT.RX_ON 0).rxRestart l).laneSync l) s) s
  let s := (List.range 4).foldl (fun s b => s.brgBecomes b 0 0) s
  let s := s.modLoad fun v => { v with link := false }
  { s with power := { s.power with dev := 3 } }

/-- SLEEP_ENTRY_DONE (R466 to R468): the target sleeps, event 675; a wake that came during the entry now takes effect. -/
def execSleepEntryDone (s : State) : Host.Outcome State Fault Refusal :=
  .next <|
    if s.power.phase = 2 then
      let units := s.targetUnits s.power.curT
      let s :=
        match s.power.curS with
        | 1 => units.foldl (fun s k => s.enterUnitS1 k) s
        | 2 => units.foldl (fun s k => s.enterUnitS2 k) s
        | 3 => s.enterS3
        | _ => s.enterS4 false
      if s.power.dev = 4 then s
      else
        let s := { s with power := { s.power with
          phase := 0, status := 2, fenced := if s.power.dev = 3 then s.power.fenced else [] } }
        (s.raise 675).nextWake
    else s

/-! ## Wakes (R465) -/

/-- WAKE_EVENT (R465). -/
def execWakeEvent (e : Nat) (s : State) : Host.Outcome State Fault Refusal :=
  .next ({ s with power := { s.power with wakeQ := s.power.wakeQ.erase e } }.serveWake e)

/-- WAKE_TIMER (R465): the timer fires once. -/
def execWakeTimer (s : State) : Host.Outcome State Fault Refusal :=
  .next <| if s.power.timer then { s with power := { s.power with timer := false } }.raise 692 else s

/-- WAKE_PIN (R465, R485). -/
def execWakePin (k : Nat) (s : State) : Host.Outcome State Fault Refusal := .next <| if s.power.on && decide (k < 8) then s.raise (693 + k) else s

end Sys2Proof.Machine
end

