-- ==== Sys2Proof/Machine/Syslink.lean ====
section
/-! DEFINITION. Machine/Syslink.lean: the system link (R407 to R418, spec/11_object_dictionary.md): global operations, enumeration, acknowledged packets, time
transfer, failover and LINK_RESET. What a delivered Clanex packet does stands in Machine/Sessions.lean. -/
namespace Sys2Proof.Machine
open Sys2Proof

/-! ## Children (R410, R411) -/

/-- The live down-ports. -/
def State.downPorts (s : State) : List Nat := ((List.range 14).map (· + 2)).filter s.portUp

/-- The other ports of the child behind a down-port: those that announce the same identity (R410; log entry 46). -/
def State.twins (s : State) (p : Nat) : List Nat :=
  match (s.port p).ident with
  | none => [p]
  | some x => s.downPorts.filter (fun q => decide ((s.port q).ident = some x))

/-- One down-port for each child: the lowest of its pair. -/
def State.children (s : State) : List Nat := s.downPorts.filter (fun p => decide ((s.twins p).headD p = p))

/-- The count that the child behind a port has answered. -/
def State.childCount (s : State) (p : Nat) : Option Nat := (s.twins p).findSome? (fun q => (s.port q).count)

/-- Send a GLOBAL block down every live port. -/
def State.globDown (s : State) (gop gseq arg : Nat) : State := s.downPorts.foldl (fun s p => s.emit (.glob p gop false gseq arg)) s
/-- Send a GLOBAL block up, on both paired ports (R411). -/
def State.globUp (s : State) (gop gseq arg : Nat) : State :=
  ([0, 1].filter s.portUp).foldl (fun s p => s.emit (.glob p gop true gseq arg)) s

/-! ## Enumeration (R410) -/

/-- The ASSIGN packet of a range (log entry 46): its first and last LA and the depth. -/
def assignPkt (lo hi depth : Nat) : LinkPkt := ⟨2, lo, 0, leBytes lo 2 ++ leBytes hi 2 ++ leBytes depth 1⟩

/-- Give the children consecutive ranges from `next` on, in down-port order: a device deeper than 5, or whose LA would exceed 65,535, gets none. -/
def State.assignRanges (s : State) (depth : Nat) : List Nat → Nat → State
  | [], _ => s
  | p :: ps, next =>
    match s.childCount p with
    | none => s.assignRanges depth ps next
    | some c =>
      let hi := min (next + c - 1) 65535
      let s :=
        if next ≤ 65535 ∧ depth < 5 then
          let s := (s.twins p).foldl (fun s q => s.modPort q fun v => { v with range := some (next, hi) }) s
          s.linkXmit p (assignPkt next hi (depth + 1))
        else s
      s.assignRanges depth ps (next + c)

/-- A device takes the first LA of its range and hands out the rest. -/
def State.takeRange (s : State) (lo depth : Nat) : State :=
  let s := s.modLink fun v => { v with la := lo, laValid := true, depth := depth }
  let s := (List.range 14).foldl (fun s j => s.modPort (2 + j) fun v => { v with range := none }) s
  s.assignRanges depth s.children (lo + 1)

/-- An ASSIGN packet from above. -/
def State.takeAssign (s : State) (b : Bytes) : State := if byteAt b 4 ≤ 5 then s.takeRange (leAt b 0 2) (byteAt b 4) else s

/-! ## Answers upward (R410, R415, R416) -/

/-- The sum of what the children have answered. -/
def State.childSum (s : State) : Nat := s.children.foldl (fun n p => n + (s.childCount p).getD 0) 0

/-- Whether the device has answered the operation in progress itself: a barrier once BARRIER_HOLD is 0. -/
def State.ownAnswer (s : State) (gop : Nat) : Bool := if gop = 2 then !s.slink.hold else s.slink.answered

/-- What a complete operation does: it is answered upward with its count, or with the number of late devices for a scheduled one (log entry 46); the
root records the result. -/
def State.linkComplete (s : State) (gop gseq : Nat) : State :=
  let n := s.childSum
  let s := s.modLink fun v => { v with op := none }
  match gop with
  | 2 =>
    if s.slink.root then (s.modLink fun v => { v with lastMissing := 0 }).raise 730
    else s.globUp 2 gseq (n + 1)
  | 5 =>
    let s := s.modLink fun v => { v with subtree := n + 1 }
    if s.slink.root then
      let x := if s.children.isEmpty then 0 else 1 + (s.freeVal 8).toNat % 5
      ((s.drawn.takeRange 0 0).modLink fun v => { v with treeDepth := x }).raise 728
    else
      let x := (s.freeVal 23).toNat
      s.drawn.globUp 5 gseq ((n + 1) % 2 ^ 17 + x * 2 ^ 17)
  | _ =>
    let l := n + s.slink.late
    if s.slink.root then s.modLink fun v => { v with lastLate := l } else s.globUp gop gseq l

/-- Answer the operation in progress once the device and all of its live children have. -/
def State.linkAnswer (s : State) : State :=
  match s.slink.op with
  | some (gop, gseq) => if s.ownAnswer gop && s.children.all (fun p => (s.childCount p).isSome) then s.linkComplete gop gseq else s
  | none => s

/-! ## Global operations (R414 to R416) -/

/-- An instant as the ARG of a scheduled operation. -/
def schedArg (ns sec : Nat) : Nat := ns % 2 ^ 30 + sec % 1024 * 2 ^ 30

/-- The instant within 512 s of `now` whose nanoseconds and seconds an ARG gives. -/
def schedAt (now : Int) (arg : Nat) : Int :=
  let sec := now / ticksPerSec
  let d : Int := (((arg / 2 ^ 30 % 1024 : Nat) : Int) - sec) % 1024
  let t := (sec + d) * ticksPerSec + ((arg % 2 ^ 30 : Nat) : Int) * 65536
  if 512 * ticksPerSec < t - now then t - 1024 * ticksPerSec else t

/-- An operation begins at this device: its answers are collected anew. -/
def State.opBegins (s : State) (gop gseq : Nat) (own : Bool) (late : Nat) : State :=
  let s := (List.range 16).foldl (fun s p => s.modPort p fun v => { v with count := none, ident := if gop = 5 then none else v.ident }) s
  s.modLink fun v => { v with op := some (gop, gseq), answered := own, late := late }

/-- A scheduled operation is held for its instant, or counted late with event 729 (R416). -/
def State.schedule (s : State) (gop gseq arg : Nat) : State :=
  let t := schedAt s.now arg
  if t ≤ s.now then (s.opBegins gop gseq true 1).raise 729
  else (s.opBegins gop gseq false 0).modLink fun v => { v with sched := v.sched ++ [(gop, gseq, t)] }

/-- What a GLOBAL operation does at a device that it reaches going down. -/
def State.globAct (s : State) (gop gseq arg : Nat) : State :=
  let s := s.globDown gop gseq arg
  match gop with
  | 2 => (s.opBegins 2 gseq false 0).linkAnswer
  | 5 => ((s.opBegins 5 gseq true 0).modLink fun v => { v with laValid := false }).linkAnswer
  | _ => (s.schedule gop gseq arg).linkAnswer

/-- Originate an operation at the root with the next GSEQ. -/
def State.globOrigin (s : State) (gop arg : Nat) : State :=
  let g := s.slink.gseq
  (s.modLink fun v => { v with gseq := (g + 1) % 256 }).globAct gop g arg

/-- Whether a GLOBAL block from above is the first copy of its GSEQ (R411). -/
def State.globFirst (s : State) (port gseq : Nat) : Bool := decide (port < 2) && s.portUp port && decide (s.slink.seen ≠ some gseq)

/-- A GLOBAL operation with an ARG meets the device. -/
def State.globIn (s : State) (gop own : Nat) (g : GlobIn) : State :=
  match g with
  | .origin => if s.slink.root then s.globOrigin gop own else s
  | .down p gseq arg => if s.globFirst p gseq then (s.modLink fun v => { v with seen := some gseq }).globAct gop gseq arg else s
  | .up p gseq arg =>
    if 2 ≤ p ∧ s.portUp p ∧ s.slink.op = some (gop, gseq) then
      (s.modPort p fun v =>
        { v with count := some (if gop = 5 then arg % 2 ^ 17 else arg), ident := if gop = 5 then some (arg / 2 ^ 17) else v.ident }).linkAnswer
    else s

/-- BARRIER (R415). -/
def execBarrier (g : GlobIn) (s : State) : Host.Outcome State Fault Refusal := .next (s.globIn 2 0 g)

/-- The ARG of object AT. -/
def State.atArg (s : State) : Nat := schedArg (s.slink.at_ / 2 ^ 32 % 2 ^ 32) (s.slink.at_ / 2 ^ 64)

/-- SNAPSHOT_AT (R416). -/
def execSnapshotAt (g : GlobIn) (s : State) : Host.Outcome State Fault Refusal := .next (s.globIn 3 s.atArg g)
/-- RESET_AT (R416). -/
def execResetAt (g : GlobIn) (s : State) : Host.Outcome State Fault Refusal := .next (s.globIn 4 s.atArg g)
/-- ENUM (R410). -/
def execEnum (g : GlobIn) (s : State) : Host.Outcome State Fault Refusal := .next (s.globIn 5 0 g)

/-- The frame schedule of a device takes the root's values (R414). -/
def State.setFrames (s : State) (ns sec period first : Nat) : State :=
  if s.timeOk then
    let a := frA 0
    let s := ((s.wr a R.FR_START_NS.NS ns).wr a R.FR_START_SECL.SEC sec).wr a R.FR_START_SECH.SEC (sec / 2 ^ 32)
    (s.wr a R.FR_PERIOD.PERIOD period).wr a R.FR_FIRST.FIRST first
  else s

/-- BROADCAST_FRAME originates at the root with its own values. -/
def State.frameOrigin (s : State) : State :=
  let a := frA 0
  let g := s.slink.gseq
  let s := s.modLink fun v => { v with gseq := (g + 1) % 256 }
  s.downPorts.foldl (fun s p =>
    s.emit (.globFrame p g (s.rd a R.FR_START_NS.NS) (s.rd a R.FR_START_SECL.SEC + s.rd a R.FR_START_SECH.SEC * 2 ^ 32) (s.rd a R.FR_PERIOD.PERIOD)
      (s.rd a R.FR_FIRST.FIRST))) s

/-- BROADCAST_FRAME (R414). -/
def execBroadcastFrame (g : GlobIn) (ns sec period first : Nat) (s : State) : Host.Outcome State Fault Refusal :=
  .next <|
    match g with
    | .origin => if s.slink.root then s.frameOrigin else s
    | .down p gseq _ =>
      if s.globFirst p gseq then
        let s := s.modLink fun v => { v with seen := some gseq }
        (s.downPorts.foldl (fun s p => s.emit (.globFrame p gseq ns sec period first)) s).setFrames ns sec period first
      else s
    | .up _ _ _ => s

/-- Originate operation `gop`, at the instant `t` in the bits of R355; NOT_ROOT elsewhere (R414). -/
def State.originate (s : State) (gop t : Nat) : Nat × State :=
  if !s.slink.root then (0x10, s)
  else
    let arg := schedArg (t / 2 ^ 32 % 2 ^ 32) (t / 2 ^ 64)
    match gop with
    | 1 => (0, s.frameOrigin)
    | 2 => (0, s.globOrigin 2 0)
    | 5 => (0, s.globOrigin 5 0)
    | g => (0, s.globOrigin g arg)

/-- BARRIER_TIMEOUT (R415): the root ends the barrier and records how many devices are missing; event 730. -/
def execBarrierTimeout (s : State) : Host.Outcome State Fault Refusal :=
  .next <|
    match s.slink.op with
    | some (2, _) =>
      if s.slink.root then
        let n := s.childSum + (if s.slink.hold then 0 else 1)
        (s.modLink fun v => { v with op := none, lastMissing := v.subtree - n }).raise 730
      else s
    | _ => s

/-- GLOBAL_INSTANT (R416): the device time reaches the instant of a scheduled operation; the operation is confirmed upward. -/
def execGlobalInstant (s : State) : Host.Outcome State Fault Refusal :=
  .next <|
    match s.slink.sched.find? (fun x => decide (x.2.2 ≤ s.now)) with
    | some x =>
      let s := s.modLink fun v => { v with sched := v.sched.erase x }
      let s := if x.1 = 3 then s.capture else s
      let s := if s.slink.op = some (x.1, x.2.1) then (s.modLink fun v => { v with answered := true }).linkAnswer else s
      if x.1 = 4 then s.deviceReset 4 else s
    | none => s

/-! ## Acknowledged packets (R408) -/

/-- ACK (R408): packets up to the acknowledged one leave the window, and waiting packets enter it. -/
def execAck (port seq : Nat) (s : State) : Host.Outcome State Fault Refusal :=
  .next <|
    let v := s.port port
    if s.portUp port && v.win.any (fun x => decide (x.1 = seq)) then
      (s.setPort port { v with win := (v.win.dropWhile (fun x => decide (x.1 ≠ seq))).drop 1 }).linkFill port 32
    else s

/-- Resend from the oldest unacknowledged packet; the eighth resend of one fails the port with event 726. -/
def State.resend (s : State) (port : Nat) : State :=
  let v := s.port port
  if s.portUp port && !v.win.isEmpty then
    let win := v.win.map fun x => (x.1, x.2.1 + 1, x.2.2)
    let bad := win.any fun x => decide (8 ≤ x.2.1)
    let s := s.setPort port { v with win := win, resends := min (v.resends + win.length) (2 ^ 32 - 1), failed := v.failed || bad }
    (win.foldl (fun s x => s.emit (.packet port x.1 x.2.2)) s).raiseIf bad 726
  else s

/-- NAK (R408). -/
def execNak (port _seq : Nat) (s : State) : Host.Outcome State Fault Refusal := .next (s.resend port)
/-- SYSLINK_RESEND_TIMEOUT (R408). -/
def execSyslinkResendTimeout (port : Nat) (s : State) : Host.Outcome State Fault Refusal := .next (s.resend port)

/-- UP_PORT_FAILOVER (R411): what U has not had acknowledged is resent on R; event 727. -/
def execUpPortFailover (s : State) : Host.Outcome State Fault Refusal :=
  .next <|
    if s.portOk 0 && !s.portUp 0 && s.portUp 1 && decide (s.slink.upActive ≠ 1) then
      let v := s.port 0
      let s := (s.setPort 0 { v with win := [], queue := [] }).modLink fun x => { x with upActive := 1 }
      ((v.win.map (·.2.2) ++ v.queue).foldl (fun s k => s.linkXmit 1 k) s).raise 727
    else s

/-! ## Time transfer (R413) -/

/-- A time as the stamp of a TICK block. -/
def tickStamp (t : Int) : Nat := fracOf t / 256 + nsOf t * 2 ^ 8 + secOf t % 1024 * 2 ^ 38

/-- The time nearest `ref` that a stamp gives. -/
def tickTime (ref : Int) (x : Nat) : Int :=
  let sec := ref / ticksPerSec
  let d : Int := (((x / 2 ^ 38 % 1024 : Nat) : Int) - sec) % 1024
  let t := (sec + d) * ticksPerSec + ((x / 2 ^ 8 % 2 ^ 30 : Nat) : Int) * 65536 + ((x % 2 ^ 8 : Nat) : Int) * 256
  if 512 * ticksPerSec < t - ref then t - 1024 * ticksPerSec else t

/-- TICK_SEND (R413): a parent sends a TICK down a port, stamped at departure. -/
def execTickSend (port : Nat) (s : State) : Host.Outcome State Fault Refusal :=
  .next <| if s.timeOk && decide (2 ≤ port) && s.portUp port then s.emit (.tick port false (tickStamp s.now)) else s

/-- The SYSLINK sample of a domain: t3 from the TICK, t4 and t1 at counter `c`, t2 from the RESP (R413). -/
def State.tickSample (s : State) (d c t3 t2 : Nat) : State :=
  if s.rd (domA 0 d) R.DOM_CFG.SRC = 1 then
    let t4 := stampOf (timeOf c (s.dOfs d) (s.dRate d))
    let t3 := tickTime t4 t3
    let delay := ((tickTime t4 t2 - t4) + (t4 - t3)) / 2
    s.sample d (t4 - (t3 + delay))
  else s

/-- TICK (R413): a child answers a TICK from above at once; a parent answers the child's with its arrival stamp; the answer gives the child a sample. -/
def execTick (port : Nat) (resp : Bool) (stamp : Nat) (s : State) : Host.Outcome State Fault Refusal :=
  .next <|
    if s.timeOk && s.portUp port then
      if 2 ≤ port then (if resp then s else s.emit (.tick port true (tickStamp s.now)))
      else if resp then
        let v := s.port port
        [0, 1].foldl (fun s d => s.tickSample d v.t4 v.t3 stamp) s
      else (s.modPort port fun v => { v with t3 := stamp, t4 := s.counter }).emit (.tick port false (tickStamp s.now))
    else s

/-! ## LINK_RESET (R412) -/

/-- Whether a port's transmitter sends: its lane is in SYSLINK mode and awake. -/
def State.portSends (s : State) (p : Nat) : Bool :=
  s.portOk p && decide (s.lf (laneOfPort p) R.LN_CFG.MODE = 2) && s.lb (laneOfPort p) R.LN_STAT.TX_ON

/-- LINK_RESET_SEND (R412). -/
def execLinkResetSend (port : Nat) (s : State) : Host.Outcome State Fault Refusal :=
  .next <| if s.portSends port then s.emit (.linkReset port) else s

/-- LINK_RESET (R412): a child whose receiver is locked applies a device reset. -/
def execLinkReset (port : Nat) (s : State) : Host.Outcome State Fault Refusal :=
  .next <|
    if s.portOk port && decide (port < 2) && decide (s.lf (laneOfPort port) R.LN_CFG.MODE = 2) && s.lb (laneOfPort port) R.LN_STAT.BLOCK_LOCK then
      s.deviceReset 4
    else s

end Sys2Proof.Machine
end

