-- ==== Sys2Proof/Machine/Objects.lean ====
section
/-! DEFINITION. Machine/Objects.lean: the entries of the object dictionary (R380 to R387, R417, spec/11_object_dictionary.md; R169, spec/04_bays.md; R378,
spec/10_time.md; R484, spec/13_power.md; R521, spec/15_multi_die.md): where each value lives, what it may be, reading and writing it. -/
namespace Sys2Proof.Machine
open Sys2Proof

/-! ## Entries -/

/-- An entry that the agent itself holds, or whose write is a command. -/
inductive AgentObj where
  | quadrantReset | deviceReset | sessionTimeout | nodeId | udpMac | ipAddr | udpPort | canMask | canBase | root | enumerate | linkReset (p : Nat) | gop
  | instant | globalGo | barrierHold | barrierTimeout | now | prio (d k : Nat) | logInterval (d k : Nat) | slaveOnly (d : Nat) | sleepTarget
  | sleepState | sleepGo | logClear
  deriving DecidableEq, Repr

/-- Where the value of an entry lives: it is shown; it is the fields of one unit's registers, each at a bit of the value (`whole`: bits that no
field takes are ignored); a STUCK_TIMEOUT; the agent's; or an object of the image. -/
inductive ObjSrc where
  | shown (v : Nat)
  | regs (base : Nat) (parts : List (Fld × Nat)) (whole : Bool)
  | stuck (b k : Nat)
  | agent (o : AgentObj)
  | user (o : UserObj)
  deriving DecidableEq, Repr

/-- An entry: type code of R381, access code of R404 (0 RO, 1 RW, 2 WO, 3 RWX, 4 CONST), length, class FRAME, and where it lives. -/
structure Ent where
  type : Nat
  access : Nat
  len : Nat
  frame : Bool
  src : ObjSrc
  deriving DecidableEq, Repr

/-- The length of a type (R381). -/
def typeLen (t : Nat) : Nat :=
  match t with
  | 1 => 1
  | 2 => 1
  | 3 => 2
  | 4 => 4
  | 5 => 8
  | 6 => 2
  | 7 => 4
  | 8 => 8
  | 9 => 4
  | 0xA => 16
  | _ => 0

/-- A read-only entry with its value. -/
def roE (t v : Nat) : Option Ent := some ⟨t, 0, typeLen t, false, .shown v⟩
/-- A constant entry. -/
def coE (t v : Nat) : Option Ent := some ⟨t, 4, typeLen t, false, .shown v⟩
/-- An entry of class AGENT over register fields. -/
def rwE (t base : Nat) (parts : List (Fld × Nat)) : Option Ent := some ⟨t, 1, typeLen t, false, .regs base parts false⟩
/-- The same of class FRAME. -/
def frE (t base : Nat) (f : Fld) : Option Ent := some ⟨t, 1, typeLen t, true, .regs base [(f, 0)] false⟩
/-- A read-only entry over register fields, of the given class. -/
def rfE (t base : Nat) (frame : Bool) (parts : List (Fld × Nat)) : Option Ent := some ⟨t, 0, typeLen t, frame, .regs base parts false⟩
/-- An entry of the agent. -/
def agE (t access : Nat) (o : AgentObj) : Option Ent := some ⟨t, access, typeLen t, false, .agent o⟩

/-- The bytes of a text as a number, first character lowest. -/
def textVal (s : String) : Nat := s.toList.reverse.foldl (fun v c => v * 256 + c.toNat) 0

/-- The part's name (R1). -/
def State.partName (s : State) : String :=
  (match s.fuses.part with
    | .abn9640 => "ABN-9640"
    | .abn9620 => "ABN-9620"
    | .abn9610 => "ABN-9610") ++ (if s.fuses.noAdc then "-N" else "")

/-- A TIME value of a time (R355). -/
def timeBits (t : Int) : Nat := secOf t * 2 ^ 64 + nsOf t * 2 ^ 32 + fracOf t * 2 ^ 16

/-! ## The indices -/

/-- The identity and capability objects and the reset commands (R387, R388, R521). -/
def State.identObj (s : State) (index sub : Nat) : Option Ent :=
  match index, sub with
  | 0x0100, 1 => some ⟨0xB, 4, s.partName.length, false, .shown (textVal s.partName)⟩
  | 0x0100, 2 => coE 2 0x5C
  | 0x0100, 7 => coE 5 (s.fuses.uid % 2 ^ 64)
  | 0x0100, n => if 3 ≤ n ∧ n ≤ 6 then roE 4 (if s.quadOk (n - 3) then (s.identReg (n - 3) 0).getD 0 else 0) else none
  | 0x0101, 1 => roE 4 ((s.identReg 0 4).getD 0)
  | 0x0101, 2 => roE 5 (packBits 64 s.bayHere)
  | 0x0101, 3 => roE 5 (packBits 64 (fun b => s.bayHere (64 + b)))
  | 0x0101, 4 => roE 2 (packBits 8 s.chHere)
  | 0x0101, 5 => roE 3 (packBits 16 fun e => s.quadOk (e / 4))
  | 0x0101, 6 => roE 2 (packBits 8 fun n => s.quadOk (n / 2))
  | 0x0101, 7 => roE 3 (packBits 16 s.portOk)
  | 0x0102, 1 => coE 2 (bits ((s.identReg 0 0xC).getD 0) 19 16)
  | 0x0102, n => if 2 ≤ n ∧ n ≤ 5 then coE 2 (bits ((s.identReg 0 8).getD 0) (4 * (n - 2) + 3) (4 * (n - 2))) else none
  | 0x0140, 1 => agE 2 2 .quadrantReset
  | 0x0140, 2 => agE 2 2 .deviceReset
  | _, _ => none

/-- The objects of sessions, communication and the system link (R417). -/
def State.commObj (s : State) (index sub : Nat) : Option Ent :=
  let se := s.sess (index - 0x0200)
  let l := s.slink
  let p := index - 0x0420
  match index, sub with
  | 0x0200, 1 => roE 2 ((List.range 16).filter (fun i => decide ((s.sess (i + 1)).st ≠ 0))).length
  | 0x0200, 2 => agE 4 1 .sessionTimeout
  | 0x0200, 3 => coE 3 4096
  | 0x0400, 1 => agE 3 1 .nodeId
  | 0x0400, 2 => agE 2 1 .udpMac
  | 0x0400, 3 => agE 4 1 .ipAddr
  | 0x0400, 4 => agE 3 1 .udpPort
  | 0x0400, 5 => agE 2 1 .canMask
  | 0x0400, 6 => agE 2 1 .canBase
  | 0x0410, 1 => agE 1 1 .root
  | 0x0410, 2 => roE 3 l.la
  | 0x0410, 3 => roE 1 (if l.laValid then 1 else 0)
  | 0x0410, 4 => roE 2 l.depth
  | 0x0410, 5 => roE 2 l.treeDepth
  | 0x0410, 6 => roE 4 l.subtree
  | 0x0410, 7 => roE 2 (s.upPort.getD 255)
  | 0x0410, 8 => agE 1 2 .enumerate
  | 0x0430, 1 => agE 2 1 .gop
  | 0x0430, 2 => agE 0xA 1 .instant
  | 0x0430, 3 => agE 1 2 .globalGo
  | 0x0430, 4 => roE 4 l.lastLate
  | 0x0430, 5 => roE 4 l.lastMissing
  | 0x0430, 6 => agE 1 1 .barrierHold
  | 0x0430, 7 => agE 4 1 .barrierTimeout
  | i, 1 => if 0x0200 < i ∧ i ≤ 0x0210 then roE 2 se.st else if 0x0420 ≤ i ∧ i < 0x0430 then roE 2 (s.portState p) else none
  | i, 2 =>
    if 0x0200 < i ∧ i ≤ 0x0210 then roE 3 se.staged.length
    else if 0x0420 ≤ i ∧ i < 0x0430 then roE 3 (((s.port p).range.map (·.1)).getD 0) else none
  | i, 3 =>
    if 0x0200 < i ∧ i ≤ 0x0210 then roE 4 se.target
    else if 0x0420 ≤ i ∧ i < 0x0430 then roE 3 (((s.port p).range.map (·.2)).getD 0) else none
  | i, 4 => if 0x0200 < i ∧ i ≤ 0x0210 then roE 2 se.last else if 0x0420 ≤ i ∧ i < 0x0430 then roE 4 (s.port p).resends else none
  | i, 5 => if 0x0420 ≤ i ∧ i < 0x0430 then agE 1 2 (.linkReset p) else none
  | _, _ => none

/-- The time objects (R378). -/
def timeObj (index sub : Nat) : Option Ent :=
  let a := domA 0 (index - 0x0801)
  let d := index - 0x0801
  if index = 0x0800 then
    match sub with
    | 1 => agE 0xA 0 .now
    | 2 => rwE 2 (tuA 0) [(R.TU_CTRL.ACT, 0)]
    | 3 => rwE 3 (tuA 0) [(R.TU_SWCFG.SW_SLEW, 0)]
    | 4 => rwE 3 (tuA 0) [(R.TU_SWCFG.SW_STEP_MAX, 0)]
    | _ => none
  else if index = 0x0810 then
    match sub with
    | 1 => rwE 1 (frA 0) [(R.FR_CTRL.EN, 0)]
    | 2 => rwE 0xA (frA 0) [(R.FR_START_NS.NS, 32), (R.FR_START_SECL.SEC, 64), (R.FR_START_SECH.SEC, 96)]
    | 3 => rwE 4 (frA 0) [(R.FR_PERIOD.PERIOD, 0)]
    | 4 => rwE 4 (frA 0) [(R.FR_FIRST.FIRST, 0)]
    | 5 => rfE 4 (frA 0) false [(R.FR_NO.NO, 0)]
    | 6 => rfE 0xA (frA 0) false [(R.FR_NEXT_NS.NEXT, 32), (R.FR_NEXT_SECL.NEXT, 64)]
    | _ => none
  else
    match sub with
    | 1 => rwE 2 a [(R.DOM_CFG.SRC, 0)]
    | 2 => rwE 2 a [(R.DOM_CFG.DOMAIN, 0)]
    | 3 => rwE 2 a [(R.DOM_CFG.PORT, 0)]
    | 4 => rwE 2 a [(R.DOM_CFG.DELAY, 0)]
    | 5 => rwE 2 a [(R.DOM_CFG.XPORT, 0)]
    | 6 => rwE 2 a [(R.DOM_CFG.TWOSTEP, 0)]
    | 7 => rwE 1 a [(R.DOM_CFG.SVO_EN, 0)]
    | 8 => rwE 2 a [(R.DOM_CFG.KP, 0)]
    | 9 => rwE 2 a [(R.DOM_CFG.KI, 0)]
    | 0xA => rwE 3 a [(R.DOM_SVO.STEP_THR, 0)]
    | 0xB => rwE 3 a [(R.DOM_SVO.RATE_MAX, 0)]
    | 0xC => agE 2 1 (.prio d 1)
    | 0xD => agE 2 1 (.prio d 2)
    | 0xE => agE 6 1 (.logInterval d 1)
    | 0xF => agE 6 1 (.logInterval d 2)
    | 0x10 => agE 1 1 (.slaveOnly d)
    | 0x11 => rfE 8 a false [(R.DOM_LAST_LO.THETA, 0), (R.DOM_LAST_HI.THETA, 32)]
    | 0x12 => rfE 1 a false [(R.DOM_STAT.LOCKED, 0)]
    | 0x13 => rwE 1 a [(R.DOM_CFG.PTP_EN, 0)]
    | _ => none

/-- The power objects (R484). -/
def State.powerObj (s : State) (index sub : Nat) : Option Ent :=
  let a := pwrA 0
  match index with
  | 0x0900 =>
    match sub with
    | 1 => rfE 3 a false [(R.PWR_VIN.VIN, 0)]
    | 2 => rfE 3 a false [(R.PWR_VIN.IIN, 0)]
    | 3 => rfE 3 a false [(R.PWR_PIN.PIN, 0)]
    | 4 => rwE 3 a [(R.PWR_LIMIT.LIMIT, 0)]
    | 5 => rfE 2 a false ((List.range 8).map fun i => (⟨0, i, i⟩, i))
    | 6 => some ⟨2, 2, 1, false, .regs a [(⟨0, 7, 0⟩, 0)] true⟩
    | _ => none
  | 0x0920 =>
    match sub with
    | 1 => agE 4 1 .sleepTarget
    | 2 => agE 2 1 .sleepState
    | 3 => agE 1 2 .sleepGo
    | 4 => roE 2 s.power.status
    | _ => none
  | 0x0921 =>
    if 1 ≤ sub ∧ sub ≤ 0x40 then rwE 3 a [(R.WAKE_EVT.EVENT.shift (8 * (sub - 1)), 0), (R.WAKE_EVT.EN.shift (8 * (sub - 1)), 15)]
    else if 0x41 ≤ sub ∧ sub ≤ 0x80 then rwE 4 a [(R.WAKE_TGT.TARGET.shift (8 * (sub - 0x41)), 0)]
    else none
  | 0x0922 => if sub = 1 then rwE 4 a [(R.WAKE_TIMER.MS, 0)] else none
  | 0x0930 =>
    if 1 ≤ sub ∧ sub ≤ 0x40 then
      some ⟨0xC, 0, 16, false, .regs (pwrA ((sub - 1) / 16)) ((List.range 4).map fun i => (R.PWR_LOG.WORD.shift ((sub - 1) % 16 * 16 + 4 * i), 32 * i)) false⟩
    else if sub = 0x41 then agE 1 2 .logClear
    else none
  | 0x0940 =>
    match sub with
    | 1 => rfE 3 a false [(R.PWR_SBEST.EST, 0)]
    | 2 => rwE 3 a [(R.PWR_SBLIM.SB_LIMIT, 0)]
    | _ => none
  | _ =>
    let q := index % 16
    let a := pwrA q
    let c := clkA q
    if index < 0x0920 then
      if 1 ≤ sub ∧ sub ≤ 0x10 then roE 6 (wrapTo 16 (sext 12 (s.rd a (R.TS.TEMP.shift (4 * (sub - 1))))))
      else
        match sub with
        | 0x11 => rwE 2 a [(R.THERM_CFG.WARN_T, 0)]
        | 0x12 => rwE 2 a [(R.THERM_CFG.THROT_T, 0)]
        | 0x13 => rfE 2 a false [(R.PWR_CAP.CAP, 0)]
        | 0x14 => rfE 3 a false [(R.PWR_LOAD.LOAD, 0)]
        | _ => none
    else if 1 ≤ sub ∧ sub ≤ 4 then rwE 3 c [(R.FR_CFG0.MHZ.shift (4 * (sub - 1)), 0)]
    else
      match sub with
      | 5 => rwE 3 c [(R.NOC_CLK.MHZ, 0)]
      | 6 => rwE 2 c [(R.NOC_CLK.PLVL, 0)]
      | _ => none

/-- The objects of bay `b` (R169). -/
def State.bayObj (s : State) (b k sub : Nat) : Option Ent :=
  let a := bayA b
  if 0x10 ≤ k then
    match sub with
    | 1 => some ⟨4, 1, 4, true, .regs (rfxA b (k - 0x10))
        [(R.RFX_COND.SLOT0, 0), (R.RFX_COND.SLOT1, 7), (R.RFX_COND.SLOT2, 14), (R.RFX_COND.SLOT3, 21)] true⟩
    | 2 => some ⟨4, 1, 4, true, .regs (rfxA b (k - 0x10))
        [(R.RFX_ACT.TARGET, 0), (R.RFX_ACT.ACTION, 8), (R.RFX_ACT.LATCH, 11), (R.RFX_ACT.ALERT, 12), (R.RFX_ACT.REC, 13)] true⟩
    | _ => none
  else
    match k, sub with
    | 0, 1 => some ⟨2, 0, 1, true, .shown (s.bayState b)⟩
    | 0, 2 => some ⟨2, 2, 1, true, .regs a [(⟨0, 2, 0⟩, 0)] true⟩
    | 1, 1 => frE 3 a R.FRAME_CFG.OVL
    | 2, 1 => frE 3 a R.PIN_OUT.VAL
    | 2, 2 => frE 3 a R.PIN_OUT.OE
    | 3, 1 => frE 1 a R.ADC_CFG.EN
    | 3, 2 => frE 3 a R.ADC_CFG.DIV
    | 3, 3 => frE 6 a R.ADC_THR.HI
    | 3, 4 => frE 6 a R.ADC_THR.LO
    | 4, 1 => frE 1 a R.WDOG_CFG.EN
    | 4, 2 => frE 2 a R.WDOG_CFG.ACTION
    | 4, 3 => frE 4 a R.WDOG_CFG.TIMEOUT
    | 5, 1 => rfE 2 a true [(R.ALERT_STAT.ALERT, 0)]
    | _, _ => none

/-- The objects of pin `k` of bay `b` (R169). -/
def State.pinObj (s : State) (b k sub : Nat) : Option Ent :=
  let a := pinA b k
  match sub with
  | 1 => frE 2 a R.PIN_MODE.MODE
  | 2 => frE 2 a R.PIN_MODE.DSRC
  | 3 => frE 1 a R.PIN_MODE.RFX_EN
  | 4 => frE 3 a R.PIN_THR.VH
  | 5 => frE 3 a R.PIN_THR.VL
  | 6 => frE 2 a R.PIN_THR.HYST
  | 7 => frE 2 a R.PIN_FILT.DGL
  | 8 => frE 2 a R.PIN_FILT.EDGE_EN
  | 9 => frE 2 a R.PIN_STK.ZONE
  | 0xA => some ⟨4, 1, 4, true, .stuck b k⟩
  | 0xB => some ⟨2, 0, 1, true, .shown (s.zone b k)⟩
  | 0xC => rfE 3 a true [(R.PIN_CNT.OVR, 0)]
  | 0xD => rfE 3 a true [(R.PIN_CNT.GLITCH, 0)]
  | _ => none

/-- The highest sub-index of a present index; none where the index is absent (R380, R383). -/
def State.topSub (s : State) (i : Nat) : Option Nat :=
  if i = 0x0100 ∨ i = 0x0101 then some 7
  else if i = 0x0102 then some 5
  else if i = 0x0140 then some 2
  else if i = 0x0200 then some 3
  else if 0x0200 < i ∧ i ≤ 0x0210 then some 4
  else if i = 0x0400 then some 6
  else if i = 0x0410 then some 8
  else if 0x0420 ≤ i ∧ i < 0x0430 then (if s.portOk (i - 0x0420) then some 5 else none)
  else if i = 0x0430 then some 7
  else if i = 0x0800 then (if s.timeOk then some 4 else none)
  else if i = 0x0801 ∨ i = 0x0802 then (if s.timeOk then some 0x13 else none)
  else if i = 0x0810 then (if s.timeOk then some 6 else none)
  else if i = 0x0900 then some 6
  else if 0x0910 ≤ i ∧ i < 0x0914 then (if s.quadOk (i - 0x0910) then some 0x14 else none)
  else if i = 0x0920 then some 4
  else if i = 0x0921 then some 0x80
  else if i = 0x0922 then some 1
  else if i = 0x0930 then some 0x41
  else if i = 0x0940 then some 2
  else if 0x0950 ≤ i ∧ i < 0x0954 then (if s.quadOk (i - 0x0950) then some 6 else none)
  else if 0x1000 ≤ i ∧ i < 0x2000 then
    let k := (i - 0x1000) % 0x20
    if s.bayHere ((i - 0x1000) / 0x20) then
      (if 0x10 ≤ k ∨ k = 0 ∨ k = 2 then some 2
       else if k = 1 ∨ k = 5 then some 1
       else if k = 3 then (if s.adcOk then some 4 else none)
       else if k = 4 then some 3
       else none)
    else none
  else if 0x2000 ≤ i ∧ i < 0x2500 then (if s.bayHere ((i - 0x2000) / 10) then some 0xD else none)
  else if 0x3000 ≤ i ∧ i < 0x4000 then
    match s.userObjs.filter (fun o => decide (o.index = i)) with
    | [] => none
    | l => some (l.foldl (fun m o => max m o.sub) 0)
  else none

/-- The entry of an index and sub-index, or the status that refuses it: 1 OBJECT_ABSENT, 2 NO_SUB (R380, R383, R384). -/
def State.objEntry (s : State) (i sub : Nat) : Nat × Option Ent :=
  match s.topSub i with
  | none => (1, none)
  | some top =>
    if sub = 0 then (0, some ⟨2, 4, 1, decide (0x1000 ≤ i ∧ i < 0x2500), .shown top⟩)
    else if i = 0x0930 ∧ sub ≤ 0x40 ∧ s.quadOk ((sub - 1) / 16) = false then (1, none)
    else
      let e :=
        if i < 0x0200 then s.identObj i sub
        else if i < 0x0800 then s.commObj i sub
        else if i < 0x0900 then timeObj i sub
        else if i < 0x1000 then s.powerObj i sub
        else if i < 0x2000 then s.bayObj ((i - 0x1000) / 0x20) ((i - 0x1000) % 0x20) sub
        else if i < 0x2500 then s.pinObj ((i - 0x2000) / 10) ((i - 0x2000) % 10) sub
        else (s.userObjs.find? (fun o => decide (o.index = i ∧ o.sub = sub))).map fun o => ⟨o.type, o.access, o.len, o.frame, .user o⟩
      match e with
      | some e => (0, some e)
      | none => (2, none)

/-! ## What a value may be (R381, R386) -/

/-- The table entry of a register field. -/
def fieldOf (base : Nat) (f : Fld) : Option RegField :=
  match locate (base + f.off) with
  | some (_, g, _, off) => g.table.find? (fun r => r.covers off f.lo)
  | none => none

/-- Whether the parts of a value are ones that their fields list, and whether nothing of it lies outside them. -/
def partsOk (base : Nat) (parts : List (Fld × Nat)) (whole time : Bool) (v : Nat) : Bool :=
  parts.all (fun p =>
    match fieldOf base p.1 with
    | some r => r.legal.ok (v / 2 ^ p.2 % 2 ^ p.1.width)
    | none => true) &&
    (whole || time || decide (parts.foldl (fun n p => n + v / 2 ^ p.2 % 2 ^ p.1.width * 2 ^ p.2) 0 = v))

/-- Whether a binary32 value is a NaN. -/
def isNan (v : Nat) : Bool := decide (v / 2 ^ 23 % 256 = 255) && decide (v % 2 ^ 23 ≠ 0)

/-- Whether an agent's entry takes a value. -/
def AgentObj.takes (o : AgentObj) (v : Nat) : Bool :=
  match o with
  | .deviceReset => decide (v = 0xD5)
  | .nodeId => decide (v ≠ 0xFFFF)
  | .udpMac => decide (v < 16 ∨ v = 0xFF)
  | .canBase => decide (v ≤ 0x1F)
  | .gop => decide (1 ≤ v ∧ v ≤ 5)
  | .sleepState => decide (v ≤ 4)
  | _ => true

/-- The status of a value for an entry: 4 TYPE_MISMATCH, 5 RANGE, 0 where it fits. -/
def Ent.check (e : Ent) (r : ClRec) : Nat :=
  let lenOk := if e.type = 0xB then decide (r.len ≤ min e.len 255) else decide (r.len = e.len)
  if r.type ≠ e.type ∨ lenOk = false then 4
  else if e.type = 1 ∧ 1 < r.val then 5
  else if e.type = 9 ∧ isNan r.val then 5
  else if e.type = 0xA ∧ (r.val % 2 ^ 16 ≠ 0 ∨ 1000000000 ≤ r.val / 2 ^ 32 % 2 ^ 32) then 5
  else
    match e.src with
    | .regs base parts whole => if partsOk base parts whole (decide (e.type = 0xA)) r.val then 0 else 5
    | .stuck _ _ => if r.val ≤ 65535 ∨ (r.val % 1000 = 0 ∧ r.val ≤ 65535000) then 0 else 5
    | .agent o => if o.takes r.val then 0 else 5
    | _ => 0

/-! ## Reading (R391) -/

/-- The agent's port on the NoC. -/
def agentWho : Who := ⟨controlRouter 0, 1, false, false, 3, false⟩

/-- The value of register fields; a field that a read clears is cleared (R11). -/
def State.readParts (s : State) (base : Nat) (parts : List (Fld × Nat)) : Nat × State :=
  (parts.foldl (fun n p => n + s.rd base p.1 * 2 ^ p.2) 0,
    parts.foldl (fun s p =>
      match fieldOf base p.1 with
      | some r => if r.acc = .rc then s.wr base p.1 0 else s
      | none => s) s)

/-- The value of an agent's entry. -/
def State.agentValue (s : State) (o : AgentObj) : Nat :=
  match o with
  | .sessionTimeout => s.agent.timeout
  | .nodeId => s.agent.node
  | .udpMac => s.agent.udpMac
  | .ipAddr => s.agent.ip
  | .udpPort => s.agent.udpPort
  | .canMask => s.agent.canMask
  | .canBase => s.agent.canBase
  | .root => if s.slink.root then 1 else 0
  | .gop => s.slink.gop
  | .instant => s.slink.at_
  | .barrierHold => if s.slink.hold then 1 else 0
  | .barrierTimeout => s.slink.barrierTo
  | .prio d k => if k = 1 then (s.dom d).prio1 else (s.dom d).prio2
  | .logInterval d k => if k = 1 then (s.dom d).logSync else (s.dom d).logAnnounce
  | .slaveOnly d => if (s.dom d).slaveOnly then 1 else 0
  | .sleepTarget => s.power.target
  | .sleepState => s.power.state
  | .now => timeBits s.now
  | _ => 0

/-- The value in force of an entry, with its status. A value of an image's object that its place does not return is answered with an error; the spec names
none (log entry 1). -/
def State.objRead (s : State) (e : Ent) : Nat × Nat × State :=
  match e.src with
  | .shown v => (0, v, s)
  | .regs base parts _ => let r := s.readParts base parts; (0, r.1, r.2)
  | .stuck b k => (0, s.rd (pinA b k) R.PIN_STK.TO * (if s.bit (pinA b k) R.PIN_STK.UNIT then 1000 else 1), s)
  | .agent .now => (0, s.agentValue .now, s.timeSnap 0)
  | .agent o => (0, s.agentValue o, s)
  | .user o =>
    let r := s.spanRead agentWho netOk 4096 o.pa o.len
    if r.1 = 0 then (0, r.2.1, r.2.2) else (r.2.2.goRefused, 0, r.2.2.drawn)

/-! ## Writing (R392) -/

/-- The RW fields of a register as they stand: what a write through an object leaves alone. -/
def State.rwValue (s : State) (base off : Nat) : Nat :=
  match locate (base + off) with
  | some (_, g, _, o) => (g.fields o).foldl (fun n r => if r.acc = .rw ∨ r.acc = .rwl then n + s.rd (base + off - o) (r.at o) * 2 ^ r.fld.lo else n) 0
  | none => 0

/-- Write the parts of a value through their registers, one write for each register. -/
def State.writeParts (s : State) (base : Nat) (parts : List (Fld × Nat)) (v : Nat) : State :=
  (parts.map (fun p => p.1.off)).eraseDups.foldl (fun s off =>
    let w := parts.foldl (fun n p =>
      if p.1.off = off then clearBits n ((2 ^ p.1.width - 1) * 2 ^ p.1.lo) + v / 2 ^ p.2 % 2 ^ p.1.width * 2 ^ p.1.lo else n) (s.rwValue base off)
    s.regStore (base + off) w) s

/-- A value of STUCK_TIMEOUT as a value of PIN_STK.UNIT and TO (R169). -/
def stuckParts (v : Nat) : Nat := if v ≤ 65535 then v else v / 1000 + 2 ^ 16
/-- The fields of a STUCK_TIMEOUT. -/
def stuckFields : List (Fld × Nat) := [(R.PIN_STK.TO, 0), (R.PIN_STK.UNIT, 16)]

/-- A quadrant reset commanded through its object (R46, R387): the status and the state. -/
def State.quadCommand (s : State) (q : Nat) : Nat × State :=
  if q = 0 then (0x13, s)
  else if 3 < q ∨ s.quadOk q = false then (5, s)
  else if s.loadBusy then (0x14, s)
  else (0, s.quadReset q 6)

/-- Write an agent's entry. Status 255 says that the answer waits for a sleep entry's commit point (R463). -/
def State.agentWrite (s : State) (o : AgentObj) (v : Nat) : Nat × State :=
  match o with
  | .quadrantReset => s.quadCommand v
  | .deviceReset => (0, s.modAgent fun x => { x with resetDue := true })
  | .sessionTimeout => (0, s.modAgent fun x => { x with timeout := v })
  | .nodeId => (0, s.modAgent fun x => { x with node := v })
  | .udpMac => (0, s.modAgent fun x => { x with udpMac := v })
  | .ipAddr => (0, s.modAgent fun x => { x with ip := v })
  | .udpPort => (0, s.modAgent fun x => { x with udpPort := v })
  | .canMask => (0, s.modAgent fun x => { x with canMask := v })
  | .canBase => (0, s.modAgent fun x => { x with canBase := v })
  | .root => (0, s.modLink fun x => if v = 1 then { x with root := true, la := 0, laValid := true, depth := 0 } else { x with root := false })
  | .enumerate => if v = 1 then s.originate 5 0 else (0, s)
  | .linkReset p => (0, if v = 1 ∧ s.portSends p then s.emit (.linkReset p) else s)
  | .gop => (0, s.modLink fun x => { x with gop := v })
  | .instant => (0, s.modLink fun x => { x with at_ := v })
  | .globalGo => if v ≠ 1 then (0, s) else if s.slink.gop = 0 then (if s.slink.root then 5 else 0x10, s) else s.originate s.slink.gop s.slink.at_
  | .barrierHold => (0, (s.modLink fun x => { x with hold := decide (v = 1) }).linkAnswer)
  | .barrierTimeout => (0, s.modLink fun x => { x with barrierTo := v })
  | .prio d k => (0, s.modDom d fun x => if k = 1 then { x with prio1 := v } else { x with prio2 := v })
  | .logInterval d k => (0, s.modDom d fun x => if k = 1 then { x with logSync := v } else { x with logAnnounce := v })
  | .slaveOnly d => (0, s.modDom d fun x => { x with slaveOnly := decide (v = 1) })
  | .sleepTarget => (0, { s with power := { s.power with target := v } })
  | .sleepState => (0, { s with power := { s.power with state := v } })
  | .sleepGo =>
    if v = 1 then
      let r := s.sleepGo s.power.target s.power.state
      if r.1 = 0 then (0, r.2) else if r.1 = 1 then (r.2.goRefused, r.2.drawn) else (255, r.2)
    else (0, s)
  | .logClear => (0, if v = 1 then s.quads.foldl (fun s q => s.pwrLogClear q) s else s)
  | .now => (3, s)

/-- Write a checked value into an entry: status and state. -/
def State.objWrite (s : State) (e : Ent) (len v : Nat) : Nat × State :=
  match e.src with
  | .shown _ => (3, s)
  | .regs base parts _ => (0, s.writeParts base parts v)
  | .stuck b k => (0, s.writeParts (pinA b k) stuckFields (stuckParts v))
  | .agent o => s.agentWrite o v
  | .user o =>
    let r := s.spanWrite agentWho netOk 4096 o.pa len (allBytes len) v
    if r.1 = 0 then (0, r.2) else (r.2.goRefused, r.2.drawn)

/-- The shadow settings of a FRAME-class bay or pin entry for boundary `n` (R394). -/
def Ent.shadows (e : Ent) (sess n : Nat) (r : ClRec) : List Shadow :=
  let bay := if r.index < 0x2000 then (r.index - 0x1000) / 0x20 else (r.index - 0x2000) / 10
  match e.src with
  | .regs base parts _ => parts.map fun p => ⟨sess, r.index, r.sub, n, some bay, base, p.1, r.val / 2 ^ p.2 % 2 ^ p.1.width⟩
  | .stuck b k => stuckFields.map fun p => ⟨sess, r.index, r.sub, n, some bay, pinA b k, p.1, stuckParts r.val / 2 ^ p.2 % 2 ^ p.1.width⟩
  | _ => []

end Sys2Proof.Machine
end

