-- ==== Sys2Proof/Machine/Sessions.lean ====
section
/-! DEFINITION. Machine/Sessions.lean: what Clanex requests do (R388 to R400, R402 to R405, R412, R414, spec/11_object_dictionary.md): reads and writes of
entries, sessions and their commits, description, global operations, and forwarding over the system link. -/
namespace Sys2Proof.Machine
open Sys2Proof

/-! ## Records (R390 to R392, R404) -/

/-- The same entry. -/
def sameEntry (a b : ClRec) : Bool := decide (a.index = b.index ∧ a.sub = b.sub)

/-- The value that a session stages for an entry. -/
def State.stagedValue (s : State) (n : Nat) (r : ClRec) : Option ClRec := if n = 0 then none else (s.sess n).staged.find? (sameEntry r)

/-- Whether a session other than `n` locks an entry. -/
def State.lockedBy (s : State) (n : Nat) (r : ClRec) : Bool :=
  (List.range 16).any fun i => decide (i + 1 ≠ n) && decide ((s.sess (i + 1)).st ≠ 0) && (s.sess (i + 1)).staged.any (sameEntry r)

/-- READ of one record (R382, R391). -/
def State.readRec (s : State) (n : Nat) (r : ClRec) : (ClRec × Nat) × State :=
  match s.objEntry r.index r.sub with
  | (_, some e) =>
    if e.access = 2 then ((⟨r.index, r.sub, e.type, 0, 0⟩, 3), s)
    else
      match s.stagedValue n r with
      | some x => ((⟨r.index, r.sub, e.type, x.len, x.val⟩, 0), s)
      | none =>
        let v := s.objRead e
        if v.1 = 0 then ((⟨r.index, r.sub, e.type, e.len, v.2.1⟩, 0), v.2.2) else ((⟨r.index, r.sub, e.type, 0, 0⟩, v.1), v.2.2)
  | (st, none) => ((⟨r.index, r.sub, r.type, 0, 0⟩, st), s)

/-- DESCRIBE of one record (R385, R404): TYPE, access code, class and zero, as a value of type DOMAIN (log entry 47). -/
def State.describeRec (s : State) (r : ClRec) : ClRec × Nat :=
  match s.objEntry r.index r.sub with
  | (_, some e) => (⟨r.index, r.sub, 0xC, 4, e.type + e.access * 2 ^ 8 + (if e.frame then 0 else 2 ^ 16)⟩, 0)
  | (st, none) => (⟨r.index, r.sub, r.type, 0, 0⟩, st)

/-- Stage a value: a later value takes the place of the first (R390). -/
def stage (l : List ClRec) (r : ClRec) : List ClRec := if l.any (sameEntry r) then l.map (fun x => if sameEntry r x then r else x) else l ++ [r]

/-- Whether the bay of an entry is in RESET, where no register of it takes a write (R47). -/
def State.bayDown (s : State) (i : Nat) : Bool :=
  (decide (0x1000 ≤ i ∧ i < 0x2000) && decide (s.bayState ((i - 0x1000) / 0x20) = 2)) ||
    (decide (0x2000 ≤ i ∧ i < 0x2500) && decide (s.bayState ((i - 0x2000) / 10) = 2))

/-- WRITE of one record: its status and the state. Status 255 says that the answer waits (R463). A write to a bay in RESET changes nothing; the spec names
no status for it (log entry 1). -/
def State.writeRec (s : State) (n : Nat) (r : ClRec) : Nat × State :=
  match s.objEntry r.index r.sub with
  | (st, none) => (st, s)
  | (_, some e) =>
    if e.access = 0 ∨ e.access = 4 ∨ (n ≠ 0 ∧ r.index = 0x0140) then (3, s)
    else if n = 0 ∧ e.access = 3 then (7, s)
    else if e.check r ≠ 0 then (e.check r, s)
    else if s.lockedBy n r then (6, s)
    else if n = 0 then (if s.bayDown r.index then (s.goRefused, s.drawn) else s.objWrite e r.len r.val)
    else
      let v := s.sess n
      if 2 ≤ v.st then (6, s)
      else if v.staged.any (sameEntry r) = false ∧ 4096 ≤ v.staged.length then (0xA, s)
      else (0, s.setSess n { v with staged := stage v.staged r })

/-- READ of every record. -/
def State.readRecs (s : State) (n : Nat) : List ClRec → List (ClRec × Nat) × State
  | [] => ([], s)
  | r :: t =>
    let x := s.readRec n r
    let y := x.2.readRecs n t
    (x.1 :: y.1, y.2)

/-- WRITE of every record in order; the answer echoes their heads. -/
def State.writeRecs (s : State) (n : Nat) : List ClRec → List (ClRec × Nat) × State
  | [] => ([], s)
  | r :: t =>
    let x := s.writeRec n r
    let y := x.2.writeRecs n t
    ((⟨r.index, r.sub, r.type, 0, 0⟩, x.1) :: y.1, y.2)

/-! ## Sessions (R389, R397, R399) -/

/-- Close a session with the status it ends on. -/
def State.closeSess (s : State) (n st : Nat) : State :=
  { s.setSess n { SessSt.init with last := st } with
    shadow := s.shadow.filter (fun e => decide (e.sess ≠ n))
    lostSh := s.lostSh.filter (fun e => decide (e.sess ≠ n)) }

/-- SESSION_TIMEOUT (R399): an open session that has had no request is rolled back; event 725. -/
def execSessionTimeout (n : Nat) (s : State) : Host.Outcome State Fault Refusal :=
  .next <| if 1 ≤ n ∧ n ≤ 16 ∧ (s.sess n).st = 1 ∧ s.agentOn = true then (s.closeSess n (s.sess n).last).raise 725 else s

/-- The lowest session that is free. -/
def State.freeSess (s : State) : Option Nat := ((List.range 16).map (· + 1)).find? (fun n => decide ((s.sess n).st = 0))

/-! ## Commits (R393 to R398, R400) -/

/-- The argument block of a COMMIT's answer: MODE and the applied FRAME. -/
def commitArg (mode frame : Nat) : Bytes := leBytes mode 1 ++ zeros 3 ++ leBytes frame 4

/-- The first staged entry that no longer passes its checks, with its status. -/
def State.firstBad (s : State) : List ClRec → Option (ClRec × Nat)
  | [] => none
  | r :: t =>
    match s.objEntry r.index r.sub with
    | (st, none) => some (⟨r.index, r.sub, r.type, 0, 0⟩, st)
    | (_, some e) => if e.check r ≠ 0 then some (⟨r.index, r.sub, r.type, 0, 0⟩, e.check r) else s.firstBad t

/-- The boundary of a commit of `n` entries: the first that meets the lead, or the one numbered `frame`; none where it does not meet the lead. -/
def State.commitFrame (s : State) (mode frame n : Nat) : Option Nat :=
  match s.nextB with
  | none => none
  | some (t, f) =>
    let lead : Int := s.now + (((10000 + 20 * n) * 65536 : Nat) : Int)
    let p := s.framePeriod
    if mode = 1 then
      let k : Nat := if lead ≤ t then 0 else ((lead - t + p - 1) / p).toNat
      some ((f + k) % 2 ^ 32)
    else
      let k : Nat := (frame + 2 ^ 32 - f % 2 ^ 32) % 2 ^ 32
      if k < 2 ^ 31 ∧ lead ≤ t + (k : Int) * p then some frame else none

/-- Write staged entries in order; those that are not applied. -/
def State.writeStaged (s : State) : List ClRec → List ClRec × State
  | [] => ([], s)
  | r :: t =>
    let x : Bool × State :=
      match s.objEntry r.index r.sub with
      | (_, some e) =>
        if s.bayDown r.index then (true, s)
        else
          let w := s.objWrite e r.len r.val
          (decide (w.1 ≠ 0 ∧ w.1 ≠ 255), w.2)
      | (_, none) => (true, s)
    let y := x.2.writeStaged t
    (if x.1 then r :: y.1 else y.1, y.2)

/-- A commit is applied: event 724, the session closes, and the COMMIT is answered, with the number of entries not applied and the first of them where
there are any (R395, R398; log entry 47). -/
def State.commitDone (s : State) (n mode frame : Nat) (lost : List ClRec) : State :=
  let v := s.sess n
  let st := if lost.isEmpty then 0 else 0x12
  let recs :=
    match lost with
    | [] => []
    | r :: _ => [((⟨r.index, r.sub, 4, 4, lost.length⟩ : ClRec), 0x12)]
  let s := (s.closeSess n st).raise 724
  match v.origin, v.head with
  | some o, some h => s.clAnswer o h 4 st n (commitArg mode frame) recs
  | _, _ => s

/-- The class of a staged entry. -/
def State.frameClass (s : State) (r : ClRec) : Bool :=
  match (s.objEntry r.index r.sub).2 with
  | some e => e.frame
  | none => false

/-- Whether a staged entry is a bay's or a pin's, which a shadow setting applies. -/
def bayEntry (r : ClRec) : Bool := decide (0x1000 ≤ r.index ∧ r.index < 0x2500)

/-- COMMIT of session `n`, which its origin owns: the answer's status and records where it is answered at once (R393 to R395, R397, R400). -/
def State.commit (s : State) (n : Nat) (h : ClHead) (mode frame : Nat) : Option (Nat × List (ClRec × Nat)) × State :=
  let v := s.sess n
  if 2 ≤ v.st then (some (0x0D, []), s)
  else
    match s.firstBad v.staged with
    | some x => (some (x.2, [x]), s)
    | none =>
      if mode = 0 then
        let s := s.setSess n { v with st := 3, head := some h, mode := 0 }
        let w := s.writeStaged v.staged
        (none, (w.2.drawn).commitDone n 0 (w.2.freeVal 32).toNat w.1)
      else if s.framesOn = false ∨ s.nextB = none then (some (0x0C, []), s)
      else
        match s.commitFrame mode frame v.staged.length with
        | none => (some (0x0B, []), s)
        | some f =>
          let sh := v.staged.flatMap fun r =>
            if bayEntry r then
              match (s.objEntry r.index r.sub).2 with
              | some e => e.shadows n f r
              | none => []
            else []
          (none, { s.setSess n { v with st := 2, target := f, head := some h, mode := mode, lostQ := [] } with shadow := s.shadow ++ sh })

/-- The quadrant whose reset takes an entry's value along, if any (R398). -/
def State.entryQuad (s : State) (r : ClRec) : Option Nat :=
  match (s.objEntry r.index r.sub).2 with
  | some ⟨_, _, _, _, .regs base _ _⟩ => if 0xD000000000 ≤ base then some ((base - 0xD000000000) / 0x10000000) else none
  | some ⟨_, _, _, _, .user o⟩ => if 0xC000000000 ≤ o.pa ∧ o.pa < 0xC080000000 then some ((o.pa - 0xC000000000) / 0x20000000) else none
  | _ => none

/-- The shadow settings of session `n` that no boundary of their bays has applied yet take effect, or are lost with a bay in RESET or HOLD. -/
def State.applyRest (s : State) (n : Nat) : State :=
  let mine := s.shadow.filter (fun e => decide (e.sess = n))
  let s := { s with shadow := s.shadow.filter (fun e => decide (e.sess ≠ n)) }
  (mine.map (fun e => e.bay)).eraseDups.foldl (fun s bay =>
    let here := mine.filter (fun e => decide (e.bay = bay))
    match bay with
    | some b =>
      if s.bayState b < 2 then ((here.foldl (fun s e => s.bayField b e.base e.fld e.val) s).reflex b false).drivePins b
      else { s with lostSh := s.lostSh ++ here }
    | none => s) s

/-- COMMIT_APPLY (R395, R396, R398): the notice of the commit's boundary has come; what is left of it takes effect, then user objects, then the AGENT
entries, each in staging order. -/
def execCommitApply (n : Nat) (s : State) : Host.Outcome State Fault Refusal :=
  .next <|
    let v := s.sess n
    let due :=
      match s.notice with
      | some (_, f) => decide ((f + 2 ^ 32 - v.target % 2 ^ 32) % 2 ^ 32 < 2 ^ 31)
      | none => false
    if s.agentOn && decide (1 ≤ n ∧ n ≤ 16 ∧ v.st = 2) && due then
      let s := (s.setSess n { v with st := 3 }).applyRest n
      let gone := s.lostSh.filter (fun e => decide (e.sess = n))
      let skip := fun (r : ClRec) => (s.entryQuad r).any (fun q => v.lostQ.contains q)
      let rest := v.staged.filter (fun r => !bayEntry r && !skip r)
      let u := s.writeStaged (rest.filter s.frameClass)
      let a := u.2.writeStaged (rest.filter (fun r => !s.frameClass r))
      let failed := u.1 ++ a.1
      let lost := v.staged.filter (fun r =>
        gone.any (fun e => decide (e.index = r.index ∧ e.sub = r.sub)) || (!bayEntry r && skip r) || failed.any (sameEntry r))
      a.2.commitDone n v.mode v.target lost
    else s

/-! ## Requests (R388, R389, R402 to R405, R414) -/

/-- The session that a request names: none where it may not use it (R389). -/
def State.ownSess (s : State) (o : Origin) (h : ClHead) : Bool :=
  decide (1 ≤ h.session ∧ h.session ≤ 16) && decide ((s.sess h.session).st ≠ 0) && decide ((s.sess h.session).origin.map originKey = some (originKey o))

/-- Remember the status last answered in a session. -/
def State.lastStatus (s : State) (n st : Nat) : State := if n = 0 ∨ (s.sess n).st = 0 then s else s.setSess n { s.sess n with last := st }

/-- Answer a request and note its status in its session. -/
def State.reply (s : State) (o : Origin) (h : ClHead) (op st : Nat) (arg : Bytes) (recs : List (ClRec × Nat)) : State :=
  (s.lastStatus h.session st).clAnswer o h op st h.session arg recs

/-- Carry out a request whose session, if it names one, is its own (R404). -/
def State.clDo (s : State) (o : Origin) (h : ClHead) (op : ClOp) : State :=
  match op with
  | .read recs =>
    let r := s.readRecs h.session recs
    r.2.reply o h 1 (firstStatus r.1) [] r.1
  | .write recs =>
    let r := s.writeRecs h.session recs
    if r.1.any (fun x => decide (x.2 = 255)) then r.2.modAgent fun v => { v with waiting := some ⟨o, h, 2, r.1⟩ }
    else r.2.reply o h 2 (firstStatus r.1) [] r.1
  | .begin =>
    match s.freeSess with
    | some n => (s.setSess n { SessSt.init with st := 1, origin := some o }).clAnswer o h 3 0 n [] []
    | none => s.clAnswer o h 3 9 0 [] []
  | .commit mode frame =>
    match s.commit h.session h mode frame with
    | (some x, s) => s.drawn.reply o h 4 x.1 (commitArg mode (s.freeVal 32).toNat) x.2
    | (none, s) => s
  | .rollback =>
    if 2 ≤ (s.sess h.session).st then s.reply o h 5 0x0D [] []
    else (s.closeSess h.session 0).clAnswer o h 5 0 h.session [] []
  | .describe recs =>
    let r := recs.map s.describeRec
    s.reply o h 6 (firstStatus r) [] r
  | .global gop t =>
    let r := s.originate gop t
    r.2.reply o h 0x10 r.1 (leBytes gop 1 ++ zeros 7 ++ leBytes t 16) []
  | .bad => s.reply o h 0 0x11 [] []

/-- Whether the agent serves the transport and node that a request came by (R401, R402). Through PF0 and the system link every DST is taken as this device
(log entry 47). -/
def State.served (s : State) (o : Origin) (h : ClHead) : Bool :=
  s.agentOn &&
    match o with
    | .udp e _ _ _ => decide (s.agent.udpMac = e) && decide (h.dst = s.agent.node ∨ h.dst = 0xFFFF)
    | .can n _ => s.agent.canMask.testBit n && decide (h.dst = s.agent.node ∨ h.dst = 0xFFFF)
    | _ => true

/-- Forward a request over the system link (R402, R409, R412). -/
def State.clForward (s : State) (o : Origin) (h : ClHead) (code : Nat) (raw : Bytes) : State :=
  match s.linkRoute h.linkDst with
  | (some p, _) =>
    let s := if h.dst = 0xFFFF then s else
      s.modAgent fun v => { v with fwd := (h.linkDst, h.seq, o) :: v.fwd.filter (fun x => decide ((x.1, x.2.1) ≠ (h.linkDst, h.seq))) }
    s.linkXmit p ⟨1, h.linkDst, s.slink.la, raw⟩
  | _ => s.clAnswer o h code 0x11 h.session [] []

/-- A request reaches the agent: a repeated SEQ within 1 s gets the kept answer again (R405). -/
def State.clRequest (s : State) (o : Origin) (h : ClHead) (op : ClOp) (raw : Bytes) : State :=
  let code := byteAt raw 1 % 128
  if s.served o h then
    match (if h.dst = 0xFFFF then none else
        s.agent.kept.find? (fun k => decide (originKey k.origin = originKey o ∧ k.seq = h.seq ∧ s.counter ≤ k.at_ + 1000000000))) with
    | some k => s.transmit o k.bytes
    | none =>
      if s.clLimit o < raw.length then s.clAnswer o h code 0x0F h.session [] []
      else if h.via && !(s.slink.laValid && decide (h.linkDst = s.slink.la)) then s.clForward o h code raw
      else
        match op with
        | .bad => s.clAnswer o h code 0x11 h.session [] []
        | op =>
          if (h.session ≠ 0 ∨ op.code = 4 ∨ op.code = 5) ∧ op.code ≠ 3 ∧ s.ownSess o h = false then
            s.clAnswer o h code 8 h.session [] (op.recs.map fun r => (⟨r.index, r.sub, r.type, 0, 0⟩, 8))
          else s.clDo o h op
  else s

/-- A message reaches the agent as bytes. -/
def State.clMessage (s : State) (o : Origin) (b : Bytes) : State := s.clRequest o (headOf b) (opOf b) b

/-- The agent's answers that wait for a MAC or a controller leave (R388, R401). -/
def State.lastAnswers (s : State) : State :=
  let s := (List.range 16).foldl (fun s e =>
    if s.bit (macA e) R.MAC_CFG.EN && s.bit (macA e) R.MAC_STAT.LINK && s.macDrives e then
      (s.mac e).agent.foldl (fun s f => s.emit (.frame e f false)) s
    else s) s
  (List.range 8).foldl (fun s n =>
    if s.bit (canA n) R.CAN_CFG.EN && decide (s.rd (canA n) R.CAN_STAT.STATE ≠ 2) then (s.can n).agent.foldl (fun s f => s.emit (.canFrame n f)) s
    else s) s

/-- A device reset that an object has commanded begins once its write is answered on the path by which it came (R388; log entry 47). -/
def State.resetDue (s : State) : State := if s.agent.resetDue then s.lastAnswers.deviceReset 2 else s

/-- READ (R404). -/
def execRead (o : Origin) (h : ClHead) (recs : List ClRec) (s : State) : Host.Outcome State Fault Refusal :=
  .next (s.clRequest o h (.read recs) (requestBytes h (.read recs)))
/-- WRITE (R404). -/
def execWrite (o : Origin) (h : ClHead) (recs : List ClRec) (s : State) : Host.Outcome State Fault Refusal :=
  .next (s.clRequest o h (.write recs) (requestBytes h (.write recs)))
/-- BEGIN (R389). -/
def execBegin (o : Origin) (h : ClHead) (s : State) : Host.Outcome State Fault Refusal := .next (s.clRequest o h .begin (requestBytes h .begin))
/-- COMMIT (R393, R404): a MODE that R393 does not list is refused. -/
def execCommit (o : Origin) (h : ClHead) (mode frame : Nat) (s : State) : Host.Outcome State Fault Refusal :=
  .next (s.clRequest o h (if mode < 3 then .commit mode frame else .bad) (requestBytes h (.commit mode frame)))
/-- ROLLBACK (R397). -/
def execRollback (o : Origin) (h : ClHead) (s : State) : Host.Outcome State Fault Refusal := .next (s.clRequest o h .rollback (requestBytes h .rollback))
/-- DESCRIBE (R404). -/
def execDescribe (o : Origin) (h : ClHead) (recs : List ClRec) (s : State) : Host.Outcome State Fault Refusal :=
  .next (s.clRequest o h (.describe recs) (requestBytes h (.describe recs)))

/-- DEVICE_RESET (R388): the write of 0xD5 is answered, and the reset begins. -/
def execDeviceReset (o : Origin) (h : ClHead) (s : State) : Host.Outcome State Fault Refusal :=
  let op : ClOp := .write [⟨0x0140, 2, 2, 1, 0xD5⟩]
  .next (s.clRequest o h op (requestBytes h op)).resetDue

/-- QUADRANT_RESET (R44, R46, R387). -/
def execQuadrantReset (o : Origin) (h : ClHead) (q : Nat) (s : State) : Host.Outcome State Fault Refusal :=
  let op : ClOp := .write [⟨0x0140, 1, 2, 1, q % 256⟩]
  .next (s.clRequest o h op (requestBytes h op))

/-! ## Packets (R408, R409, R412) -/

/-- A Clanex packet addressed to this device: the answer to a request that it forwarded, or a request. -/
def State.linkDeliver (s : State) (p : LinkPkt) : State :=
  let h := headOf p.bytes
  if 128 ≤ byteAt p.bytes 1 then
    match s.agent.fwd.find? (fun x => decide (x.1 = p.src ∧ x.2.1 = h.seq)) with
    | some x => (s.modAgent fun v => { v with fwd := v.fwd.filter (fun y => decide (y ≠ x)) }).answerWith x.2.2 { h with dst := 0 } p.bytes
    | none => s
  else s.clMessage (.link p.src) p.bytes

/-- SYSLINK_PACKET (R408 to R410, R412): acknowledged, or refused with a NAK, and taken or sent on. -/
def execSyslinkPacket (port seq : Nat) (p : LinkPkt) (crcOk : Bool) (s : State) : Host.Outcome State Fault Refusal :=
  .next <|
    if s.portUp port then
      if crcOk then
        let s := s.emit (.ack port seq false)
        if p.type = 2 then (if port < 2 then s.takeAssign p.bytes else s)
        else if p.type = 1 ∧ p.bytes.length ≤ 4096 then
          match s.linkRoute p.dst with
          | (none, true) => s.linkDeliver p
          | _ => s.linkSend p
        else s
      else s.emit (.ack port seq true)
    else s

end Sys2Proof.Machine
end

