-- ==== Sys2Proof/Machine/Frames.lean ====
section
/-! DEFINITION. Machine/Frames.lean: frames of the Ethernet MACs and the CAN FD controllers: filters, rings, stamps, the transparent clock's correction
and launches (R338 to R346, R364 to R366). Frames take no time: a frame is received, and its attempt to be sent begins, at the instant of its command. -/
namespace Sys2Proof.Machine
open Sys2Proof

/-! ## What the rings reach (R254, R263, R340) -/

/-- The lane group of a quadrant as a requester. -/
def laneWho (q : Nat) : Who := ⟨routerNum q 34, 1, false, false, 3, false⟩
/-- The quadrant of a ring. -/
def ringQuad (r : Nat) : Nat := if r < 32 then r / 8 else (r - 32) / 4
/-- RING_RD or RING_WR moves on by one entry. -/
def State.ringStep (s : State) (r : Nat) (f : Fld) : State := s.wr (ringA r) (ringF r f) ((s.rf r f + 1) % s.ringCount r)

/-- Whether a TX ring has an entry at its head. -/
def State.txPending (s : State) (r : Nat) : Bool := decide (s.rf r R.TX_CFG.EN = 1) && decide (s.rf r R.TX_WR.WR ≠ s.rf r R.TX_RD.RD)

/-- Write `n` bytes of the head entry's completion from byte `off` on, and advance RD; `evt` asks for the ring's event (R340, R341). -/
def State.txDone (s : State) (r off n v : Nat) (evt : Bool) (net : Net) : State :=
  let w := s.spanWrite (laneWho (ringQuad r)) net (n + 1) (s.ringSlot r (s.rf r R.TX_RD.RD) + off) n (allBytes n) v
  if w.1 ≠ 0 then w.2.ringFail r
  else (w.2.ringStep r R.TX_RD.RD).raiseIf evt (if r < 32 then 612 + r / 2 else 632 + (r - 32) / 2)

/-- Write `n` bytes into the next slot of an RX ring; a full ring discards them and counts (R340, R342, R351). A ring that is not enabled takes nothing. -/
def State.rxPut (s : State) (r n v : Nat) (net : Net) : State :=
  if s.rf r R.TX_CFG.EN = 0 then s
  else if (s.rf r R.TX_WR.WR + 1) % s.ringCount r = s.rf r R.TX_RD.RD then s.bump (ringA r) (ringF r R.TX_DROP.COUNT) 1
  else
    let w := s.spanWrite (laneWho (ringQuad r)) net (n + 1) (s.ringSlot r (s.rf r R.TX_WR.WR)) n (allBytes n) v
    if w.1 ≠ 0 then w.2.ringFail r
    else (w.2.ringStep r R.TX_WR.WR).raise (if r < 32 then 612 + r / 2 else 632 + (r - 32) / 2)

/-- The two words of a stamp in an entry: nanoseconds, then the fraction in 2^-8 ns over SEC[23:0] (R341, R342, R356). -/
def stampWords (t : Int) : Nat := nsOf t + 2 ^ 32 * (secOf t % 2 ^ 24 + fracOf t / 256 * 2 ^ 24)

/-- Whether the launch instant {L_SEC, L_NS} is there, and whether it has already passed (R366). -/
def launchDue (now : Int) (lns lsec : Nat) : Bool × Bool :=
  let d := ((((lsec * 1000000000 + lns : Nat) : Int) * 65536 - now) % ((2 ^ 32 : Nat) * ticksPerSec)).toNat
  let past := decide ((2 ^ 31 : Nat) * ticksPerSec ≤ (d : Int))
  (decide (d = 0) || past, past)

/-! ## Ethernet frames (R338, R364, R365). The layouts of Ethernet, IPv4, UDP and PTP headers are those of their standards (log entry 42). -/

/-- Whether a VLAN tag stands at byte `i`. -/
def tagAt (f : Bytes) (i : Nat) : Bool := decide (beAt f i 2 = 0x8100 ∨ beAt f i 2 = 0x88A8)
/-- VLAN tags of a frame: none, one or two. -/
def vlanTags (f : Bytes) : Nat := if tagAt f 12 then (if tagAt f 16 then 2 else 1) else 0
/-- Where the payload begins behind the Ethertype. -/
def payloadAt (f : Bytes) : Nat := 14 + 4 * vlanTags f
/-- The Ethertype. -/
def etherType (f : Bytes) : Nat := beAt f (payloadAt f - 2) 2

/-- Whether the frame is IPv4. -/
def isIpv4 (f : Bytes) : Bool := decide (etherType f = 0x0800) && decide (byteAt f (payloadAt f) / 16 = 4)
/-- Where the UDP header of an unfragmented IPv4/UDP frame begins. -/
def udpAt (f : Bytes) : Option Nat :=
  let o := payloadAt f
  if isIpv4 f ∧ byteAt f (o + 9) = 17 ∧ beAt f (o + 6) 2 % 0x4000 = 0 then some (o + byteAt f o % 16 * 4) else none

/-- The IPv4 header. -/
def ipHeader (f : Bytes) : Bytes := (f.drop (payloadAt f)).take (byteAt f (payloadAt f) % 16 * 4)
/-- The one's-complement sum of a UDP datagram with its pseudo-header. -/
def udpSum (f : Bytes) (u : Nat) : Nat :=
  onesSum (pseudo (beAt f (payloadAt f + 12) 4) (beAt f (payloadAt f + 16) 4) (beAt f (u + 4) 2) ++ (f.drop u).take (beAt f (u + 4) 2))

/-- RSTAT of a frame (R342): a UDP checksum of zero counts as right (log entry 42). -/
def rstatOf (f : Bytes) (fcsOk : Bool) : Nat :=
  (if fcsOk then 0 else 1) + (if isIpv4 f then 2 else 0) + (if isIpv4 f && decide (onesSum (ipHeader f) = 65535) then 4 else 0) +
    match udpAt f with
    | some u => 8 + (if beAt f (u + 6) 2 = 0 ∨ udpSum f u = 65535 then 16 else 0)
    | none => 0

/-- Put bytes in place of those at `i`. -/
def putAt (f : Bytes) (i : Nat) (b : Bytes) : Bytes := f.take i ++ b ++ f.drop (i + b.length)

/-- CSUM (R338): insert the IPv4 header checksum and the UDP checksum of an IPv4/UDP frame. -/
def insertSums (f : Bytes) : Bytes :=
  match udpAt f with
  | none => f
  | some u =>
    let o := payloadAt f
    let f := putAt f (o + 10) (zeros 2)
    let f := putAt f (o + 10) (beBytes (65535 - onesSum (ipHeader f)) 2)
    let f := putAt f (u + 6) (zeros 2)
    let c := 65535 - udpSum f u
    putAt f (u + 6) (beBytes (if c = 0 then 65535 else c) 2)

/-- Where a PTP message of version 2 begins: behind Ethertype 0x88F7, or behind a UDP destination port among `ports`, untagged or behind one VLAN tag
(R365). -/
def ptpAt (ports : List Nat) (f : Bytes) : Option Nat :=
  let at_ : Option Nat :=
    if 1 < vlanTags f then none
    else if etherType f = 0x88F7 then some (payloadAt f)
    else match udpAt f with
      | some u => if beAt f (u + 2) 2 ∈ ports then some (u + 8) else none
      | none => none
  match at_ with
  | some p => if byteAt f (p + 1) % 16 = 2 then some p else none
  | none => none

/-- Whether the transparent clock corrects a frame on MAC `e`: a Sync or a Delay_Req, with the place of its correctionField (R365). -/
def State.tcAt (s : State) (e : Nat) (f : Bytes) : Option Nat :=
  if s.timeOk && s.bit (frA 0) R.TC_CFG.EN && (s.rd (frA 0) R.TC_CFG.MASK).testBit e then
    match ptpAt [319] f with
    | some p => if byteAt f p % 16 < 2 then some (p + 8) else none
    | none => none
  else none

/-- Add to a correctionField modulo 2^64. -/
def addCorrection (f : Bytes) (i : Nat) (t : Int) : Bytes := putAt f i (beBytes (wrapTo 64 ((beAt f i 8 : Nat) + t)) 8)

/-- Whether an ordinary clock of the device takes the frame (R364). -/
def State.ptpTakes (s : State) (e : Nat) (f : Bytes) : Bool :=
  s.timeOk && [0, 1].any fun d =>
    s.bit (domA 0 d) R.DOM_CFG.PTP_EN && decide (s.rd (domA 0 d) R.DOM_CFG.PORT = e) &&
      match ptpAt [319, 320] f with
      | some p => decide (byteAt f p / 16 = 0) && decide (byteAt f (p + 4) = s.rd (domA 0 d) R.DOM_CFG.DOMAIN)
      | none => false

/-- A hardware stamp of a MAC: the tide time within ±1 ns, or ±2 ns at 10.3125 Gb/s; where within is open (R357; log entry 1). -/
def State.macStamp (s : State) (e : Nat) : Int × State :=
  let n : Nat := if s.rd (macA e) R.MAC_CFG.PORT = 1 then 131072 else 65536
  (stampOf (s.nowQ (e / 4) + (((s.freeVal 32).toNat % (2 * n + 1) : Nat) : Int) - n), s.drawn)

/-! ## Reception by a MAC (R338, R342) -/

/-- MAXLEN as it acts (R349). -/
def State.maxLen (s : State) (e : Nat) : Nat := min 9600 (max 1518 (s.rd (macA e) R.MAC_CFG.MAXLEN))

/-- Whether a MAC receives: it is enabled and its lanes are awake and aligned with no local fault (R333, R338, R339). -/
def State.macHears (s : State) (e : Nat) : Bool :=
  s.macOk e && s.bit (macA e) R.MAC_CFG.EN && !(s.macLanes e).isEmpty &&
    (s.macLanes e).all (fun l => decide (s.lf l R.LN_CFG.MODE = 1) && s.lb l R.LN_STAT.RX_ON && s.lb l R.LN_STAT.CDR_LOCK &&
      (!s.macBlocks e || s.lb l R.LN_STAT.BLOCK_LOCK)) &&
    (s.macBlocks e || (s.mac e).pcs) && (!s.macFec e || (s.mac e).fec) && !s.bit (macA e) R.MAC_STAT.LOCAL_FAULT

/-- Whether a destination passes the MAC's filter (R338). -/
def State.macAccepts (s : State) (e : Nat) (f : Bytes) : Bool :=
  let d := beAt f 0 6
  decide (d = s.rd (macA e) R.MAC_ADDR_LO.ADDR + s.rd (macA e) R.MAC_ADDR_HI.ADDR * 2 ^ 32) || decide (d = 2 ^ 48 - 1) ||
    (s.bit (macA e) R.MAC_CFG.MCAST && decide (byteAt f 0 % 2 = 1)) || s.bit (macA e) R.MAC_CFG.PROMISC

/-- Whether a frame is a PAUSE frame for MAC `e`: its destination is the multicast address of Annex 31B or the MAC's own (R336, R338). -/
def State.isPause (s : State) (e : Nat) (f : Bytes) : Bool :=
  decide (beAt f 12 2 = 0x8808) && decide (beAt f 14 2 = 1) &&
    (decide (beAt f 0 6 = 0x0180C2000001) || decide (beAt f 0 6 = s.rd (macA e) R.MAC_ADDR_LO.ADDR + s.rd (macA e) R.MAC_ADDR_HI.ADDR * 2 ^ 32))

/-- An accepted frame goes into a slot of the RX ring (R342): a 32-byte header, then the frame, corrected where the transparent clock corrects it. -/
def State.macStore (s : State) (e : Nat) (f : Bytes) (fcsOk : Bool) (net : Net) : State :=
  let a := macA e
  if 2 ^ (s.rd a R.RX_CFG.SLOT + 11) < 32 + f.length then s.bump a R.MAC_RXERR.OVERSIZE 1
  else
    let t := s.macStamp e
    let s := t.2
    let g := match s.tcAt e f with
      | some i => addCorrection f i (-t.1)
      | none => f
    let s := (s.bump a R.MAC_RXFRM.COUNT 1).modMac e fun v => { v with seq := (v.seq + 1) % 2 ^ 32 }
    let h := f.length + rstatOf f fcsOk * 2 ^ 16 + 2 ^ 32 * stampWords t.1 + 2 ^ 96 * (s.mac e).seq
    s.rxPut (2 * e + 1) (32 + f.length) (h + 2 ^ 256 * leAt g 0 g.length) net

/-- A frame arrives at a MAC (R338, R364, R401): discarded and counted, honoured as PAUSE, taken by an ordinary clock or by the agent, or filtered and
stored. A frame below 60 bytes is no frame of IEEE 802.3 and is dropped. -/
def State.macReceive (s : State) (e : Nat) (f : Bytes) (fcsOk : Bool) (net : Net) : State :=
  let a := macA e
  if !s.macHears e ∨ f.length < 60 then s
  else
    let s := if fcsOk then s else s.bump a R.MAC_RXERR.CRC 1
    if !fcsOk && !s.bit a R.MAC_CFG.KEEPBAD then s
    else if s.maxLen e < f.length + 4 then s.bump a R.MAC_RXERR.OVERSIZE 1
    else if fcsOk && s.bit a R.MAC_PAUSE.RX_PAUSE_EN && s.isPause e f then s.pauseTaken e (beAt f 16 2)
    else if fcsOk && s.ptpTakes e f then s
    else
      let keep := if s.macAccepts e f then s.macStore e f fcsOk net else s
      if fcsOk && s.agentOn then
        match s.udpMessage e f with
        | some m => s.clMessage m.1 m.2
        | none => keep
      else keep

/-- MAC_FRAME_RECEIVE (R338, R342): `frame` without its FCS, and whether that was right. -/
def execMacFrameReceive (e : Nat) (frame : List (BitVec 8)) (fcsOk : Bool) (net : Net) (s : State) : Host.Outcome State Fault Refusal :=
  .next (s.macReceive e frame fcsOk net)

/-! ## Transmission by a MAC (R338, R339, R341, R366) -/

/-- Complete the head entry of a MAC's TX ring; without a valid stamp its two words are open (log entry 1). -/
def State.macFinish (s : State) (e status cflags : Nat) (stamp : Option Int) (evt : Bool) (net : Net) : State :=
  let t := match stamp with
    | some t => stampWords t
    | none => (s.freeVal 64).toNat
  let c := cflags + if stamp.isSome then 2 else 0
  (s.drawn.modMac e fun v => { v with waiting := false }).txDone (2 * e) 20 12 (status + c * 2 ^ 8 + t * 2 ^ 32) evt net

/-- A frame begins to leave: the checksums and the correction go in, and the stamp is taken (R338, R365). -/
def State.macSend (s : State) (e : Nat) (f : Bytes) (flags : Nat) (late ring : Bool) : State :=
  let t := s.macStamp e
  let csum := flags.testBit 2
  let x : Bytes × State :=
    match if ring then t.2.tcAt e f else none with
    | some i =>
      let f := addCorrection f i t.1
      (match udpAt f with
        | some u => if csum then f else putAt f (u + 6) (zeros 2)
        | none => f, t.2.bump (frA 0) R.TC_CNT.COUNT 1)
    | none => (f, t.2)
  let f := if csum then insertSums x.1 else x.1
  x.2.modMac e fun v => { v with tx := some ⟨f, flags, late, ring, false, t.1⟩, waiting := if ring then false else v.waiting }

/-- The entry at the head of a MAC's TX ring (R339 to R341, R366). -/
def State.macHead (s : State) (e : Nat) (net : Net) : State :=
  let q := e / 4
  let x := s.spanRead (laneWho q) net 33 (s.ringSlot (2 * e) (s.rf (2 * e) R.TX_RD.RD)) 32
  let s := x.2.2
  let v := x.2.1
  let len := bits v 79 64
  let flags := bits v 87 80
  let due := launchDue (s.nowQ q) (bits v 127 96) (bits v 159 128)
  let evt := flags.testBit 3
  if x.1 ≠ 0 then (s.macFinish e 3 0 none false net).ringFail (2 * e)
  else if !s.bit (macA e) R.MAC_STAT.LINK then (s.bump (macA e) R.MAC_TXDROP.LINK_DOWN 1).macFinish e 2 0 none evt net
  else if len < 60 ∨ s.maxLen e - 4 < len ∨ bits v 63 48 ≠ 0 ∨ 15 < flags ∨ bits v 95 88 ≠ 0 then s.macFinish e 4 0 none evt net
  else if flags.testBit 1 && !due.1 then s.modMac e fun v => { v with waiting := true }
  else if (s.mac e).paused then s
  else
    let r := s.spanRead (laneWho q) net (len + 1) (bits v 47 0) len
    if r.1 ≠ 0 then (r.2.2.macFinish e 3 0 none evt net).ringFail (2 * e)
    else r.2.2.macSend e (leBytes r.2.1 len) flags (flags.testBit 1 && due.2 && !(s.mac e).waiting) true

/-- Whether a MAC serves its ring: it is enabled, sends no frame, and no transmitter of its port in ETH mode sleeps (R334, R338, R339). -/
def State.macFree (s : State) (e : Nat) : Bool :=
  s.macOk e && s.bit (macA e) R.MAC_CFG.EN && (s.mac e).tx.isNone &&
    (s.macLanes e).all (fun l => decide (s.lf l R.LN_CFG.MODE ≠ 1) || (s.lb l R.LN_STAT.TX_ON && !s.lb l R.LN_CTRL.TX_SLEEP))

/-- MAC_TX_ENTRY (R338, R341): a frame of the agent goes ahead of the ring; else the head entry is served. -/
def execMacTxEntry (e : Nat) (net : Net) (s : State) : Host.Outcome State Fault Refusal :=
  .next <|
    if s.macFree e then
      match (s.mac e).agent with
      | f :: t =>
        if s.bit (macA e) R.MAC_STAT.LINK && !(s.mac e).paused then (s.modMac e fun v => { v with agent := t }).macSend e f 0 false false
        else if s.txPending (2 * e) then s.macHead e net else s
      | [] => if s.txPending (2 * e) then s.macHead e net else s
    else s

/-- MAC_LAUNCH (R366): a held entry is sent once the device time has reached its launch instant. -/
def execMacLaunch (e : Nat) (s : State) : Host.Outcome State Fault Refusal :=
  .next <| if s.macFree e && (s.mac e).waiting && s.txPending (2 * e) then s.macHead e netOk else s

/-- MAC_TX_COMPLETE (R327, R334, R341): the frame has left; its entry completes, and a transmitter that waits to sleep does so. Whether a frame that a
restart cut short counts as sent is open (log entry 1). -/
def execMacTxComplete (e : Nat) (net : Net) (s : State) : Host.Outcome State Fault Refusal :=
  .next <|
    match if s.macOk e then (s.mac e).tx else none with
    | none => s
    | some j =>
      let sent := !j.cut || s.freeChoice
      let s := if j.cut then s.drawn else s
      let s := if s.macDrives e then s.emit (.frame e j.frame j.cut) else s
      let loops := s.macLoops e && !j.cut
      let s := if sent then s.bump (macA e) R.MAC_TXFRM.COUNT 1 else s
      let s := (s.macLanes e).foldl (fun s l => s.laneSettle l) (s.modMac e fun v => { v with tx := none })
      let s :=
        if j.ring && decide (s.rf (2 * e) R.TX_CFG.EN = 1) then
          s.macFinish e (if sent then 1 else 2) (if j.late then 1 else 0) (if j.flags.testBit 0 && sent then some j.stamp else none) (j.flags.testBit 3) net
        else s
      if loops then s.macReceive e j.frame true net else s

/-! ## CAN FD frames (R343 to R346) -/

/-- The bytes a frame's DLC stands for. -/
def canBytes (fdf rtr : Bool) (dlc : Nat) : Nat := if fdf then (fdSizes[dlc % 16]?).getD 64 else if rtr then 0 else min 8 (dlc % 16)

/-- Set the error counters of a controller; its state follows them (R350; ISO 11898-1). -/
def State.canCount (s : State) (n tec rec : Nat) : State :=
  let s := (s.wr (canA n) R.CAN_STAT.TEC (min tec 255)).wr (canA n) R.CAN_STAT.REC (min rec 255)
  s.setCanState n (if 128 ≤ tec ∨ 128 ≤ rec then 1 else 0)

/-- The lowest enabled filter that a frame matches, 0xFF when no filter is enabled; none where it matches no enabled one (R345, R346). -/
def State.canFilter (s : State) (n : Nat) (f : CanFrame) : Option Nat :=
  let a := canA n
  let on := (List.range 16).filter fun k => s.bit a (R.CAN_FID.EN.shift (8 * k))
  if on.isEmpty then some 255
  else on.find? fun k =>
    s.bit a (R.CAN_FID.FIDE.shift (8 * k)) == f.ide &&
      let m := s.rd a (R.CAN_FMASK.MASK.shift (8 * k))
      decide (f.id % 2 ^ 29 &&& m = s.rd a (R.CAN_FID.FID.shift (8 * k)) &&& m)

/-- The start-of-frame stamp: 0 to 12.5 ns after the edge; where between is open (R345, R357; log entry 1). -/
def State.canStamp (s : State) (n : Nat) : Int × State :=
  (stampOf (s.nowQ (n / 2) + (((s.freeVal 32).toNat % 819201 : Nat) : Int)), s.drawn)

/-- A frame without error reaches a controller (R345, R346): taken by the agent, or filtered and stored with its stamp. Data bytes beyond the frame's
length are open (log entry 1). -/
def State.canReceive (s : State) (n : Nat) (f : CanFrame) (net : Net) : State :=
  let rec_ := s.rd (canA n) R.CAN_STAT.REC
  let low := 119 + (s.freeVal 8).toNat % 9
  let s := if rec_ > 127 then s.drawn.canCount n (s.rd (canA n) R.CAN_STAT.TEC) low else s.canCount n (s.rd (canA n) R.CAN_STAT.TEC) (rec_ - 1)
  if s.agentOn && s.canOwn n f then
    let r := s.canSegment n f
    match r.1 with
    | some b => r.2.clMessage (.can n (f.id % 256)) b
    | none => r.2
  else
    match s.canFilter n f with
    | none => s
    | some k =>
      let t := s.canStamp n
      let len := canBytes f.fdf f.rtr f.dlc
      let fill := (t.2.freeVal 512).toNat
      let s := t.2.drawn
      let data := leAt f.data 0 len + fill % 2 ^ (8 * (64 - len)) * 2 ^ (8 * len)
      let h := f.id % 2 ^ 29 + (if f.ide then 2 ^ 29 else 0) + (if f.rtr then 2 ^ 30 else 0) + f.dlc % 16 * 2 ^ 32 + (if f.fdf then 2 ^ 36 else 0) +
        (if f.brs then 2 ^ 37 else 0) + (if f.esi then 2 ^ 38 else 0) + k * 2 ^ 40 + stampWords t.1 * 2 ^ 160
      s.rxPut (32 + 2 * n + 1) 128 (h + data * 2 ^ 256) net

/-- Whether a controller takes part in the bus (R343, R350). -/
def State.canLive (s : State) (n : Nat) : Bool := s.canOk n && s.bit (canA n) R.CAN_CFG.EN && decide (s.rd (canA n) R.CAN_STAT.STATE ≠ 2)

/-- Count an error met while receiving (R350; ISO 11898-1). -/
def State.canRxError (s : State) (n : Nat) : State :=
  (s.bump (canA n) R.CAN_ERRCNT.PROTO 1).canCount n (s.rd (canA n) R.CAN_STAT.TEC) (s.rd (canA n) R.CAN_STAT.REC + 1)

/-- CAN_FRAME_RECEIVE (R344 to R346): in LOOP a controller hears only itself; an FD frame with FD_EN = 0 is a format error. -/
def execCanFrameReceive (n : Nat) (frame : CanFrame) (error : Bool) (net : Net) (s : State) : Host.Outcome State Fault Refusal :=
  .next <|
    if s.canLive n && decide (s.rd (canA n) R.CAN_CFG.MODE ≠ 2) then
      if error || (frame.fdf && !s.bit (canA n) R.CAN_CFG.FD_EN) then s.canRxError n else s.canReceive n frame net
    else s

/-- Complete the head entry of a controller's TX ring; without a stamp its two words are open (log entry 1). -/
def State.canFinish (s : State) (n status : Nat) (late : Bool) (stamp : Option Int) (evt : Bool) (net : Net) : State :=
  let t := match stamp with
    | some t => stampWords t
    | none => (s.freeVal 64).toNat
  (s.drawn.modCan n fun v => { v with waiting := false }).txDone (32 + 2 * n) 16 16 (status + (if late then 2 ^ 8 else 0) + t * 2 ^ 32) evt net

/-- The flags byte of the head entry: LAUNCH, SINGLE and EVT (R345); none where it cannot be read. -/
def State.canFlags (s : State) (n : Nat) (net : Net) : Option Nat × State :=
  let x := s.spanRead (laneWho (n / 2)) net 9 (s.ringSlot (32 + 2 * n) (s.rf (32 + 2 * n) R.TX_RD.RD)) 8
  (if x.1 = 0 then some (bits x.2.1 47 40) else none, x.2.2)

/-- An attempt to send begins: the start-of-frame bit and its stamp (R345). -/
def State.canStart (s : State) (n : Nat) (f : CanFrame) (late own : Bool) : State :=
  let t := s.canStamp n
  t.2.modCan n fun v => { v with tx := some (f, late, t.1), busy := true, own := own, waiting := if own then v.waiting else false }

/-- The entry at the head of a controller's TX ring (R345, R346, R366). -/
def State.canHead (s : State) (n : Nat) (net : Net) : State :=
  let r := 32 + 2 * n
  let x := s.spanRead (laneWho (n / 2)) net 129 (s.ringSlot r (s.rf r R.TX_RD.RD)) 128
  let s := x.2.2
  let v := x.2.1
  let ide := v.testBit 29
  let rtr := v.testBit 30
  let fdf := v.testBit 36
  let dlc := bits v 35 32
  let flags := bits v 47 40
  let evt := flags.testBit 2
  let due := launchDue (s.nowQ (n / 2)) (bits v 95 64) (bits v 127 96)
  if x.1 ≠ 0 then (s.canFinish n 5 false none false net).ringFail r
  else if v.testBit 31 ∨ bits v 39 38 ≠ 0 ∨ 7 < flags ∨ bits v 63 48 ≠ 0 ∨ (fdf ∧ rtr) ∨ (fdf ∧ !s.bit (canA n) R.CAN_CFG.FD_EN) then
    s.canFinish n 4 false none evt net
  else if flags.testBit 0 && !due.1 then s.modCan n fun w => { w with waiting := true }
  else
    let id := if ide then bits v 28 0 else bits v 10 0
    let esi := fdf && decide (s.rd (canA n) R.CAN_STAT.STATE = 1)
    s.canStart n ⟨id, ide, rtr, dlc, fdf, v.testBit 37, esi, leBytes (bits v 767 256) (canBytes fdf rtr dlc)⟩
      (flags.testBit 0 && due.2 && !(s.can n).waiting) false

/-- Whether a controller may send: in LISTEN the TX ring is held, and on bus-off too (R344, R346). -/
def State.canSends (s : State) (n : Nat) : Bool := s.canLive n && decide (s.rd (canA n) R.CAN_CFG.MODE ≠ 1) && !(s.can n).busy

/-- CAN_TX_ENTRY (R346): a frame that lost arbitration or met an error is retried; else the agent's frames go ahead of the ring's. -/
def execCanTxEntry (n : Nat) (net : Net) (s : State) : Host.Outcome State Fault Refusal :=
  .next <|
    if s.canSends n then
      match (s.can n).tx with
      | some t => s.canStart n t.1 t.2.1 (s.can n).own
      | none =>
        match (s.can n).agent with
        | f :: rest => (s.modCan n fun v => { v with agent := rest }).canStart n f false true
        | [] => if s.txPending (32 + 2 * n) then s.canHead n net else s
    else s

/-- CAN_LAUNCH (R366): a held entry starts once the device time has reached its launch instant. -/
def execCanLaunch (n : Nat) (s : State) : Host.Outcome State Fault Refusal :=
  .next <| if s.canSends n && (s.can n).tx.isNone && (s.can n).waiting && s.txPending (32 + 2 * n) then s.canHead n netOk else s

/-- The frame on its way leaves the head: its ring entry completes, unless it is the agent's. -/
def State.canEnd (s : State) (n status : Nat) (late : Bool) (stamp : Option Int) (net : Net) : State :=
  let own := (s.can n).own
  let s := s.modCan n fun v => { v with tx := none, busy := false, own := false }
  if own ∨ s.rf (32 + 2 * n) R.TX_CFG.EN = 0 then s
  else
    let f := s.canFlags n net
    match f.1 with
    | some k => f.2.canFinish n status late stamp (k.testBit 2) net
    | none => f.2.ringFail (32 + 2 * n)

/-- Bus-off (R346): the head entry completes with BUS_OFF and the ring holds; a frame of the agent waits for the recovery. -/
def State.canOff (s : State) (n : Nat) (net : Net) : State :=
  let s := ((s.wr (canA n) R.CAN_STAT.TEC 255).setCanState n 2).modCan n fun v => { v with recovering := false }
  match (s.can n).tx with
  | some t =>
    if (s.can n).own then s.modCan n fun v => { v with tx := none, busy := false, own := false, agent := t.1 :: v.agent }
    else s.canEnd n 3 t.2.1 none net
  | none => if s.txPending (32 + 2 * n) then s.canEnd n 3 false none net else s

/-- CAN_TX_COMPLETE (R344 to R346): `result` is 0 sent, 1 arbitration lost, 2 an error. -/
def execCanTxComplete (n result : Nat) (net : Net) (s : State) : Host.Outcome State Fault Refusal :=
  .next <|
    match if s.canLive n && (s.can n).busy then (s.can n).tx else none with
    | none => s
    | some t =>
      let a := canA n
      let tec := s.rd a R.CAN_STAT.TEC
      let rec_ := s.rd a R.CAN_STAT.REC
      if result = 0 then
        let loop := decide (s.rd a R.CAN_CFG.MODE = 2)
        let s := s.canCount n (tec - 1) rec_
        let s := (if loop then s else s.emit (.canFrame n t.1)).canEnd n 1 t.2.1 (some t.2.2) net
        if loop then s.canReceive n t.1 net else s
      else
        let s :=
          if result = 1 then s.bump a R.CAN_ERRCNT.ARB_LOST 1
          else (s.bump a R.CAN_ERRCNT.PROTO 1).canCount n (tec + 8) rec_
        if result ≠ 1 ∧ 255 < tec + 8 then s.canOff n net
        else
          let f := if (s.can n).own then (some 0, s) else s.canFlags n net
          match f.1 with
          | some k => if k.testBit 1 then f.2.canEnd n 2 t.2.1 none net else f.2.modCan n fun v => { v with busy := false }
          | none => (f.2.modCan n fun v => { v with tx := none, busy := false }).ringFail (32 + 2 * n)

/-- CAN_BUS_OFF (R346): the errors met bring the controller to bus-off. -/
def execCanBusOff (n : Nat) (net : Net) (s : State) : Host.Outcome State Fault Refusal :=
  .next <| if s.canLive n then s.canOff n net else s

end Sys2Proof.Machine
end

