-- ==== Sys2Proof/Machine/IslandClock.lean ====
section
/-! DEFINITION. Machine/IslandClock.lean: an active edge of an island clock (R49 to R79, R96 to R107, R535): logic blocks, arithmetic slices, store
ports, causeway ends and general I/O. Slices, stores, causeways and general I/O act at the rising edge; a block acts at the edge its EDGE bit
selects (R59; log entry 30). -/
namespace Sys2Proof.Machine
open Sys2Proof

/-! ## What logic sees -/

/-- An island before an edge: its cells, the level of its clock and of its general I/O inputs, and the open values of this edge. -/
structure Scene where
  s : State
  i : Nat
  cfg : IslandCfg
  clk : Bool
  gpio : Nat
  fresh : Nat → Bool

/-- Settled values by node: Y of block `b` macrocell `k` at b × 16 + k, Q at 4096 more, COUT of block `b` at 8192 + b. -/
abbrev Env := List (Nat × Bool)

/-- The value of a node. -/
def nodeOf : Env → Nat → Bool
  | [], _ => false
  | (k, v) :: t, n => if k = n then v else nodeOf t n

/-- A slice's registers. -/
def Scene.slice (c : Scene) (n : Nat) : SliceSt := Tab.get (fun _ => SliceSt.init) (c.s.island c.i).slices n

/-- OUT of a slice (R65, R67). -/
def Scene.sliceOut (c : Scene) (n : Nat) : BitVec 32 :=
  match c.cfg.slices.find? (fun x => decide (x.1 = n)) with
  | none => 0
  | some (_, g) => if g.oreg then (c.slice n).oreg else (storeUnit (c.slice n).acc g.shift g.rnd g.wide g.uns).1

/-- The image's setting of a port of a store: 0 for A, 1 for B. -/
def Scene.portCfg (c : Scene) (st port : Nat) : Option StorePortCfg :=
  (c.cfg.stores.find? (fun x => decide (x.1 = st))).map (fun x => if port = 0 then x.2.a else x.2.b)

/-- What a store port shows: data, CE and UE (R75, R78). -/
def Scene.portOut (c : Scene) (st port : Nat) : Nat × Bool × Bool :=
  let o := Tab.get (fun _ => PortOut.init) (c.s.island c.i).outs (st * 2 + port)
  match c.portCfg st port with
  | some p => if p.outreg then (o.data2, o.ce2, o.ue2) else (o.data, o.ce, o.ue)
  | none => (o.data, o.ce, o.ue)

/-- The channel at an edge of the island. -/
def Scene.chan (c : Scene) (e k : Nat) : Chan := c.s.chan (c.s.chanId c.i e k)

/-- A slack line that comes in over an edge (R103): a line without a partner reads as its PARK value. -/
def Scene.slackIn (c : Scene) (e l : Nat) : Bool :=
  let j := match e with
    | 0 => if islY c.i < 7 then some (c.i + 12, 2) else none
    | 1 => if islX c.i < 11 then some (c.i + 1, 3) else none
    | 2 => if 0 < islY c.i then some (c.i - 12, 0) else none
    | _ => if 0 < islX c.i then some (c.i - 1, 1) else none
  match j with
  | some (j, f) => c.s.slackLine j f l
  | none =>
    match c.cfg.slacks.find? (fun x => decide (x.edge = e ∧ x.line = l)) with
    | some x => x.park
    | none => c.fresh (0x10000 + e * 64 + l)

/-- A line from the bay's fabric port: ZH0 to ZH9, ZL0 to ZL9, RXO0 to RXO3 (R134). -/
def Scene.bayLine (c : Scene) (l : Nat) : Bool :=
  let b := c.i / 96 * 32 + c.i % 96 / 3
  if c.i % 96 % 3 = 0 ∧ c.s.bayState b = 0 then
    if l < 10 then c.s.zoneHi b l
    else if l < 20 then c.s.zoneLo b (l - 10)
    else (c.s.rd (bayA b) R.RFX_STATE.COND).testBit (l - 20)
  else false

/-- The IO_CFG word of general I/O line `l` of the island (R535, R538): the island (0, 4h + j div 8) has the lines j mod 8. -/
def ioGenA (i : Nat) : Nat := quadA (i / 96) + 0xD00800 + (islY i / 4 * 30 + islY i % 4 * 8) * 4
/-- Whether the island has general I/O line `l`. -/
def gpioLine (i l : Nat) : Bool := decide (islX i = 0 ∧ l < 8 ∧ islY i % 4 * 8 + l < 30)

/-- A source of the island routing (R50). -/
def Scene.val (c : Scene) (env : Env) : Src → Bool
  | .zero => false
  | .y b k => nodeOf env (b * 16 + k)
  | .q b k => nodeOf env (4096 + b * 16 + k)
  | .sliceOut n bit => (c.sliceOut n).getLsbD bit
  | .sliceMsat n => (c.slice n).msat
  | .sliceAv n => (c.slice n).av
  | .sliceSat n => (c.slice n).sat
  | .storeData st p bit => (c.portOut st p).1.testBit bit
  | .storeCe st p => (c.portOut st p).2.1
  | .storeUe st p => (c.portOut st p).2.2
  | .chanData e k bit =>
    if (c.chan e k).valid && decide (c.s.chanMode c.i e k ≠ 2) then
      match (c.chan e k).words with
      | w :: _ => w.1.testBit bit
      | [] => false
    else c.fresh ((e * 64 + k) * 64 + bit)
  | .chanValid e k => (c.chan e k).valid && decide (c.s.chanMode c.i e k ≠ 2)
  | .chanFull e k => (c.chan e k).full (c.s.chanCap c.i e k) || decide (c.s.chanMode c.i e k ≠ 0)
  | .chanSlk e k => decide (c.s.chanMode c.i e k ≠ 0)
  | .slack e l => c.slackIn e l
  | .portLine l => c.bayLine l
  | .gpio l =>
    if gpioLine c.i l then
      if c.s.bit (ioGenA c.i) (R.IO_CFG_GEN.IREG.shift (4 * l)) then (Tab.get (fun _ => 0) (c.s.island c.i).gpioIn l).testBit 2
      else c.gpio.testBit l
    else false

/-- The number that a list of sources spells, the least significant first. -/
def Scene.word (c : Scene) (env : Env) : List Src → Nat
  | [] => 0
  | x :: t => (if c.val env x then 1 else 0) + 2 * c.word env t

/-! ## Logic blocks (R51 to R61) -/

/-- A product term (R51): no literal, or both literals of an input, give 0. -/
def termVal (ins : Nat) (t : TermCfg) : Bool :=
  decide (t.pos % 2 ^ 48 ≠ 0 ∨ t.neg % 2 ^ 48 ≠ 0) && (List.range 48).all (fun k =>
    (!t.pos.testBit k || ins.testBit k) && (!t.neg.testBit k || !ins.testBit k))

/-- Whether a macrocell withholds its withheld term (R54). -/
def pvtOf (g : BlockCfg) (k : Nat) : Bool := (g.macros[k]?.map (·.pvt)).getD false
/-- The withheld term of a macrocell (R54). -/
def ownTerm (g : BlockCfg) (ins k : Nat) : Bool :=
  pvtOf g k && ((g.terms[5 * k]?.map (termVal ins)).getD false)
/-- The terms that feed the OR of a macrocell (R52 to R54). -/
def termsOf (g : BlockCfg) (ins k : Nat) : Bool :=
  (List.range 20).any fun j =>
    let n := 20 * (k / 4) + j
    match g.terms[n]? with
    | some t => decide (t.tsel = k % 4) && !(decide (n % 5 = 0) && pvtOf g (n / 5)) && termVal ins t
    | none => false

/-- The ORs of macrocells `k` and above, with that of macrocell k − 1 (R53, R55, R56). -/
def orsOf (g : BlockCfg) (ins : Nat) (cin : Bool) : Nat → Nat → Bool → List Bool
  | 0, _, _ => []
  | n + 1, k, prev =>
    let chain := if g.head = some k then cin else (g.macros[k]?.map (·.ch)).getD false && decide (0 < k) && prev
    let o := termsOf g ins k || chain
    o :: orsOf g ins cin n (k + 1) o

/-- A control of a macrocell (R60): which of the block's inputs, or the withheld term. -/
def Scene.ctl (c : Scene) (env : Env) (g : BlockCfg) (n : Nat) : Bool := (g.ctl[n]?.map (c.val env)).getD false

/-- AR of a macrocell. -/
def Scene.ar (c : Scene) (env : Env) (g : BlockCfg) (ins k : Nat) (m : MacroCfg) : Bool :=
  match m.ar with
  | 1 => c.ctl env g 3
  | 2 => ownTerm g ins k
  | _ => false

/-- The flip-flop as the routing sees it before the edge: INIT under the device hold and in COMB, RVAL under AR, Y through an open latch. -/
def Scene.qOf (c : Scene) (env : Env) (b : Nat) (g : BlockCfg) (ins k : Nat) (m : MacroCfg) (y : Bool) : Bool :=
  if (c.s.island c.i).held ∨ m.mode = 0 then m.init
  else if c.ar env g ins k m then m.rval
  else if m.mode = 3 ∧ c.clk = g.fall then y
  else Tab.get (fun _ => false) (c.s.island c.i).q (b * 16 + k)

/-- Y of a macrocell (R57). -/
def yOf (g : BlockCfg) (ins k : Nat) (m : MacroCfg) (o : Bool) : Bool :=
  match m.xsel with
  | 0 => o
  | 1 => !o
  | _ => xor o (ownTerm g ins k)

/-- One round over one block. -/
def Scene.block (c : Scene) (env : Env) (bk : Nat × BlockCfg) : Env :=
  let b := bk.1
  let g := bk.2
  let ins := c.word env g.inputs
  let cin := decide (b % 16 ≠ 0) && nodeOf env (8192 + (b - 1))
  let os := orsOf g ins cin 16 0 false
  let cells := (List.range 16).foldl (fun (acc : Env) k =>
    match g.macros[k]?, os[k]? with
    | some m, some o =>
      let y := yOf g ins k m o
      (b * 16 + k, y) :: (4096 + b * 16 + k, c.qOf env b g ins k m y) :: acc
    | _, _ => acc) []
  (8192 + b, (os[15]?).getD false) :: cells

/-- One round over the island. -/
def Scene.round (c : Scene) (env : Env) : Env := c.cfg.blocks.flatMap (c.block env)

/-- Rounds until every value has settled; logic without combinational loops settles within as many rounds as it has nodes, whatever the
values it starts from, which are open (log entry 31). -/
def Scene.rounds (c : Scene) : Nat → Env → Env
  | 0, env => env
  | n + 1, env =>
    let next := c.round env
    if next = env then env else c.rounds n next

/-- The settled values. -/
def Scene.settle (c : Scene) : Env :=
  let start := (c.round []).map (fun x => (x.1, c.fresh (0x20000 + x.1)))
  c.rounds (start.length + 1) start

/-- What a flip-flop holds after the edge (R58, R60): AR, then SR, then CE. A latch keeps what it followed. -/
def Scene.flop (c : Scene) (env : Env) (rising : Bool) (b : Nat) (g : BlockCfg) (ins k : Nat) (m : MacroCfg) : Bool :=
  let q := nodeOf env (4096 + b * 16 + k)
  let y := nodeOf env (b * 16 + k)
  let active := decide (g.fall ≠ rising)
  if (c.s.island c.i).held ∨ m.mode = 0 then m.init
  else if c.ar env g ins k m then m.rval
  else if m.mode = 3 then q
  else if active then
    let sr := match m.sr with
      | 1 => c.ctl env g 2
      | 2 => ownTerm g ins k
      | _ => false
    let ce := match m.ce with
      | 1 => c.ctl env g 0
      | 2 => c.ctl env g 1
      | 3 => ownTerm g ins k
      | _ => true
    if sr then m.rval
    else if ce then (if m.mode = 2 then xor q y else y)
    else q
  else q

/-- Every flip-flop of the island after the edge. -/
def Scene.flops (c : Scene) (env : Env) (rising : Bool) : Tab Bool :=
  c.cfg.blocks.foldl (fun t bk =>
    let ins := c.word env bk.2.inputs
    (List.range 16).foldl (fun t k =>
      match bk.2.macros[k]? with
      | some m => Tab.put (fun _ => false) t (bk.1 * 16 + k) (c.flop env rising bk.1 bk.2 ins k m)
      | none => t) t) []

/-! ## Arithmetic slices (R64 to R70) -/

/-- A slice after an active edge. -/
def Scene.sliceEdge (c : Scene) (env : Env) (n : Nat) (g : SliceCfg) : SliceSt :=
  let v := c.slice n
  let a := BitVec.ofNat 16 (c.word env g.a)
  let b := BitVec.ofNat 16 (c.word env g.b)
  let clr := c.val env g.fclr
  let v0 := { v with msat := v.msat && !clr, av := v.av && !clr, sat := v.sat && !clr }
  if c.val env g.rst then { v0 with areg := 0, breg := 0, preg := 0, acc := 0, oreg := 0 }
  else if c.val env g.ce then
    let m := product g.mmode g.frac (if g.areg then v.areg else a) (if g.breg then v.breg else b)
    let pz := c.val env g.pz
    let p := if pz then 0 else if g.preg then v.preg else m.1
    let x : BitVec 40 := match c.word env g.xsel % 4 with
      | 0 => 0
      | 1 => v.acc
      | 2 => BitVec.ofNat 40 (c.word env g.c)
      | _ => if n = 0 then 0 else (c.slice (n - 1)).acc
    let r := accumulate (c.val env g.sub) x p
    let took := m.2 && (g.preg || !pz)
    let st := storeUnit r.1 g.shift g.rnd g.wide g.uns
    { areg := a, breg := b, preg := m.1, acc := r.1
      oreg := (storeUnit v.acc g.shift g.rnd g.wide g.uns).1
      msat := v0.msat || took, av := v0.av || r.2, sat := v0.sat || st.2 }
  else v0

/-! ## Island stores (R72 to R79, R88) -/

/-- Words of a row in a shape (R72). -/
def perRow (shape : Nat) : Nat := (if shape ≤ 4 then 32 else 36) / max shape 1

/-- A port's access at an edge: its row, where its word lies in the row, the bits it writes and the data in place, and whether it reads. -/
structure PortAcc where
  row : Nat
  at_ : Nat
  mask : Nat
  data : Nat
  reads : Bool

/-- The access of a port; `wr` and `rd` say what the store's mode lets it do (R73, R74). -/
def Scene.access (c : Scene) (env : Env) (p : StorePortCfg) (wr rd : Bool) : PortAcc :=
  let a := c.word env p.addr
  let at_ := a % perRow p.shape * p.shape
  let lanes := if p.shape = 36 then 4 else if p.shape = 18 then 2 else 1
  let width := p.shape / lanes
  let we := if wr then c.word env p.we else 0
  let mask := (List.range lanes).foldl (fun m l => if we.testBit l then m + (2 ^ width - 1) * 2 ^ (l * width) else m) 0
  ⟨a / perRow p.shape % 1024, at_, mask * 2 ^ at_, c.word env p.data % 2 ^ p.shape * 2 ^ at_, rd && c.val env p.re⟩

/-- The bits of `old` with those of `mask` taken from `new`. -/
def mergeBits (old mask new : Nat) : Nat := clearBits old mask ||| (new &&& mask)

/-- Write a row: whole, or by a read-modify-write that an uncorrectable error stops (R74, R79). Writes before stage 2 are discarded (R88). -/
def State.storePut (s : State) (i st row mask data : Nat) : State :=
  if mask = 0 ∨ (s.island i).wrEn = false then s
  else if mask = 2 ^ 36 - 1 then (s.setRow (rowKey i st row) data).setDiff (chkRow i st row) 0
  else
    let r := eccDecode 36 (s.row (rowKey i st row)) (s.diff (chkRow i st row))
    let s := if r.ce || r.ue then s.storeError (i / 96) 0 (i % 96 * 16 + st) row r.ue true r.syn else s
    if r.ue then s else (s.setRow (rowKey i st row) (mergeBits r.data mask data)).setDiff (chkRow i st row) 0

/-- What a port's read delivers at an edge (R75 to R78): old data, or under PASS_NEW the data its own write leaves; FREEZE of a port that
writes keeps its output. -/
def State.portRead (s : State) (i st : Nat) (p : StorePortCfg) (x : PortAcc) (o : PortOut) : PortOut × State :=
  let o2 := { o with data2 := o.data, ce2 := o.ce, ue2 := o.ue }
  if x.reads then
    if (s.island i).filling then ({ o2 with data := 0, ce := false, ue := false }, s)
    else if x.mask ≠ 0 ∧ p.wmode = 2 then (o2, s)
    else
      let r := eccDecode 36 (s.row (rowKey i st x.row)) (s.diff (chkRow i st x.row))
      let s := if r.ce || r.ue then s.storeError (i / 96) 0 (i % 96 * 16 + st) x.row r.ue false r.syn else s
      let row :=
        if p.wmode = 0 ∧ (s.island i).wrEn ∧ (r.ue = false ∨ x.mask = 2 ^ 36 - 1) then mergeBits r.data x.mask x.data else r.data
      let whole := decide (p.wmode = 0 ∧ x.mask = 2 ^ 36 - 1)
      ({ o2 with data := row / 2 ^ x.at_ % 2 ^ p.shape, ce := r.ce && !whole, ue := r.ue && !whole }, s)
  else (o2, s)

/-- Both ports of a store at an edge: reads see the old row; of two writes of one row port A's bits win (R77). -/
def Scene.storeEdge (c : Scene) (env : Env) (st : Nat) (g : StoreCfg) (s : State) : State :=
  let xa := c.access env g.a true (decide (g.mode ≠ 1))
  let xb := c.access env g.b (decide (g.mode = 2)) (decide (g.mode ≠ 0))
  let out := fun (s : State) (p : Nat) => Tab.get (fun _ => PortOut.init) (s.island c.i).outs (st * 2 + p)
  let setOut := fun (s : State) (p : Nat) (o : PortOut) =>
    s.setIsland c.i { s.island c.i with outs := Tab.put (fun _ => PortOut.init) (s.island c.i).outs (st * 2 + p) o }
  let ra := s.portRead c.i st g.a xa (out s 0)
  let rb := ra.2.portRead c.i st g.b xb (out s 1)
  let s := setOut (setOut rb.2 0 ra.1) 1 rb.1
  if xa.mask ≠ 0 ∧ xb.mask ≠ 0 ∧ xa.row = xb.row then
    let whole := 2 ^ 36 - 1
    if xa.mask = whole then s.storePut c.i st xa.row xa.mask xa.data
    else if xb.mask = whole then s.storePut c.i st xb.row whole (mergeBits xb.data xa.mask xa.data)
    else
      let s' := s.storePut c.i st xb.row xb.mask xb.data
      s'.storePut c.i st xa.row xa.mask xa.data
  else (s.storePut c.i st xa.row xa.mask xa.data).storePut c.i st xb.row xb.mask xb.data

/-! ## Causeway ends (R100, R101, R107) -/

/-- One channel end at an edge of the island's clock. -/
def Scene.chanEdge (c : Scene) (env : Env) (x : ChanCfg) (s : State) : State :=
  let id := s.chanId c.i x.edge x.chan
  let mode := c.s.chanMode c.i x.edge x.chan
  let strobe := c.val env x.strobe
  if x.source then
    let full := (c.chan x.edge x.chan).full (c.s.chanCap c.i x.edge x.chan) || decide (mode ≠ 0)
    let s := s.setChan id (s.chan id).sourceEdge
    if strobe then
      if full then
        if hardEdge x.edge then s
        else s.setBitFlag (islA c.i) (R.CW_PUSHLOST.PUSH_LOST.shift (4 * x.edge)) x.chan 690
      else s.setChan id ((s.chan id).push (c.word env x.data))
    else s
  else
    let valid := (c.chan x.edge x.chan).valid && decide (mode ≠ 2)
    let s :=
      if strobe then
        if valid then s.setChan id (s.chan id).pop
        else if hardEdge x.edge then s
        else s.setBitFlag (islA c.i) (R.CW_UNDERRUN.UNDERRUN.shift (4 * x.edge)) x.chan 690
      else s
    s.setChan id (s.chan id).sinkEdge

/-! ## General I/O (R535, R537) -/

/-- What an output pair of the logic asks of a ball. -/
def drivePair (out oe : Bool) : Drive := if oe then (if out then .high else .low) else .released

/-- Shift the registered inputs and take the registered outputs at the edge. -/
def Scene.gpioEdge (c : Scene) (env : Env) (s : State) : State :=
  let v := s.island c.i
  let ins := (List.range 8).foldl (fun t l =>
    if gpioLine c.i l then
      Tab.put (fun _ => 0) t l (Tab.get (fun _ => 0) v.gpioIn l * 2 % 8 + (if c.gpio.testBit l then 1 else 0))
    else t) []
  let outs := c.cfg.gpios.foldl (fun t x =>
    if c.s.bit (ioGenA c.i) (R.IO_CFG_GEN.OREG.shift (4 * x.line)) then
      Tab.put (fun _ => .hold) t x.line (drivePair (c.val env x.out) (c.val env x.oe))
    else t) v.gpioOut
  s.setIsland c.i { v with gpioIn := ins, gpioOut := outs }

/-- The flip-flops with RVAL where AR is 1 once the logic has settled (R60). -/
def Scene.resets (c : Scene) (env : Env) (q : Tab Bool) : Tab Bool :=
  c.cfg.blocks.foldl (fun t bk =>
    let ins := c.word env bk.2.inputs
    (List.range 16).foldl (fun t k =>
      match bk.2.macros[k]? with
      | some m =>
        if (c.s.island c.i).held ∨ m.mode = 0 then t
        else if c.ar env bk.2 ins k m then Tab.put (fun _ => false) t (bk.1 * 16 + k) m.rval
        else t
      | none => t) t) q

/-- After the edge: combinational outputs, asynchronous resets and slack lines follow the logic. -/
def Scene.drive (c : Scene) : State :=
  let env := c.settle
  let v := c.s.island c.i
  let outs := c.cfg.gpios.foldl (fun t x =>
    if c.s.bit (ioGenA c.i) (R.IO_CFG_GEN.OREG.shift (4 * x.line)) then t
    else Tab.put (fun _ => .hold) t x.line (drivePair (c.val env x.out) (c.val env x.oe))) v.gpioOut
  let lines := c.cfg.slacks.foldl (fun t x => Tab.put (fun _ => false) t (x.edge * 64 + x.line) (c.val env x.src)) []
  (c.s.setIsland c.i { v with gpioOut := outs, slack := lines, q := c.resets env v.q }).syncLines c.i

/-- What the ball of a general I/O line is driven to (R436, R535, R537): only an island in RUN or FENCING, or one
past stage 1 of its release, whose bank has its supply drives it. -/
def State.gpioBall (s : State) (i l : Nat) : Drive :=
  if s.bit (ioBankA (i / 96)) (R.IO_BANKSTAT.VCCIO_OK.shift (4 * (8 + islY i / 4))) = false then .released
  else if s.islState i < 2 ∨ (s.islState i = 5 ∧ (s.island i).io) then Tab.get (fun _ => .hold) (s.island i).gpioOut l
  else .hold

/-- The outputs of an island follow its logic without an edge, as at stage 1 (R436); the levels of its general I/O balls are open. -/
def State.islDrive (s : State) (i : Nat) : State :=
  match s.cfgOf i with
  | none => s
  | some cfg =>
    let s1 := { s with free := s.free + 2 ^ 32 }
    ({ s := s1, i := i, cfg := cfg, clk := (s.island i).clk, gpio := (s.freeVal 64).toNat, fresh := fun k => Config.freeBool (s.free + 1 + k) } : Scene).drive

/-- ISLAND_CLOCK_EDGE (R59): an edge of the clock of an island in RUN or FENCING whose rail is locked; `gpio` gives the levels of its general I/O
balls. -/
def execIslandClockEdge (i : Nat) (rising : Bool) (gpio : Nat) (s : State) : Host.Outcome State Fault Refusal :=
  .next <|
    match s.cfgOf i with
    | none => s
    | some cfg =>
      if s.islOk i && decide (s.islState i < 2) && s.railLocked (i / 96) (s.rd (islA i) R.ISL_CLKSTAT.RAIL_NOW) &&
          decide ((s.island i).clk ≠ rising) then
        let fresh := fun k => Config.freeBool (s.free + k)
        let c : Scene := ⟨s, i, cfg, (s.island i).clk, gpio, fresh⟩
        let env := c.settle
        let slices := cfg.slices.foldl (fun t x => Tab.put (fun _ => SliceSt.init) t x.1 (c.sliceEdge env x.1 x.2)) []
        let v := s.island i
        let s1 := s.setIsland i { v with q := c.flops env rising, clk := rising, slices := if rising then slices else v.slices }
        let s2 :=
          if rising then
            let t := cfg.stores.foldl (fun t x => c.storeEdge env x.1 x.2 t) s1
            let t := cfg.chans.foldl (fun t x => c.chanEdge env x t) t
            c.gpioEdge env t
          else s1
        let s3 := { s2 with free := s2.free + 2 ^ 32 }
        ({ c with s := s3, clk := rising, fresh := fun k => Config.freeBool (s3.free + k) } : Scene).drive
      else s

end Sys2Proof.Machine
end

