-- ==== Sys2Proof/Machine/Image.lean ====
section
/-! DEFINITION. Machine/Image.lean: images: the header's checks, segments and records, the fill, the end of a load, and the staged release (R87 to R89,
R426 to R441, R550). The outcomes of cryptographic checks arrive with the commands. -/
namespace Sys2Proof.Machine
open Sys2Proof

/-! ## Units named by an image (R430, R431) -/

/-- The quadrant of the unit that TGT names, none where there is no such unit. -/
def tgtQuad (t : Nat) : Option Nat :=
  let n := t % 8192
  match t / 8192 with
  | 0 => if n < 384 then some (n / 96) else none
  | 1 => if n < 128 then some (n / 32) else none
  | 2 => if n < 64 then some (n / 16) else none
  | 3 => if n < 6144 then some (n / 16 / 96) else none
  | _ => none
/-- The unit with the cells of what TGT names: an island store belongs to its island. -/
def tgtUnit (t : Nat) : Nat := if t / 8192 = 3 then t % 8192 / 16 else t
/-- Whether the unit lies in a quadrant of QMASK and is present (R431). -/
def State.tgtOk (s : State) (t : Nat) : Bool :=
  match tgtQuad t with
  | some q => s.load.qmask.testBit q && s.quadOk q
  | none => false

/-- A self-test ends when a load takes its island. -/
def State.bistAbort (s : State) (i : Nat) : State :=
  if s.islState i = 4 ∧ s.rd (islA i) R.ISL_BIST.RESULT = 1 then (s.wr (islA i) R.ISL_BIST.RESULT 7).raise 689 else s

/-- A unit enters HOLD and its fill starts (R86, R87, R109, R133, R440). A bay keeps no register of its former image. -/
def State.enterHold (s : State) (u : Nat) : State :=
  let n := u % 8192
  let s := s.leaveSleep (if u / 8192 = 0 then n else 1000 * (u / 8192) + n)
  let s := s.modLoad fun v => { v with fill := true }
  match u / 8192 with
  | 0 =>
    let s := ((s.bistAbort n).clearEdges n).zeroStores n
    ((s.setIsland n { s.island n with held := true, io := false, wrEn := false, filling := true }).initFlops n).setIslState n 5
  | 1 =>
    let s := (s.clearBay n).zeroSram n
    let s := { s with image := Tab.drop (bayKey n) s.image }
    ((s.modBay n fun v => { v with sramOpen := false }).wr (bayA n) R.BAY_STATE.STATE 3).drivePins n
  | _ =>
    let s := s.zeroDeep n
    s.setDeep n { s.deep n with wrEn := false, filling := true }

/-- The first record of a partial image that names a unit makes it a target (R440). -/
def State.takeTarget (s : State) (t : Nat) : State :=
  let u := tgtUnit t
  if s.load.kind ≠ 1 ∨ s.load.targets.contains u then s
  else (s.modLoad fun v => { v with targets := v.targets ++ [u] }).enterHold u

/-- Every unit of a quadrant. -/
def quadTargets (q : Nat) : List Nat :=
  (List.range 96).map (· + 96 * q) ++ (List.range 32).map (· + 8192 + 32 * q) ++ (List.range 16).map (· + 16384 + 16 * q)

/-! ## The fill and initial contents (R87 to R89, R430) -/

/-- Write rows of an island store from row `r` on: 8 bytes each with the row in [35:0]. -/
def State.initRows (s : State) (i st r : Nat) : Nat → Bytes → State
  | 0, _ => s
  | n + 1, b => (((s.setRow (rowKey i st r) (leAt b 0 8 % 2 ^ 36)).setDiff (chkRow i st r) 0)).initRows i st (r + 1) n (b.drop 8)
/-- Write words of a deep store. -/
def State.initDeep (s : State) (d w : Nat) : Nat → Bytes → State
  | 0, _ => s
  | n + 1, b => ((s.setRow (deepKey d w) (leAt b 0 4)).setDiff (chkDeep d w) 0).initDeep d (w + 1) n (b.drop 4)
/-- Write words of a bay's SRAM. -/
def State.initSram (s : State) (b w : Nat) : Nat → Bytes → State
  | 0, _ => s
  | n + 1, l => (s.setSramWord b w (leAt l 0 4)).initSram b (w + 1) n (l.drop 4)

/-- Write initial contents; the check bits follow the data, and nothing is counted or logged (R89). -/
def State.putInit (s : State) (t first : Nat) (data : Bytes) : State :=
  let n := t % 8192
  match t / 8192 with
  | 1 => s.initSram n (first / 4) (data.length / 4) data
  | 2 => s.initDeep n first (data.length / 4) data
  | _ => s.initRows (n / 16) (n % 16) first (data.length / 8) data

/-- Whether the contents of a STORE_INIT record fit its unit (R430). -/
def initOk (t first : Nat) (data : Bytes) : Bool :=
  match t / 8192 with
  | 1 => decide (first % 4 = 0) && decide (data.length % 4 = 0) && decide (first + data.length ≤ 0x40000)
  | 2 => decide (data.length % 4 = 0) && decide (first + data.length / 4 ≤ 131072)
  | 3 => decide (data.length % 8 = 0) && decide (first + data.length / 8 ≤ 1024)
  | _ => false

/-- The fill of every store of the load starts: all of them at a full configuration (R87). -/
def State.fillAll (s : State) : State :=
  let s := { s with
    rows := []
    mem := Tab.drop (fun k => decide (k < dramA 0 0)) s.mem
    chk := Tab.drop (fun k => decide (k < chkLine 0 0)) s.chk }
  let s := ((List.range 384).filter s.islOk).foldl (fun s i => s.setIsland i { s.island i with filling := true }) s
  let s := ((List.range 64).filter fun d => s.quadOk (d / 16)).foldl (fun s d => s.setDeep d { s.deep d with filling := true }) s
  s.modLoad fun v => { v with fill := true }

/-- STORE_FILL_DONE (R87 to R89, R432): the fill of every store that is being filled completes; initial contents that waited are written. -/
def execStoreFillDone (s : State) : Host.Outcome State Fault Refusal :=
  .next <|
    let s := (List.range 384).foldl (fun s i => if (s.island i).filling then s.setIsland i { s.island i with filling := false } else s) s
    let s := (List.range 64).foldl (fun s d => if (s.deep d).filling then s.setDeep d { s.deep d with filling := false } else s) s
    let w := s.load.inits
    w.foldl (fun s x => s.putInit x.1 x.2.1 x.2.2) (s.modLoad fun v => { v with fill := false, inits := [] })

/-! ## The header (R427, R429) -/

/-- The feature level in force (R520). -/
def State.flNow (s : State) : Nat := s.quads.foldl (fun m q => min m (Tab.get (fun _ => 1) s.fuses.feature q % 16)) 15
/-- The compatibility class of a die. -/
def State.dieClass (s : State) (q : Nat) : Nat := Tab.get (fun _ => 0) s.fuses.compat q % 16

/-- Step 1 (R429). -/
def headerFormat (h : ImgHeader) : Bool :=
  decide (h.magic = 0x5C1AB540 ∧ h.fmt = 1 ∧ h.rsv = 0 ∧ h.kind ≤ 2 ∧ h.qmask < 16 ∧ h.part < 2 ^ 17) &&
    (decide (h.kind ≠ 2) || decide (h.qmask = 2 ∨ h.qmask = 4 ∨ h.qmask = 8))
/-- Step 2. -/
def State.headerDevice (s : State) (h : ImgHeader) : Bool :=
  decide (h.part % 2 ^ 16 = s.deviceId) && (h.part.testBit 16 || !s.fuses.noAdc) && s.quads.all (fun q => decide (s.dieClass q = h.cls)) &&
    decide (h.minFl ≤ s.flNow)
/-- The quadrant of a QUADRANT image. -/
def maskQuad (m : Nat) : Nat := if m = 2 then 1 else if m = 4 then 2 else 3
/-- Step 3. -/
def State.headerState (s : State) (h : ImgHeader) : Bool :=
  match h.kind with
  | 0 => decide (s.load.prev = 0 ∨ s.load.prev = 8)
  | 1 => decide (s.load.prev = 5)
  | _ => s.load.fresh.contains (maskQuad h.qmask) && !s.qReset (maskQuad h.qmask)

/-- The first step of R429 that fails, as an error code; 0 where none does. -/
def State.headerError (s : State) (h : ImgHeader) : Nat :=
  if !headerFormat h then 1
  else if !s.headerDevice h then 2
  else if !s.headerState h then 7
  else if (s.fuses.keyHashSet && !h.hashOk) || !h.sigOk then 3
  else if !h.wkOk then 4
  else 0

/-- The header is accepted: the fill of a full image starts; a quadrant image has every unit of its quadrant as its target (R87, R420, R441). -/
def State.headerTaken (s : State) (h : ImgHeader) : State :=
  let s := s.wr (cfgA 0) R.CFG_STAT.SECURE (if s.fuses.keyHashSet then 1 else 0)
  let s := s.modLoad fun v =>
    { v with header := true, kind := h.kind, qmask := h.qmask, imageId := h.imageId, segments := h.segments, len := h.len, pos := 288, segPos := 280 }
  match h.kind with
  | 0 => { s with image := [] }.fillAll
  | 1 => s
  | _ =>
    let us := quadTargets (maskQuad h.qmask)
    us.foldl (fun s u => s.enterHold u) (s.modLoad fun v => { v with targets := us })

/-- IMAGE_HEADER (R429): the 280 bytes have been taken and are checked in order. -/
def execImageHeader (h : ImgHeader) (s : State) : Host.Outcome State Fault Refusal :=
  .next <|
    if s.load.mode = 0 ∨ s.load.header ∨ s.rd (cfgA 0) R.CFG_PROG.BYTES < 280 then s
    else
      match s.headerError h with
      | 0 => s.headerTaken h
      | 1 => s.loadError 1 0
      | e => (s.modLoad fun v => { v with header := true, kind := h.kind }).loadError e 0

/-! ## Records (R428, R430 to R432) -/

/-- A record of `len` payload bytes that has been taken: it is acted on when its placement is right, else the load ends with FORMAT (R431). A record that the
image's length cuts off ends it with TRUNCATED. -/
def State.imageRecord (s : State) (len : Nat) (ok : Bool) (act : State → State) : State :=
  let v := s.load
  let n := 8 + (len + 7) / 8 * 8
  if v.mode = 0 ∨ !v.header then s
  else if s.allTaken ∧ 280 + v.len < v.pos + n then s.loadError 5 (280 + v.len)
  else if s.rd (cfgA 0) R.CFG_PROG.BYTES < v.pos + n then s
  else if v.closed ∨ 1048576 < v.pos + n - (v.segPos + 8) ∨ !ok then s.loadError 1 v.pos
  else act (s.modLoad fun v => { v with pos := v.pos + n, recs := v.recs + 1 })

/-- CELLS (R430, R440): the decoded cells of an island (log entry 21); a bay's and a deep store's settings are registers. While the unit is held, its
flip-flops take INIT. -/
def execCells (tgt len : Nat) (cfg : Option IslandCfg) (s : State) : Host.Outcome State Fault Refusal :=
  .next <|
    s.imageRecord len (decide (tgt / 8192 < 3) && s.tgtOk tgt) fun s =>
      let s := (s.takeTarget tgt).modLoad fun v => { v with cells := tgt :: v.cells.filter (· ≠ tgt) }
      if tgt / 8192 = 0 then ((s.setCfgOf tgt cfg).initFlops tgt).syncLines tgt else s

/-- STORE_INIT (R430 to R432): it follows the CELLS record of its unit, and waits for the fill. -/
def execStoreInit (tgt first : Nat) (data : List (BitVec 8)) (s : State) : Host.Outcome State Fault Refusal :=
  .next <|
    s.imageRecord (4 + data.length) (s.tgtOk tgt && s.load.cells.contains (tgtUnit tgt) && initOk tgt first data) fun s =>
      let s := s.takeTarget tgt
      if s.load.fill then s.modLoad fun v => { v with inits := v.inits ++ [(tgt, first, data)] } else s.putInit tgt first data

/-- Whether a register belongs to a lane, a MAC or a CAN FD controller (R432). -/
def laneBlockReg (a : Nat) : Bool :=
  match locate a with
  | some (_, g, _, _) => decide (g = .pam ∨ g = .nrz ∨ g = .lnattn ∨ g = .mac ∨ g = .can)
  | none => false

/-- A register write by the image; the fields that the image sets are kept as its image values (R166, R320, R432). It can set CTX_CFG and CTX_PC of
any context, and a context that it enables is READY (R210). -/
def State.imageReg (s : State) (a v : Nat) : State :=
  let s :=
    match locate a with
    | some (b, .ctx, _, off) =>
      if s.bayHere b = true ∧ (off = 0 ∨ off = 0xC) then
        let s := s.putReg .ctx (a - off) off v
        if off = 0 then s.wr (a - off) R.CTX_STATE.STATE (if s.bit (a - off) R.CTX_CFG.EN then 2 else 0) else s
      else s
    | _ => s.regStore a v
  match locate a with
  | some (_, g, _, off) =>
    (g.fields off).foldl (fun s r =>
      if r.acc = .rw ∨ r.acc = .rwl then
        let k := key (a - off) (r.at off)
        { s with image := Tab.put regReset s.image k (Tab.get regReset s.flds k) }
      else s) s
  | none => s

/-- REG (R430 to R432): register writes in order; those of lanes, MACs and CAN FD controllers wait for stage 1. -/
def execReg (entries : List (Nat × Nat)) (s : State) : Host.Outcome State Fault Refusal :=
  .next <|
    let here := fun (a : Nat) => match locate a with
      | some (w, g, _, _) => decide ((if g.inBay then w / 32 else w) = maskQuad s.load.qmask)
      | none => false
    s.imageRecord (16 * entries.length)
      (entries.all fun e => registerSpace e.1 && decide (e.1 % 4 = 0) && (decide (s.load.kind ≠ 2) || here e.1)) fun s =>
      entries.foldl (fun s e =>
        if laneBlockReg e.1 then s.modLoad fun v => { v with regs := v.regs ++ [e] } else s.imageReg e.1 (e.2 % 2 ^ 32)) s

/-- MEM (R430, R431): MC_CFG of a channel, which is given INIT when segment 0 is authenticated. -/
def execMem (ch value : Nat) (s : State) : Host.Outcome State Fault Refusal :=
  .next <|
    let c := ch % 8
    s.imageRecord 4 (decide (s.load.kind = 0 ∧ s.load.segs = 0) && s.load.qmask.testBit (c / 2) && s.chHere c) fun s =>
      (s.imageReg (mcA c) (value % 2 ^ 32)).modLoad fun v => { v with initCh := v.initCh.filter (· ≠ c) ++ [c] }

/-- MEMMAP (R292, R321, R430, R431): each set is placed before it is enabled. -/
def execMemmap (top : Nat) (sets : List MapSet) (s : State) : Host.Outcome State Fault Refusal :=
  .next <|
    s.imageRecord 132 (decide (s.load.kind = 0 ∧ s.load.segs = 0)) fun s =>
      let s := s.mapRegWrite 0 0 top
      (List.range 8).foldl (fun s i =>
        match sets[i]? with
        | none => s
        | some m =>
          let o := 0x100 + 0x10 * i
          let s := ((s.mapRegWrite 0 o (m.cfg % 2 ^ 31)).mapRegWrite 0 (o + 4) m.base).mapRegWrite 0 (o + 8) m.size
          (s.mapRegWrite 0 (o + 12) m.choff).mapRegWrite 0 o m.cfg) s

/-- RELEASE (R430, R431, R440): at most one. A full image's value goes to CFG_REL. -/
def execReleaseRecord (value : Nat) (s : State) : Host.Outcome State Fault Refusal :=
  .next <|
    s.imageRecord 4 s.load.rel.isNone fun s =>
      let s := s.modLoad fun v => { v with rel := some value }
      if s.load.kind = 0 then
        let a := cfgA 0
        ((s.wr a R.CFG_REL.COMPAT (bits value 31 31)).wr a R.CFG_REL.GAP12 (bits value 15 8)).wr a R.CFG_REL.GAP23 (bits value 7 0)
      else s

/-- Whether an entry of the FRAME class may be published (R396). -/
def userObjOk (o : UserObj) : Bool :=
  !o.frame ||
    (decide (o.len = 1 ∨ o.len = 2 ∨ o.len = 4 ∨ o.len = 8 ∨ o.len = 16 ∨ o.len = 32 ∨ o.len = 64) && decide (o.pa % o.len = 0) &&
      (decide (o.pa < 0xA400000000) ||
        (decide (0xC000000000 ≤ o.pa ∧ o.pa < 0xC080000000) && decide (o.pa % 0x1000000 < 0x40000))))

/-- OBJECTS (R396, R430). -/
def execObjects (entries : List UserObj) (s : State) : Host.Outcome State Fault Refusal :=
  .next <|
    s.imageRecord (16 * entries.length) (entries.all userObjOk) fun s => s.modLoad fun v => { v with objs := v.objs ++ entries }

/-- KEY (R428, R431): the last record of every segment but the last. -/
def execKey (s : State) : Host.Outcome State Fault Refusal :=
  .next <| s.imageRecord 32 (decide (s.load.segs + 1 < s.load.segments)) fun s => s.modLoad fun v => { v with closed := true }

/-- END (R431): the last record of the image, with the number of records before it. -/
def execEndImage (count : Nat) (s : State) : Host.Outcome State Fault Refusal :=
  .next <|
    s.imageRecord 4 (decide (s.load.segs + 1 = s.load.segments) && decide (count = s.load.recs)) fun s =>
      s.modLoad fun v => { v with closed := true, ended := true }

/-- The tag of a segment is good: with the first of a full image, INIT goes to its channels; with the last, the load is complete (R420, R437). -/
def State.segmentGood (s : State) : State :=
  let s := if s.load.segs = 0 then s.load.initCh.foldl (fun s c => s.mcInit c true) s else s
  let s := s.modLoad fun v => { v with segs := v.segs + 1, closed := false, segPos := v.pos + 16, pos := v.pos + 24 }
  if s.load.ended then
    let s := s.modLoad fun v => { v with mode := 0 }
    if s.load.kind = 0 then s.setCfgState 2 else s
  else s

/-- SEGMENT_TAG (R428, R431, R435): a segment that no KEY or END closes gives FORMAT. -/
def execSegmentTag (ok : Bool) (s : State) : Host.Outcome State Fault Refusal :=
  .next <|
    let v := s.load
    if v.mode = 0 ∨ !v.header then s
    else if s.allTaken ∧ 280 + v.len < v.pos + 16 then s.loadError 5 (280 + v.len)
    else if s.rd (cfgA 0) R.CFG_PROG.BYTES < v.pos + 16 then s
    else if !v.closed then s.loadError 1 v.pos
    else if ok then s.segmentGood
    else s.loadError 4 v.segPos

/-- PULL_READ_COMPLETION (R433, R435): `n` image bytes arrive, none where the descriptor list has ended; an error completion ends the load. -/
def execPullReadCompletion (ok : Bool) (n : Nat) (s : State) : Host.Outcome State Fault Refusal :=
  .next <|
    if s.load.mode ≠ 1 ∨ s.allTaken then s
    else if !ok then s.loadError 8 (s.rd (cfgA 0) R.CFG_PROG.BYTES)
    else if n = 0 then s.endStream
    else s.takeBytes n

/-! ## The end of a failed load (R435) -/

/-- CLEARING_DONE (R435): the device is in the state that a device reset leaves; the PCIe link, PF0 and CFG_STAT keep theirs, and so do the registers that
say where the load failed. -/
def execClearingDone (s : State) : Host.Outcome State Fault Refusal :=
  .next <|
    if s.cfgState = 7 then
      let mine := fun (k : Nat) => decide (key (cfgA 0) R.CFG_STAT.LOCK ≤ k ∧ k < key (cfgA 0) R.CFG_STAT.LOCK + 32) ||
        decide (k = key (cfgA 0) R.CFG_PROG.BYTES ∨ k = key (cfgA 0) R.CFG_ERRPOS.OFFSET)
      let kept := s.flds.filter fun x => mine x.1
      let pf0 := s.pfState 0
      let v := s.load
      let t := s.deviceClear.setPfState 0 pf0
      let t := kept.foldl (fun t x => { t with flds := Tab.put regReset t.flds x.1 x.2 }) t
      let t := t.modLoad fun w => { w with link := v.link, window := v.window }
      let t := (t.quads.foldl (fun t q => t.quadUp q) t).trainAll
      (t.setCfgState 8).errLine true
    else s

/-! ## The release (R436 to R441, R550) -/

/-- Whether a generator's clock and level are in force (R550). -/
def State.genSettled (s : State) (g : Nat) : Bool := !s.bit (genA g) R.ISL_CLKSTAT.RAMPING && !s.bit (genA g) R.ISL_CLKSTAT.VBUSY

/-- DEVICE_LOADED (R437, R550): every condition of a full load holds, so the device releases CFG_DONE. -/
def execDeviceLoaded (s : State) : Host.Outcome State Fault Refusal :=
  .next <|
    if decide (s.cfgState = 2) && !s.load.fill && s.load.initCh.all (fun c => decide (s.mcState c ≠ 1 ∧ s.mcState c ≠ 2)) &&
        (List.range 576).all (fun g => !s.genOk g || s.genSettled g) then
      (s.modLoad fun v => { v with doneLow := false }).setCfgState 3
    else s

/-- Register writes that waited for stage 1 (R432). -/
def State.lateRegs (s : State) : State :=
  let l := s.load.regs
  l.foldl (fun s e => s.imageReg e.1 (e.2 % 2 ^ 32)) (s.modLoad fun v => { v with regs := [] })

/-- The general I/O of an island leave the hold state. -/
def State.islIo (s : State) (i : Nat) : State := (s.setIsland i { s.island i with io := true }).islDrive i
/-- An island leaves HOLD for RUN: its flip-flops start from INIT (R61). -/
def State.islRun (s : State) (i : Nat) : State :=
  if s.islState i = 5 then ((s.setIsland i { s.island i with held := false }).initFlops i).setIslState i 0 else s
/-- The pins of a bay leave the hold state (R163). -/
def State.bayPins (s : State) (b : Nat) : State :=
  if s.bayState b = 3 then (s.modBay b fun v => { v with pinsLive := true }).drivePins b else s
/-- A bay's SRAM takes writes. -/
def State.bayOpen (s : State) (b : Nat) : State := s.modBay b fun v => { v with sramOpen := true }
/-- A bay leaves HOLD for RUN. -/
def State.bayRun (s : State) (b : Nat) : State := if s.bayState b = 3 then s.enterRun b else s
/-- Writes of an island's stores are enabled. -/
def State.islOpen (s : State) (i : Nat) : State := s.setIsland i { s.island i with wrEn := true }
/-- Writes of a deep store are enabled. -/
def State.deepOpen (s : State) (d : Nat) : State := s.setDeep d { s.deep d with wrEn := true }

/-- The bays that the broadcast tree reaches. -/
def State.reachedBays (s : State) : List Nat := (List.range 128).filter fun b => s.treeReaches (b / 32)

/-- STAGE1 (R116, R163, R436, R438): in compatibility mode flip-flops and bays run from here. -/
def State.stage1 (s : State) : State :=
  let compat := s.bit (cfgA 0) R.CFG_REL.COMPAT
  let s := s.lateRegs
  let s := s.reached.foldl (fun s i => s.islIo i) s
  let s := s.reachedBays.foldl (fun s b => s.bayPins b) s
  let s := if compat then s.reached.foldl (fun s i => s.islRun i) s else s
  let s := if compat then s.reachedBays.foldl (fun s b => (s.bayOpen b).bayRun b) s else s
  (s.modLoad fun v => { v with stage := 2 }).setCfgState 4

/-- A release that RELEASE_NOW has asked for begins (R439). -/
def State.stageDue (s : State) : State := if s.load.stage = 1 ∧ s.cfgState = 3 then s.stage1 else s

/-- CFG_DONE_HIGH (R438): the filtered line is high, which it can be only once this device has released it. -/
def execCfgDoneHigh (s : State) : Host.Outcome State Fault Refusal :=
  .next <|
    if s.load.doneLow then s
    else
      let s := s.wr (cfgA 0) R.CFG_STAT.DONE_IN 1
      if s.cfgState = 3 then s.stage1 else s

/-- RELEASE_NOW (R439). -/
def execReleaseNow (s : State) : Host.Outcome State Fault Refusal := .next s.releaseNow.stageDue

/-- STAGE2_ISSUE (R116, R163, R438): store writes and bay SRAM writes are enabled. -/
def execStage2Issue (s : State) : Host.Outcome State Fault Refusal :=
  .next <|
    if s.cfgState = 4 ∧ s.load.stage = 2 then
      let s := s.reached.foldl (fun s i => s.islOpen i) s
      let s := ((List.range 64).filter fun d => s.treeReaches (d / 16)).foldl (fun s d => s.deepOpen d) s
      let s := s.reachedBays.foldl (fun s b => s.bayOpen b) s
      s.modLoad fun v => { v with stage := 3 }
    else s

/-- Publish the image's objects; one of the same index and sub-index replaces the former. -/
def State.publish (s : State) (l : List UserObj) : State :=
  { s with userObjs := s.userObjs.filter (fun o => !l.any (fun p => decide (p.index = o.index ∧ p.sub = o.sub))) ++ l }

/-- STAGE3_ISSUE (R116, R163, R438, R450): user resets and bays are released, and the device is CONFIGURED. -/
def execStage3Issue (s : State) : Host.Outcome State Fault Refusal :=
  .next <|
    if s.cfgState = 4 ∧ s.load.stage = 3 then
      let s := s.reached.foldl (fun s i => s.islRun i) s
      let s := s.reachedBays.foldl (fun s b => s.bayRun b) s
      let s := ({ s with userObjs := [] }.publish s.load.objs).modLoad fun v => { v with stage := 0, ended := false, fresh := [] }
      let a := cfgA 0
      (((s.wr a R.CFG_IMAGE.IMAGE_ID s.load.imageId).wr a R.CFG_STAT.LOCK 1).setCfgState 5).raise 704
    else s

/-- The three stages of one target. -/
def State.releaseUnit (s : State) (u : Nat) : State :=
  let n := u % 8192
  match u / 8192 with
  | 0 => ((s.islIo n).islOpen n).islRun n
  | 1 => ((s.bayPins n).bayOpen n).bayRun n
  | _ => s.deepOpen n

/-- PARTIAL_RELEASE (R440, R441, R550): the stages are applied to the targets once their fill is complete and their clocks and levels are in force. -/
def execPartialRelease (s : State) : Host.Outcome State Fault Refusal :=
  .next <|
    let v := s.load
    let gen := fun (u : Nat) => if u / 8192 = 0 then u else if u / 8192 = 1 then 448 + u % 8192 else 384 + u % 8192
    if decide (v.kind ≠ 0) && v.ended && decide (v.segs = v.segments) && !v.fill && v.targets.all (fun u => s.genSettled (gen u)) then
      let s := v.targets.foldl (fun s u => s.releaseUnit u) s.lateRegs
      let s := (s.publish v.objs).modLoad fun w =>
        { w with ended := false, targets := [], fresh := if v.kind = 2 then w.fresh.filter (· ≠ maskQuad v.qmask) else w.fresh }
      ((s.wr (cfgA 0) R.CFG_IMAGE.IMAGE_ID v.imageId).setCfgState v.prev).raise 706
    else s

end Sys2Proof.Machine
end

