-- ==== Sys2Proof/Machine/Top.lean ====
section
/-! DEFINITION. Machine/Top.lean: commands that reach registers whole (R11, R13, R445, R446, R491), what the device manager does after them, and
what a tick of the clock does (log entries 50 and 51). -/
namespace Sys2Proof.Machine
open Sys2Proof

/-! ## The device manager (R444, R446) -/

/-- A word for the agent (R446): a length, or a word of the message that it announced; a bad length makes the agent discard words until FLUSH. -/
def State.agentWord (s : State) (w : Nat) : State :=
  if s.agent.dead then s
  else
    match s.agent.need with
    | none =>
      if w = 0 ∨ 4096 < w then s.modAgent fun v => { v with dead := true }
      else s.modAgent fun v => { v with words := [], need := some w }
    | some n =>
      let ws := s.agent.words ++ [w]
      if ws.length * 4 < n then s.modAgent fun v => { v with words := ws }
      else (s.modAgent fun v => { v with words := [], need := none }).clMessage .pf0 ((ws.flatMap fun x => leBytes x 4).take n)

/-- The agent takes up to `n` words from mailbox 32. -/
def State.agentTake (s : State) : Nat → State
  | 0 => s
  | n + 1 => if s.agentOn && !(s.mb 0 32).ab.isEmpty then ((s.mbPop 0 32 true).agentWord (s.mbPeek 0 32 true)).agentTake n else s

/-- What follows a command on its own: messages for the agent and its answers, a release asked for, wake slots, and resets that are due. -/
def State.settle (s : State) : State :=
  ((((s.agentTake 4).mailOut 4).stageDue.serveWakes).faultResets).resetDue

/-! ## Register commands (R11, R13, R491) -/

/-- The quadrant in whose windows an address lies; 4 stands for none. -/
def addrQuad (a : Nat) : Nat :=
  if 0xC000000000 ≤ a ∧ a < 0xC080000000 then (a - 0xC000000000) / 0x20000000
  else if 0xD000000000 ≤ a ∧ a < 0xD040000000 then (a - 0xD000000000) / 0x10000000
  else 4

/-- Whether a register can be reached: its address is that of a word, its bay is not in reset, and its quadrant, where present, can act (R9, R47). -/
def State.regReachable (s : State) (a : Nat) : Bool :=
  decide (a % 4 = 0) && !s.bayHeld a && (s.quadLive (addrQuad a) || !s.quadOk (addrQuad a))

/-- REGISTER_WRITE (R11, R12, R14): a write of one register. -/
def execRegisterWrite (addr : Nat) (value : BitVec 32) (s : State) : Host.Outcome State Fault Refusal :=
  .next <| if s.regReachable addr then (s.regStore addr value.toNat).settle else s

/-- READ_CLEAR (R11): a read without the debug attribute; its value leaves, and RC and POP fields act. -/
def execReadClear (addr : Nat) (s : State) : Host.Outcome State Fault Refusal :=
  .next <|
    if s.regReachable addr then
      let r := s.regRead false addr
      (r.2.emit (.regValue addr r.1)).settle
    else s

/-- DEBUG_PEEK (R13, R491): a read with the debug attribute. -/
def execDebugPeek (addr : Nat) (s : State) : Host.Outcome State Fault Refusal :=
  .next <|
    if s.regReachable addr then
      let r := s.regRead true addr
      r.2.emit (.regValue addr r.1)
    else s

/-- HOST_READ (R425). -/
def execHostRead (f bar addr len : Nat) (net : Net) (s : State) : Host.Outcome State Fault Refusal := .next (s.hostRead f bar addr len net).settle
/-- HOST_WRITE (R425). -/
def execHostWrite (f bar addr len data be : Nat) (net : Net) (s : State) : Host.Outcome State Fault Refusal :=
  .next (s.hostWrite f bar addr len data be net).settle

/-! ## Mailboxes (R445, R446) -/

/-- MAILBOX_TX (R445). -/
def execMailboxTx (q k : Nat) (sideB : Bool) (value : BitVec 32) (s : State) : Host.Outcome State Fault Refusal :=
  .next <| if s.quadOk q && decide (k < 40) then (s.mbTx q k sideB value.toNat).settle else s

/-- MAILBOX_RX (R445). -/
def execMailboxRx (q k : Nat) (sideB : Bool) (s : State) : Host.Outcome State Fault Refusal :=
  .next <|
    if s.quadOk q && decide (k < 40) then
      ((s.mbPop q k sideB).emit (.regValue (mbxA q k + (if sideB then 0xC else 0x4)) (s.mbPeek q k sideB))).settle
    else s

/-- MAILBOX_FLUSH (R446). -/
def execMailboxFlush (q k : Nat) (s : State) : Host.Outcome State Fault Refusal :=
  .next <| if s.quadOk q && decide (k < 40) then (s.mbFlush q k).settle else s

/-! ## A tick (log entry 50) -/

/-- The counter of the tide clock advances by one nanosecond, in S3 by the 40 ns of its slower clock (R352, R468); without power it does not run. -/
def State.tickTime (s : State) : State :=
  if s.power.on && decide (s.power.dev ≠ 4) then { s with counter := (s.counter + (if s.power.dev = 3 then 40 else 1)) % 2 ^ 64 } else s

/-- REMAIN of the bay watchdogs that count goes down at each microsecond (R161, R166). -/
def State.tickWdogs (s : State) : State :=
  if s.counter % 1000 = 0 then
    (List.range 128).foldl (fun s b =>
      if s.wdogCounts b then s.wr (bayA b) R.WDOG_STAT.REMAIN (s.rd (bayA b) R.WDOG_STAT.REMAIN - 1) else s) s
  else s

/-- Steps of halted engines that wait for a READY context (R498). -/
def State.tickSteps (s : State) : State :=
  let l := s.dbgs.map (·.1)
  l.foldl (fun s b =>
    if (s.dbg b).stepWait && s.halted b && !(s.dbg b).stepping then
      match s.stepPick b with
      | some c => s.stepCtx b c
      | none => s
    else s) s

/-- Words that wait for the inbound bundles of NAPs (R268). -/
def State.tickNaps (s : State) : State :=
  let l := s.naps.map (·.1)
  l.foldl (fun s n => if (s.nap n).inbound.isEmpty then s else s.napFlush n) s

/-- One tick with no command waiting: time passes, and what was on its way arrives. -/
def State.tick (s : State) : State := ((((s.tickTime.tickWdogs).xtDeliver).tickSteps).tickNaps).settle

end Sys2Proof.Machine
end

