-- ==== Sys2Proof/Machine/Dispatch.lean ====
section
/-! DEFINITION. Machine/Dispatch.lean: one arm per command, each a direct call of its meaning. -/
namespace Sys2Proof.Machine
open Sys2Proof

/-- The effect of a command on the state. -/
def exec (i : Instr) (s : State) : Host.Outcome State Fault Refusal :=
  match i with
  | .registerWrite addr value => Sys2Proof.Machine.execRegisterWrite addr value s
  | .readClear addr => Sys2Proof.Machine.execReadClear addr s
  | .debugPeek addr => Sys2Proof.Machine.execDebugPeek addr s
  | .rdReq p net => Sys2Proof.Machine.execRdReq p net s
  | .wrReq p be data net => Sys2Proof.Machine.execWrReq p be data net s
  | .rdRsp port tag => Sys2Proof.Machine.execRdRsp port tag s
  | .wrRsp port tag => Sys2Proof.Machine.execWrRsp port tag s
  | .msg src dest dport payload => Sys2Proof.Machine.execMsg src dest dport payload s
  | .hostRead f bar addr len net => Sys2Proof.Machine.execHostRead f bar addr len net s
  | .hostWrite f bar addr len data be net => Sys2Proof.Machine.execHostWrite f bar addr len data be net s
  | .pcieConfigRequest f offset write value => Sys2Proof.Machine.execPcieConfigRequest f offset write value s
  | .pcieLinkUp => Sys2Proof.Machine.execPcieLinkUp s
  | .flr f => Sys2Proof.Machine.execFlr f s
  | .vinStart => Sys2Proof.Machine.execVinStart s
  | .powerOnStepsDone => Sys2Proof.Machine.execPowerOnStepsDone s
  | .vinWarning => Sys2Proof.Machine.execVinWarning s
  | .vinWarningEnd => Sys2Proof.Machine.execVinWarningEnd s
  | .brownout => Sys2Proof.Machine.execBrownout s
  | .recordLoss => Sys2Proof.Machine.execRecordLoss s
  | .ibusUndervoltage => Sys2Proof.Machine.execIbusUndervoltage s
  | .regFault => Sys2Proof.Machine.execRegFault s
  | .inputCurrentLimit => Sys2Proof.Machine.execInputCurrentLimit s
  | .sbOvercurrent => Sys2Proof.Machine.execSbOvercurrent s
  | .perstAssert => Sys2Proof.Machine.execPerstAssert s
  | .perstRelease => Sys2Proof.Machine.execPerstRelease s
  | .deviceReset o h => Sys2Proof.Machine.execDeviceReset o h s
  | .deviceResetDone => Sys2Proof.Machine.execDeviceResetDone s
  | .quadrantReset o h q => Sys2Proof.Machine.execQuadrantReset o h q s
  | .quadrantResetDone q => Sys2Proof.Machine.execQuadrantResetDone q s
  | .deepStoreRead d b => Sys2Proof.Machine.execDeepStoreRead d b s
  | .deepStoreRead4 d b => Sys2Proof.Machine.execDeepStoreRead4 d b s
  | .deepStoreWrite d b => Sys2Proof.Machine.execDeepStoreWrite d b s
  | .deepStoreWrite4 d b => Sys2Proof.Machine.execDeepStoreWrite4 d b s
  | .storeFillDone => Sys2Proof.Machine.execStoreFillDone s
  | .islClkWrite gen value => Sys2Proof.Machine.execIslClkWrite gen value s
  | .dividerRampStep gen => Sys2Proof.Machine.execDividerRampStep gen s
  | .levelVoltageDone gen => Sys2Proof.Machine.execLevelVoltageDone gen s
  | .islandFence isl => Sys2Proof.Machine.execIslandFence isl s
  | .islandFenceDrained isl => Sys2Proof.Machine.execIslandFenceDrained isl s
  | .islandFenceTimeout isl => Sys2Proof.Machine.execIslandFenceTimeout isl s
  | .islandUnfence isl => Sys2Proof.Machine.execIslandUnfence isl s
  | .islandReset isl => Sys2Proof.Machine.execIslandReset isl s
  | .islandResetDone isl => Sys2Proof.Machine.execIslandResetDone isl s
  | .bistStart isl => Sys2Proof.Machine.execBistStart isl s
  | .bistDone isl result unit => Sys2Proof.Machine.execBistDone isl result unit s
  | .bcastCapture => Sys2Proof.Machine.execBcastCapture s
  | .bcastStop mask => Sys2Proof.Machine.execBcastStop mask s
  | .bcastGo mask => Sys2Proof.Machine.execBcastGo mask s
  | .bayReset b => Sys2Proof.Machine.execBayReset b s
  | .bayResetDone b => Sys2Proof.Machine.execBayResetDone b s
  | .bayOffline b => Sys2Proof.Machine.execBayOffline b s
  | .bayOnline b => Sys2Proof.Machine.execBayOnline b s
  | .pinModeWrite b k value => Sys2Proof.Machine.execPinModeWrite b k value s
  | .pinThrWrite b k value => Sys2Proof.Machine.execPinThrWrite b k value s
  | .pinStkWrite b k value => Sys2Proof.Machine.execPinStkWrite b k value s
  | .pinNextWrite b value => Sys2Proof.Machine.execPinNextWrite b value s
  | .stuckRearm b mask => Sys2Proof.Machine.execStuckRearm b mask s
  | .thresholdCrossing b k hi val frac => Sys2Proof.Machine.execThresholdCrossing b k hi val frac s
  | .deglitchAccept b k hi => Sys2Proof.Machine.execDeglitchAccept b k hi s
  | .deadTimeEnd b k hi => Sys2Proof.Machine.execDeadTimeEnd b k hi s
  | .captureRecordStore b => Sys2Proof.Machine.execCaptureRecordStore b s
  | .stuckTimeout b k => Sys2Proof.Machine.execStuckTimeout b k s
  | .adcSample b code clip => Sys2Proof.Machine.execAdcSample b code clip s
  | .adcBlockClose b => Sys2Proof.Machine.execAdcBlockClose b s
  | .adcBlockStore b => Sys2Proof.Machine.execAdcBlockStore b s
  | .wdogKick b value => Sys2Proof.Machine.execWdogKick b value s
  | .wdogExpiry b => Sys2Proof.Machine.execWdogExpiry b s
  | .bayFrameBoundary b => Sys2Proof.Machine.execBayFrameBoundary b s
  | .vccioLoss bank => Sys2Proof.Machine.execVccioLoss bank s
  | .vccioRestore bank zones => Sys2Proof.Machine.execVccioRestore bank zones s
  | .add b c wd wa wb => Sys2Proof.Machine.execAdd b c wd wa wb s
  | .sub b c wd wa wb => Sys2Proof.Machine.execSub b c wd wa wb s
  | .and b c wd wa wb => Sys2Proof.Machine.execAnd b c wd wa wb s
  | .or b c wd wa wb => Sys2Proof.Machine.execOr b c wd wa wb s
  | .xor b c wd wa wb => Sys2Proof.Machine.execXor b c wd wa wb s
  | .shl b c wd wa wb => Sys2Proof.Machine.execShl b c wd wa wb s
  | .shr b c wd wa wb => Sys2Proof.Machine.execShr b c wd wa wb s
  | .sar b c wd wa wb => Sys2Proof.Machine.execSar b c wd wa wb s
  | .ror b c wd wa wb => Sys2Proof.Machine.execRor b c wd wa wb s
  | .slt b c wd wa wb => Sys2Proof.Machine.execSlt b c wd wa wb s
  | .sltu b c wd wa wb => Sys2Proof.Machine.execSltu b c wd wa wb s
  | .min b c wd wa wb => Sys2Proof.Machine.execMin b c wd wa wb s
  | .max b c wd wa wb => Sys2Proof.Machine.execMax b c wd wa wb s
  | .minu b c wd wa wb => Sys2Proof.Machine.execMinu b c wd wa wb s
  | .maxu b c wd wa wb => Sys2Proof.Machine.execMaxu b c wd wa wb s
  | .mul b c wd wa wb => Sys2Proof.Machine.execMul b c wd wa wb s
  | .mulh b c wd wa wb => Sys2Proof.Machine.execMulh b c wd wa wb s
  | .mulhu b c wd wa wb => Sys2Proof.Machine.execMulhu b c wd wa wb s
  | .clz b c wd wa wb => Sys2Proof.Machine.execClz b c wd wa wb s
  | .addi b c wd wa imm => Sys2Proof.Machine.execAddi b c wd wa imm s
  | .andi b c wd wa imm => Sys2Proof.Machine.execAndi b c wd wa imm s
  | .ori b c wd wa imm => Sys2Proof.Machine.execOri b c wd wa imm s
  | .xori b c wd wa imm => Sys2Proof.Machine.execXori b c wd wa imm s
  | .slti b c wd wa imm => Sys2Proof.Machine.execSlti b c wd wa imm s
  | .sltui b c wd wa imm => Sys2Proof.Machine.execSltui b c wd wa imm s
  | .movhi b c wd wa imm => Sys2Proof.Machine.execMovhi b c wd wa imm s
  | .shi b c wd wa imm => Sys2Proof.Machine.execShi b c wd wa imm s
  | .ldw b c wd wa imm => Sys2Proof.Machine.execLdw b c wd wa imm s
  | .ldh b c wd wa imm => Sys2Proof.Machine.execLdh b c wd wa imm s
  | .ldhu b c wd wa imm => Sys2Proof.Machine.execLdhu b c wd wa imm s
  | .ldb b c wd wa imm => Sys2Proof.Machine.execLdb b c wd wa imm s
  | .ldbu b c wd wa imm => Sys2Proof.Machine.execLdbu b c wd wa imm s
  | .stw b c wd wa imm => Sys2Proof.Machine.execStw b c wd wa imm s
  | .sth b c wd wa imm => Sys2Proof.Machine.execSth b c wd wa imm s
  | .stb b c wd wa imm => Sys2Proof.Machine.execStb b c wd wa imm s
  | .ldp b c w p size x pm off => Sys2Proof.Machine.execLdp b c w p size x pm off s
  | .stp b c w p size x pm off => Sys2Proof.Machine.execStp b c w p size x pm off s
  | .ldl b c wd wa imm => Sys2Proof.Machine.execLdl b c wd wa imm s
  | .stc b c wd wa wb => Sys2Proof.Machine.execStc b c wd wa wb s
  | .movp b c p w => Sys2Proof.Machine.execMovp b c p w s
  | .mfp b c w p => Sys2Proof.Machine.execMfp b c w p s
  | .addp b c p imm => Sys2Proof.Machine.execAddp b c p imm s
  | .mac b c acc wa wb la pa lb pb ldA ldB => Sys2Proof.Machine.execMac b c acc wa wb la pa lb pb ldA ldB s
  | .msu b c acc wa wb la pa lb pb ldA ldB => Sys2Proof.Machine.execMsu b c acc wa wb la pa lb pb ldA ldB s
  | .clra b c acc => Sys2Proof.Machine.execClra b c acc s
  | .sac b c w acc n rnd wide uns => Sys2Proof.Machine.execSac b c w acc n rnd wide uns s
  | .mta b c acc w sh => Sys2Proof.Machine.execMta b c acc w sh s
  | .mfag b c w acc => Sys2Proof.Machine.execMfag b c w acc s
  | .mfal b c w acc => Sys2Proof.Machine.execMfal b c w acc s
  | .beq b c wa wb off => Sys2Proof.Machine.execBeq b c wa wb off s
  | .bne b c wa wb off => Sys2Proof.Machine.execBne b c wa wb off s
  | .blt b c wa wb off => Sys2Proof.Machine.execBlt b c wa wb off s
  | .bge b c wa wb off => Sys2Proof.Machine.execBge b c wa wb off s
  | .bltu b c wa wb off => Sys2Proof.Machine.execBltu b c wa wb off s
  | .bgeu b c wa wb off => Sys2Proof.Machine.execBgeu b c wa wb off s
  | .bdec b c wa rotb off => Sys2Proof.Machine.execBdec b c wa rotb off s
  | .jmp b c off => Sys2Proof.Machine.execJmp b c off s
  | .call b c off => Sys2Proof.Machine.execCall b c off s
  | .jr b c wa => Sys2Proof.Machine.execJr b c wa s
  | .loop b c wa len rotl => Sys2Proof.Machine.execLoop b c wa len rotl s
  | .rot b c k => Sys2Proof.Machine.execRot b c k s
  | .rotZ b c => Sys2Proof.Machine.execRotZ b c s
  | .qpush b c wd wq wa w => Sys2Proof.Machine.execQpush b c wd wq wa w s
  | .qpop b c wd wq wa w => Sys2Proof.Machine.execQpop b c wd wq wa w s
  | .queueWaitDone b c => Sys2Proof.Machine.execQueueWaitDone b c s
  | .time b c wd => Sys2Proof.Machine.execTime b c wd s
  | .fsync b c wd => Sys2Proof.Machine.execFsync b c wd s
  | .fsyncWake b c => Sys2Proof.Machine.execFsyncWake b c s
  | .wfe b c wd wa wb => Sys2Proof.Machine.execWfe b c wd wa wb s
  | .wfeEvent b c => Sys2Proof.Machine.execWfeEvent b c s
  | .wfeTimeout b c => Sys2Proof.Machine.execWfeTimeout b c s
  | .stim b c port wa size => Sys2Proof.Machine.execStim b c port wa size s
  | .brk b c code => Sys2Proof.Machine.execBrk b c code s
  | .fence b c => Sys2Proof.Machine.execFence b c s
  | .idle b c => Sys2Proof.Machine.execIdle b c s
  | .nop b c => Sys2Proof.Machine.execNop b c s
  | .mfs b c wd num => Sys2Proof.Machine.execMfs b c wd num s
  | .mts b c wa num => Sys2Proof.Machine.execMts b c wa num s
  | .translatedLoadReturn b c net => Sys2Proof.Machine.execTranslatedLoadReturn b c net s
  | .translatedStorePost b c net => Sys2Proof.Machine.execTranslatedStorePost b c net s
  | .postedStoreError b c => Sys2Proof.Machine.execPostedStoreError b c s
  | .fenceComplete b c net => Sys2Proof.Machine.execFenceComplete b c net s
  | .contextSwitch b => Sys2Proof.Machine.execContextSwitch b s
  | .quantumExpiry b => Sys2Proof.Machine.execQuantumExpiry b s
  | .ctxCfgWrite b c value => Sys2Proof.Machine.execCtxCfgWrite b c value s
  | .ctxPcWrite b c value => Sys2Proof.Machine.execCtxPcWrite b c value s
  | .ctxStart b c => Sys2Proof.Machine.execCtxStart b c s
  | .ctxResume b c => Sys2Proof.Machine.execCtxResume b c s
  | .ctxAbort b c => Sys2Proof.Machine.execCtxAbort b c s
  | .abortComplete b c net => Sys2Proof.Machine.execAbortComplete b c net s
  | .queueEnable b q value => Sys2Proof.Machine.execQueueEnable b q value s
  | .qTailWrite b q value => Sys2Proof.Machine.execQTailWrite b q value s
  | .qHeadWrite b q value => Sys2Proof.Machine.execQHeadWrite b q value s
  | .moverDescriptorStart b n => Sys2Proof.Machine.execMoverDescriptorStart b n s
  | .moverDescriptorDone b n net => Sys2Proof.Machine.execMoverDescriptorDone b n net s
  | .moverCompletionWrite b n => Sys2Proof.Machine.execMoverCompletionWrite b n s
  | .moverFault b n at_ net => Sys2Proof.Machine.execMoverFault b n at_ net s
  | .moverResume b n => Sys2Proof.Machine.execMoverResume b n s
  | .moverAbort b n => Sys2Proof.Machine.execMoverAbort b n s
  | .moverCfgWrite b n value => Sys2Proof.Machine.execMoverCfgWrite b n value s
  | .tctxWrite addr value => Sys2Proof.Machine.execTctxWrite addr value s
  | .xuInvalidate q value => Sys2Proof.Machine.execXuInvalidate q value s
  | .xuInvDone => Sys2Proof.Machine.execXuInvDone s
  | .napMasterRequest r req => Sys2Proof.Machine.execNapMasterRequest r req s
  | .napTargetResponse r ttag status data => Sys2Proof.Machine.execNapTargetResponse r ttag status data s
  | .napResume r => Sys2Proof.Machine.execNapResume r s
  | .napAbort r => Sys2Proof.Machine.execNapAbort r s
  | .napHoldExpiry r => Sys2Proof.Machine.execNapHoldExpiry r s
  | .userEventEdge r k => Sys2Proof.Machine.execUserEventEdge r k s
  | .evtSwset k value => Sys2Proof.Machine.execEvtSwset k value s
  | .eventDelivery e => Sys2Proof.Machine.execEventDelivery e s
  | .routerFence r => Sys2Proof.Machine.execRouterFence r s
  | .routerFenced r => Sys2Proof.Machine.execRouterFenced r s
  | .routerUnfence r => Sys2Proof.Machine.execRouterUnfence r s
  | .rtCfgWrite r value => Sys2Proof.Machine.execRtCfgWrite r value s
  | .holdLimitExpiry r => Sys2Proof.Machine.execHoldLimitExpiry r s
  | .rspTimeoutExpiry port tag => Sys2Proof.Machine.execRspTimeoutExpiry port tag s
  | .throttle port ch gap time => Sys2Proof.Machine.execThrottle port ch gap time s
  | .throttleExpiry port ch => Sys2Proof.Machine.execThrottleExpiry port ch s
  | .probeClear q p => Sys2Proof.Machine.execProbeClear q p s
  | .probeTraceRecord q p => Sys2Proof.Machine.execProbeTraceRecord q p s
  | .mcCfgWrite ch value => Sys2Proof.Machine.execMcCfgWrite ch value s
  | .mcInit ch => Sys2Proof.Machine.execMcInit ch s
  | .mcTrainingDone ch ok => Sys2Proof.Machine.execMcTrainingDone ch ok s
  | .mcFill ch => Sys2Proof.Machine.execMcFill ch s
  | .mcFillDone ch => Sys2Proof.Machine.execMcFillDone ch s
  | .mcOffline ch => Sys2Proof.Machine.execMcOffline ch s
  | .mcOfflineDone ch => Sys2Proof.Machine.execMcOfflineDone ch s
  | .mcOnline ch => Sys2Proof.Machine.execMcOnline ch s
  | .interleaveEnable q set value => Sys2Proof.Machine.execInterleaveEnable q set value s
  | .refreshDue ch bank busy => Sys2Proof.Machine.execRefreshDue ch bank busy s
  | .refreshRatePoll ch hot0 hot1 => Sys2Proof.Machine.execRefreshRatePoll ch hot0 hot1 s
  | .selfRefreshEntry ch => Sys2Proof.Machine.execSelfRefreshEntry ch s
  | .selfRefreshExit ch => Sys2Proof.Machine.execSelfRefreshExit ch s
  | .trackerClear ch => Sys2Proof.Machine.execTrackerClear ch s
  | .scrubRead ch => Sys2Proof.Machine.execScrubRead ch s
  | .scrubParityMismatch ch => Sys2Proof.Machine.execScrubParityMismatch ch s
  | .scrubRestart ch => Sys2Proof.Machine.execScrubRestart ch s
  | .logClear q log => Sys2Proof.Machine.execLogClear q log s
  | .eccTestWrite ch => Sys2Proof.Machine.execEccTestWrite ch s
  | .eccTestRead ch => Sys2Proof.Machine.execEccTestRead ch s
  | .eccTestDone ch => Sys2Proof.Machine.execEccTestDone ch s
  | .sgTestWrite q => Sys2Proof.Machine.execSgTestWrite q s
  | .sgTestRead q => Sys2Proof.Machine.execSgTestRead q s
  | .vddqLoss ch => Sys2Proof.Machine.execVddqLoss ch s
  | .laneCfgWrite l value => Sys2Proof.Machine.execLaneCfgWrite l value s
  | .laneTxSleep l sleep => Sys2Proof.Machine.execLaneTxSleep l sleep s
  | .laneRxSleep l sleep inFrame => Sys2Proof.Machine.execLaneRxSleep l sleep inFrame s
  | .lrefclkLoss q => Sys2Proof.Machine.execLrefclkLoss q s
  | .cdrLockAcquire l => Sys2Proof.Machine.execCdrLockAcquire l s
  | .cdrLockLoss l => Sys2Proof.Machine.execCdrLockLoss l s
  | .blockReceive l hdr payload => Sys2Proof.Machine.execBlockReceive l hdr payload s
  | .blockTransmit l => Sys2Proof.Machine.execBlockTransmit l s
  | .macCfgWrite e reg value => Sys2Proof.Machine.execMacCfgWrite e reg value s
  | .macLinkChange e report => Sys2Proof.Machine.execMacLinkChange e report s
  | .macFrameReceive e frame fcsOk net => Sys2Proof.Machine.execMacFrameReceive e frame fcsOk net s
  | .macTxEntry e net => Sys2Proof.Machine.execMacTxEntry e net s
  | .macLaunch e => Sys2Proof.Machine.execMacLaunch e s
  | .macTxComplete e net => Sys2Proof.Machine.execMacTxComplete e net s
  | .macPauseSend e => Sys2Proof.Machine.execMacPauseSend e s
  | .ringEnable ring value => Sys2Proof.Machine.execRingEnable ring value s
  | .txRingWrWrite ring value => Sys2Proof.Machine.execTxRingWrWrite ring value s
  | .canCfgWrite n reg value => Sys2Proof.Machine.execCanCfgWrite n reg value s
  | .canFrameReceive n frame error net => Sys2Proof.Machine.execCanFrameReceive n frame error net s
  | .canTxEntry n net => Sys2Proof.Machine.execCanTxEntry n net s
  | .canTxComplete n result net => Sys2Proof.Machine.execCanTxComplete n result net s
  | .canBusOff n net => Sys2Proof.Machine.execCanBusOff n net s
  | .canRestart n => Sys2Proof.Machine.execCanRestart n s
  | .canBusOffRecovery n => Sys2Proof.Machine.execCanBusOffRecovery n s
  | .domOfsLoad d value => Sys2Proof.Machine.execDomOfsLoad d value s
  | .domAdj d value => Sys2Proof.Machine.execDomAdj d value s
  | .domRateWrite d value => Sys2Proof.Machine.execDomRateWrite d value s
  | .hostSample d value => Sys2Proof.Machine.execHostSample d value s
  | .domainSampleTimeout d => Sys2Proof.Machine.execDomainSampleTimeout d s
  | .timeChangeApply => Sys2Proof.Machine.execTimeChangeApply s
  | .domainSwitch value => Sys2Proof.Machine.execDomainSwitch value s
  | .switchComplete => Sys2Proof.Machine.execSwitchComplete s
  | .ptpMessageReceive d e theta => Sys2Proof.Machine.execPtpMessageReceive d e theta s
  | .tdStreamLoss q => Sys2Proof.Machine.execTdStreamLoss q s
  | .tdStreamReturn q => Sys2Proof.Machine.execTdStreamReturn q s
  | .frameEnable value => Sys2Proof.Machine.execFrameEnable value s
  | .frPeriodWrite value => Sys2Proof.Machine.execFrPeriodWrite value s
  | .frameNotice q => Sys2Proof.Machine.execFrameNotice q s
  | .timeSnapshot q => Sys2Proof.Machine.execTimeSnapshot q s
  | .read o h recs => Sys2Proof.Machine.execRead o h recs s
  | .write o h recs => Sys2Proof.Machine.execWrite o h recs s
  | .begin o h => Sys2Proof.Machine.execBegin o h s
  | .commit o h mode frame => Sys2Proof.Machine.execCommit o h mode frame s
  | .commitApply n => Sys2Proof.Machine.execCommitApply n s
  | .rollback o h => Sys2Proof.Machine.execRollback o h s
  | .describe o h recs => Sys2Proof.Machine.execDescribe o h recs s
  | .sessionTimeout n => Sys2Proof.Machine.execSessionTimeout n s
  | .clanexSegmentTimeout n node => Sys2Proof.Machine.execClanexSegmentTimeout n node s
  | .broadcastFrame g ns sec period first => Sys2Proof.Machine.execBroadcastFrame g ns sec period first s
  | .barrier g => Sys2Proof.Machine.execBarrier g s
  | .barrierTimeout => Sys2Proof.Machine.execBarrierTimeout s
  | .snapshotAt g => Sys2Proof.Machine.execSnapshotAt g s
  | .resetAt g => Sys2Proof.Machine.execResetAt g s
  | .globalInstant => Sys2Proof.Machine.execGlobalInstant s
  | .enum g => Sys2Proof.Machine.execEnum g s
  | .syslinkPacket port seq p crcOk => Sys2Proof.Machine.execSyslinkPacket port seq p crcOk s
  | .ack port seq => Sys2Proof.Machine.execAck port seq s
  | .nak port seq => Sys2Proof.Machine.execNak port seq s
  | .syslinkResendTimeout port => Sys2Proof.Machine.execSyslinkResendTimeout port s
  | .tickSend port => Sys2Proof.Machine.execTickSend port s
  | .tick port resp stamp => Sys2Proof.Machine.execTick port resp stamp s
  | .upPortFailover => Sys2Proof.Machine.execUpPortFailover s
  | .linkResetSend port => Sys2Proof.Machine.execLinkResetSend port s
  | .linkReset port => Sys2Proof.Machine.execLinkReset port s
  | .imageHeader h => Sys2Proof.Machine.execImageHeader h s
  | .segmentTag ok => Sys2Proof.Machine.execSegmentTag ok s
  | .cells tgt len cfg => Sys2Proof.Machine.execCells tgt len cfg s
  | .storeInit tgt first data => Sys2Proof.Machine.execStoreInit tgt first data s
  | .reg entries => Sys2Proof.Machine.execReg entries s
  | .mem ch value => Sys2Proof.Machine.execMem ch value s
  | .memmap top sets => Sys2Proof.Machine.execMemmap top sets s
  | .releaseRecord value => Sys2Proof.Machine.execReleaseRecord value s
  | .objects entries => Sys2Proof.Machine.execObjects entries s
  | .key => Sys2Proof.Machine.execKey s
  | .endImage count => Sys2Proof.Machine.execEndImage count s
  | .startPull => Sys2Proof.Machine.execStartPull s
  | .pullReadCompletion ok n => Sys2Proof.Machine.execPullReadCompletion ok n s
  | .startPush => Sys2Proof.Machine.execStartPush s
  | .cfgDataWrite value => Sys2Proof.Machine.execCfgDataWrite value s
  | .finish => Sys2Proof.Machine.execFinish s
  | .abort => Sys2Proof.Machine.execAbort s
  | .clearingDone => Sys2Proof.Machine.execClearingDone s
  | .deviceLoaded => Sys2Proof.Machine.execDeviceLoaded s
  | .windowMissed => Sys2Proof.Machine.execWindowMissed s
  | .cfgDoneHigh => Sys2Proof.Machine.execCfgDoneHigh s
  | .releaseNow => Sys2Proof.Machine.execReleaseNow s
  | .stage2Issue => Sys2Proof.Machine.execStage2Issue s
  | .stage3Issue => Sys2Proof.Machine.execStage3Issue s
  | .partialRelease => Sys2Proof.Machine.execPartialRelease s
  | .mailboxTx q k sideB value => Sys2Proof.Machine.execMailboxTx q k sideB value s
  | .mailboxRx q k sideB => Sys2Proof.Machine.execMailboxRx q k sideB s
  | .mailboxTimeout q k fromB => Sys2Proof.Machine.execMailboxTimeout q k fromB s
  | .mailboxFlush q k => Sys2Proof.Machine.execMailboxFlush q k s
  | .sleepExit target => Sys2Proof.Machine.execSleepExit target s
  | .sleepS1 target => Sys2Proof.Machine.execSleepS1 target s
  | .sleepS2 target => Sys2Proof.Machine.execSleepS2 target s
  | .sleepS3 target => Sys2Proof.Machine.execSleepS3 target s
  | .sleepS4 target => Sys2Proof.Machine.execSleepS4 target s
  | .sleepCommitPoint => Sys2Proof.Machine.execSleepCommitPoint s
  | .sleepEntryDone => Sys2Proof.Machine.execSleepEntryDone s
  | .wakeEvent e => Sys2Proof.Machine.execWakeEvent e s
  | .wakeTimer => Sys2Proof.Machine.execWakeTimer s
  | .wakePin k => Sys2Proof.Machine.execWakePin k s
  | .sleepExitDone => Sys2Proof.Machine.execSleepExitDone s
  | .frCfgWrite q n value => Sys2Proof.Machine.execFrCfgWrite q n value s
  | .railLock q n => Sys2Proof.Machine.execRailLock q n s
  | .railUnlock q n => Sys2Proof.Machine.execRailUnlock q n s
  | .nocClkWrite q value => Sys2Proof.Machine.execNocClkWrite q value s
  | .nocClkDone q => Sys2Proof.Machine.execNocClkDone q s
  | .sensorUpdate q sensors => Sys2Proof.Machine.execSensorUpdate q sensors s
  | .capDrop q => Sys2Proof.Machine.execCapDrop q s
  | .capRise q => Sys2Proof.Machine.execCapRise q s
  | .thermalShutdown => Sys2Proof.Machine.execThermalShutdown s
  | .thermalRestart => Sys2Proof.Machine.execThermalRestart s
  | .pwrLogClear q => Sys2Proof.Machine.execPwrLogClear q s
  | .deviceWdogExpiry => Sys2Proof.Machine.execDeviceWdogExpiry s
  | .engineHalt b => Sys2Proof.Machine.execEngineHalt b s
  | .deferExpiry b => Sys2Proof.Machine.execDeferExpiry b s
  | .engineRelease b => Sys2Proof.Machine.execEngineRelease b s
  | .engineStep b => Sys2Proof.Machine.execEngineStep b s
  | .ctxdataAccess b write value => Sys2Proof.Machine.execCtxdataAccess b write value s
  | .debugUnlock value => Sys2Proof.Machine.execDebugUnlock value s
  | .unlockCheckDone ok => Sys2Proof.Machine.execUnlockCheckDone ok s
  | .dbmGo p => Sys2Proof.Machine.execDbmGo p s
  | .idcode => Sys2Proof.Machine.execIdcode s
  | .samplePreload => Sys2Proof.Machine.execSamplePreload s
  | .extest => Sys2Proof.Machine.execExtest s
  | .clamp => Sys2Proof.Machine.execClamp s
  | .highz => Sys2Proof.Machine.execHighz s
  | .dap op offset data => Sys2Proof.Machine.execDap op offset data s
  | .devreset => Sys2Proof.Machine.execDevreset s
  | .bypass => Sys2Proof.Machine.execBypass s
  | .xtPulse g => Sys2Proof.Machine.execXtPulse g s
  | .xtRelease g => Sys2Proof.Machine.execXtRelease g s
  | .tracePacket b net => Sys2Proof.Machine.execTracePacket b net s
  | .trcPop q => Sys2Proof.Machine.execTrcPop q s
  | .retrain q k => Sys2Proof.Machine.execRetrain q k s
  | .bridgeTrainingDone b codeOk good0 good1 spare0 spare1 => Sys2Proof.Machine.execBridgeTrainingDone b codeOk good0 good1 spare0 spare1 s
  | .bridgeBadFrame b side group => Sys2Proof.Machine.execBridgeBadFrame b side group s
  | .telemetrySend q => Sys2Proof.Machine.execTelemetrySend q s
  | .telemetryLost q => Sys2Proof.Machine.execTelemetryLost q s
  | .islandClockEdge isl rising gpio => Sys2Proof.Machine.execIslandClockEdge isl rising gpio s
  | .illegalInstruction b c word => Sys2Proof.Machine.execIllegalInstruction b c word s
  | .lrefclkReturn q => Sys2Proof.Machine.execLrefclkReturn q s
  | .inputLimitEnd => Sys2Proof.Machine.execInputLimitEnd s
  | .canLaunch n => Sys2Proof.Machine.execCanLaunch n s
  | .pauseTimerExpiry e => Sys2Proof.Machine.execPauseTimerExpiry e s
  | .prbsChecker l syms => Sys2Proof.Machine.execPrbsChecker l syms s

end Sys2Proof.Machine
end

