-- ==== Sys2Proof/Machine/EngineWord.lean ====
section
/-! DEFINITION. Machine/EngineWord.lean: the words of engine instructions, written from the formats and the opcode map (R187, R188, R190, R194 to R200,
spec/05_engine_isa.md). -/
namespace Sys2Proof.Machine
open Sys2Proof

/-- A one-bit field at bit `n`. -/
def flagAt (n : Nat) (p : Bool) : Nat := if p then 2 ^ n else 0

/-- A word of format M. -/
def wordM (op acc wa wb la pa lb pb : Nat) (ldA ldB : Bool) : Nat :=
  op * 2 ^ 26 + acc % 4 * 2 ^ 24 + wa % 32 * 2 ^ 19 + wb % 32 * 2 ^ 14 + la % 16 * 2 ^ 10 + pa % 4 * 2 ^ 8 + lb % 16 * 2 ^ 4 + pb % 4 * 2 ^ 2
    + flagAt 1 ldA + flagAt 0 ldB

/-- A word of format B. -/
def wordB (cond wa wb : Nat) (off : BitVec 13) : Nat := 0x28 * 2 ^ 26 + cond * 2 ^ 23 + wa % 32 * 2 ^ 18 + wb % 32 * 2 ^ 13 + off.toNat

/-- A word of the pointer group (R194). -/
def wordPtr (w p sub imm : Nat) : Nat := 0x1C * 2 ^ 26 + w % 32 * 2 ^ 21 + p % 8 * 2 ^ 18 + sub * 2 ^ 16 + imm

/-- A word of the accumulator group (R196). -/
def wordAcc (acc sub w low : Nat) : Nat := 0x22 * 2 ^ 26 + acc % 4 * 2 ^ 24 + sub * 2 ^ 21 + w % 32 * 2 ^ 16 + low

/-- A word of QPUSH or QPOP. -/
def wordQueue (op wd wq wa : Nat) (w : Bool) : Nat :=
  op * 2 ^ 26 + flagAt 25 w + wd % 32 * 2 ^ 20 + wq % 32 * 2 ^ 15 + wa % 32 * 2 ^ 10

/-- The word of an engine instruction; none for a command that is no engine instruction (R187, R188). -/
def encodeEngine (i : Instr) : Option Nat :=
  match i with
  | .add _ _ wd wa wb => some (wordR 0 wd wa wb 0x01)
  | .sub _ _ wd wa wb => some (wordR 0 wd wa wb 0x02)
  | .and _ _ wd wa wb => some (wordR 0 wd wa wb 0x03)
  | .or _ _ wd wa wb => some (wordR 0 wd wa wb 0x04)
  | .xor _ _ wd wa wb => some (wordR 0 wd wa wb 0x05)
  | .shl _ _ wd wa wb => some (wordR 0 wd wa wb 0x06)
  | .shr _ _ wd wa wb => some (wordR 0 wd wa wb 0x07)
  | .sar _ _ wd wa wb => some (wordR 0 wd wa wb 0x08)
  | .ror _ _ wd wa wb => some (wordR 0 wd wa wb 0x09)
  | .slt _ _ wd wa wb => some (wordR 0 wd wa wb 0x0A)
  | .sltu _ _ wd wa wb => some (wordR 0 wd wa wb 0x0B)
  | .min _ _ wd wa wb => some (wordR 0 wd wa wb 0x0C)
  | .max _ _ wd wa wb => some (wordR 0 wd wa wb 0x0D)
  | .minu _ _ wd wa wb => some (wordR 0 wd wa wb 0x0E)
  | .maxu _ _ wd wa wb => some (wordR 0 wd wa wb 0x0F)
  | .mul _ _ wd wa wb => some (wordR 0 wd wa wb 0x10)
  | .mulh _ _ wd wa wb => some (wordR 0 wd wa wb 0x11)
  | .mulhu _ _ wd wa wb => some (wordR 0 wd wa wb 0x12)
  | .clz _ _ wd wa wb => some (wordR 0 wd wa wb 0x13)
  | .addi _ _ wd wa imm => some (wordI 0x01 wd wa imm)
  | .andi _ _ wd wa imm => some (wordI 0x02 wd wa imm)
  | .ori _ _ wd wa imm => some (wordI 0x03 wd wa imm)
  | .xori _ _ wd wa imm => some (wordI 0x04 wd wa imm)
  | .slti _ _ wd wa imm => some (wordI 0x05 wd wa imm)
  | .sltui _ _ wd wa imm => some (wordI 0x06 wd wa imm)
  | .movhi _ _ wd wa imm => some (wordI 0x07 wd wa imm)
  | .shi _ _ wd wa imm => some (wordI 0x08 wd wa imm)
  | .ldp _ _ w p size x pm off => some (wordP 0x10 w p size x pm off)
  | .stp _ _ w p size x pm off => some (wordP 0x11 w p size x pm off)
  | .ldw _ _ wd wa imm => some (wordI 0x12 wd wa imm)
  | .ldh _ _ wd wa imm => some (wordI 0x13 wd wa imm)
  | .ldhu _ _ wd wa imm => some (wordI 0x14 wd wa imm)
  | .ldb _ _ wd wa imm => some (wordI 0x15 wd wa imm)
  | .ldbu _ _ wd wa imm => some (wordI 0x16 wd wa imm)
  | .stw _ _ wd wa imm => some (wordI 0x17 wd wa imm)
  | .sth _ _ wd wa imm => some (wordI 0x18 wd wa imm)
  | .stb _ _ wd wa imm => some (wordI 0x19 wd wa imm)
  | .ldl _ _ wd wa imm => some (wordI 0x1A wd wa imm)
  | .stc _ _ wd wa wb => some (wordR 0x1B wd wa wb 0)
  | .movp _ _ p w => some (wordPtr w p 0 0)
  | .mfp _ _ w p => some (wordPtr w p 1 0)
  | .addp _ _ p imm => some (wordPtr 0 p 2 imm.toNat)
  | .mac _ _ acc wa wb la pa lb pb ldA ldB => some (wordM 0x20 acc wa wb la pa lb pb ldA ldB)
  | .msu _ _ acc wa wb la pa lb pb ldA ldB => some (wordM 0x21 acc wa wb la pa lb pb ldA ldB)
  | .clra _ _ acc => some (wordAcc acc 0 0 0)
  | .sac _ _ w acc n rnd wide uns => some (wordAcc acc 1 w (n % 32 * 2 ^ 11 + flagAt 10 rnd + flagAt 9 wide + flagAt 8 uns))
  | .mta _ _ acc w sh => some (wordAcc acc 2 w (sh % 16 * 2 ^ 12))
  | .mfag _ _ w acc => some (wordAcc acc 3 w 0)
  | .mfal _ _ w acc => some (wordAcc acc 4 w 0)
  | .beq _ _ wa wb off => some (wordB 0 wa wb off)
  | .bne _ _ wa wb off => some (wordB 1 wa wb off)
  | .blt _ _ wa wb off => some (wordB 2 wa wb off)
  | .bge _ _ wa wb off => some (wordB 3 wa wb off)
  | .bltu _ _ wa wb off => some (wordB 4 wa wb off)
  | .bgeu _ _ wa wb off => some (wordB 5 wa wb off)
  | .bdec _ _ wa rotb off => some (0x29 * 2 ^ 26 + flagAt 25 rotb + wa % 32 * 2 ^ 20 + off.toNat)
  | .jmp _ _ off => some (0x2A * 2 ^ 26 + off.toNat)
  | .call _ _ off => some (0x2B * 2 ^ 26 + off.toNat)
  | .jr _ _ wa => some (0x2C * 2 ^ 26 + wa % 32 * 2 ^ 16)
  | .loop _ _ wa len rotl => some (0x2D * 2 ^ 26 + flagAt 25 rotl + wa % 32 * 2 ^ 20 + len % 32)
  | .rot _ _ k => some (0x2E * 2 ^ 26 + k % 16)
  | .rotZ _ _ => some (0x2E * 2 ^ 26 + 2 ^ 25)
  | .qpush _ _ wd wq wa w => some (wordQueue 0x30 wd wq wa w)
  | .qpop _ _ wd wq wa w => some (wordQueue 0x31 wd wq wa w)
  | .time _ _ wd => some (0x32 * 2 ^ 26 + wd % 32 * 2 ^ 21)
  | .wfe _ _ wd wa wb => some (wordR 0x33 wd wa wb 0)
  | .fsync _ _ wd => some (0x34 * 2 ^ 26 + wd % 32 * 2 ^ 21)
  | .stim _ _ port wa size => some (0x35 * 2 ^ 26 + port % 256 * 2 ^ 18 + wa % 32 * 2 ^ 13 + size % 4 * 2 ^ 11)
  | .brk _ _ code => some (0x36 * 2 ^ 26 + code.toNat)
  | .mfs _ _ wd num => some (0x37 * 2 ^ 26 + wd % 32 * 2 ^ 21 + num % 256)
  | .mts _ _ wa num => some (0x38 * 2 ^ 26 + wa % 32 * 2 ^ 16 + num % 256)
  | .fence _ _ => some (0x39 * 2 ^ 26)
  | .idle _ _ => some (0x3A * 2 ^ 26)
  | .nop _ _ => some (0x3E * 2 ^ 26)
  | _ => none

end Sys2Proof.Machine
end

