-- ==== Sys2Proof/WellFormed.lean ====
section
/-! DEFINITION. WellFormed.lean: whether the operands of a command lie in the ranges that their units, registers and fields have. A command outside them names
nothing of the device. -/
namespace Sys2Proof

/-- A bay (R28). -/
def bayWf (n : Nat) : Bool := decide (n < 128)
/-- An engine context (R171). -/
def contextWf (n : Nat) : Bool := decide (n < 32)
/-- An island (R28). -/
def islandWf (n : Nat) : Bool := decide (n < 384)
/-- A deep store (R81). -/
def deepWf (n : Nat) : Bool := decide (n < 64)
/-- A time domain (R358). -/
def domainWf (n : Nat) : Bool := decide (n < 2)
/-- A clock generator: islands, then deep stores, then bays. -/
def generatorWf (n : Nat) : Bool := decide (n < 576)
/-- A word register of the engine (R171). -/
def regWf (n : Nat) : Bool := decide (n < 32)
/-- A quadrant (R28). -/
def quadrantWf (n : Nat) : Bool := decide (n < 4)
/-- A router (R28, R29). -/
def routerWf (n : Nat) : Bool := decide (n < 144)
/-- An event (R19). -/
def eventWf (n : Nat) : Bool := decide (n < 1024)
/-- A memory channel (R28). -/
def channelWf (n : Nat) : Bool := decide (n < 8)
/-- A pointer register (R171). -/
def pointerWf (n : Nat) : Bool := decide (n < 8)
/-- An accumulator (R171). -/
def accWf (n : Nat) : Bool := decide (n < 4)
/-- A cross-trigger group (R502). -/
def groupWf (n : Nat) : Bool := decide (n < 8)
/-- A lane: PAM4 to 95, NRZ from 96 on. -/
def laneWf (n : Nat) : Bool := decide (n < 120)
/-- A frame ring (R340). -/
def ringWf (n : Nat) : Bool := decide (n < 48)
/-- A physical function (R424). -/
def functionWf (n : Nat) : Bool := decide (n < 8)
/-- A code of an access size. -/
def sizeWf (n : Nat) : Bool := decide (n < 4)
/-- A mover of a bay (R228). -/
def moverWf (n : Nat) : Bool := decide (n < 4)
/-- A queue of a bay (R221). -/
def queueWf (n : Nat) : Bool := decide (n < 64)
/-- An Ethernet MAC (R337). -/
def macWf (n : Nat) : Bool := decide (n < 16)
/-- A CAN FD controller (R343). -/
def canWf (n : Nat) : Bool := decide (n < 8)
/-- A port of the system link (R407). -/
def linkPortWf (n : Nat) : Bool := decide (n < 16)
/-- A mailbox of a quadrant (R444). -/
def mailboxWf (n : Nat) : Bool := decide (n < 40)
/-- A fabric rail (R457). -/
def railWf (n : Nat) : Bool := decide (n < 4)
/-- A fabric rail, or the NoC PLL as 4 (R457, R485). -/
def clockWf (n : Nat) : Bool := decide (n < 5)
/-- An instrument pin of a bay (R135). -/
def pinWf (n : Nat) : Bool := decide (n < 10)
/-- An I/O bank (R534). -/
def ioBankWf (n : Nat) : Bool := decide (n < 40)
/-- A bridge (R26). -/
def bridgeWf (n : Nat) : Bool := decide (n < 4)
/-- A probe of a quadrant (R280). -/
def probeWf (n : Nat) : Bool := decide (n < 8)
/-- A requester port: router × 4 + port (R254). -/
def requesterWf (n : Nat) : Bool := decide (n < 576)
/-- A session (R389); 0 names none. -/
def sessionWf (n : Nat) : Bool := decide (n < 17)
/-- A WAKE ball (R465). -/
def wakePinWf (n : Nat) : Bool := decide (n < 8)
/-- A bank of a memory channel (R302). -/
def bankWf (n : Nat) : Bool := decide (n < 128)
/-- A four-bit field. -/
def nibbleWf (n : Nat) : Bool := decide (n < 16)
/-- An eight-bit number of a special register (R175). -/
def numWf (n : Nat) : Bool := decide (n < 256)
/-- A stimulus port (R505). -/
def stimPortWf (n : Nat) : Bool := decide (n < 256)
/-- A two-bit field. -/
def halfWf (n : Nat) : Bool := decide (n < 4)
/-- An error log (R316). -/
def logWf (n : Nat) : Bool := decide (n < 3)
/-- A port of the debug bus master (R494). -/
def dbmWf (n : Nat) : Bool := decide (n < 2)
/-- An interleave set (R291). -/
def setWf (n : Nat) : Bool := decide (n < 8)
/-- One of two. -/
def flagWf (n : Nat) : Bool := decide (n < 2)
/-- A register of EVT_SWSET (R247). -/
def swRegWf (n : Nat) : Bool := decide (n < 32)
/-- A five-bit field. -/
def fiveWf (n : Nat) : Bool := decide (n < 32)
/-- The address of a 32-bit register (R9). -/
def wordWf (a : Nat) : Bool := decide (a % 4 = 0)

/-- Whether the operands of a command are in range. -/
def Instr.wf (i : Instr) : Bool :=
  match i with
  | .registerWrite addr _ => wordWf addr
  | .readClear addr => wordWf addr
  | .debugPeek addr => wordWf addr
  | .rdReq _ _ => true
  | .wrReq _ _ _ _ => true
  | .rdRsp port _ => requesterWf port
  | .wrRsp port _ => requesterWf port
  | .msg src dest _ _ => routerWf src && routerWf dest
  | .hostRead f _ _ _ _ => functionWf f
  | .hostWrite f _ _ _ _ _ _ => functionWf f
  | .pcieConfigRequest f _ _ _ => functionWf f
  | .pcieLinkUp => true
  | .flr f => functionWf f
  | .vinStart => true
  | .powerOnStepsDone => true
  | .vinWarning => true
  | .vinWarningEnd => true
  | .brownout => true
  | .recordLoss => true
  | .ibusUndervoltage => true
  | .regFault => true
  | .inputCurrentLimit => true
  | .sbOvercurrent => true
  | .perstAssert => true
  | .perstRelease => true
  | .deviceReset _ _ => true
  | .deviceResetDone => true
  | .quadrantReset _ _ q => quadrantWf q
  | .quadrantResetDone q => quadrantWf q
  | .deepStoreRead d _ => deepWf d
  | .deepStoreRead4 d _ => deepWf d
  | .deepStoreWrite d _ => deepWf d
  | .deepStoreWrite4 d _ => deepWf d
  | .storeFillDone => true
  | .islClkWrite gen _ => generatorWf gen
  | .dividerRampStep gen => generatorWf gen
  | .levelVoltageDone gen => generatorWf gen
  | .islandFence i => islandWf i
  | .islandFenceDrained i => islandWf i
  | .islandFenceTimeout i => islandWf i
  | .islandUnfence i => islandWf i
  | .islandReset i => islandWf i
  | .islandResetDone i => islandWf i
  | .bistStart i => islandWf i
  | .bistDone i _ _ => islandWf i
  | .bcastCapture => true
  | .bcastStop _ => true
  | .bcastGo _ => true
  | .bayReset b => bayWf b
  | .bayResetDone b => bayWf b
  | .bayOffline b => bayWf b
  | .bayOnline b => bayWf b
  | .pinModeWrite b k _ => bayWf b && pinWf k
  | .pinThrWrite b k _ => bayWf b && pinWf k
  | .pinStkWrite b k _ => bayWf b && pinWf k
  | .pinNextWrite b _ => bayWf b
  | .stuckRearm b _ => bayWf b
  | .thresholdCrossing b k _ _ _ => bayWf b && pinWf k
  | .deglitchAccept b k _ => bayWf b && pinWf k
  | .deadTimeEnd b k _ => bayWf b && pinWf k
  | .captureRecordStore b => bayWf b
  | .stuckTimeout b k => bayWf b && pinWf k
  | .adcSample b _ _ => bayWf b
  | .adcBlockClose b => bayWf b
  | .adcBlockStore b => bayWf b
  | .wdogKick b _ => bayWf b
  | .wdogExpiry b => bayWf b
  | .bayFrameBoundary b => bayWf b
  | .vccioLoss bank => ioBankWf bank
  | .vccioRestore bank _ => ioBankWf bank
  | .add b c wd wa wb => bayWf b && contextWf c && regWf wd && regWf wa && regWf wb
  | .sub b c wd wa wb => bayWf b && contextWf c && regWf wd && regWf wa && regWf wb
  | .and b c wd wa wb => bayWf b && contextWf c && regWf wd && regWf wa && regWf wb
  | .or b c wd wa wb => bayWf b && contextWf c && regWf wd && regWf wa && regWf wb
  | .xor b c wd wa wb => bayWf b && contextWf c && regWf wd && regWf wa && regWf wb
  | .shl b c wd wa wb => bayWf b && contextWf c && regWf wd && regWf wa && regWf wb
  | .shr b c wd wa wb => bayWf b && contextWf c && regWf wd && regWf wa && regWf wb
  | .sar b c wd wa wb => bayWf b && contextWf c && regWf wd && regWf wa && regWf wb
  | .ror b c wd wa wb => bayWf b && contextWf c && regWf wd && regWf wa && regWf wb
  | .slt b c wd wa wb => bayWf b && contextWf c && regWf wd && regWf wa && regWf wb
  | .sltu b c wd wa wb => bayWf b && contextWf c && regWf wd && regWf wa && regWf wb
  | .min b c wd wa wb => bayWf b && contextWf c && regWf wd && regWf wa && regWf wb
  | .max b c wd wa wb => bayWf b && contextWf c && regWf wd && regWf wa && regWf wb
  | .minu b c wd wa wb => bayWf b && contextWf c && regWf wd && regWf wa && regWf wb
  | .maxu b c wd wa wb => bayWf b && contextWf c && regWf wd && regWf wa && regWf wb
  | .mul b c wd wa wb => bayWf b && contextWf c && regWf wd && regWf wa && regWf wb
  | .mulh b c wd wa wb => bayWf b && contextWf c && regWf wd && regWf wa && regWf wb
  | .mulhu b c wd wa wb => bayWf b && contextWf c && regWf wd && regWf wa && regWf wb
  | .clz b c wd wa wb => bayWf b && contextWf c && regWf wd && regWf wa && regWf wb
  | .addi b c wd wa _ => bayWf b && contextWf c && regWf wd && regWf wa
  | .andi b c wd wa _ => bayWf b && contextWf c && regWf wd && regWf wa
  | .ori b c wd wa _ => bayWf b && contextWf c && regWf wd && regWf wa
  | .xori b c wd wa _ => bayWf b && contextWf c && regWf wd && regWf wa
  | .slti b c wd wa _ => bayWf b && contextWf c && regWf wd && regWf wa
  | .sltui b c wd wa _ => bayWf b && contextWf c && regWf wd && regWf wa
  | .movhi b c wd wa _ => bayWf b && contextWf c && regWf wd && regWf wa
  | .shi b c wd wa _ => bayWf b && contextWf c && regWf wd && regWf wa
  | .ldw b c wd wa _ => bayWf b && contextWf c && regWf wd && regWf wa
  | .ldh b c wd wa _ => bayWf b && contextWf c && regWf wd && regWf wa
  | .ldhu b c wd wa _ => bayWf b && contextWf c && regWf wd && regWf wa
  | .ldb b c wd wa _ => bayWf b && contextWf c && regWf wd && regWf wa
  | .ldbu b c wd wa _ => bayWf b && contextWf c && regWf wd && regWf wa
  | .stw b c wd wa _ => bayWf b && contextWf c && regWf wd && regWf wa
  | .sth b c wd wa _ => bayWf b && contextWf c && regWf wd && regWf wa
  | .stb b c wd wa _ => bayWf b && contextWf c && regWf wd && regWf wa
  | .ldp b c w p size _ _ _ => bayWf b && contextWf c && regWf w && pointerWf p && sizeWf size
  | .stp b c w p size _ _ _ => bayWf b && contextWf c && regWf w && pointerWf p && sizeWf size
  | .ldl b c wd wa _ => bayWf b && contextWf c && regWf wd && regWf wa
  | .stc b c wd wa wb => bayWf b && contextWf c && regWf wd && regWf wa && regWf wb
  | .movp b c p w => bayWf b && contextWf c && pointerWf p && regWf w
  | .mfp b c w p => bayWf b && contextWf c && regWf w && pointerWf p
  | .addp b c p _ => bayWf b && contextWf c && pointerWf p
  | .mac b c acc wa wb la pa lb pb _ _ => bayWf b && contextWf c && accWf acc && regWf wa && regWf wb && nibbleWf la && halfWf pa && nibbleWf lb && halfWf pb
  | .msu b c acc wa wb la pa lb pb _ _ => bayWf b && contextWf c && accWf acc && regWf wa && regWf wb && nibbleWf la && halfWf pa && nibbleWf lb && halfWf pb
  | .clra b c acc => bayWf b && contextWf c && accWf acc
  | .sac b c w acc n _ _ _ => bayWf b && contextWf c && regWf w && accWf acc && fiveWf n
  | .mta b c acc w sh => bayWf b && contextWf c && accWf acc && regWf w && nibbleWf sh
  | .mfag b c w acc => bayWf b && contextWf c && regWf w && accWf acc
  | .mfal b c w acc => bayWf b && contextWf c && regWf w && accWf acc
  | .beq b c wa wb _ => bayWf b && contextWf c && regWf wa && regWf wb
  | .bne b c wa wb _ => bayWf b && contextWf c && regWf wa && regWf wb
  | .blt b c wa wb _ => bayWf b && contextWf c && regWf wa && regWf wb
  | .bge b c wa wb _ => bayWf b && contextWf c && regWf wa && regWf wb
  | .bltu b c wa wb _ => bayWf b && contextWf c && regWf wa && regWf wb
  | .bgeu b c wa wb _ => bayWf b && contextWf c && regWf wa && regWf wb
  | .bdec b c wa _ _ => bayWf b && contextWf c && regWf wa
  | .jmp b c _ => bayWf b && contextWf c
  | .call b c _ => bayWf b && contextWf c
  | .jr b c wa => bayWf b && contextWf c && regWf wa
  | .loop b c wa len _ => bayWf b && contextWf c && regWf wa && fiveWf len
  | .rot b c k => bayWf b && contextWf c && nibbleWf k
  | .rotZ b c => bayWf b && contextWf c
  | .qpush b c wd wq wa _ => bayWf b && contextWf c && regWf wd && regWf wq && regWf wa
  | .qpop b c wd wq wa _ => bayWf b && contextWf c && regWf wd && regWf wq && regWf wa
  | .queueWaitDone b c => bayWf b && contextWf c
  | .time b c wd => bayWf b && contextWf c && regWf wd
  | .fsync b c wd => bayWf b && contextWf c && regWf wd
  | .fsyncWake b c => bayWf b && contextWf c
  | .wfe b c wd wa wb => bayWf b && contextWf c && regWf wd && regWf wa && regWf wb
  | .wfeEvent b c => bayWf b && contextWf c
  | .wfeTimeout b c => bayWf b && contextWf c
  | .stim b c port wa size => bayWf b && contextWf c && stimPortWf port && regWf wa && sizeWf size
  | .brk b c _ => bayWf b && contextWf c
  | .fence b c => bayWf b && contextWf c
  | .idle b c => bayWf b && contextWf c
  | .nop b c => bayWf b && contextWf c
  | .mfs b c wd num => bayWf b && contextWf c && regWf wd && numWf num
  | .mts b c wa num => bayWf b && contextWf c && regWf wa && numWf num
  | .translatedLoadReturn b c _ => bayWf b && contextWf c
  | .translatedStorePost b c _ => bayWf b && contextWf c
  | .postedStoreError b c => bayWf b && contextWf c
  | .fenceComplete b c _ => bayWf b && contextWf c
  | .contextSwitch b => bayWf b
  | .quantumExpiry b => bayWf b
  | .ctxCfgWrite b c _ => bayWf b && contextWf c
  | .ctxPcWrite b c _ => bayWf b && contextWf c
  | .ctxStart b c => bayWf b && contextWf c
  | .ctxResume b c => bayWf b && contextWf c
  | .ctxAbort b c => bayWf b && contextWf c
  | .abortComplete b c _ => bayWf b && contextWf c
  | .queueEnable b q _ => bayWf b && queueWf q
  | .qTailWrite b q _ => bayWf b && queueWf q
  | .qHeadWrite b q _ => bayWf b && queueWf q
  | .moverDescriptorStart b n => bayWf b && moverWf n
  | .moverDescriptorDone b n _ => bayWf b && moverWf n
  | .moverCompletionWrite b n => bayWf b && moverWf n
  | .moverFault b n _ _ => bayWf b && moverWf n
  | .moverResume b n => bayWf b && moverWf n
  | .moverAbort b n => bayWf b && moverWf n
  | .moverCfgWrite b n _ => bayWf b && moverWf n
  | .tctxWrite addr _ => wordWf addr
  | .xuInvalidate q _ => quadrantWf q
  | .xuInvDone => true
  | .napMasterRequest r _ => routerWf r
  | .napTargetResponse r _ _ _ => routerWf r
  | .napResume r => routerWf r
  | .napAbort r => routerWf r
  | .napHoldExpiry r => routerWf r
  | .userEventEdge r k => routerWf r && flagWf k
  | .evtSwset k _ => swRegWf k
  | .eventDelivery e => eventWf e
  | .routerFence r => routerWf r
  | .routerFenced r => routerWf r
  | .routerUnfence r => routerWf r
  | .rtCfgWrite r _ => routerWf r
  | .holdLimitExpiry r => routerWf r
  | .rspTimeoutExpiry port _ => requesterWf port
  | .throttle port ch _ _ => requesterWf port && channelWf ch
  | .throttleExpiry port ch => requesterWf port && channelWf ch
  | .probeClear q p => quadrantWf q && probeWf p
  | .probeTraceRecord q p => quadrantWf q && probeWf p
  | .mcCfgWrite ch _ => channelWf ch
  | .mcInit ch => channelWf ch
  | .mcTrainingDone ch _ => channelWf ch
  | .mcFill ch => channelWf ch
  | .mcFillDone ch => channelWf ch
  | .mcOffline ch => channelWf ch
  | .mcOfflineDone ch => channelWf ch
  | .mcOnline ch => channelWf ch
  | .interleaveEnable q set _ => quadrantWf q && setWf set
  | .refreshDue ch bank _ => channelWf ch && bankWf bank
  | .refreshRatePoll ch _ _ => channelWf ch
  | .selfRefreshEntry ch => channelWf ch
  | .selfRefreshExit ch => channelWf ch
  | .trackerClear ch => channelWf ch
  | .scrubRead ch => channelWf ch
  | .scrubParityMismatch ch => channelWf ch
  | .scrubRestart ch => channelWf ch
  | .logClear q log => quadrantWf q && logWf log
  | .eccTestWrite ch => channelWf ch
  | .eccTestRead ch => channelWf ch
  | .eccTestDone ch => channelWf ch
  | .sgTestWrite q => quadrantWf q
  | .sgTestRead q => quadrantWf q
  | .vddqLoss ch => channelWf ch
  | .laneCfgWrite l _ => laneWf l
  | .laneTxSleep l _ => laneWf l
  | .laneRxSleep l _ _ => laneWf l
  | .lrefclkLoss q => quadrantWf q
  | .cdrLockAcquire l => laneWf l
  | .cdrLockLoss l => laneWf l
  | .blockReceive l _ _ => laneWf l
  | .blockTransmit l => laneWf l
  | .macCfgWrite e _ _ => macWf e
  | .macLinkChange e _ => macWf e
  | .macFrameReceive e _ _ _ => macWf e
  | .macTxEntry e _ => macWf e
  | .macLaunch e => macWf e
  | .macTxComplete e _ => macWf e
  | .macPauseSend e => macWf e
  | .ringEnable ring _ => ringWf ring
  | .txRingWrWrite ring _ => ringWf ring
  | .canCfgWrite n _ _ => canWf n
  | .canFrameReceive n _ _ _ => canWf n
  | .canTxEntry n _ => canWf n
  | .canTxComplete n _ _ => canWf n
  | .canBusOff n _ => canWf n
  | .canRestart n => canWf n
  | .canBusOffRecovery n => canWf n
  | .domOfsLoad d _ => domainWf d
  | .domAdj d _ => domainWf d
  | .domRateWrite d _ => domainWf d
  | .hostSample d _ => domainWf d
  | .domainSampleTimeout d => domainWf d
  | .timeChangeApply => true
  | .domainSwitch _ => true
  | .switchComplete => true
  | .ptpMessageReceive d e _ => domainWf d && macWf e
  | .tdStreamLoss q => quadrantWf q
  | .tdStreamReturn q => quadrantWf q
  | .frameEnable _ => true
  | .frPeriodWrite _ => true
  | .frameNotice q => quadrantWf q
  | .timeSnapshot q => quadrantWf q
  | .read _ _ _ => true
  | .write _ _ _ => true
  | .begin _ _ => true
  | .commit _ _ _ _ => true
  | .commitApply n => sessionWf n
  | .rollback _ _ => true
  | .describe _ _ _ => true
  | .sessionTimeout n => sessionWf n
  | .clanexSegmentTimeout n _ => canWf n
  | .broadcastFrame _ _ _ _ _ => true
  | .barrier _ => true
  | .barrierTimeout => true
  | .snapshotAt _ => true
  | .resetAt _ => true
  | .globalInstant => true
  | .enum _ => true
  | .syslinkPacket port _ _ _ => linkPortWf port
  | .ack port _ => linkPortWf port
  | .nak port _ => linkPortWf port
  | .syslinkResendTimeout port => linkPortWf port
  | .tickSend port => linkPortWf port
  | .tick port _ _ => linkPortWf port
  | .upPortFailover => true
  | .linkResetSend port => linkPortWf port
  | .linkReset port => linkPortWf port
  | .imageHeader _ => true
  | .segmentTag _ => true
  | .cells _ _ _ => true
  | .storeInit _ _ _ => true
  | .reg _ => true
  | .mem _ _ => true
  | .memmap _ _ => true
  | .releaseRecord _ => true
  | .objects _ => true
  | .key => true
  | .endImage _ => true
  | .startPull => true
  | .pullReadCompletion _ _ => true
  | .startPush => true
  | .cfgDataWrite _ => true
  | .finish => true
  | .abort => true
  | .clearingDone => true
  | .deviceLoaded => true
  | .windowMissed => true
  | .cfgDoneHigh => true
  | .releaseNow => true
  | .stage2Issue => true
  | .stage3Issue => true
  | .partialRelease => true
  | .mailboxTx q k _ _ => quadrantWf q && mailboxWf k
  | .mailboxRx q k _ => quadrantWf q && mailboxWf k
  | .mailboxTimeout q k _ => quadrantWf q && mailboxWf k
  | .mailboxFlush q k => quadrantWf q && mailboxWf k
  | .sleepExit _ => true
  | .sleepS1 _ => true
  | .sleepS2 _ => true
  | .sleepS3 _ => true
  | .sleepS4 _ => true
  | .sleepCommitPoint => true
  | .sleepEntryDone => true
  | .wakeEvent e => eventWf e
  | .wakeTimer => true
  | .wakePin k => wakePinWf k
  | .sleepExitDone => true
  | .frCfgWrite q n _ => quadrantWf q && railWf n
  | .railLock q n => quadrantWf q && railWf n
  | .railUnlock q n => quadrantWf q && clockWf n
  | .nocClkWrite q _ => quadrantWf q
  | .nocClkDone q => quadrantWf q
  | .sensorUpdate q _ => quadrantWf q
  | .capDrop q => quadrantWf q
  | .capRise q => quadrantWf q
  | .thermalShutdown => true
  | .thermalRestart => true
  | .pwrLogClear q => quadrantWf q
  | .deviceWdogExpiry => true
  | .engineHalt b => bayWf b
  | .deferExpiry b => bayWf b
  | .engineRelease b => bayWf b
  | .engineStep b => bayWf b
  | .ctxdataAccess b _ _ => bayWf b
  | .debugUnlock _ => true
  | .unlockCheckDone _ => true
  | .dbmGo p => dbmWf p
  | .idcode => true
  | .samplePreload => true
  | .extest => true
  | .clamp => true
  | .highz => true
  | .dap _ _ _ => true
  | .devreset => true
  | .bypass => true
  | .xtPulse g => groupWf g
  | .xtRelease g => groupWf g
  | .tracePacket b _ => bayWf b
  | .trcPop q => quadrantWf q
  | .retrain q k => quadrantWf q && flagWf k
  | .bridgeTrainingDone b _ _ _ _ _ => bridgeWf b
  | .bridgeBadFrame b side _ => bridgeWf b && flagWf side
  | .telemetrySend q => quadrantWf q
  | .telemetryLost q => quadrantWf q
  | .islandClockEdge i _ _ => islandWf i
  | .illegalInstruction b c _ => bayWf b && contextWf c
  | .lrefclkReturn q => quadrantWf q
  | .inputLimitEnd => true
  | .canLaunch n => canWf n
  | .pauseTimerExpiry e => macWf e
  | .prbsChecker l _ => laneWf l

end Sys2Proof
end

