-- ==== Sys2Proof/Safety.lean ====
section
/-! DEFINITION. Safety.lean: the terms in which claims about the device are made: what an engine instruction may change, the results that the
instruction tables give, and the canonical form of the state's tables. -/
namespace Sys2Proof.Machine
open Sys2Proof

/-! ## Engine instructions -/

/-- The state in which an instruction of context `c` takes effect: what its fetch has counted and logged is in it (R182). -/
def State.fetched (s : State) (b c : Nat) : State := (s.fetchCheck b c).2

/-- Nothing stands in the way of an instruction of context `c`: the context runs on a working engine, no posted-store error waits (R219), the PC is in
bay SRAM, the fetch finds no uncorrectable error (R182), and no halt is deferred (R497). -/
def State.mayIssue (s : State) (b c : Nat) : Prop :=
  s.canIssue b c = true ∧ (s.cx b c).pendVa = none ∧ s.pcOf b c < 0x40000 ∧ (s.fetchCheck b c).1 = false ∧
    ((s.fetched b c).dbg b).deferred = none

/-- The loop of a context after an instruction at `pc` (R198). -/
def CtxSt.afterBody (v : CtxSt) (pc : Nat) : CtxSt :=
  match v.loop with
  | none => v
  | some l =>
    if pc = l.last then
      { v with
        rb := if l.rotl then v.rb - 1 else v.rb
        loop := if l.count ≤ 1 then none else some { l with count := l.count - 1, captured := true } }
    else v

/-- Where a context goes on after an instruction at `pc` that does not branch (R198). -/
def CtxSt.nextPc (v : CtxSt) (pc : Nat) : Nat :=
  match v.loop with
  | none => pc + 4
  | some l => if pc = l.last ∧ 1 < l.count then l.first else pc + 4

/-- `t` differs from `s` at most in the state of context `c` of bay `b` and in its PC. -/
def State.onlyCtx (s t : State) (b c : Nat) : Prop :=
  t = { s with flds := t.flds, ctxs := t.ctxs } ∧ (∀ k, k ≠ b * 32 + c → t.ctx k = s.ctx k) ∧
    ∀ k, k ≠ key (ctxA b c) R.CTX_PC.PC → Tab.get regReset t.flds k = Tab.get regReset s.flds k

/-- An instruction of context `c` that leaves `v` as the context's own state completes in `t`: the PC moves on, and the loop with it. -/
def State.completes (s t : State) (b c : Nat) (v : CtxSt) : Prop :=
  s.onlyCtx t b c ∧ t.cx b c = v.afterBody (s.pcOf b c) ∧ t.pcOf b c = v.nextPc (s.pcOf b c) / 4 * 4 % 2 ^ 32

/-- An instruction of context `c` that leaves `v` as the context's own state goes to `target` in `t`: a loop in progress ends (R197, R198). -/
def State.branches (s t : State) (b c : Nat) (v : CtxSt) (target : Nat) : Prop :=
  s.onlyCtx t b c ∧ t.cx b c = { v with loop := none } ∧ t.pcOf b c = target / 4 * 4 % 2 ^ 32

/-- Context `c` is FAULTED in `t` with the cause and the words of its record; its PC and its registers stand, its reservation is gone (R205, R206,
R216), and event 4b + 1 has occurred once more (R252). -/
def State.faulted (s t : State) (b c cause info infoh : Nat) : Prop :=
  t.ctxState b c = 5 ∧ t.rd (ctxA b c) R.CTX_CAUSE.CAUSE = cause ∧ t.rd (ctxA b c) R.CTX_INFO.INFO = info ∧
    t.rd (ctxA b c) R.CTX_INFOH.VAH = infoh ∧ t.pcOf b c = s.pcOf b c ∧
    t.cx b c = { s.cx b c with resv := none, wait := .none, pendVa := none } ∧ (∀ k, k ≠ b * 32 + c → t.ctx k = s.ctx k) ∧ t.mem = s.mem ∧
    t.rd (evtA (4 * b + 1)) R.EVT_STAT.OCC = min (s.rd (evtA (4 * b + 1)) R.EVT_STAT.OCC + 1) (2 ^ R.EVT_STAT.OCC.width - 1)

/-- Context `c` has given way in `t` and waits for `w` (R213); its registers, its PC and all of memory stand. -/
def State.waits (s t : State) (b c : Nat) (w : Wait) : Prop :=
  t = { s with flds := t.flds, ctxs := t.ctxs } ∧ t.ctxState b c = 4 ∧ t.running b = none ∧ t.cx b c = { s.cx b c with wait := w } ∧
    t.pcOf b c = s.pcOf b c ∧ ∀ k, k ≠ b * 32 + c → t.ctx k = s.ctx k

/-- The results of the ALU group over the operands `x` and `y` (R190); wb of CLZ is 0. -/
def aluRows (b c wd wa wb : Nat) : List (Instr × (BitVec 32 → BitVec 32 → BitVec 32)) :=
  [(.add b c wd wa wb, fun x y => BitVec.ofNat 32 (x.toNat + y.toNat)),
   (.sub b c wd wa wb, fun x y => BitVec.ofInt 32 (x.toInt - y.toInt)),
   (.and b c wd wa wb, fun x y => x &&& y),
   (.or b c wd wa wb, fun x y => x ||| y),
   (.xor b c wd wa wb, fun x y => x ^^^ y),
   (.shl b c wd wa wb, fun x y => BitVec.ofNat 32 (x.toNat * 2 ^ (y.toNat % 32))),
   (.shr b c wd wa wb, fun x y => BitVec.ofNat 32 (x.toNat / 2 ^ (y.toNat % 32))),
   (.sar b c wd wa wb, fun x y => BitVec.ofInt 32 (x.toInt / 2 ^ (y.toNat % 32))),
   (.ror b c wd wa wb, fun x y => x.rotateRight (y.toNat % 32)),
   (.slt b c wd wa wb, fun x y => if x.toInt < y.toInt then 1 else 0),
   (.sltu b c wd wa wb, fun x y => if x.toNat < y.toNat then 1 else 0),
   (.min b c wd wa wb, fun x y => if x.toInt ≤ y.toInt then x else y),
   (.max b c wd wa wb, fun x y => if x.toInt ≤ y.toInt then y else x),
   (.minu b c wd wa wb, fun x y => if x.toNat ≤ y.toNat then x else y),
   (.maxu b c wd wa wb, fun x y => if x.toNat ≤ y.toNat then y else x),
   (.mul b c wd wa wb, fun x y => BitVec.ofNat 32 (x.toNat * y.toNat)),
   (.mulh b c wd wa wb, fun x y => BitVec.ofInt 32 (x.toInt * y.toInt / 2 ^ 32)),
   (.mulhu b c wd wa wb, fun x y => BitVec.ofNat 32 (x.toNat * y.toNat / 2 ^ 32)),
   (.clz b c wd wa 0, fun x _ => BitVec.ofNat 32 (leadingZeros x))]

/-- The results of the immediate instructions over the operand `x` (R191), where the fields are ones that the instruction allows: wa of MOVHI is 0, and
bits [15:7] of SHI's immediate are 0. -/
def immRows (b c wd wa : Nat) (imm : BitVec 16) : List (Instr × (BitVec 32 → BitVec 32)) :=
  [(.addi b c wd wa imm, fun x => BitVec.ofInt 32 (x.toInt + imm.toInt)),
   (.andi b c wd wa imm, fun x => BitVec.ofNat 32 (x.toNat &&& imm.toNat)),
   (.ori b c wd wa imm, fun x => BitVec.ofNat 32 (x.toNat ||| imm.toNat)),
   (.xori b c wd wa imm, fun x => BitVec.ofNat 32 (x.toNat ^^^ imm.toNat)),
   (.slti b c wd wa imm, fun x => if x.toInt < imm.toInt then 1 else 0),
   (.sltui b c wd wa imm, fun x => if x.toNat < imm.toNat then 1 else 0),
   (.movhi b c wd 0 imm, fun _ => BitVec.ofNat 32 (imm.toNat * 65536)),
   (.shi b c wd wa (BitVec.ofNat 16 (imm.toNat % 128)), fun x => shiftBy (imm.toNat % 128 / 32) x (imm.toNat % 32))]

/-- The loads of one register of the engine: instruction, size in bytes, whether it sign-extends, and its effective address (R192). -/
def loadRows (v : CtxSt) (b c wd wa p : Nat) (imm : BitVec 16) (off : BitVec 14) : List (Instr × Nat × Bool × Nat) :=
  [(.ldw b c wd wa imm, 4, false, (v.getW wa + imm.signExtend 32).toNat),
   (.ldh b c wd wa imm, 2, true, (v.getW wa + imm.signExtend 32).toNat),
   (.ldhu b c wd wa imm, 2, false, (v.getW wa + imm.signExtend 32).toNat),
   (.ldb b c wd wa imm, 1, true, (v.getW wa + imm.signExtend 32).toNat),
   (.ldbu b c wd wa imm, 1, false, (v.getW wa + imm.signExtend 32).toNat),
   (.ldp b c wd p 0 true false off, 1, true, (v.getP p + off.signExtend 32).toNat),
   (.ldp b c wd p 0 false false off, 1, false, (v.getP p + off.signExtend 32).toNat),
   (.ldp b c wd p 1 true false off, 2, true, (v.getP p + off.signExtend 32).toNat),
   (.ldp b c wd p 1 false false off, 2, false, (v.getP p + off.signExtend 32).toNat),
   (.ldp b c wd p 2 true false off, 4, true, (v.getP p + off.signExtend 32).toNat),
   (.ldp b c wd p 2 false false off, 4, false, (v.getP p + off.signExtend 32).toNat)]

/-- The stores of the engine: instruction, register stored, size in bytes and effective address (R192). -/
def storeRows (v : CtxSt) (b c wd wa p : Nat) (imm : BitVec 16) (off : BitVec 14) : List (Instr × Nat × Nat) :=
  [(.stw b c wd wa imm, 4, (v.getW wa + imm.signExtend 32).toNat),
   (.sth b c wd wa imm, 2, (v.getW wa + imm.signExtend 32).toNat),
   (.stb b c wd wa imm, 1, (v.getW wa + imm.signExtend 32).toNat),
   (.stp b c wd p 0 false false off, 1, (v.getP p + off.signExtend 32).toNat),
   (.stp b c wd p 1 false false off, 2, (v.getP p + off.signExtend 32).toNat),
   (.stp b c wd p 2 false false off, 4, (v.getP p + off.signExtend 32).toNat)]

/-- The branches of R197 with the condition of each. -/
def branchRows (b c wa wb : Nat) (off : BitVec 13) : List (Instr × (BitVec 32 → BitVec 32 → Prop)) :=
  [(.beq b c wa wb off, fun x y => x = y),
   (.bne b c wa wb off, fun x y => x ≠ y),
   (.blt b c wa wb off, fun x y => x.toInt < y.toInt),
   (.bge b c wa wb off, fun x y => y.toInt ≤ x.toInt),
   (.bltu b c wa wb off, fun x y => x.toNat < y.toNat),
   (.bgeu b c wa wb off, fun x y => y.toNat ≤ x.toNat)]

/-- A value of `n` bytes extended to 32 bits. -/
def extended (n : Nat) (sx : Bool) (x : Nat) : BitVec 32 := if sx then BitVec.ofInt 32 (sext (8 * n) x) else BitVec.ofNat 32 x

/-! ## Frames: what a command may change -/

/-- `t` differs from `s` at most in register fields and in what the occurrence of an event leaves. -/
def State.regsOnly (s t : State) : Prop :=
  t = { s with flds := t.flds, evts := t.evts, xsig := t.xsig, power := { s.power with wakeQ := t.power.wakeQ } }

/-- No register field outside bay `b`'s window and the event registers differs. -/
def State.bayRegs (s t : State) (b : Nat) : Prop :=
  ∀ k, k < winA b * 32 ∨ winA (b + 1) * 32 ≤ k → k < evtA 0 * 32 ∨ evtA 1024 * 32 ≤ k → Tab.get regReset t.flds k = Tab.get regReset s.flds k

/-- `t` differs from `s` at most in the front end and the registers of bay `b`, and in what the occurrence of an event leaves. -/
def State.bayOnly (s t : State) (b : Nat) : Prop :=
  t = { s with flds := t.flds, bays := t.bays, evts := t.evts, xsig := t.xsig, power := { s.power with wakeQ := t.power.wakeQ } } ∧
    (∀ k, k ≠ b → t.bay k = s.bay k) ∧ s.bayRegs t b

/-- Event `e` has occurred `n` more times in `t` than in `s`, as its OCC counts (R248). -/
def State.occurred (s t : State) (e n : Nat) : Prop :=
  t.rd (evtA e) R.EVT_STAT.OCC = min (s.rd (evtA e) R.EVT_STAT.OCC + n) (2 ^ R.EVT_STAT.OCC.width - 1)

/-! ## Clanex requests -/

/-- The agent takes a request of origin `o` with header `h` up: it serves that transport and node, the request is no broadcast, is not to be sent on and
repeats no SEQ that it has just answered, and messages of 64 bytes may pass (R401, R402, R405). -/
def State.hears (s : State) (o : Origin) (h : ClHead) : Prop :=
  s.served o h = true ∧ h.dst ≠ 0xFFFF ∧ h.via = false ∧ 64 ≤ s.clLimit o ∧
    ∀ k, k ∈ s.agent.kept → k.origin = o → k.seq = h.seq → k.at_ + 1000000000 < s.counter

/-- In `t` the agent has answered the request of `o` last: operation, status, session, argument block and records (R402, R405). -/
def State.answers (s t : State) (o : Origin) (h : ClHead) (op status n : Nat) (arg : Bytes) (recs : List (ClRec × Nat)) : Prop :=
  t.agent.kept.head? = some ⟨o, h.seq, s.counter, answerBytes s.agent.node h op status n arg recs⟩

/-- Session `n` is open and belongs to the origin of a request that names it (R389). -/
def State.owns (s : State) (o : Origin) (h : ClHead) (n st : Nat) : Prop :=
  h.session = n ∧ 1 ≤ n ∧ n ≤ 16 ∧ (s.sess n).st = st ∧ st ≠ 0 ∧ (s.sess n).origin = some o

/-- The head of a record in an answer that carries no value. -/
def bareRec (r : ClRec) : ClRec := ⟨r.index, r.sub, r.type, 0, 0⟩

/-! ## Images -/

/-- A record of `len` payload bytes has been taken whole, inside the image and inside a segment that nothing has closed (R428, R430, R433). -/
def State.recordReady (s : State) (len : Nat) : Prop :=
  s.load.mode ≠ 0 ∧ s.load.header = true ∧ s.load.closed = false ∧ s.load.pos + (8 + (len + 7) / 8 * 8) ≤ s.rd (cfgA 0) R.CFG_PROG.BYTES ∧
    s.load.pos + (8 + (len + 7) / 8 * 8) ≤ 280 + s.load.len ∧ s.load.pos + (8 + (len + 7) / 8 * 8) ≤ s.load.segPos + 8 + 1048576

/-- The load has ended in `t` with an error of R435 at an offset of the image; event 705 has occurred once. -/
def State.loadFails (s t : State) (code pos : Nat) : Prop :=
  t.load.mode = 0 ∧ t.rd (cfgA 0) R.CFG_STAT.ERR = code ∧ t.rd (cfgA 0) R.CFG_ERRPOS.OFFSET = pos % 2 ^ 32 ∧ s.occurred t 705 1

/-! ## The device manager -/

/-- The device manager has nothing to do: no word waits for the agent and no answer of it for the mailbox, no reset or release is due, and no wake slot
waits. -/
def State.calm (s : State) : Prop :=
  (s.mb 0 32).ab = [] ∧ s.agent.out = [] ∧ s.agent.resetDue = false ∧ s.load.stage ≠ 1 ∧ s.power.faultQ = [] ∧ s.power.wakeQ = [] ∧
    s.power.wakes = []

/-! ## Resets -/

/-- Every register in the windows of the bays reads its reset value. -/
def State.baysFresh (t : State) : Prop := ∀ k, winA 0 * 32 ≤ k → k < winA 128 * 32 → Tab.get regReset t.flds k = regReset k

/-- The bits of the sticky power record (R454). -/
def stickies : List Fld :=
  [R.PWR_STICKY.THERM_SHUTDOWN, R.PWR_STICKY.IBUS_UV, R.PWR_STICKY.SB_OVERCURRENT, R.PWR_STICKY.BROWNOUT, R.PWR_STICKY.REG_FAULT, R.PWR_STICKY.OFF_CMD,
    R.PWR_STICKY.THERM_REPEAT, R.PWR_STICKY.VIN_FRESH]

/-- The sticky power record of `t` is that of `s`, but for the bits in `fs`, which are 1. -/
def State.keepsRecord (s t : State) (fs : List Fld) : Prop :=
  ∀ g, g ∈ stickies → t.rd (pwrA 0) g = if g ∈ fs then 1 else s.rd (pwrA 0) g

/-- In `t` the device has power and stands at the beginning of the power-on steps: its memories are empty, its registers and units are in their reset
state, and every bridge trains (R17, R43, R419, R517). -/
def State.restarts (s t : State) : Prop :=
  t.pending = s.pending ∧ t.fuses = s.fuses ∧ t.power.on = true ∧ t.power.stepsDone = false ∧ t.power.dev = 0 ∧ t.mem = [] ∧ t.rows = [] ∧
    t.counter = 0 ∧ t.cfgState = 0 ∧ t.baysFresh ∧
    ∀ b, b < 4 → s.bridgeOk b = true → ∀ p, p ∈ s.brgSides b → t.brg p R.BRG_STAT.STATE = 1

/-- In `t` a device reset has begun: every quadrant is in reset with the cause recorded; stores, bay SRAM and the counter stand (R42, R43, R46). -/
def State.resetsDevice (s t : State) (cause : Nat) : Prop :=
  (∀ q, s.quadOk q = true → t.qReset q = true ∧ t.rd (idA q) R.RST_CAUSE.CAUSE = cause ∧
      t.rd (idA q) R.RST_CAUSE.COUNT = min (s.rd (idA q) R.RST_CAUSE.COUNT + 1) 65535) ∧
    t.baysFresh ∧ t.rows = s.rows ∧ (∀ a, a < dramA 0 0 → t.byte a = s.byte a) ∧ t.counter = s.counter ∧ t.power.on = true ∧
    t.power.stepsDone = true ∧ (s.oneClass = true → t.cfgState = 0) ∧ (s.oneClass = false → t.cfgState = 9)

/-! ## Invariants -/

/-- The tables of memory, register fields, stores and check bits are in their canonical form: keys rise, and no entry says what an unlisted key reads as. -/
def State.canonical (s : State) : Prop :=
  Tab.wf (fun _ => 0) s.mem = true ∧ Tab.wf regReset s.flds = true ∧ Tab.wf (fun _ => 0) s.rows = true ∧ Tab.wf (fun _ => 0) s.chk = true

end Sys2Proof.Machine
end

