-- ==== Sys2Proof/Certificates/Slice0/Obligations.lean ====
section
/-! DEFINITION. Certificates/Slice0/Obligations.lean: the statements about the device. -/
open Sys2Proof Sys2Proof.Machine

/-- For every engine instruction whose operands are in range, the word that the formats and the opcode map give it fits in 32 bits, and the decoder reads from that word, in the bay and the context of the instruction, exactly that instruction. (R187, R188, R190, R194, R196, R197) -/
def Obligations.EngineWordRoundTrip : Prop :=
  ∀ (i : Instr) (w : Nat), i.wf = true → encodeEngine i = some w → w < 2 ^ 32 ∧ ∃ b c, decodeEngine b c w = some i

/-- Whatever 32-bit word the decoder takes for an instruction, the encoder gives that instruction the same word: no bit of a word is dropped, so a nonzero RSV bit, an unlisted opcode, func, cond or sub value decodes to nothing. (R187, R188, R189) -/
def Obligations.EngineWordUnique : Prop :=
  ∀ (b c w : Nat) (i : Instr), w < 2 ^ 32 → decodeEngine b c w = some i → encodeEngine i = some w

/-- One word of each format, its bits written out from the formats and the opcode map, decodes to the instruction it stands for; the words 0x0000_0000 and 0xFFFF_FFFF decode to nothing. (R187, R188, R189) -/
def Obligations.EngineWordsOfTheManual : Prop :=
  ∀ b c,
    decodeEngine b c 0b000000_00011_00100_00101_00000_000001 = some (.add b c 3 4 5) ∧
    decodeEngine b c 0b000001_00011_00100_1111111111111111 = some (.addi b c 3 4 0xFFFF) ∧
    decodeEngine b c 0b010000_00111_010_01_1_1_00000000000000 = some (.ldp b c 7 2 1 true true 0) ∧
    decodeEngine b c 0b011011_00011_00100_00101_00000_000000 = some (.stc b c 3 4 5) ∧
    decodeEngine b c 0b011100_00000_011_10_0000000000001000 = some (.addp b c 3 8) ∧
    decodeEngine b c 0b100000_10_10011_10111_0001_01_0010_10_1_0 = some (.mac b c 2 19 23 1 1 2 2 true false) ∧
    decodeEngine b c 0b100010_01_001_00110_01111_1_0_1_00000000 = some (.sac b c 6 1 15 true false true) ∧
    decodeEngine b c 0b101000_011_00001_00010_1111111111110 = some (.bge b c 1 2 0x1FFE) ∧
    decodeEngine b c 0b101001_1_00111_11111111111111111111 = some (.bdec b c 7 true 0xFFFFF) ∧
    decodeEngine b c 0b101010_00000000000000000000000011 = some (.jmp b c 3) ∧
    decodeEngine b c 0b101101_1_00011_000000000000000_00000 = some (.loop b c 3 0 true) ∧
    decodeEngine b c 0b101110_1_000000000000000000000_0000 = some (.rotZ b c) ∧
    decodeEngine b c 0b110000_1_00001_00010_00011_0000000000 = some (.qpush b c 1 2 3 true) ∧
    decodeEngine b c 0b110101_00001001_00100_10_00000000000 = some (.stim b c 9 4 2) ∧
    decodeEngine b c 0b110111_00101_0000000000000_00001011 = some (.mfs b c 5 11) ∧
    decodeEngine b c 0x00000000 = none ∧ decodeEngine b c 0xFFFFFFFF = none

/-- Where nothing stands in the way of its issue, each of the nineteen instructions of the ALU group (wb of CLZ being 0) completes: wd takes the result that the table gives for the values of wa and wb read at issue, the PC and the loop move on, and no other register, flag, accumulator, special register or context, no register field but the PC, and no byte of memory changes. Where nothing stands in the way of its issue, each of the eight immediate instructions, with field values that it allows, completes: wd takes the result that the table gives for wa and the immediate, the PC and the loop move on, and nothing else changes. (R172, R190, R198, R191) -/
def Obligations.AluAndImmediateResults : Prop :=
  (∀ (s : State) (b c wd wa wb : Nat) (i : Instr) (f : BitVec 32 → BitVec 32 → BitVec 32),
    (i, f) ∈ aluRows b c wd wa wb → s.mayIssue b c →
    ∃ t, exec i s = .next t ∧
      (s.fetched b c).completes t b c
        (((s.fetched b c).cx b c).setW wd (f (((s.fetched b c).cx b c).getW wa) (((s.fetched b c).cx b c).getW wb)))) ∧
  (∀ (s : State) (b c wd wa : Nat) (imm : BitVec 16) (i : Instr) (f : BitVec 32 → BitVec 32),
    (i, f) ∈ immRows b c wd wa imm → s.mayIssue b c →
    ∃ t, exec i s = .next t ∧
      (s.fetched b c).completes t b c (((s.fetched b c).cx b c).setW wd (f (((s.fetched b c).cx b c).getW wa))))

/-- CLZ with a nonzero wb, MOVHI with a nonzero wa, SHI with a nonzero bit above bit 6 of its immediate, LDP and STP with size 3 or with PM and a nonzero offset, STP with X = 1, MTA with sh above 8, STIM with size 3, MFS and MTS with a number that the table of special registers does not list, and a word that decodes to nothing: the context enters FAULTED with cause 1 and the instruction word, its PC and its registers stand, and event 4b + 1 occurs. (R189, R190, R191, R192, R194, R196, R204, R205, R206) -/
def Obligations.ForbiddenFieldsAreIllegal : Prop :=
  ∀ (s : State) (b c wd wa wb p size sh port num acc : Nat) (x pm : Bool) (imm : BitVec 16) (off : BitVec 14) (word : BitVec 32) (i : Instr) (w : Nat),
    ((i = .clz b c wd wa wb ∧ wb < 32 ∧ wb ≠ 0 ∧ w = wordR 0 wd wa wb 0x13) ∨
      (i = .movhi b c wd wa imm ∧ wa < 32 ∧ wa ≠ 0 ∧ w = wordI 7 wd wa imm) ∨
      (i = .shi b c wd wa imm ∧ 128 ≤ imm.toNat ∧ w = wordI 8 wd wa imm) ∨
      (i = .ldp b c wd p size x pm off ∧ (size = 3 ∨ (pm = true ∧ off ≠ 0)) ∧ w = wordP 0x10 wd p size x pm off) ∨
      (i = .stp b c wd p size x pm off ∧ (size = 3 ∨ x = true ∨ (pm = true ∧ off ≠ 0)) ∧ w = wordP 0x11 wd p size x pm off) ∨
      (i = .mta b c acc wa sh ∧ 8 < sh ∧ sh < 16 ∧ encodeEngine i = some w) ∨
      (i = .stim b c port wa 3 ∧ encodeEngine i = some w) ∨
      (i = .mfs b c wd num ∧ num < 256 ∧ (11 < num ∧ num < 16 ∨ 31 < num) ∧ encodeEngine i = some w) ∨
      (i = .mts b c wa num ∧ num < 256 ∧ (11 < num ∧ num < 16 ∨ 31 < num ∨ num = 3 ∨ 5 ≤ num ∧ num ≤ 8 ∨ num = 10 ∨ num = 11) ∧
        encodeEngine i = some w) ∨
      (i = .illegalInstruction b c word ∧ decodeEngine b c word.toNat = none ∧ w = word.toNat)) →
    s.mayIssue b c → ∃ t, exec i s = .next t ∧ (s.fetched b c).faulted t b c 1 w 0

/-- Where nothing stands in the way of its issue, LDW, LDH, LDHU, LDB, LDBU and LDP with an offset, at an aligned address in bay SRAM whose stored check bits agree with the data, complete: wd takes the little-endian value of the size at the effective address, extended as the instruction says, and nothing else changes. A signed halfword or byte is sign-extended, an unsigned one zero-extended. LDP and STP with PM = 1 access the address in the pointer before the update, and leave the pointer as the post-modify rule gives it: a load writes the value at the old pointer, a store leaves the low bytes of w there and every byte outside them as it was. The access is aligned, in open bay SRAM, and the check bits of its word agree. (R178, R182, R192, R8, R173, R174) -/
def Obligations.SramLoads : Prop :=
  (∀ (s : State) (b c wd wa p : Nat) (imm : BitVec 16) (off : BitVec 14) (i : Instr) (n : Nat) (sx : Bool) (ea : Nat),
    (i, n, sx, ea) ∈ loadRows ((s.fetched b c).cx b c) b c wd wa p imm off → s.mayIssue b c → ea % n = 0 → ea < 0x40000 →
    (s.fetched b c).diff (chkSram b (ea / 4)) = 0 →
    ∃ t, exec i s = .next t ∧
      (s.fetched b c).completes t b c
        (((s.fetched b c).cx b c).setW wd (extended n sx ((s.fetched b c).bytes (sramA b ea) n)))) ∧
  (∀ (s : State) (b c w p k : Nat) (q : BitVec 32),
    s.mayIssue b c → k < 3 → ((s.fetched b c).cx b c).modify p = some q →
    (((s.fetched b c).cx b c).getP p).toNat % 2 ^ k = 0 → (((s.fetched b c).cx b c).getP p).toNat < 0x40000 →
    (s.fetched b c).diff (chkSram b ((((s.fetched b c).cx b c).getP p).toNat / 4)) = 0 →
    (∀ x, ∃ t, exec (.ldp b c w p k x true 0) s = .next t ∧
      (s.fetched b c).completes t b c
        ((((s.fetched b c).cx b c).setW w
          (extended (2 ^ k) x ((s.fetched b c).bytes (sramA b (((s.fetched b c).cx b c).getP p).toNat) (2 ^ k)))).setP p q)) ∧
    (((s.fetched b c).bay b).sramOpen = true →
      ∃ t, exec (.stp b c w p k false true 0) s = .next t ∧ (t.cx b c).getP p = q ∧
        t.bytes (sramA b (((s.fetched b c).cx b c).getP p).toNat) (2 ^ k) = (((s.fetched b c).cx b c).getW w).toNat % 2 ^ (8 * 2 ^ k) ∧
        ∀ a, a < sramA b (((s.fetched b c).cx b c).getP p).toNat ∨ sramA b (((s.fetched b c).cx b c).getP p).toNat + 2 ^ k ≤ a →
          t.byte a = (s.fetched b c).byte a))

/-- Where nothing stands in the way of its issue, STW, STH, STB and STP with an offset, at an aligned address in open bay SRAM whose stored check bits agree with the data, complete: the bytes of the size at the effective address, computed as the instruction computes it, hold the low bytes of wd, every byte outside them reads as before, the check bits agree with the new data, and no register, flag or accumulator of the context changes but the PC and the loop, and its reservation where it names that word. At an aligned address in bay SRAM whose check bits agree, LDL loads the word and reserves it; STC with the reservation on its word stores all four bytes and writes 1 to wd, and without it writes 0 and leaves memory as it was; either way the reservation is gone. The STC runs while no halt is deferred. (R178, R182, R192, R193, R180) -/
def Obligations.SramStoresAndReservations : Prop :=
  (∀ (s : State) (b c wd wa p : Nat) (imm : BitVec 16) (off : BitVec 14) (i : Instr) (n ea : Nat),
    (i, n, ea) ∈ storeRows ((s.fetched b c).cx b c) b c wd wa p imm off → s.mayIssue b c → c < 32 → ea % n = 0 → ea < 0x40000 →
    ((s.fetched b c).bay b).sramOpen = true → (s.fetched b c).diff (chkSram b (ea / 4)) = 0 →
    ∃ t, exec i s = .next t ∧
      t.bytes (sramA b ea) n = (((s.fetched b c).cx b c).getW wd).toNat % 2 ^ (8 * n) ∧
      (∀ a, a < sramA b ea ∨ sramA b ea + n ≤ a → t.byte a = (s.fetched b c).byte a) ∧
      t.diff (chkSram b (ea / 4)) = 0 ∧
      t.cx b c =
        CtxSt.afterBody
          { (s.fetched b c).cx b c with
            resv := if ((s.fetched b c).cx b c).resv = some (ea / 4) then none else ((s.fetched b c).cx b c).resv }
          ((s.fetched b c).pcOf b c) ∧
      t.pcOf b c = ((s.fetched b c).cx b c).nextPc ((s.fetched b c).pcOf b c) / 4 * 4 % 2 ^ 32 ∧
      (∀ k, k ≠ key (ctxA b c) R.CTX_PC.PC → Tab.get regReset t.flds k = Tab.get regReset (s.fetched b c).flds k)) ∧
  (∀ (s : State) (b c wd wa wb : Nat) (imm : BitVec 16),
    s.mayIssue b c →
    ((((s.fetched b c).cx b c).getW wa + imm.signExtend 32).toNat < 0x40000 →
      (((s.fetched b c).cx b c).getW wa + imm.signExtend 32).toNat % 4 = 0 →
      (s.fetched b c).diff (chkSram b ((((s.fetched b c).cx b c).getW wa + imm.signExtend 32).toNat / 4)) = 0 →
      ∃ t, exec (.ldl b c wd wa imm) s = .next t ∧
        (s.fetched b c).completes t b c
          ({ (s.fetched b c).cx b c with resv := some ((((s.fetched b c).cx b c).getW wa + imm.signExtend 32).toNat / 4) }.setW wd
            (BitVec.ofNat 32 ((s.fetched b c).bytes (sramA b (((s.fetched b c).cx b c).getW wa + imm.signExtend 32).toNat) 4)))) ∧
    ((((s.fetched b c).cx b c).getW wa).toNat < 0x40000 → (((s.fetched b c).cx b c).getW wa).toNat % 4 = 0 →
      ((((s.fetched b c).cx b c).resv ≠ some ((((s.fetched b c).cx b c).getW wa).toNat / 4) →
        ∃ t, exec (.stc b c wd wa wb) s = .next t ∧
          (s.fetched b c).completes t b c ({ (s.fetched b c).cx b c with resv := none }.setW wd 0)) ∧
      (((s.fetched b c).cx b c).resv = some ((((s.fetched b c).cx b c).getW wa).toNat / 4) → ((s.fetched b c).bay b).sramOpen = true →
        ∃ t, exec (.stc b c wd wa wb) s = .next t ∧
          t.bytes (sramA b (((s.fetched b c).cx b c).getW wa).toNat) 4 = (((s.fetched b c).cx b c).getW wb).toNat ∧
          (∀ a, a < sramA b (((s.fetched b c).cx b c).getW wa).toNat ∨ sramA b (((s.fetched b c).cx b c).getW wa).toNat + 4 ≤ a →
            t.byte a = (s.fetched b c).byte a) ∧
          t.cx b c = CtxSt.afterBody ({ (s.fetched b c).cx b c with resv := none }.setW wd 1) ((s.fetched b c).pcOf b c)))))

/-- MOVP, MFP, ADDP, CLRA, SAC, MTA (sh 0 to 8), MFAG, MFAL, ROT, ROT with Z and NOP complete with exactly the effect of their rows: ADDP adds under the linear or modulo rule, SAC writes the store unit's value and sets SAT where it saturated, ROT lowers RBASE by K modulo 16, ROT with Z clears the sixteen window registers and RBASE, NOP changes nothing. ROT with Z = 1 completes with RBASE 0 and every one of w16 to w31 zero, while w0 to w15, the accumulators, the pointers and the special registers of the context stand as they were. MAC and MSU accumulate the product of the low halves of wa and wb, set MSAT and AV as the product and the sum say, and then perform load A and load B where LA and LB ask for them: the value at the old pointer, extended as MODE.LX says, goes to w(16 + la) and w(16 + lb), load B last, and each pointer is post-modified. The addresses are even, in bay SRAM with agreeing check bits, and the post-modifies are allowed. (R172, R173, R194, R196, R199, R204, R67, R66, R68, R195) -/
def Obligations.PointersAccumulatorsAndMac : Prop :=
  ((∀ (s : State) (b c p w acc n sh k : Nat) (imm : BitVec 16) (rnd wide uns : Bool) (i : Instr) (u : CtxSt),
    ((i = .movp b c p w ∧ u = ((s.fetched b c).cx b c).setP p (((s.fetched b c).cx b c).getW w)) ∨
      (i = .mfp b c w p ∧ u = ((s.fetched b c).cx b c).setW w (((s.fetched b c).cx b c).getP p)) ∨
      (i = .addp b c p imm ∧ (((s.fetched b c).cx b c).getM p).toNat = 0 ∧
        u = ((s.fetched b c).cx b c).setP p (((s.fetched b c).cx b c).getP p + imm.signExtend 32)) ∨
      (i = .addp b c p imm ∧ (((s.fetched b c).cx b c).getM p).toNat ≠ 0 ∧
        u = ((s.fetched b c).cx b c).setP p
          (advancePtr (((s.fetched b c).cx b c).getP p) (((s.fetched b c).cx b c).getM p).toNat imm.toInt)) ∨
      (i = .clra b c acc ∧ u = ((s.fetched b c).cx b c).setA acc 0) ∨
      (i = .sac b c w acc n rnd wide uns ∧ n < 32 ∧
        u = (((s.fetched b c).cx b c).setW w (storeUnit (((s.fetched b c).cx b c).getA acc) n rnd wide uns).1).stick 2
          (storeUnit (((s.fetched b c).cx b c).getA acc) n rnd wide uns).2) ∨
      (i = .mta b c acc w sh ∧ sh ≤ 8 ∧
        u = ((s.fetched b c).cx b c).setA acc (BitVec.ofInt 40 ((((s.fetched b c).cx b c).getW w).toInt * 2 ^ sh))) ∨
      (i = .mfag b c w acc ∧
        u = ((s.fetched b c).cx b c).setW w (BitVec.ofInt 32 ((((s.fetched b c).cx b c).getA acc).toInt / 2 ^ 32))) ∨
      (i = .mfal b c w acc ∧ u = ((s.fetched b c).cx b c).setW w (BitVec.ofNat 32 (((s.fetched b c).cx b c).getA acc).toNat)) ∨
      (i = .rot b c k ∧ k < 16 ∧ u = { (s.fetched b c).cx b c with rb := ((s.fetched b c).cx b c).rb - BitVec.ofNat 4 k }) ∨
      (i = .nop b c ∧ u = (s.fetched b c).cx b c)) →
    s.mayIssue b c → ∃ t, exec i s = .next t ∧ (s.fetched b c).completes t b c u) ∧
  (∀ (s : State) (b c : Nat), s.mayIssue b c →
    ∃ t u, exec (.rotZ b c) s = .next t ∧ (s.fetched b c).completes t b c u ∧ u.rb = 0 ∧
      (∀ n, 16 ≤ n → n < 32 → u.getW n = 0) ∧ (∀ n, n < 16 → u.getW n = ((s.fetched b c).cx b c).getW n) ∧
      u = { (s.fetched b c).cx b c with w := u.w, rb := 0 })) ∧
  (∀ (s : State) (b c acc wa wb la pa lb pb : Nat) (ldA ldB sub : Bool) (qa qb : BitVec 32) (v u1 u2 u3 : CtxSt) (pr sm : BitVec 40 × Bool),
    s.mayIssue b c → la < 16 → lb < 16 → pa < 4 → pb < 4 → v = (s.fetched b c).cx b c →
    (ldA = true → (v.getP pa).toNat % 2 = 0 ∧ (v.getP pa).toNat < 0x40000 ∧ (s.fetched b c).diff (chkSram b ((v.getP pa).toNat / 4)) = 0 ∧
      v.modify pa = some qa) →
    (ldB = true → (v.getP (4 + pb)).toNat % 2 = 0 ∧ (v.getP (4 + pb)).toNat < 0x40000 ∧
      (s.fetched b c).diff (chkSram b ((v.getP (4 + pb)).toNat / 4)) = 0 ∧ v.modify (4 + pb) = some qb) →
    pr = product (v.mode.toNat % 4) (v.mode.getLsbD 2) ((v.getW wa).truncate 16) ((v.getW wb).truncate 16) →
    sm = accumulate sub (v.getA acc) pr.1 →
    u1 = ((v.setA acc sm.1).stick 0 pr.2).stick 1 sm.2 →
    u2 = (if ldA then
        (u1.setW (16 + la) (extended 2 (!v.mode.getLsbD 3) ((s.fetched b c).bytes (sramA b (v.getP pa).toNat) 2))).setP pa qa
      else u1) →
    u3 = (if ldB then
        (u2.setW (16 + lb) (extended 2 (!v.mode.getLsbD 3) ((s.fetched b c).bytes (sramA b (v.getP (4 + pb)).toNat) 2))).setP (4 + pb) qb
      else u2) →
    ∃ t, exec (if sub then .msu b c acc wa wb la pa lb pb ldA ldB else .mac b c acc wa wb la pa lb pb ldA ldB) s = .next t ∧
      (s.fetched b c).completes t b c u3)

/-- BEQ, BNE, BLT, BGE, BLTU and BGEU, whose operands are compared signed or unsigned as the row says, go to the branch's own address plus four times the sign-extended offset, ending a loop in progress, exactly when the condition holds, and otherwise complete; no register changes either way. BDEC lowers wa by one, branches unless it became 0, and advances the window by one step with ROTB either way; JMP and CALL go to their targets, CALL leaving the return address in w15; JR goes to an aligned address in wa; LOOP with a count of 0 goes on after the body, and otherwise sets the loop of the LEN + 1 instructions that follow, with no loop active before. (R197, R198, R172) -/
def Obligations.BranchesJumpsAndLoops : Prop :=
  (∀ (s : State) (b c wa wb : Nat) (off : BitVec 13) (i : Instr) (cond : BitVec 32 → BitVec 32 → Prop),
    (i, cond) ∈ branchRows b c wa wb off → s.mayIssue b c →
    ∃ t, exec i s = .next t ∧
      (cond (((s.fetched b c).cx b c).getW wa) (((s.fetched b c).cx b c).getW wb) →
        (s.fetched b c).branches t b c ((s.fetched b c).cx b c) (wrapTo 32 (((s.fetched b c).pcOf b c : Int) + 4 * off.toInt))) ∧
      (¬cond (((s.fetched b c).cx b c).getW wa) (((s.fetched b c).cx b c).getW wb) →
        (s.fetched b c).completes t b c ((s.fetched b c).cx b c))) ∧
  (∀ (s : State) (b c wa len : Nat) (rot : Bool) (off20 : BitVec 20) (off26 : BitVec 26) (v u : CtxSt) (pc : Nat),
    s.mayIssue b c → v = (s.fetched b c).cx b c → pc = (s.fetched b c).pcOf b c →
    (u = (if rot then { v.setW wa (v.getW wa - 1) with rb := v.rb - 1 } else v.setW wa (v.getW wa - 1)) →
      ∃ t, exec (.bdec b c wa rot off20) s = .next t ∧
        (v.getW wa ≠ 1 → (s.fetched b c).branches t b c u (wrapTo 32 ((pc : Int) + 4 * off20.toInt))) ∧
        (v.getW wa = 1 → (s.fetched b c).completes t b c u)) ∧
    (∃ t, exec (.jmp b c off26) s = .next t ∧ (s.fetched b c).branches t b c v (wrapTo 32 ((pc : Int) + 4 * off26.toInt))) ∧
    (∃ t, exec (.call b c off26) s = .next t ∧
      (s.fetched b c).branches t b c (v.setW 15 (BitVec.ofNat 32 (pc + 4))) (wrapTo 32 ((pc : Int) + 4 * off26.toInt))) ∧
    ((v.getW wa).toNat % 4 = 0 → ∃ t, exec (.jr b c wa) s = .next t ∧ (s.fetched b c).branches t b c v (v.getW wa).toNat) ∧
    (v.loop = none → len < 32 → ∃ t, exec (.loop b c wa len rot) s = .next t ∧ (s.fetched b c).onlyCtx t b c ∧
      (v.getW wa = 0 → t.cx b c = v ∧ t.pcOf b c = (pc + 4 * (len + 2)) / 4 * 4 % 2 ^ 32) ∧
      (v.getW wa ≠ 0 → t.cx b c = { v with loop := some ⟨pc + 4, pc + 4 * (len + 1), (v.getW wa).toNat, rot, false⟩ } ∧
        t.pcOf b c = (pc + 4) / 4 * 4 % 2 ^ 32)))

/-- MFS of MODE, FLAGS, RBASE, VHI, CTX, TSEC, TSECH, TFRAC, EPEND, the modulo lengths and the steps writes the register to wd. MTS of RBASE, VHI, FLAGS, the lengths and the steps writes the low bits of wa there, MTS of EPEND clears the bits that are 1, and MTS of MODE keeps MMODE where the value is not listed. TIME writes the nanoseconds of one instant to wd and its seconds and fraction to TSEC, TSECH and TFRAC. (R175, R176, R177, R201, R202, R355, R356) -/
def Obligations.SpecialRegisterMoves : Prop :=
  ∀ (s : State) (b c wd wa k : Nat) (v : CtxSt) (x : BitVec 32),
    s.mayIssue b c → v = (s.fetched b c).cx b c → x = v.getW wa → k < 8 →
    (∀ num y, (num, y) ∈ [(0, v.mode), (1, v.flags.zeroExtend 32), (2, v.rb.zeroExtend 32), (4, v.vhi.zeroExtend 32), (5, BitVec.ofNat 32 c),
        (6, v.tsec), (7, v.tsech), (8, v.tfrac.zeroExtend 32), (9, v.epend), (0x10 + k, (v.getM k).zeroExtend 32),
        (0x18 + k, (v.getS k).zeroExtend 32)] →
      ∃ t, exec (.mfs b c wd num) s = .next t ∧ (s.fetched b c).completes t b c (v.setW wd y)) ∧
    (∀ num u, (num, u) ∈ [(1, { v with flags := x.truncate 3 }), (2, { v with rb := x.truncate 4 }), (4, { v with vhi := x.truncate 16 }),
        (9, { v with epend := v.epend &&& ~~~x })] →
      ∃ t, exec (.mts b c wa num) s = .next t ∧ (s.fetched b c).completes t b c u) ∧
    (∃ t u, exec (.mts b c wa 0) s = .next t ∧ (s.fetched b c).completes t b c u ∧ u = { v with mode := u.mode } ∧
      u.mode.toNat % 4 = (if x.toNat % 4 = 3 then v.mode.toNat % 4 else x.toNat % 4) ∧ u.mode.toNat / 4 % 4 = x.toNat / 4 % 4 ∧
      u.mode.toNat / 256 = x.toNat / 256 % 256 ∧ u.mode.toNat / 16 % 16 = 0) ∧
    (∃ t u, exec (.mts b c wa (0x10 + k)) s = .next t ∧ (s.fetched b c).completes t b c u ∧ u = { v with m := u.m } ∧
      u.getM k = x.truncate 24 ∧ ∀ j, j < 8 → j ≠ k → u.getM j = v.getM j) ∧
    (∃ t u, exec (.mts b c wa (0x18 + k)) s = .next t ∧ (s.fetched b c).completes t b c u ∧ u = { v with st := u.st } ∧
      u.getS k = x.truncate 16 ∧ ∀ j, j < 8 → j ≠ k → u.getS j = v.getS j) ∧
    (∃ t, exec (.time b c wd) s = .next t ∧
      (s.fetched b c).completes t b c
        { v.setW wd (BitVec.ofNat 32 (nsOf (stampOf ((s.fetched b c).nowQ (b / 32))))) with
          tsec := BitVec.ofNat 32 (secOf (stampOf ((s.fetched b c).nowQ (b / 32)))),
          tsech := BitVec.ofNat 32 (secOf (stampOf ((s.fetched b c).nowQ (b / 32))) / 2 ^ 32),
          tfrac := BitVec.ofNat 16 (fracOf (stampOf ((s.fetched b c).nowQ (b / 32)))) })

/-- For every instruction that a word decodes to: in a context that may not issue it changes nothing; with a posted-store error not yet taken it raises the imprecise cause 0x16 at the store's address; with the PC at or above 0x40000 it raises FETCH with the PC; with an uncorrectable error in the fetched word it raises SRAM_UE with the PC. None of the instruction's own effect takes place. A load or store of R192 at an address that is not a multiple of its size raises ALIGN with the address, LDL and STC outside bay SRAM, and QPUSH and QPOP with a descriptor outside it, raise the cause 7 with the address, inside it but misaligned ALIGN; BRK raises BREAK with its code where BRK_EN is 0 or the debug level is below 2. In each case registers, PC and memory stand. (R178, R182, R205, R206, R207, R219, R192, R193, R200, R204) -/
def Obligations.IssueAndAddressFaults : Prop :=
  (∀ (s : State) (b c w : Nat) (i : Instr), decodeEngine b c w = some i →
    (s.canIssue b c = false → exec i s = .next s) ∧
    (s.canIssue b c = true → (s.dbg b).deferred = none →
      (∀ va, (s.cx b c).pendVa = some va → va < 2 ^ 48 →
        ∃ t, exec i s = .next t ∧ s.faulted t b c 0x16 (va % 2 ^ 32) (va / 2 ^ 32) ∧ t.rd (ctxA b c) R.CTX_CAUSE.IMPRECISE = 1) ∧
      ((s.cx b c).pendVa = none → 0x40000 ≤ s.pcOf b c → s.pcOf b c < 2 ^ 32 →
        ∃ t, exec i s = .next t ∧ s.faulted t b c 3 (s.pcOf b c) 0 ∧ t.rd (ctxA b c) R.CTX_CAUSE.IMPRECISE = 0) ∧
      ((s.cx b c).pendVa = none → s.pcOf b c < 0x40000 → (s.fetchCheck b c).1 = true →
        ∃ t, exec i s = .next t ∧ (s.fetched b c).faulted t b c 4 (s.pcOf b c) 0))) ∧
  (∀ (s : State) (b c wd wa wb p : Nat) (imm : BitVec 16) (off : BitVec 14) (v : CtxSt) (i : Instr) (n ea : Nat) (sx w : Bool),
    s.mayIssue b c → v = (s.fetched b c).cx b c →
    ((i, n, sx, ea) ∈ loadRows v b c wd wa p imm off ∨ (i, n, ea) ∈ storeRows v b c wd wa p imm off → ea % n ≠ 0 →
      ∃ t, exec i s = .next t ∧ (s.fetched b c).faulted t b c 2 ea 0) ∧
    (∀ j m a, (j, m, a) ∈ [(Instr.ldl b c wd wa imm, 4, (v.getW wa + imm.signExtend 32).toNat), (Instr.stc b c wd wa wb, 4, (v.getW wa).toNat),
        (Instr.qpush b c wd wb wa w, 32, (v.getW wa).toNat), (Instr.qpop b c wd wb wa w, 32, (v.getW wa).toNat)] →
      (0x40000 ≤ a → ∃ t, exec j s = .next t ∧ (s.fetched b c).faulted t b c 7 a 0) ∧
      (a < 0x40000 → a % m ≠ 0 → ∃ t, exec j s = .next t ∧ (s.fetched b c).faulted t b c 2 a 0)) ∧
    ((s.fetched b c).bit (dbgEngA b) R.DBG_ENG_CTRL.BRK_EN = false ∨ (s.fetched b c).level < 2 →
      ∃ t, exec (.brk b c imm) s = .next t ∧ (s.fetched b c).faulted t b c 5 imm.toNat 0))

/-- WFE with a selected pending bit takes and clears the selected bits, else it waits; FSYNC always waits for a boundary; FENCE completes with no posted store outstanding and otherwise waits; IDLE with none outstanding leaves the context IDLE with its PC at the next instruction and no context running, and otherwise waits. A waiting context keeps its registers and its PC, and no context runs. A context that waits in FSYNC is READY with FRAME_NO in wd once a boundary has reached the bay since; one that waits in WFE is READY with the selected pending bits, which clear, once one is set, and with 0 when the limit expires with none set. The PC moves past the instruction. No context of lower priority is running, so none gives way. (R180, R202, R203, R204, R213, R208, R214) -/
def Obligations.EngineWaits : Prop :=
  (∀ (s : State) (b c wd wa wb : Nat) (v : CtxSt), s.mayIssue b c → v = (s.fetched b c).cx b c →
    (v.epend &&& v.getW wa ≠ 0 → ∃ t, exec (.wfe b c wd wa wb) s = .next t ∧
      (s.fetched b c).completes t b c ({ v with epend := v.epend &&& ~~~(v.getW wa) }.setW wd (v.epend &&& v.getW wa))) ∧
    (v.epend &&& v.getW wa = 0 → ∃ t, exec (.wfe b c wd wa wb) s = .next t ∧
      (s.fetched b c).waits t b c (.wfe wd (v.getW wa) (v.getW wb).toNat)) ∧
    (∃ t, exec (.fsync b c wd) s = .next t ∧ (s.fetched b c).waits t b c (.fsync wd ((s.fetched b c).bay b).boundaries)) ∧
    (v.posted = [] → ∃ t, exec (.fence b c) s = .next t ∧ (s.fetched b c).completes t b c v) ∧
    (v.posted ≠ [] → ∃ t, exec (.fence b c) s = .next t ∧ (s.fetched b c).waits t b c .fence) ∧
    (v.posted = [] → (s.fetched b c).ctxState b c = 3 → ∃ t, exec (.idle b c) s = .next t ∧ t.ctxState b c = 1 ∧ t.running b = none ∧
      t.pcOf b c = v.nextPc ((s.fetched b c).pcOf b c) / 4 * 4 % 2 ^ 32 ∧ t.mem = (s.fetched b c).mem) ∧
    (v.posted ≠ [] → ∃ t, exec (.idle b c) s = .next t ∧ (s.fetched b c).waits t b c .idle)) ∧
  (∀ (s : State) (b c wd : Nat), s.engineOn b = true → c < 32 → s.ctxState b c = 4 →
    (∀ r, s.running b = some r → s.prio b r ≤ s.prio b c) →
    (∀ since, (s.cx b c).wait = .fsync wd since → (s.bay b).boundaries ≠ since →
      ∃ t, exec (.fsyncWake b c) s = .next t ∧ t.ctxState b c = 2 ∧
        t.cx b c = { ((s.cx b c).setW wd (BitVec.ofNat 32 (s.rd (bayA b) R.FRAME_NO.FRAME_NO))).afterBody (s.pcOf b c) with wait := .none } ∧
        t.pcOf b c = (s.cx b c).nextPc (s.pcOf b c) / 4 * 4 % 2 ^ 32) ∧
    (∀ mask limit, (s.cx b c).wait = .wfe wd mask limit → (s.cx b c).epend &&& mask ≠ 0 →
      ∃ t, exec (.wfeEvent b c) s = .next t ∧ t.ctxState b c = 2 ∧
        t.cx b c = { ({ s.cx b c with epend := (s.cx b c).epend &&& ~~~mask }.setW wd ((s.cx b c).epend &&& mask)).afterBody (s.pcOf b c) with
          wait := .none } ∧
        t.pcOf b c = (s.cx b c).nextPc (s.pcOf b c) / 4 * 4 % 2 ^ 32) ∧
    (∀ mask limit, (s.cx b c).wait = .wfe wd mask limit → (s.cx b c).epend &&& mask = 0 → limit ≠ 0 →
      ∃ t, exec (.wfeTimeout b c) s = .next t ∧ t.ctxState b c = 2 ∧
        t.cx b c = { ((s.cx b c).setW wd 0).afterBody (s.pcOf b c) with wait := .none } ∧
        t.pcOf b c = (s.cx b c).nextPc (s.pcOf b c) / 4 * 4 % 2 ^ 32))

/-- START makes an IDLE context READY and RESUME a FAULTED one, ABORT puts an enabled context in ABORTING and ends its loop and its reservation, each setting CMD_IGN in any other state and changing nothing else of the context then; a write of CTX_PC is taken in DISABLED, IDLE and FAULTED alone; a write of CTX_CFG changes EN of an IDLE or DISABLED context with its state, and TCTX in DISABLED, IDLE and FAULTED alone. No context of lower priority is running, and no halt is deferred. With no context running, CONTEXT_SWITCH makes RUNNING, and current, a READY context such that no READY context has a higher priority; with none READY it changes nothing. QUANTUM_EXPIRY with a nonzero quantum makes the running context READY, with none running, when another READY context has its priority, and changes nothing when none has. (R208, R209, R217, R220, R211, R212, R215) -/
def Obligations.ContextsAndScheduler : Prop :=
  (∀ (s : State) (b c : Nat) (value : BitVec 32), s.bayTakes b = true → c < 32 → (s.dbg b).deferred = none →
    (∀ r, s.running b = some r → s.prio b r ≤ s.prio b c) →
    (∃ t, exec (.ctxStart b c) s = .next t ∧
      (s.ctxState b c = 1 → t.ctxState b c = 2) ∧ (s.ctxState b c ≠ 1 → t = s.wr (ctxA b c) R.CTX_STATE.CMD_IGN 1)) ∧
    (∃ t, exec (.ctxResume b c) s = .next t ∧
      (s.ctxState b c = 5 → t.ctxState b c = 2) ∧ (s.ctxState b c ≠ 5 → t = s.wr (ctxA b c) R.CTX_STATE.CMD_IGN 1)) ∧
    (∃ t, exec (.ctxAbort b c) s = .next t ∧
      (1 ≤ s.ctxState b c → s.ctxState b c ≤ 5 → t.ctxState b c = 7 ∧ (t.cx b c).loop = none ∧ (t.cx b c).resv = none ∧
        t.rd (ctxA b c) R.CTX_STATE.PEND_ERR = 0) ∧
      (s.ctxState b c = 0 ∨ 5 < s.ctxState b c → t = s.wr (ctxA b c) R.CTX_STATE.CMD_IGN 1)) ∧
    (∃ t, exec (.ctxPcWrite b c value) s = .next t ∧
      (s.ctxState b c = 0 ∨ s.ctxState b c = 1 ∨ s.ctxState b c = 5 → t.pcOf b c = value.toNat / 4 * 4) ∧
      (s.ctxState b c ≠ 0 → s.ctxState b c ≠ 1 → s.ctxState b c ≠ 5 → t = s.wr (ctxA b c) R.CTX_STATE.CMD_IGN 1)) ∧
    (∃ t, exec (.ctxCfgWrite b c value) s = .next t ∧ t.prio b c = value.toNat / 2 ^ 28 % 4 ∧
      (s.ctxState b c = 0 ∨ s.ctxState b c = 1 ∨ s.ctxState b c = 5 → t.rd (ctxA b c) R.CTX_CFG.TCTX = value.toNat / 2 ^ 16 % 2 ^ 12) ∧
      (s.ctxState b c = 2 ∨ s.ctxState b c = 3 ∨ s.ctxState b c = 4 → t.rd (ctxA b c) R.CTX_CFG.TCTX = s.rd (ctxA b c) R.CTX_CFG.TCTX) ∧
      (s.ctxState b c = 1 → s.bit (ctxA b c) R.CTX_CFG.EN = true → value.toNat < 2 ^ 31 → t.ctxState b c = 0) ∧
      (s.ctxState b c = 0 → s.bit (ctxA b c) R.CTX_CFG.EN = false → 2 ^ 31 ≤ value.toNat → t.ctxState b c = 1))) ∧
  (∀ (s : State) (b : Nat), s.engineOn b = true → s.halted b = false →
    (s.running b = none → ∃ t, exec (.contextSwitch b) s = .next t ∧
      ((∀ c, c < 32 → s.ctxState b c ≠ 2) → t = s) ∧
      ((∀ c, c < 32 → s.prio b c < 4) → (∃ c, c < 32 ∧ s.ctxState b c = 2) →
        ∃ c, c < 32 ∧ s.ctxState b c = 2 ∧ t.ctxState b c = 3 ∧ t.running b = some c ∧
          (∀ k, k < 32 → s.ctxState b k = 2 → s.prio b c ≤ s.prio b k) ∧ ∀ k, k < 32 → k ≠ c → t.ctxState b k = s.ctxState b k)) ∧
    (∀ r, s.running b = some r → r < 32 → s.rd (schedA b) R.SCHED_CFG.QUANTUM ≠ 0 → (s.cx b r).pendVa = none → (s.dbg b).deferred = none →
      ∃ t, exec (.quantumExpiry b) s = .next t ∧
        ((∃ c, c < 32 ∧ s.ctxState b c = 2 ∧ s.prio b c = s.prio b r) → t.ctxState b r = 2 ∧ t.running b = none) ∧
        ((∀ c, c < 32 → s.ctxState b c = 2 → s.prio b c ≠ s.prio b r) → t = s)))

/-- At debug level 2, ENGINE_HALT of a working engine whose running context, if any, holds no reservation sets HALTED with reason 1, leaves no context running, drops every reservation, and puts each context that was IDLE, READY, RUNNING or ABORTING in HALTED with its state remembered; ENGINE_STEP, ENGINE_RELEASE and a CTXDATA write of an engine that is not halted set CMD_IGN alone where no halt is deferred. Below level 2 each of the four sets LEVEL_DENIED and leaves the contexts alone. DEFER_EXPIRY takes a deferred halt and sets DEFER_EXPIRED. With the engine halted, a CTXDATA write at level 2 sets the selected physical register w, pointer, or PC of the selected context, and a CTXDATA read at level 1 answers it, leaving the device as it was but for the value sent; and a step of a halted engine with no context to step waits. (R486, R495, R496, R497, R498, R499, R500, R501) -/
def Obligations.DebugHaltsAndAccess : Prop :=
  (∀ (s : State) (b : Nat) (value : BitVec 32), s.bayOk b = true →
    (2 ≤ s.level → s.engineOn b = true → s.halted b = false → (∀ r, s.running b = some r → (s.cx b r).resv = none) →
      ∃ t, exec (.engineHalt b) s = .next t ∧ t.halted b = true ∧ t.rd (dbgEngA b) R.DBG_ENG_STAT.REASON = 1 ∧ t.running b = none ∧
        ∀ c, c < 32 → (t.cx b c).resv = none ∧
          (s.ctxState b c = 1 ∨ s.ctxState b c = 2 ∨ s.ctxState b c = 3 ∨ s.ctxState b c = 7 →
            t.ctxState b c = 6 ∧ (t.cx b c).prev = s.ctxState b c)) ∧
    (2 ≤ s.level → s.halted b = false → (s.dbg b).deferred = none →
      exec (.engineStep b) s = .next (s.wr (dbgEngA b) R.DBG_ENG_STAT.CMD_IGN 1) ∧
      exec (.engineRelease b) s = .next (s.wr (dbgEngA b) R.DBG_ENG_STAT.CMD_IGN 1) ∧
      exec (.ctxdataAccess b true value) s = .next (s.wr (dbgEngA b) R.DBG_ENG_STAT.CMD_IGN 1)) ∧
    (s.level < 2 → ∀ i, i ∈ [Instr.engineHalt b, .engineStep b, .engineRelease b, .ctxdataAccess b true value] →
      ∃ t, exec i s = .next t ∧ t.bit (dbgA (b / 32)) R.DBG_STAT.LEVEL_DENIED = true ∧ t.ctxs = s.ctxs ∧ t.halted b = s.halted b) ∧
    (∀ k, (s.dbg b).deferred = some k → k < 8 → s.engineOn b = true →
      ∃ t, exec (.deferExpiry b) s = .next t ∧ t.halted b = true ∧ t.rd (dbgEngA b) R.DBG_ENG_STAT.REASON = k ∧
        t.rd (dbgEngA b) R.DBG_ENG_STAT.DEFER_EXPIRED = 1 ∧ (t.dbg b).deferred = none)) ∧
  (∀ (s : State) (b c r : Nat) (value : BitVec 32), s.bayOk b = true → s.halted b = true →
    s.rd (dbgEngA b) R.DBG_CTXSEL.CTX = c → s.rd (dbgEngA b) R.DBG_CTXSEL.REG = r →
    (2 ≤ s.level → r < 32 → ∃ t, exec (.ctxdataAccess b true value) s = .next t ∧ (t.cx b c).phys r = value ∧
      (∀ k, k ≠ r → (t.cx b c).phys k = (s.cx b c).phys k) ∧ t = { s with ctxs := t.ctxs } ∧ ∀ k, k ≠ b * 32 + c → t.ctx k = s.ctx k) ∧
    (2 ≤ s.level → r = 0x20 → ∃ t, exec (.ctxdataAccess b true value) s = .next t ∧ t.pcOf b c = value.toNat / 4 * 4 ∧ t.ctxs = s.ctxs) ∧
    (1 ≤ s.level → r < 32 →
      exec (.ctxdataAccess b false value) s = .next (s.emit (.regValue (dbgEngA b + 0xC) ((s.cx b c).phys r).toNat))) ∧
    (2 ≤ s.level → (s.dbg b).stepping = false → (∀ k, k < 32 → s.ctxState b k = 6 → (s.cx b k).prev ≠ 2 ∧ (s.cx b k).prev ≠ 3) →
      ∃ t, exec (.engineStep b) s = .next t ∧ (t.dbg b).stepWait = true ∧ t.ctxs = s.ctxs ∧ t.flds = s.flds))

/-- DEBUG_UNLOCK during a check changes nothing; with no lockout and a ceiling above 0 it starts a check. UNLOCK_CHECK_DONE during a check ends it with one more attempt counted: a good signature for a level up to CEIL without lockout leaves the level in force at the higher of its old value and the requested one; any other outcome adds 1 to FAILS (saturating), sets UNLOCK_FAIL, sets LOCKOUT once FAILS reaches 16, leaves the level alone and counts event 737. Outside a check it changes nothing. IDCODE shows the 32-bit identification with STEPPING of Q0, the part number, 0x35D and a 1; BYPASS selects the one-bit register and leaves the balls to their units. SAMPLE/PRELOAD, EXTEST, CLAMP and HIGHZ, at level 2 or with the device UNCONFIGURED or in ERROR, select their registers and drive the balls as their rows say; denied, each does what BYPASS does, with LEVEL_DENIED set. No register of the device changes but that flag. (R487, R488, R489, R486, R492, R545) -/
def Obligations.UnlockAndJtag : Prop :=
  (∀ (s : State) (value : BitVec 32) (ok : Bool) (want : Nat), want = s.rd (dbgA 0) R.DBG_UNLOCK.LEVEL →
    (s.bit (dbgA 0) R.DBG_STAT.UBUSY = true → exec (.debugUnlock value) s = .next s) ∧
    (s.bit (dbgA 0) R.DBG_STAT.UBUSY = false → s.bit (dbgA 0) R.DBG_STAT.LOCKOUT = false → s.dbgCeil ≠ 0 →
      ∃ t, exec (.debugUnlock value) s = .next t ∧ t.bit (dbgA 0) R.DBG_STAT.UBUSY = true ∧
        t.rd (dbgA 0) R.DBG_UNLOCK.LEVEL = value.toNat % 4 ∧ t.level = s.level ∧ t.unlocks = s.unlocks) ∧
    (s.bit (dbgA 0) R.DBG_STAT.UBUSY = false → exec (.unlockCheckDone ok) s = .next s) ∧
    (s.bit (dbgA 0) R.DBG_STAT.UBUSY = true →
      ∃ t, exec (.unlockCheckDone ok) s = .next t ∧ t.bit (dbgA 0) R.DBG_STAT.UBUSY = false ∧ t.unlocks = s.unlocks + 1 ∧
        (ok = true → want ≤ s.dbgCeil → s.bit (dbgA 0) R.DBG_STAT.LOCKOUT = false →
          t.level = max s.level want ∧ t.rd (dbgA 0) R.DBG_STAT.FAILS = s.rd (dbgA 0) R.DBG_STAT.FAILS) ∧
        (ok = false ∨ s.dbgCeil < want ∨ s.bit (dbgA 0) R.DBG_STAT.LOCKOUT = true →
          t.level = s.level ∧ t.rd (dbgA 0) R.DBG_STAT.FAILS = min (s.rd (dbgA 0) R.DBG_STAT.FAILS + 1) 255 ∧
            t.bit (dbgA 0) R.DBG_STAT.UNLOCK_FAIL = true ∧
            (15 ≤ s.rd (dbgA 0) R.DBG_STAT.FAILS → t.bit (dbgA 0) R.DBG_STAT.LOCKOUT = true) ∧
            t.rd (evtA 737) R.EVT_STAT.OCC = min (s.rd (evtA 737) R.EVT_STAT.OCC + 1) (2 ^ R.EVT_STAT.OCC.width - 1)))) ∧
  (∀ (s : State),
    (∃ t v, exec .idcode s = .next t ∧ t = { s with jtag := t.jtag, out := .scan 32 v :: s.out } ∧ t.jtag.ir = 1 ∧
      v % 2 = 1 ∧ v / 2 % 2 ^ 11 = 0x35D ∧ v / 2 ^ 28 = (Tab.get (fun _ => 0) s.fuses.stepping 0) % 16 ∧
      v / 2 ^ 12 % 2 ^ 16 = (match s.fuses.part with | .abn9640 => 0x9640 | .abn9620 => 0x9620 | .abn9610 => 0x9610)) ∧
    (∃ t, exec .bypass s = .next t ∧ t = { s with jtag := t.jtag, out := .scan 1 0 :: s.out } ∧ t.jtag.balls = 0) ∧
    ∀ i code balls o, (i, code, balls, o) ∈ [(Instr.samplePreload, 2, 0, Output.boundaryScan), (.extest, 3, 1, .boundaryScan),
        (.clamp, 4, 1, .scan 1 0), (.highz, 5, 2, .scan 1 0)] →
      ∃ t, exec i s = .next t ∧
        (2 ≤ s.level ∨ s.rd (cfgA 0) R.CFG_STAT.STATE = 0 ∨ s.rd (cfgA 0) R.CFG_STAT.STATE = 8 →
          t = { s with jtag := t.jtag, out := o :: s.out } ∧ t.jtag.ir = code ∧ t.jtag.balls = balls) ∧
        (s.level < 2 → s.rd (cfgA 0) R.CFG_STAT.STATE ≠ 0 → s.rd (cfgA 0) R.CFG_STAT.STATE ≠ 8 →
          t.bit (dbgA 0) R.DBG_STAT.LEVEL_DENIED = true ∧ t.jtag.ir = 0xFF ∧ t.jtag.balls = 0 ∧ t.out = .scan 1 0 :: s.out))

/-- A GO of a DBM port changes nothing while it is BUSY. Without the debug level that a read (1) or a write (2) needs, it ends at once with STATUS 1 and LEVEL_DENIED; an access that is misaligned or has a width that register space does not allow ends at once with STATUS 1; any other makes the port BUSY with exactly one more request outstanding, at the address and of the size of its registers. (R9, R36, R486, R494) -/
def Obligations.DebugBusMasterGo : Prop :=
  ∀ (s : State) (p : Nat), p < 2 →
    (s.dbm p R.DBM_STAT.BUSY = 1 → exec (.dbmGo p) s = .next s) ∧
    (s.dbm p R.DBM_STAT.BUSY ≠ 1 → s.level < (if s.dbm p R.DBM_CTRL.WR = 1 then 2 else 1) →
      ∃ t, exec (.dbmGo p) s = .next t ∧ t.dbm p R.DBM_STAT.BUSY = 0 ∧ t.dbm p R.DBM_STAT.STATUS = 1 ∧
        t.dbm p R.DBM_STAT.LEVEL_DENIED = 1 ∧ t.outst = s.outst) ∧
    (s.dbm p R.DBM_STAT.BUSY ≠ 1 → (if s.dbm p R.DBM_CTRL.WR = 1 then 2 else 1) ≤ s.level →
      accessAllowed (s.dbmAddr p) (2 ^ s.dbm p R.DBM_CTRL.SIZE) = false →
      ∃ t, exec (.dbmGo p) s = .next t ∧ t.dbm p R.DBM_STAT.BUSY = 0 ∧ t.dbm p R.DBM_STAT.STATUS = 1 ∧ t.outst = s.outst) ∧
    (s.dbm p R.DBM_STAT.BUSY ≠ 1 → (if s.dbm p R.DBM_CTRL.WR = 1 then 2 else 1) ≤ s.level →
      accessAllowed (s.dbmAddr p) (2 ^ s.dbm p R.DBM_CTRL.SIZE) = true →
      ∃ t o, exec (.dbmGo p) s = .next t ∧ t.dbm p R.DBM_STAT.BUSY = 1 ∧ t.outst = s.outst ++ [o] ∧ o.pa = s.dbmAddr p ∧
        o.size = 2 ^ s.dbm p R.DBM_CTRL.SIZE ∧ (o.write = true ↔ s.dbm p R.DBM_CTRL.WR = 1) ∧ o.owner = .dbm p ∧ t.mem = s.mem)

/-- STIM of an enabled port, with the trace sink enabled, appends one packet with the low bytes of wa of its size, its port and its context to the staging FIFO, or, with eight packets staged, drops it, counts it in STIM_DROP and marks the loss; with the port disabled or the sink off it changes nothing but the PC and the loop. The instruction completes in each case. With RING = 0, TRACE_PACKET moves the oldest staged packet of a bay to the end of its quadrant's FIFO while it holds fewer than 64, and otherwise drops and counts it and raises event 740 + q. At level 1, TRC_POP removes the oldest packet and answers its first word, 0 from an empty FIFO; below level 1 it answers 0, removes nothing and sets LEVEL_DENIED. (R204, R505, R506, R486, R507, R510) -/
def Obligations.StimulusAndTraceSink : Prop :=
  (∀ (s : State) (b c port wa size : Nat) (v : CtxSt) (s0 : State), s.mayIssue b c → port < 256 → size < 3 → s0 = s.fetched b c →
    v = s0.cx b c →
    ∃ t, exec (.stim b c port wa size) s = .next t ∧ t.cx b c = v.afterBody (s0.pcOf b c) ∧ t.mem = s0.mem ∧
      ((s0.rd (dbgEngA b) (R.STIM_EN.EN.shift (4 * (port / 32)))).testBit (port % 32) = false ∨ s0.bit (trcA (b / 32)) R.TRC_CFG.EN = false →
        s0.completes t b c v) ∧
      ((s0.rd (dbgEngA b) (R.STIM_EN.EN.shift (4 * (port / 32)))).testBit (port % 32) = true → s0.bit (trcA (b / 32)) R.TRC_CFG.EN = true →
        t.pcOf b c = v.nextPc (s0.pcOf b c) / 4 * 4 % 2 ^ 32 ∧
        ((s0.dbg b).stage.length < 8 →
          (t.dbg b).stage = (s0.dbg b).stage ++
            [⟨stampOf (s0.nowQ (b / 32)), 0, (s0.dbg b).loss, size, b, c, port, (v.getW wa).toNat % 2 ^ (8 * 2 ^ size)⟩] ∧
          (t.dbg b).loss = false) ∧
        (8 ≤ (s0.dbg b).stage.length →
          (t.dbg b).stage = (s0.dbg b).stage ∧ (t.dbg b).loss = true ∧
            t.rd (dbgEngA b) R.STIM_DROP.COUNT = min (s0.rd (dbgEngA b) R.STIM_DROP.COUNT + 1) (2 ^ 32 - 1)))) ∧
  (∀ (s : State) (b q : Nat) (net : Net) (p : TrcPkt) (rest : List TrcPkt),
    (s.bayOk b = true → s.bit (trcA (b / 32)) R.TRC_CFG.EN = true → s.rd (trcA (b / 32)) R.TRC_CFG.RING = 0 → (s.dbg b).stage = p :: rest →
      ∃ t, exec (.tracePacket b net) s = .next t ∧ (t.dbg b).stage = rest ∧
        ((s.sink (b / 32)).fifo.length < 64 →
          (t.sink (b / 32)).fifo = (s.sink (b / 32)).fifo ++ [{ p with loss := p.loss || (s.sink (b / 32)).loss }] ∧ t.flds = s.flds) ∧
        (64 ≤ (s.sink (b / 32)).fifo.length →
          (t.sink (b / 32)).fifo = (s.sink (b / 32)).fifo ∧ (t.sink (b / 32)).loss = true ∧
            t.rd (trcA (b / 32)) R.TRC_DROP.COUNT = min (s.rd (trcA (b / 32)) R.TRC_DROP.COUNT + 1) (2 ^ 32 - 1) ∧
            t.rd (evtA (740 + b / 32)) R.EVT_STAT.OCC =
              min (s.rd (evtA (740 + b / 32)) R.EVT_STAT.OCC + 1) (2 ^ R.EVT_STAT.OCC.width - 1))) ∧
    (s.quadLive q = true → 1 ≤ s.level → ∃ t, exec (.trcPop q) s = .next t ∧ (t.sink q).fifo = (s.sink q).fifo.drop 1 ∧
      t.out = .regValue (trcA q + 0x14) (((s.sink q).fifo.head?.map fun k => k.pack false % 2 ^ 32).getD 0) :: s.out ∧
      t.mem = s.mem) ∧
    (s.quadLive q = true → s.level < 1 → ∃ t, exec (.trcPop q) s = .next t ∧ (t.sink q).fifo = (s.sink q).fifo ∧
      t.bit (dbgA q) R.DBG_STAT.LEVEL_DENIED = true ∧ t.out = .regValue (trcA q + 0x14) 0 :: s.out))

/-- Below level 2, XT_PULSE and XT_RELEASE set LEVEL_DENIED of Q0 and leave every engine as it was. At level 2, a PULSE of a group that is not enabled changes nothing; of an enabled group with no member engine, no CAPTURE and no STOP it raises event 744 + g alone; a RELEASE of a group with no member and no STOP changes nothing. At level 2, a PULSE of an enabled group without CAPTURE and STOP halts every member bay's engine that works, was not halted and whose running context, if any, holds no reservation, with reason 3. (R486, R502, R496) -/
def Obligations.CrossTriggers : Prop :=
  (∀ (s : State) (g : Nat), g < 8 →
    (s.level < 2 → ∀ i, i ∈ [Instr.xtPulse g, .xtRelease g] →
      ∃ t, exec i s = .next t ∧ t.bit (dbgA 0) R.DBG_STAT.LEVEL_DENIED = true ∧ t.ctxs = s.ctxs ∧ t.dbgs = s.dbgs ∧
        ∀ b, b < 128 → t.halted b = s.halted b) ∧
    (2 ≤ s.level → s.xt g R.XT_CFG.EN ≠ 1 → exec (.xtPulse g) s = .next s) ∧
    (2 ≤ s.level → s.xt g R.XT_CFG.EN = 1 → s.xtMembers g = [] → s.xt g R.XT_CFG.CAPTURE = 0 → s.xt g R.XT_CFG.STOP = 0 →
      ∃ t, exec (.xtPulse g) s = .next t ∧ t.ctxs = s.ctxs ∧ t.dbgs = s.dbgs ∧ t.mem = s.mem ∧
        t.rd (evtA (744 + g)) R.EVT_STAT.OCC = min (s.rd (evtA (744 + g)) R.EVT_STAT.OCC + 1) (2 ^ R.EVT_STAT.OCC.width - 1)) ∧
    (2 ≤ s.level → s.xtMembers g = [] → s.xt g R.XT_CFG.STOP = 0 → exec (.xtRelease g) s = .next s)) ∧
  (∀ (s : State) (g b : Nat), g < 8 → 2 ≤ s.level → s.xt g R.XT_CFG.EN = 1 → s.xt g R.XT_CFG.CAPTURE = 0 → s.xt g R.XT_CFG.STOP = 0 →
    b ∈ s.xtMembers g → s.engineOn b = true → s.halted b = false → (∀ r, s.running b = some r → (s.cx b r).resv = none) →
    (∀ k, k ∈ s.xtMembers g → ∀ r, s.running k = some r → r < 32) →
    ∃ t, exec (.xtPulse g) s = .next t ∧ t.halted b = true ∧ t.rd (dbgEngA b) R.DBG_ENG_STAT.REASON = 3)

/-- For a pin of a present bay that is not in RESET: PIN_MODE_WRITE sets RFX_EN and DSRC, and MODE where the value is one of the five modes; PIN_THR_WRITE sets the thresholds and the hysteresis; PIN_STK_WRITE sets UNIT, ZONE and TO and restarts the stuck timer in the new stuck zone; PIN_NEXT_WRITE arms the pattern and touches nothing else; STUCK_REARM unmasks exactly the pins of its mask and starts their timers afresh; STUCK_TIMEOUT of a running, unmasked timer masks the pin and sets its bit of PIN_STUCK and alert 0. Nothing outside the bay changes but the record of events. (R136, R138, R139, R148) -/
def Obligations.PinSettingsAndStuckTimers : Prop :=
  ∀ (s : State) (b k : Nat) (value : BitVec 32), s.bayTakes b = true → k < 10 →
    (∃ t, exec (.pinModeWrite b k value) s = .next t ∧ s.bayOnly t b ∧ t.rd (pinA b k) R.PIN_MODE.RFX_EN = bits value.toNat 5 5 ∧
      t.rd (pinA b k) R.PIN_MODE.DSRC = bits value.toNat 4 4 ∧
      t.rd (pinA b k) R.PIN_MODE.MODE = if bits value.toNat 2 0 ≤ 4 then bits value.toNat 2 0 else s.rd (pinA b k) R.PIN_MODE.MODE) ∧
    (∃ t, exec (.pinThrWrite b k value) s = .next t ∧ s.bayOnly t b ∧ t.rd (pinA b k) R.PIN_THR.HYST = bits value.toNat 29 28 ∧
      t.rd (pinA b k) R.PIN_THR.VH = bits value.toNat 25 16 ∧ t.rd (pinA b k) R.PIN_THR.VL = bits value.toNat 9 0) ∧
    (∃ t, exec (.pinStkWrite b k value) s = .next t ∧ s.bayOnly t b ∧ t.rd (pinA b k) R.PIN_STK.UNIT = bits value.toNat 18 18 ∧
      t.rd (pinA b k) R.PIN_STK.ZONE = bits value.toNat 17 16 ∧ t.rd (pinA b k) R.PIN_STK.TO = bits value.toNat 15 0 ∧
      t.pin b k = { s.pin b k with stuckOn := t.inStuckZone b k, stuckAt := s.nowQ (b / 32) }) ∧
    (∃ t, exec (.pinNextWrite b value) s = .next t ∧ t = { s with flds := t.flds } ∧ s.bayRegs t b ∧
      t.rd (bayA b) R.PIN_NEXT.OE = bits value.toNat 25 16 ∧ t.rd (bayA b) R.PIN_NEXT.VAL = bits value.toNat 9 0 ∧
      t.rd (bayA b) R.PIN_NEXT.ARMED = 1) ∧
    (∀ mask, ∃ t, exec (.stuckRearm b mask) s = .next t ∧ t = { s with bays := t.bays } ∧ (∀ j, j ≠ b → t.bay j = s.bay j) ∧
      ∀ j, j < 10 → t.pin b j = if mask.testBit j then
        { s.pin b j with stuckMask := false, stuckOn := s.inStuckZone b j, stuckAt := s.nowQ (b / 32) } else s.pin b j) ∧
    (s.capturing b = true → (s.pin b k).stuckOn = true → (s.pin b k).stuckMask = false → s.rd (pinA b k) R.PIN_STK.TO ≠ 0 →
      ∃ t, exec (.stuckTimeout b k) s = .next t ∧ s.bayOnly t b ∧ (t.pin b k).stuckMask = true ∧
        (t.rd (bayA b) R.PIN_STUCK.STUCK).testBit k = true ∧ (t.rd (bayA b) R.ALERT_STAT.ALERT).testBit 0 = true)

/-- On a pin whose comparators are on: a THRESHOLD_CROSSING that changes the raw output begins to wait with its value; one that ends a waiting change with a filter set removes the pulse and adds 1 to GLITCH. DEGLITCH_ACCEPT of a waiting change gives the filtered output its value; outside a dead time it begins one, inside one it adds 1 to OVR. DEAD_TIME_END ends the dead time, and records once where the output differs from its value at the edge that began it. Nothing outside the bay changes but the record of events. (R140, R141, R144) -/
def Obligations.ComparatorsAndDeglitching : Prop :=
  ∀ (s : State) (b k : Nat) (hi val : Bool) (frac : Nat), s.compOn b k = true →
    ((if hi then (s.pin b k).rawHi else (s.pin b k).rawLo) ≠ val →
      ∃ t, exec (.thresholdCrossing b k hi val frac) s = .next t ∧ s.bayOnly t b ∧
        (if hi then (t.pin b k).rawHi else (t.pin b k).rawLo) = val ∧
        ((if hi then (s.pin b k).pendHi else (s.pin b k).pendLo) = none →
          t.flds = s.flds ∧ ∃ c, (if hi then (t.pin b k).pendHi else (t.pin b k).pendLo) = some c ∧ c.val = val ∧
            c.stamp = stampOf (s.nowQ (b / 32)) + ((frac % 256 : Nat) : Int) * 256) ∧
        (∀ c, (if hi then (s.pin b k).pendHi else (s.pin b k).pendLo) = some c → c.dgl ≠ 0 →
          (if hi then (t.pin b k).pendHi else (t.pin b k).pendLo) = none ∧
          t.rd (pinA b k) R.PIN_CNT.GLITCH = min (s.rd (pinA b k) R.PIN_CNT.GLITCH + 1) (2 ^ R.PIN_CNT.GLITCH.width - 1) ∧
          t.rd (bayA b) R.PIN_ZONE.HI = s.rd (bayA b) R.PIN_ZONE.HI ∧ t.rd (bayA b) R.PIN_ZONE.LO = s.rd (bayA b) R.PIN_ZONE.LO)) ∧
    (∀ c, (if hi then (s.pin b k).pendHi else (s.pin b k).pendLo) = some c →
      ∃ t, exec (.deglitchAccept b k hi) s = .next t ∧ s.bayOnly t b ∧ (if hi then t.zoneHi b k else t.zoneLo b k) = c.val ∧
        (if hi then (t.pin b k).pendHi else (t.pin b k).pendLo) = none ∧
        ((if hi then (s.pin b k).deadHi else (s.pin b k).deadLo) = none →
          (if hi then (t.pin b k).deadHi else (t.pin b k).deadLo) = some c.val) ∧
        ((if hi then (s.pin b k).deadHi else (s.pin b k).deadLo) ≠ none →
          t.rd (pinA b k) R.PIN_CNT.OVR = min (s.rd (pinA b k) R.PIN_CNT.OVR + 1) (2 ^ R.PIN_CNT.OVR.width - 1))) ∧
    ∀ v, (if hi then (s.pin b k).deadHi else (s.pin b k).deadLo) = some v →
      ∃ t, exec (.deadTimeEnd b k hi) s = .next t ∧ s.bayOnly t b ∧ (if hi then (t.pin b k).deadHi else (t.pin b k).deadLo) = none ∧
        ((if hi then s.zoneHi b k else s.zoneLo b k) = v → t.flds = s.flds ∧ (t.bay b).seq = (s.bay b).seq) ∧
        ((if hi then s.zoneHi b k else s.zoneLo b k) ≠ v → (t.bay b).seq = ((s.bay b).seq + 1) % 65536)

/-- CAPTURE_RECORD_STORE and ADC_BLOCK_STORE take the oldest staged record (16 bytes) or block (32 bytes) to the slot that WR names and advance WR, all other bytes of memory unchanged, or drop it and count it when the ring is full. ADC_SAMPLE of an enabled ADC of a capturing bay sets SAMPLE and INDEX and goes on to the next grid instant. ADC_BLOCK_CLOSE closes every open block at a break in the block rule or when sampling has stopped. (R145, R147, R150, R151) -/
def Obligations.CaptureAndAdcRings : Prop :=
  ∀ (s : State) (b : Nat),
    (∀ r rest wr at_, (s.bay b).stage = r :: rest → s.capLen b ≠ 0 → wr = s.rd (bayA b) R.CAP_WR.WR →
      at_ = (s.rd (bayA b) R.CAP_RING.BASE * 16 + 16 * (wr % s.capLen b)) % 0x40000 →
      ∃ t, exec (.captureRecordStore b) s = .next t ∧ (t.bay b).stage = rest ∧
        ((wr + 1) % s.capLen b ≠ s.rd (bayA b) R.CAP_RD.RD → (s.bay b).sramOpen = true →
          t.bytes (sramA b at_) 16 = r.pack (s.bay b).lossCap % 2 ^ 128 ∧
          (∀ x, x < sramA b at_ ∨ sramA b at_ + 16 ≤ x → t.byte x = s.byte x) ∧
          t.rd (bayA b) R.CAP_WR.WR = (wr + 1) % s.capLen b % 2 ^ R.CAP_WR.WR.width) ∧
        ((wr + 1) % s.capLen b = s.rd (bayA b) R.CAP_RD.RD → s.bayOnly t b ∧ (t.bay b).lossCap = true ∧
          t.rd (bayA b) R.CAP_DROP.DROP = min (s.rd (bayA b) R.CAP_DROP.DROP + 1) (2 ^ R.CAP_DROP.DROP.width - 1))) ∧
    (∀ r rest wr at_, (s.bay b).adcStage = r :: rest → s.adcLen b ≠ 0 → wr = s.rd (bayA b) R.ADC_WR.WR →
      at_ = (s.rd (bayA b) R.ADC_RING.BASE * 32 + 32 * (wr % s.adcLen b)) % 0x40000 →
      ∃ t, exec (.adcBlockStore b) s = .next t ∧ (t.bay b).adcStage = rest ∧
        ((wr + 1) % s.adcLen b ≠ s.rd (bayA b) R.ADC_RD.RD → (s.bay b).sramOpen = true →
          t.bytes (sramA b at_) 32 = r.pack (s.bay b).lossAdc % 2 ^ 256 ∧
          (∀ x, x < sramA b at_ ∨ sramA b at_ + 32 ≤ x → t.byte x = s.byte x) ∧
          t.rd (bayA b) R.ADC_WR.WR = (wr + 1) % s.adcLen b % 2 ^ R.ADC_WR.WR.width) ∧
        ((wr + 1) % s.adcLen b = s.rd (bayA b) R.ADC_RD.RD → s.bayOnly t b ∧ (t.bay b).lossAdc = true ∧
          t.rd (bayA b) R.ADC_DROP.DROP = min (s.rd (bayA b) R.ADC_DROP.DROP + 1) (2 ^ R.ADC_DROP.DROP.width - 1))) ∧
    (∀ code clip, s.capturing b = true → s.adcOk = true → s.bit (bayA b) R.ADC_CFG.EN = true →
      ∃ t, exec (.adcSample b code clip) s = .next t ∧ s.bayOnly t b ∧ t.rd (bayA b) R.ADC_LAST.SAMPLE = code.toNat ∧
        t.rd (bayA b) R.ADC_LAST.INDEX = (s.bay b).adcNext % 65536 ∧ (t.bay b).adcNext = (s.bay b).adcNext + 1 ∧
        (clip = true → (t.rd (bayA b) R.ALERT_STAT.ALERT).testBit 5 = true)) ∧
    (s.blockBreaks b ((s.bay b).adcOrigin + (((s.bay b).adcNext * s.adcPeriod b : Nat) : Int)) = true ∨
        s.bit (bayA b) R.ADC_CFG.EN = false ∨ s.capturing b = false →
      ∃ t, exec (.adcBlockClose b) s = .next t ∧ t = { s with bays := t.bays } ∧ (∀ k, k ≠ b → t.bay k = s.bay k) ∧
        t.bay b = { s.bay b with adcStage := (s.bay b).adcStage ++ (s.bay b).blocks, blocks := [] })

/-- BAY_RESET in RUN or OFFLINE puts the bay in RESET, its bay-domain registers at their reset values and its contexts at theirs, memory unchanged; RESET absorbs it; HOLD sets CMD_IGN alone. BAY_RESET_DONE of a bay in RESET, when no larger reset runs, enters RUN. BAY_OFFLINE goes from RUN to OFFLINE, BAY_ONLINE from OFFLINE to RUN with REMAIN reloaded, and both set CMD_IGN where not allowed. Outside RESET, WDOG_KICK with C1FF reloads REMAIN, and any other value sets BADKICK, and expires a counting watchdog. WDOG_EXPIRY of a counting watchdog sets EXPIRED, counts event 4b+3 and acts by ACTION. (R43, R131, R132, R161, R165) -/
def Obligations.BayStatesAndWatchdog : Prop :=
  ∀ (s : State) (b : Nat), s.bayOk b = true →
    (s.bayState b ≠ 2 → s.bayState b ≠ 3 → ∃ t, exec (.bayReset b) s = .next t ∧ t.bayState b = 2 ∧ t.mem = s.mem ∧
      (∀ k, bayKey b k = true → k ≠ key (bayA b) R.BAY_STATE.STATE → Tab.get regReset t.flds k = regReset k) ∧
      (∀ c, c < 32 → t.ctx (b * 32 + c) = CtxSt.init) ∧ ∀ k, k ≠ b → t.bay k = s.bay k) ∧
    (s.bayState b = 2 → exec (.bayReset b) s = .next s) ∧
    (s.bayState b = 2 → s.power.stepsDone = true → s.qReset (b / 32) = false →
      ∃ t, exec (.bayResetDone b) s = .next t ∧ t.bayState b = 0 ∧ (t.bay b).pinsLive = true ∧ t.mem = s.mem) ∧
    (s.bayState b = 0 → ∃ t, exec (.bayOffline b) s = .next t ∧ s.bayOnly t b ∧ t.bayState b = 1 ∧ (t.bay b).pinsLive = false) ∧
    (s.bayState b = 1 → exec (.bayOffline b) s = .next s) ∧
    (s.bayState b = 1 → ∃ t, exec (.bayOnline b) s = .next t ∧ s.bayOnly t b ∧ t.bayState b = 0 ∧
      t.rd (bayA b) R.WDOG_STAT.REMAIN = s.rd (bayA b) R.WDOG_CFG.TIMEOUT % 2 ^ R.WDOG_STAT.REMAIN.width) ∧
    (∀ i, (i = Instr.bayReset b ∧ s.bayState b = 3) ∨ (i = .bayOffline b ∧ 2 ≤ s.bayState b) ∨ (i = .bayOnline b ∧ s.bayState b ≠ 1) →
      exec i s = .next (s.wr (bayA b) R.BAY_STATE.CMD_IGN 1)) ∧
    (s.bayState b ≠ 2 → exec (.wdogKick b 0xC1FF) s = .next (s.wr (bayA b) R.WDOG_STAT.REMAIN (s.rd (bayA b) R.WDOG_CFG.TIMEOUT))) ∧
    (∀ v, v ≠ 0xC1FF → s.bayState b ≠ 2 → ∃ t, exec (.wdogKick b v) s = .next t ∧ t.rd (bayA b) R.WDOG_STAT.BADKICK = 1 ∧ t.mem = s.mem ∧
      (s.wdogCounts b = true → t.rd (bayA b) R.WDOG_STAT.EXPIRED = 1) ∧ (s.wdogCounts b = false → t = { s with flds := t.flds })) ∧
    (s.wdogCounts b = true → ∃ t, exec (.wdogExpiry b) s = .next t ∧ t.rd (bayA b) R.WDOG_STAT.EXPIRED = 1 ∧ t.mem = s.mem ∧
      s.occurred t (4 * b + 3) 1 ∧
      (s.rd (bayA b) R.WDOG_CFG.ACTION = 0 → s.bayOnly t b ∧ t.bayState b = 0 ∧
        t.rd (bayA b) R.WDOG_STAT.REMAIN = s.rd (bayA b) R.WDOG_CFG.TIMEOUT % 2 ^ R.WDOG_STAT.REMAIN.width) ∧
      (s.rd (bayA b) R.WDOG_CFG.ACTION = 1 → s.bayOnly t b ∧ t.bayState b = 1 ∧ t.rd (bayA b) R.WDOG_STAT.REMAIN = 0) ∧
      (2 ≤ s.rd (bayA b) R.WDOG_CFG.ACTION → t.bayState b = 2))

/-- BAY_FRAME_BOUNDARY at boundary n, in RUN or OFFLINE, loads FRAME_NO and, with the engine not halted and nothing waiting for that boundary, moves an armed PIN_NEXT pattern to PIN_OUT and disarms it; halted, it does nothing more. VCCIO_LOSS clears VCCIO_OK and sets VCCIO_LOST of its bank, and every pin of an instrument bank reads zone 0 and is released. VCCIO_RESTORE sets VCCIO_OK, and each pin that is not OFF of a capturing bay takes the zone found. (R138, R157, R162, R537) -/
def Obligations.BayBoundariesAndSupplies : Prop :=
  ∀ (s : State) (b : Nat),
    (∀ t0 n, s.noticeQ (b / 32) = some (t0, n) → s.bayOk b = true → s.bayState b < 2 →
      (∀ e, e ∈ s.shadow → e.bay = some b → e.frame ≠ n) →
      ∃ t, exec (.bayFrameBoundary b) s = .next t ∧ s.bayOnly t b ∧ t.rd (bayA b) R.FRAME_NO.FRAME_NO = n % 2 ^ 32 ∧
        (s.halted b = true → t = { s with flds := t.flds, bays := t.bays } ∧
          t.bay b = { s.bay b with boundaries := (s.bay b).boundaries + 1 }) ∧
        (s.halted b = false → s.bit (bayA b) R.PIN_NEXT.ARMED = true → t.rd (bayA b) R.PIN_NEXT.ARMED = 0 ∧
          t.rd (bayA b) R.PIN_OUT.OE = s.rd (bayA b) R.PIN_NEXT.OE % 2 ^ R.PIN_OUT.OE.width ∧
          t.rd (bayA b) R.PIN_OUT.VAL = s.rd (bayA b) R.PIN_NEXT.VAL % 2 ^ R.PIN_OUT.VAL.width) ∧
        (s.halted b = false → s.bit (bayA b) R.PIN_NEXT.ARMED = false →
          t.rd (bayA b) R.PIN_OUT.OE = s.rd (bayA b) R.PIN_OUT.OE ∧ t.rd (bayA b) R.PIN_OUT.VAL = s.rd (bayA b) R.PIN_OUT.VAL)) ∧
    ∀ bank, bank < 40 → s.quadLive (bankOf bank).1 = true →
      (∃ t, exec (.vccioLoss bank) s = .next t ∧ t.mem = s.mem ∧ (∀ k, (bank < 32 → k < bank * 4 ∨ bank * 4 + 4 ≤ k) → t.bay k = s.bay k) ∧
        t.rd (ioBankA (bankOf bank).1) (R.IO_BANKSTAT.VCCIO_OK.shift (4 * (bankOf bank).2)) = 0 ∧
        t.rd (ioBankA (bankOf bank).1) (R.IO_BANKSTAT.VCCIO_LOST.shift (4 * (bankOf bank).2)) = 1 ∧
        (bank < 32 → ∀ j k, j < 4 → k < 10 → t.zone (bank * 4 + j) k = 0 ∧
          (t.pin (bank * 4 + j) k).drive = .released) ∧
        (32 ≤ bank → t = { s with flds := t.flds })) ∧
      ∀ zones, ∃ t, exec (.vccioRestore bank zones) s = .next t ∧ t.mem = s.mem ∧
        t.rd (ioBankA (bankOf bank).1) (R.IO_BANKSTAT.VCCIO_OK.shift (4 * (bankOf bank).2)) = 1 ∧
        (bank < 32 → ∀ j k, j < 4 → k < 10 → s.capturing (bank * 4 + j) = true →
          s.rd (pinA (bank * 4 + j) k) R.PIN_MODE.MODE ≠ 0 → t.zone (bank * 4 + j) k = zones / 4 ^ (j * 10 + k) % 4) ∧
        (32 ≤ bank → t = { s with flds := t.flds })

/-- QUEUE_ENABLE of a disabled queue with EN = 1 and its ring placed by R222 sets EN with HEAD and TAIL 0; not placed, it sets RING_ERR and leaves EN clear; EN = 0 of an enabled queue clears EN. Q_TAIL_WRITE with a SOFT producer takes a value that keeps the count within the ring and sets OVERRUN alone for any other; Q_HEAD_WRITE with a SOFT consumer takes a value that removes at most the entries held and sets UNDERRUN alone for any other; of any other kind of queue both change nothing. On an aligned SRAM address: QPUSH to a queue that is not an enabled ENGINE-produced one, and QPOP from one that is not an enabled ENGINE-consumed one, complete with 2; with W = 0, QPUSH to a full queue and QPOP from an empty one complete with 1. With the ring in the bay's open SRAM and no uncorrectable error, QPUSH writes the 32 bytes to the slot of TAIL, advances TAIL and gives 0; QPOP writes the 32 bytes of the slot of HEAD at wa, advances HEAD and gives 0. (R221, R222, R223, R224, R200) -/
def Obligations.QueuesPushAndPop : Prop :=
  (∀ (s : State) (b q : Nat) (value : BitVec 32) (m n : Nat), s.bayTakes b = true → q < 64 → m = 2 ^ (s.qLog b q + 1) → n = value.toNat % 2 ^ 17 →
    (s.qOn b q = false → 2 ^ 31 ≤ value.toNat →
      ringPlaced b (s.qBase b q) (32 * 2 ^ min (bits value.toNat 20 16) 16) = true →
      ∃ t, exec (.queueEnable b q value) s = .next t ∧ t = { s with flds := t.flds } ∧ s.bayRegs t b ∧ t.qOn b q = true ∧ t.qCount b q = 0 ∧
        t.qf b q R.Q_CFG.LEN = bits value.toNat 20 16) ∧
    (s.qOn b q = false → 2 ^ 31 ≤ value.toNat →
      ringPlaced b (s.qBase b q) (32 * 2 ^ min (bits value.toNat 20 16) 16) = false →
      ∃ t, exec (.queueEnable b q value) s = .next t ∧ t.qOn b q = false ∧ t.qf b q R.Q_ERR.RING_ERR = 1 ∧ t.mem = s.mem) ∧
    (s.qOn b q = true → value.toNat < 2 ^ 31 →
      ∃ t, exec (.queueEnable b q value) s = .next t ∧ t.qOn b q = false ∧ t.mem = s.mem) ∧
    (s.qf b q R.Q_CFG.PROD = 0 →
      (n < m → (n + m - s.qf b q R.Q_HEAD.HEAD % m) % m ≤ 2 ^ s.qLog b q →
        ∃ t, exec (.qTailWrite b q value) s = .next t ∧ t.qf b q R.Q_TAIL.TAIL = n ∧ s.regsOnly t ∧ s.bayRegs t b) ∧
      (m ≤ n ∨ 2 ^ s.qLog b q < (n + m - s.qf b q R.Q_HEAD.HEAD % m) % m →
        exec (.qTailWrite b q value) s = .next (s.wr (queueA b q) R.Q_ERR.OVERRUN 1))) ∧
    (s.qf b q R.Q_CFG.PROD ≠ 0 → exec (.qTailWrite b q value) s = .next s) ∧
    (s.qf b q R.Q_CFG.CONS = 0 →
      (n < m → (n + m - s.qf b q R.Q_HEAD.HEAD % m) % m ≤ s.qCount b q →
        ∃ t, exec (.qHeadWrite b q value) s = .next t ∧ t.qf b q R.Q_HEAD.HEAD = n ∧ t = { s with flds := t.flds } ∧ s.bayRegs t b) ∧
      (m ≤ n ∨ s.qCount b q < (n + m - s.qf b q R.Q_HEAD.HEAD % m) % m →
        exec (.qHeadWrite b q value) s = .next (s.wr (queueA b q) R.Q_ERR.UNDERRUN 1))) ∧
    (s.qf b q R.Q_CFG.CONS ≠ 0 → exec (.qHeadWrite b q value) s = .next s)) ∧
  (∀ (s s0 : State) (b c wd wq wa q ea : Nat) (v : CtxSt) (w : Bool), s.mayIssue b c → s0 = s.fetched b c → v = s0.cx b c →
    q = (v.getW wq).toNat % 64 → ea = (v.getW wa).toNat → ea < 0x40000 → ea % 32 = 0 →
    (s0.qOn b q = false ∨ s0.qf b q R.Q_CFG.PROD ≠ 1 → ∃ t, exec (.qpush b c wd wq wa w) s = .next t ∧ s0.completes t b c (v.setW wd 2)) ∧
    (s0.qOn b q = false ∨ s0.qf b q R.Q_CFG.CONS ≠ 1 → ∃ t, exec (.qpop b c wd wq wa w) s = .next t ∧ s0.completes t b c (v.setW wd 2)) ∧
    (s0.qOn b q = true → s0.qf b q R.Q_CFG.PROD = 1 → s0.qFull b q = true →
      (w = false → ∃ t, exec (.qpush b c wd wq wa w) s = .next t ∧ s0.completes t b c (v.setW wd 1)) ∧
      (w = true → ∃ t, exec (.qpush b c wd wq wa w) s = .next t ∧ s0.waits t b c (.qpush q wd ea w))) ∧
    (s0.qOn b q = true → s0.qf b q R.Q_CFG.CONS = 1 → s0.qEmpty b q = true →
      (w = false → ∃ t, exec (.qpop b c wd wq wa w) s = .next t ∧ s0.completes t b c (v.setW wd 1)) ∧
      (w = true → ∃ t, exec (.qpop b c wd wq wa w) s = .next t ∧ s0.waits t b c (.qpop q wd ea w))) ∧
    (s0.qOn b q = true → (s0.bay b).sramOpen = true → s0.qLocal b q = true →
      (∀ slot d s', s0.qf b q R.Q_CFG.PROD = 1 → s0.qFull b q = false → slot = s0.qSlot b q (s0.qf b q R.Q_TAIL.TAIL) →
        slot < winA b + 0x40000 → s0.sramRead b ea 32 = (d, false, s') →
        ∃ t, exec (.qpush b c wd wq wa w) s = .next t ∧ t.bytes slot 32 = d ∧ (∀ x, x < slot ∨ slot + 32 ≤ x → t.byte x = s0.byte x) ∧
          t.qf b q R.Q_TAIL.TAIL = (s0.qf b q R.Q_TAIL.TAIL + 1) % 2 ^ (s0.qLog b q + 1) ∧
          (t.cx b c).w = ((v.setW wd 0).afterBody (s0.pcOf b c)).w) ∧
      (∀ slot d s', s0.qf b q R.Q_CFG.CONS = 1 → s0.qEmpty b q = false → slot = s0.qSlot b q (s0.qf b q R.Q_HEAD.HEAD) →
        slot < winA b + 0x40000 → s0.sramRead b (slot - winA b) 32 = (d, false, s') →
        ∃ t, exec (.qpop b c wd wq wa w) s = .next t ∧ t.bytes (sramA b ea) 32 = d ∧
          (∀ x, x < sramA b ea ∨ sramA b ea + 32 ≤ x → t.byte x = s0.byte x) ∧
          t.qf b q R.Q_HEAD.HEAD = (s0.qf b q R.Q_HEAD.HEAD + 1) % 2 ^ (s0.qLog b q + 1) ∧
          (t.cx b c).w = ((v.setW wd 0).afterBody (s0.pcOf b c)).w)))

/-- Of a waiting context of a working engine with none running: QUEUE_WAIT_DONE gives a QPUSH or QPOP on a queue that is off the result REFUSED; TRANSLATED_LOAD_RETURN writes the loaded values to their registers; TRANSLATED_STORE_POST, translated and delivered, posts the store; FENCE_COMPLETE with nothing outstanding completes. Each leaves the context READY with its PC moved on. POSTED_STORE_ERROR takes the oldest posted store away and faults a READY or WAITING context, or marks a RUNNING one; ABORT_COMPLETE leaves an ABORTING context with nothing outstanding IDLE. (R180, R204, R217, R218, R219, R224) -/
def Obligations.QueueAndTranslatedWaitsEnd : Prop :=
  ∀ (s : State) (b c : Nat), s.engineOn b = true → c < 32 →
    (s.ctxState b c = 4 → s.running b = none →
      (∀ q wd a w, (s.cx b c).wait = .qpush q wd a w ∨ (s.cx b c).wait = .qpop q wd a w → s.qOn b q = false →
        s.firstWaiter b c q (decide ((s.cx b c).wait = .qpush q wd a w)) = true →
        ∃ t, exec (.queueWaitDone b c) s = .next t ∧ t.ctxState b c = 2 ∧
          t.cx b c = { ((s.cx b c).setW wd 2).afterBody (s.pcOf b c) with wait := .none } ∧
          t.pcOf b c = (s.cx b c).nextPc (s.pcOf b c) / 4 * 4 % 2 ^ 32) ∧
      (∀ i vs s' net, (s.cx b c).wait = .load i → (s.cx b c).posted = [] →
        State.doLoads b c (some (State.extLoad b c net)) ((s.cx b c).loadPlan i) s = (.done vs, s') → s'.ctxState b c = 4 → s'.running b = none →
        ∃ t, exec (.translatedLoadReturn b c net) s = .next t ∧ t.ctxState b c = 2 ∧
          t.cx b c = { (CtxSt.takeLoads ((s'.cx b c).loadPlan i) vs ((s'.cx b c).macPart i)).afterBody (s'.pcOf b c) with wait := .none }) ∧
      (∀ i a net pa s', (s.cx b c).wait = .store i → (s.cx b c).storePlan i = some a → net.status = 0 →
        s.translate (b / 32) (s.ctxT b c) ((s.cx b c).va a.ea) true = (0, pa, s') → s'.ctxState b c = 4 → s'.running b = none →
        ∃ t, exec (.translatedStorePost b c net) s = .next t ∧ t.ctxState b c = 2 ∧
          (t.cx b c).posted = (s'.cx b c).posted ++ [⟨(s.cx b c).va a.ea, pa, a.size, a.data⟩] ∧ t.mem = s'.mem) ∧
      (∀ net, (s.cx b c).wait = .fence → (s.cx b c).posted = [] →
        ∃ t, exec (.fenceComplete b c net) s = .next t ∧ t.ctxState b c = 2 ∧ t.mem = s.mem ∧
          t.cx b c = { (s.cx b c).afterBody (s.pcOf b c) with wait := .none } ∧
          t.pcOf b c = (s.cx b c).nextPc (s.pcOf b c) / 4 * 4 % 2 ^ 32)) ∧
    (∀ p rest, (s.cx b c).posted = p :: rest →
      ∃ t, exec (.postedStoreError b c) s = .next t ∧ (t.cx b c).posted = rest ∧ t.mem = s.mem ∧
        (s.ctxState b c = 2 ∨ s.ctxState b c = 4 → (s.dbg b).deferred = none → t.ctxState b c = 5 ∧ t.rd (ctxA b c) R.CTX_CAUSE.CAUSE = 0x16 ∧
          t.rd (ctxA b c) R.CTX_CAUSE.IMPRECISE = 1 ∧ t.rd (ctxA b c) R.CTX_INFO.INFO = p.va % 2 ^ 32) ∧
        (s.ctxState b c = 3 → (s.cx b c).pendVa = none → t.ctxState b c = 3 ∧ (t.cx b c).pendVa = some p.va ∧
          t.rd (ctxA b c) R.CTX_STATE.PEND_ERR = 1) ∧
        (s.ctxState b c = 5 → t.rd (ctxA b c) R.CTX_CAUSE.MULTI = 1)) ∧
    (s.ctxState b c = 7 → (s.cx b c).posted = [] → ∀ net, ∃ t, exec (.abortComplete b c net) s = .next t ∧ t = { s with flds := t.flds } ∧
      t.ctxState b c = 1)

/-- MOVER_DESCRIPTOR_START of an idle mover takes the oldest well-formed descriptor and is ACTIVE with BYTES_DONE 0. MOVER_DESCRIPTOR_DONE of a run that ends well and asks for no completion advances the CMDQ and leaves the mover IDLE, or DISABLED with EN = 0. MOVER_FAULT of a run that fails leaves it FAULTED with offset, cause, direction, tag and address recorded and event 4b+1. MOVER_COMPLETION_WRITE frees it once its CPLQ takes the completion. MOVER_RESUME of a FAULTED mover makes it ACTIVE; MOVER_ABORT of one with no CPLQ to take its completion makes it wait with status 1; elsewhere both set CMD_IGN alone. MOVER_CFG_WRITE sets EN and the queues. (R229, R230, R231, R232, R233, R234) -/
def Obligations.MoverCommands : Prop :=
  ∀ (s : State) (b n : Nat), s.bayTakes b = true → n < 4 →
    (∀ q v s', q = s.rd (mvA b n) R.MV_CFG.CMDQ → s.engineOn b = true → s.halted b = false → s.mvState b n = 0 → s.mvTakes b n q = true →
      s.qEmpty b q = false → s.oldest b q = (true, v, s') → descOk v = true →
      ∃ t, exec (.moverDescriptorStart b n) s = .next t ∧ t.mvState b n = 1 ∧ t.rd (mvA b n) R.MV_DONE.BYTES_DONE = 0 ∧
        t.mover (b * 4 + n) = ⟨some (descOf v), none⟩ ∧ t.mem = s'.mem ∧ (∀ k, k ≠ b * 4 + n → t.mover k = s'.mover k)) ∧
    (∀ d s' net, s.mvActive b n = true → (s.mover (b * 4 + n)).desc = some d → d.cpl = false →
      s.mvRun b (s.rd (mvA b n) R.MV_CFG.TCTX) d none net none (d.len / 64 + 2) (s.rd (mvA b n) R.MV_DONE.BYTES_DONE) 0 = (.done, s') →
      s'.rd (mvA b n) R.MV_CFG.CMDQ < 64 → s'.rd (mvA b n) R.MV_CFG.CPLQ < 64 →
      ∃ t, exec (.moverDescriptorDone b n net) s = .next t ∧ t.mover (b * 4 + n) = MoverSt.init ∧ t.mem = s'.mem ∧
        t.rd (mvA b n) R.MV_DONE.BYTES_DONE = d.len % 2 ^ 32 ∧ t.mvState b n = if s'.bit (mvA b n) R.MV_CFG.EN then 0 else 3) ∧
    (∀ d s' at_ net off cause dst, s.mvActive b n = true → (s.mover (b * 4 + n)).desc = some d →
      s.mvRun b (s.rd (mvA b n) R.MV_CFG.TCTX) d at_ net none (d.len / 64 + 2) (s.rd (mvA b n) R.MV_DONE.BYTES_DONE) 0 =
        (.fault off cause dst, s') →
      ∃ t, exec (.moverFault b n at_ net) s = .next t ∧ t.mvState b n = 2 ∧ s'.regsOnly t ∧ s'.bayRegs t b ∧ s'.occurred t (4 * b + 1) 1 ∧
        t.rd (mvA b n) R.MV_DONE.BYTES_DONE = off % 2 ^ 32 ∧ t.rd (mvA b n) R.MV_FINFO.CAUSE = cause % 256 ∧
        t.rd (mvA b n) R.MV_FINFO.DIR = (if dst then 1 else 0) ∧ t.rd (mvA b n) R.MV_FINFO.TAG = d.tag % 65536 ∧
        t.rd (mvA b n) R.MV_FVA_LO.FVA = ((if dst then d.dst else d.src) + off) % 2 ^ 32) ∧
    (∀ k q s', s.engineOn b = true → (s.mover (b * 4 + n)).cpl = some k → q = s.rd (mvA b n) R.MV_CFG.CPLQ → q < 64 → s.qOn b q = true →
      s.qf b q R.Q_CFG.PROD = 2 → s.qFull b q = false → s.produce b q (k.pack (stampOf (s.nowQ (b / 32)))) = (true, s') →
      s'.rd (mvA b n) R.MV_CFG.CMDQ < 64 →
      ∃ t, exec (.moverCompletionWrite b n) s = .next t ∧ t.mover (b * 4 + n) = MoverSt.init ∧ t.mem = s'.mem ∧
        t.rd (mvA b n) R.MV_STATE.CPL_BLOCKED = 0) ∧
    (exec (.moverResume b n) s = .next (if s.mvState b n = 2 then s.wr (mvA b n) R.MV_STATE.STATE 1 else s.wr (mvA b n) R.MV_STATE.CMD_IGN 1)) ∧
    (s.mvState b n ≠ 2 → exec (.moverAbort b n) s = .next (s.wr (mvA b n) R.MV_STATE.CMD_IGN 1)) ∧
    (s.mvState b n = 2 → (s.mover (b * 4 + n)).cpl = none → s.qOn b (s.rd (mvA b n) R.MV_CFG.CPLQ) = false →
      ∃ t k, exec (.moverAbort b n) s = .next t ∧ t.mvState b n = 1 ∧ t.rd (mvA b n) R.MV_STATE.CPL_BLOCKED = 1 ∧
        t.mover (b * 4 + n) = ⟨(s.mover (b * 4 + n)).desc, some k⟩ ∧ k.status = 1 ∧ k.done = s.rd (mvA b n) R.MV_DONE.BYTES_DONE) ∧
    ∀ value : BitVec 32, ∃ t, exec (.moverCfgWrite b n value) s = .next t ∧ t = { s with flds := t.flds } ∧ s.bayRegs t b ∧
      t.rd (mvA b n) R.MV_CFG.EN = bits value.toNat 31 31 ∧ t.rd (mvA b n) R.MV_CFG.CPLQ = bits value.toNat 13 8 ∧
      t.rd (mvA b n) R.MV_CFG.CMDQ = bits value.toNat 5 0 ∧
      (s.mvState b n = 3 → 2 ^ 31 ≤ value.toNat → t.mvState b n = 0) ∧ (s.mvState b n = 0 → value.toNat < 2 ^ 31 → t.mvState b n = 3)

/-- MC_CFG_WRITE is taken in OFF alone, MC_INIT in OFF and FAILED, MC_FILL in READY, MC_OFFLINE in READY and SELF_REFRESH, MC_ONLINE in OFFLINE; elsewhere each sets CMD_IGN alone. MC_TRAINING_DONE that succeeds leads to FILLING, or to READY with every line undefined; one that fails to FAILED with TRAIN_FAIL. MC_FILL_DONE leaves every line of the channel zero, every other byte of memory as it was, and FILL_DONE. MC_OFFLINE_DONE leads to OFFLINE, VDDQ_LOSS to FAILED with every line undefined. (R289, R295, R296, R312, R547) -/
def Obligations.MemoryControllerStates : Prop :=
  ∀ (s : State) (ch : Nat) (value : BitVec 32), s.chOk ch = true →
    (s.mcState ch = 0 → ∃ t, exec (.mcCfgWrite ch value) s = .next t ∧ t = { s with flds := t.flds } ∧
      t.rd (mcA ch) R.MC_CFG.DRAM_FILL_BEFORE_RELEASE = bits value.toNat 31 31 ∧ t.rd (mcA ch) R.MC_CFG.CE_WB = bits value.toNat 30 30 ∧
      t.rd (mcA ch) R.MC_CFG.SR_IDLE = bits value.toNat 15 0 ∧
      t.mcOrg ch = (if bits value.toNat 27 26 = 3 then s.mcOrg ch else bits value.toNat 27 26)) ∧
    (∀ i, (i = Instr.mcCfgWrite ch value ∧ s.mcState ch ≠ 0) ∨ (i = .mcInit ch ∧ s.mcState ch ≠ 0 ∧ s.mcState ch ≠ 6) ∨
        (i = .mcFill ch ∧ s.mcState ch ≠ 3) ∨ (i = .mcOffline ch ∧ s.mcState ch ≠ 3 ∧ s.mcState ch ≠ 4) ∨
        (i = .mcOnline ch ∧ s.mcState ch ≠ 5) →
      exec i s = .next (s.wr (mcA ch) R.MC_STATE.CMD_IGN 1)) ∧
    (s.mcState ch = 0 ∨ s.mcState ch = 6 → ∃ t, exec (.mcInit ch) s = .next t ∧ t.mcState ch = 1 ∧ t = { s with flds := t.flds, mcs := t.mcs }) ∧
    (s.mcState ch = 3 → ∃ t, exec (.mcFill ch) s = .next t ∧ t.mcState ch = 2 ∧ t = { s with flds := t.flds }) ∧
    (s.mcState ch = 5 → ∃ t, exec (.mcOnline ch) s = .next t ∧ t.mcState ch = 3 ∧ t = { s with flds := t.flds }) ∧
    (s.mcState ch = 3 ∨ s.mcState ch = 4 → ∃ t, exec (.mcOffline ch) s = .next t ∧ (t.mc ch).offlining = true ∧ t = { s with mcs := t.mcs }) ∧
    ((s.mc ch).offlining = true → s.mcState ch = 3 ∨ s.mcState ch = 4 → ∃ t, exec (.mcOfflineDone ch) s = .next t ∧ t.mcState ch = 5 ∧ (t.mc ch).offlining = false ∧ t.mem = s.mem) ∧
    (s.mcState ch = 1 →
      (∃ t, exec (.mcTrainingDone ch true) s = .next t ∧
        (s.bit (mcA ch) R.MC_CFG.DRAM_FILL_BEFORE_RELEASE = true → t.mcState ch = 2 ∧ t.mem = s.mem) ∧
        (s.bit (mcA ch) R.MC_CFG.DRAM_FILL_BEFORE_RELEASE = false → t.mcState ch = 3 ∧ ∀ line, t.lineUndef ch line = true)) ∧
      ∃ t, exec (.mcTrainingDone ch false) s = .next t ∧ t.mcState ch = 6 ∧ t.bit (mcA ch) R.MC_STATE.TRAIN_FAIL = true ∧ t.mem = s.mem) ∧
    (s.mcState ch = 2 → ∃ t, exec (.mcFillDone ch) s = .next t ∧ t.mcState ch = 3 ∧
      t.bit (maintA (ch / 2)) (if ch % 2 = 0 then R.ECC_MAINT.FILL_DONE0 else R.ECC_MAINT.FILL_DONE1) = true ∧
      (∀ line, line < 2 ^ 30 → t.lineData ch line = 0 ∧ t.diff (chkLine ch line) = 0 ∧ t.lineUndef ch line = false) ∧
      ∀ x, x < dramA ch 0 ∨ dramA (ch + 1) 0 ≤ x → t.byte x = s.byte x) ∧
    (∃ t, exec (.vddqLoss ch) s = .next t ∧ t.mcState ch = 6 ∧ (∀ line, t.lineUndef ch line = true) ∧
      ∀ x, x < dramA ch 0 ∨ dramA (ch + 1) 0 ≤ x → t.byte x = s.byte x)

/-- REFRESH_DUE of a busy bank with fewer than four postponed refreshes postpones one more and issues none; of an idle bank it issues every postponed refresh and its own. REFRESH_RATE_POLL takes each rank's indication. SELF_REFRESH_ENTRY from READY with SR_IDLE nonzero, SELF_REFRESH_EXIT back; TRACKER_CLEAR empties the trackers; none changes memory. INTERLEAVE_ENABLE of a disabled set writes GRAIN and CHMASK of every live copy, and EN where R291 allows it, else IL_ERR; EN = 0 of an enabled set clears EN in every live copy. (R291, R292, R302, R303, R304) -/
def Obligations.RefreshAndInterleaving : Prop :=
  ∀ (s : State),
    (∀ ch, s.chOk ch = true →
      (∀ bank p, bank < (if s.mcOrg ch = 1 then 128 else 64) → s.mcState ch = 2 ∨ s.mcState ch = 3 → p = Tab.get (fun _ => 0) (s.mc ch).postponed bank →
        (p < 4 → ∃ t, exec (.refreshDue ch bank true) s = .next t ∧ t = { s with mcs := t.mcs } ∧
          Tab.get (fun _ => 0) (t.mc ch).postponed bank = p + 1) ∧
        (∃ t, exec (.refreshDue ch bank false) s = .next t ∧ t = { s with mcs := t.mcs, out := t.out } ∧
          t.out = List.replicate (p + 1) (.refresh ch bank false) ++ s.out ∧ Tab.get (fun _ => 0) (t.mc ch).postponed bank = 0 ∧
          Tab.get (fun _ => 0) (t.mc ch).openRow bank = 0)) ∧
      (s.mcState ch = 2 ∨ s.mcState ch = 3 → ∀ hot0 hot1, ∃ t, exec (.refreshRatePoll ch hot0 hot1) s = .next t ∧ t = { s with mcs := t.mcs } ∧
        Tab.get (fun _ => false) (t.mc ch).fast 0 = hot0 ∧ Tab.get (fun _ => false) (t.mc ch).fast 1 = hot1) ∧
      (s.mcState ch = 3 → s.rd (mcA ch) R.MC_CFG.SR_IDLE ≠ 0 →
        ∃ t, exec (.selfRefreshEntry ch) s = .next t ∧ t.mcState ch = 4 ∧ t = { s with flds := t.flds, mcs := t.mcs }) ∧
      (s.mcState ch = 4 → ∃ t, exec (.selfRefreshExit ch) s = .next t ∧ t.mcState ch = 3 ∧ t = { s with flds := t.flds }) ∧
      (∃ t, exec (.trackerClear ch) s = .next t ∧ t = { s with mcs := t.mcs } ∧ (t.mc ch).tracker = [] ∧
        ∀ k, k ≠ ch → t.mc k = s.mc k)) ∧
    ∀ q set (value : BitVec 32), q ∈ s.mapCopies → set < 8 →
      ∃ t, exec (.interleaveEnable q set value) s = .next t ∧ t = { s with flds := t.flds } ∧
        (s.il q set R.IL_CFG.EN = 1 → value.toNat < 2 ^ 31 → ∀ k, k ∈ s.mapCopies → t.il k set R.IL_CFG.EN = 0) ∧
        (s.il q set R.IL_CFG.EN = 1 → 2 ^ 31 ≤ value.toNat → t = s) ∧
        (s.il q set R.IL_CFG.EN ≠ 1 →
          (∀ k, k ∈ s.mapCopies → t.il k set R.IL_CFG.GRAIN = bits value.toNat 12 8 ∧ t.il k set R.IL_CFG.CHMASK = bits value.toNat 7 0) ∧
          (2 ^ 31 ≤ value.toNat → t.ilOk q set = true → ∀ k, k ∈ s.mapCopies → t.il k set R.IL_CFG.EN = 1) ∧
          (2 ^ 31 ≤ value.toNat → t.ilOk q set = false → t.rd (mapA q) R.IL_STAT.IL_ERR = 1 ∧
            ∀ k, k ∈ s.mapCopies → t.il k set R.IL_CFG.EN = s.il k set R.IL_CFG.EN))

/-- SCRUB_READ of an enabled, running scrubber in READY moves to the next line, or to line 0 with PASS_DONE past the last. SCRUB_PARITY_MISMATCH stops it with SCRUB_HALT; SCRUB_RESTART starts it again once SCRUB_CTL has been rewritten, and before that sets CMD_IGN. LOG_CLEAR empties its log. ECC_TEST_WRITE stores the 80 raw symbols in the line under test and no other byte, ECC_TEST_READ reads the symbols of a defined line, ECC_TEST_DONE ends BUSY. SG_TEST_WRITE and SG_TEST_READ set RESULT, and where it is 0 store or read the data and the check bits of the target. (R307, R313, R314, R316, R317, R318) -/
def Obligations.ScrubbingAndTestWindows : Prop :=
  ∀ (s : State),
    (∀ ch line, s.chOk ch = true → line = s.rd (eccA ch) R.SCRUB_POS.LINE →
      (s.bit (eccA ch) R.SCRUB_CTL.EN = true → (s.mc ch).stopped = false → s.mcState ch = 3 →
        ∃ t, exec (.scrubRead ch) s = .next t ∧
          (64 * (line + 1) < s.mcCap ch → t.rd (eccA ch) R.SCRUB_POS.LINE = line + 1) ∧
          (s.mcCap ch ≤ 64 * (line + 1) → t.rd (eccA ch) R.SCRUB_POS.LINE = 0 ∧ t.bit (eccA ch) R.SCRUB_STAT.PASS_DONE = true)) ∧
      (∃ t, exec (.scrubParityMismatch ch) s = .next t ∧ (t.mc ch).stopped = true ∧ t.rd (eccA ch) R.SCRUB_STAT.RUNNING = 0 ∧
        t.bit (eccA ch) R.SCRUB_STAT.SCRUB_HALT = true ∧ t.mem = s.mem) ∧
      ((s.mc ch).stopped = true → (s.mc ch).rewritten = true →
        ∃ t, exec (.scrubRestart ch) s = .next t ∧ (t.mc ch).stopped = false ∧ t = { s with flds := t.flds, mcs := t.mcs } ∧
          t.rd (eccA ch) R.SCRUB_STAT.RUNNING = s.rd (eccA ch) R.SCRUB_CTL.EN % 2) ∧
      ((s.mc ch).stopped = true → (s.mc ch).rewritten = false → s.bit (eccA ch) R.SCRUB_STAT.SCRUB_HALT = true →
        exec (.scrubRestart ch) s = .next (s.wr (mcA ch) R.MC_STATE.CMD_IGN 1)) ∧
      (s.bit (eccA ch) R.ECC_TEST_CTL.EN = true → s.mcServes ch = true →
        (∃ t, exec (.eccTestWrite ch) s = .next t ∧ t.rd (eccA ch) R.ECC_TEST_CTL.BUSY = 1 ∧
          (∀ i, i < 80 → symbolOf (t.lineData ch (s.testLine ch))
            (lineCheck (t.lineData ch (s.testLine ch)) ^^^ t.diff (chkLine ch (s.testLine ch))) i =
              byteOf (s.rd (eccA ch) (R.ECC_TEST_RAW.RAW.shift (i / 4 * 4))) (i % 4)) ∧
          ∀ x, x < dramA ch (64 * s.testLine ch) ∨ dramA ch (64 * s.testLine ch) + 64 ≤ x → t.byte x = s.byte x) ∧
        (s.lineUndef ch (s.testLine ch) = false → ∃ t, exec (.eccTestRead ch) s = .next t ∧ t.rd (eccA ch) R.ECC_TEST_CTL.BUSY = 1 ∧ t.mem = s.mem ∧
          ∀ w j, w < 20 → j < 4 → byteOf (t.rd (eccA ch) (R.ECC_TEST_RAW.RAW.shift (4 * w))) j =
            symbolOf (s.lineData ch (s.testLine ch)) (lineCheck (s.lineData ch (s.testLine ch)) ^^^ s.diff (chkLine ch (s.testLine ch))) (4 * w + j))) ∧
      exec (.eccTestDone ch) s = .next (s.wr (eccA ch) R.ECC_TEST_CTL.BUSY 0)) ∧
    ∀ q, s.quadLive q = true →
      (∀ log a, log < 3 → a = (if log = 2 then sgA q else eccA (2 * q + log)) → ∃ t, exec (.logClear q log) s = .next t ∧
        t = { s with flds := t.flds } ∧ t.rd a R.LOG_STAT.NEXT = 0 ∧ t.rd a R.LOG_STAT.FILLED = 0) ∧
      (s.bit (sgA q) R.SG_TEST_CTL.EN = true →
        (∃ t, exec (.sgTestWrite q) s = .next t ∧ t.rd (sgA q) R.SG_TEST_CTL.RESULT = s.sgResult q ∧
          (s.sgResult q ≠ 0 → t = { s with flds := t.flds }) ∧
          (s.sgResult q = 0 → (t.sgTarget q).2.1 =
              (s.rd (sgA q) R.SG_TEST_DATA.DATA + 2 ^ 32 * s.rd (sgA q) R.SG_TEST_DATAH.DATA) % 2 ^ (s.sgTarget q).1 ∧
            t.diff (s.sgTarget q).2.2 = s.rd (sgA q) R.SG_TEST_DATAH.CHECK ^^^ checkBits (s.sgTarget q).1 (t.sgTarget q).2.1)) ∧
        ∃ t, exec (.sgTestRead q) s = .next t ∧ t = { s with flds := t.flds } ∧ t.rd (sgA q) R.SG_TEST_CTL.RESULT = s.sgResult q ∧
          (s.sgResult q = 0 → t.rd (sgA q) R.SG_TEST_DATA.DATA = (s.sgTarget q).2.1 % 2 ^ 32 ∧
            t.rd (sgA q) R.SG_TEST_DATAH.CHECK =
              (checkBits (s.sgTarget q).1 (s.sgTarget q).2.1 ^^^ s.diff (s.sgTarget q).2.2) % 2 ^ R.SG_TEST_DATAH.CHECK.width))

/-- ISLAND_FENCE in RUN or STOPPED leads to FENCING, or to SLACK with DRAIN_LIMIT 0; ISLAND_FENCE_DRAINED and ISLAND_FENCE_TIMEOUT lead from FENCING to SLACK, the latter with FENCE_TIMEOUT; ISLAND_UNFENCE leads back to RUN. ISLAND_RESET outside HOLD leads to RESET with every slice cleared, ISLAND_RESET_DONE to RUN or SLACK as commanded last. BIST_START in SLACK leads to BIST, elsewhere it records DENIED, and BIST_DONE to SLACK with its result, zero stores and event 689. An active edge of the clock takes every flip-flop to its next value. None of them touches memory. (R59, R61, R65, R108, R109, R111, R113, R123) -/
def Obligations.IslandStates : Prop :=
  ∀ (s : State) (i : Nat), s.islOk i = true →
    (s.islState i = 0 ∨ s.islState i = 6 → ∃ t, exec (.islandFence i) s = .next t ∧ t.mem = s.mem ∧
      t.islState i = if s.rd (islA i) R.ISL_DRAIN.DRAIN_LIMIT = 0 then 2 else 1) ∧
    (s.islState i = 3 → (∃ t, exec (.islandFence i) s = .next t ∧ t = { s with islands := t.islands } ∧ (t.island i).after = .slack) ∧
      ∃ t, exec (.islandUnfence i) s = .next t ∧ t = { s with islands := t.islands } ∧ (t.island i).after = .run) ∧
    (s.islState i = 1 → s.drained i = true → ∃ t, exec (.islandFenceDrained i) s = .next t ∧ t.islState i = 2 ∧ t.mem = s.mem) ∧
    (s.islState i = 1 → s.power.phase ≠ 1 → ∃ t, exec (.islandFenceTimeout i) s = .next t ∧ t.islState i = 2 ∧ t.mem = s.mem ∧
      t.bit (islA i) R.ISL_STATE.FENCE_TIMEOUT = true) ∧
    (s.islState i = 1 ∨ s.islState i = 2 → ∃ t, exec (.islandUnfence i) s = .next t ∧ t.islState i = 0 ∧ t.mem = s.mem) ∧
    (s.islState i ≠ 5 → ∃ t, exec (.islandReset i) s = .next t ∧ t.islState i = 3 ∧ (t.island i).slices = [] ∧ (t.island i).after = .run ∧
      t.mem = s.mem) ∧
    (s.islState i = 3 → ∃ t, exec (.islandResetDone i) s = .next t ∧ t.mem = s.mem ∧
      t.islState i = if (s.island i).after = .run then 0 else 2) ∧
    (s.islState i = 2 → ∃ t, exec (.bistStart i) s = .next t ∧ t.islState i = 4 ∧ t.rd (islA i) R.ISL_BIST.RESULT = 1 ∧
      (t.island i).slices = [] ∧ t.mem = s.mem) ∧
    (s.islState i ≠ 2 → s.islState i ≠ 4 → s.islState i ≠ 5 → exec (.bistStart i) s = .next (s.wr (islA i) R.ISL_BIST.RESULT 8)) ∧
    (∀ result unit, s.islState i = 4 → s.rd (islA i) R.ISL_BIST.RESULT = 1 → 2 ≤ result → result ≤ 6 →
      ∃ t, exec (.bistDone i result unit) s = .next t ∧ t.islState i = 2 ∧ t.rd (islA i) R.ISL_BIST.RESULT = result ∧ t.mem = s.mem ∧
        (result ≠ 2 → t.rd (islA i) R.ISL_BIST.FAIL_UNIT = unit % 256) ∧ (t.island i).slices = [] ∧ s.occurred t 689 1 ∧
        ∀ st row, st < 16 → row < 1024 → t.row (rowKey i st row) = 0) ∧
    ∀ cfg rising gpio, s.cfgOf i = some cfg → s.islState i < 2 → s.railLocked (i / 96) (s.rd (islA i) R.ISL_CLKSTAT.RAIL_NOW) = true →
      ((s.island i).clk = rising → exec (.islandClockEdge i rising gpio) s = .next s) ∧
      ((s.island i).clk ≠ rising → ∃ t, ∃ c c' : Scene, exec (.islandClockEdge i rising gpio) s = .next t ∧ (t.island i).clk = rising ∧ t.mem = s.mem ∧
        c = Scene.mk s i cfg (s.island i).clk gpio (fun k => Config.freeBool (s.free + k)) ∧
        c'.i = i ∧ c'.cfg = cfg ∧ c'.clk = rising ∧ c'.gpio = gpio ∧
        (t.island i).q = c'.resets c'.settle (c.flops c.settle rising) ∧ (rising = false → (t.island i).slices = (s.island i).slices ∧ t.rows = s.rows))

/-- ISL_CLK_WRITE sets its four fields, a bay in RESET left out; DIVIDER_RAMP_STEP moves DIV_NOW one step toward its target on a locked rail, or at the largest divider takes the new rail; LEVEL_VOLTAGE_DONE puts the wanted level in force. BCAST_STOP stops exactly the islands in RUN or FENCING of the named groups that the tree reaches, BCAST_GO returns the stopped ones to RUN. BCAST_CAPTURE copies the state of each reached island in RUN, FENCING or STOPPED, with its CAPTURED bit, clears the bit of the others, and counts event 707. (R92, R93, R94, R114, R115, R116, R442) -/
def Obligations.IslandClocksAndBroadcasts : Prop :=
  ∀ (s : State),
    (∀ g, s.genOk g = true →
      (∀ value : BitVec 32, (448 ≤ g → s.bayTakes (g - 448) = true) → ∃ t, exec (.islClkWrite g value) s = .next t ∧ s.regsOnly t ∧ t.rd (genA g) R.ISL_CLK.RAMP = bits value.toNat 23 16 ∧
        t.rd (genA g) R.ISL_CLK.RAIL = bits value.toNat 15 14 ∧ t.rd (genA g) R.ISL_CLK.PLVL = bits value.toNat 10 8 ∧
        t.rd (genA g) R.ISL_CLK.DIV = bits value.toNat 5 0 ∧ t.rd (genA g) R.ISL_CLKSTAT.DIV_NOW = s.rd (genA g) R.ISL_CLKSTAT.DIV_NOW) ∧
      (s.bit (genA g) R.ISL_CLKSTAT.RAMPING = true → s.genStopped g = false →
        s.railLocked (genQuad g) (s.rd (genA g) R.ISL_CLK.RAIL) = true →
        ∃ t, exec (.dividerRampStep g) s = .next t ∧ s.regsOnly t ∧
          (s.rd (genA g) R.ISL_CLK.RAIL ≠ s.rd (genA g) R.ISL_CLKSTAT.RAIL_NOW → s.rd (genA g) R.ISL_CLKSTAT.DIV_NOW = 63 →
            t.rd (genA g) R.ISL_CLKSTAT.RAIL_NOW = s.rd (genA g) R.ISL_CLK.RAIL % 4 ∧ t.rd (genA g) R.ISL_CLKSTAT.DIV_NOW = 63) ∧
          (s.rd (genA g) R.ISL_CLKSTAT.DIV_NOW + 1 < s.divTarget g → s.rd (genA g) R.ISL_CLKSTAT.DIV_NOW < 63 →
            t.rd (genA g) R.ISL_CLKSTAT.DIV_NOW = s.rd (genA g) R.ISL_CLKSTAT.DIV_NOW + 1) ∧
          (s.divTarget g < s.rd (genA g) R.ISL_CLKSTAT.DIV_NOW + 1 → s.rd (genA g) R.ISL_CLK.RAIL = s.rd (genA g) R.ISL_CLKSTAT.RAIL_NOW →
            s.rd (genA g) R.ISL_CLKSTAT.DIV_NOW < 64 → t.rd (genA g) R.ISL_CLKSTAT.DIV_NOW = s.rd (genA g) R.ISL_CLKSTAT.DIV_NOW - 1)) ∧
      (s.bit (genA g) R.ISL_CLKSTAT.VBUSY = true → ∃ t, exec (.levelVoltageDone g) s = .next t ∧ s.regsOnly t ∧
        t.rd (genA g) R.ISL_CLKSTAT.PLVL_NOW = s.levelWanted g % 8)) ∧
    (∀ mask, ∃ t, exec (.bcastStop mask) s = .next t ∧ t.mem = s.mem ∧ t.out = .broadcast 5 (mask % 16) :: s.out ∧
      ∀ i, i < 384 → t.islState i = if s.treeReaches (i / 96) = true ∧ (s.rd (islA i) R.ISL_CTRL.GRP &&& mask % 16) ≠ 0 ∧
        (s.islState i = 0 ∨ s.islState i = 1) then 6 else s.islState i) ∧
    (∀ mask, ∃ t, exec (.bcastGo mask) s = .next t ∧ t.mem = s.mem ∧ t.out = .broadcast 6 (mask % 16) :: s.out ∧
      ∀ i, i < 384 → t.islState i = if s.treeReaches (i / 96) = true ∧ (s.rd (islA i) R.ISL_CTRL.GRP &&& mask % 16) ≠ 0 ∧
        s.islState i = 6 then 0 else s.islState i) ∧
    ∃ t, exec .bcastCapture s = .next t ∧ t.mem = s.mem ∧ t.ctxs = s.ctxs ∧ s.occurred t 707 1 ∧
      ∀ i, i < 384 → s.treeReaches (i / 96) = true → t.islState i = s.islState i ∧
        (t.rd (snapA (i / 96)) (R.SNAP_CAP.CAPTURED.shift (4 * (i % 96 / 32)))).testBit (i % 32) =
          decide (s.islState i = 0 ∨ s.islState i = 1 ∨ s.islState i = 6) ∧
        (s.islState i = 0 ∨ s.islState i = 1 ∨ s.islState i = 6 → ∀ w, w < 176 → Tab.get (fun _ => 0) (t.island i).snap w = s.snapWord i w)

/-- With its words or its space there, a READ or READ4 at the head of a port is removed and its one or four words appended to RDATA, the stored rows unchanged; a WRITE or WRITE4 is removed with its one or four WDATA words, and a word whose four byte enables are 1 is stored at its address, once writing is enabled. STORE_FILL_DONE ends the fill of every store, and with no initial contents waiting changes nothing else. (R82, R83, R84, R85, R87, R88) -/
def Obligations.DeepStoreCommands : Prop :=
  ∀ (s : State),
    (∀ d b w rest a, d < 64 → s.quadLive (d / 16) = true → s.awake (2000 + d) = true → (s.chan (s.deepChan d b 29)).words = w :: rest →
      a = w.1 / 2 ^ 17 % 131072 →
      (w.1 / 2 ^ 34 = 0 → s.deepReady d b false 1 = true → ∃ t, exec (.deepStoreRead d b) s = .next t ∧
        (t.chan (s.deepChan d b 29)).words = rest ∧ t.rows = s.rows ∧ t.mem = s.mem ∧
        (t.chan (s.deepChan d b 31)).words = (s.chan (s.deepChan d b 31)).words ++ [((s.deepRead d a).1 % 2 ^ 36, 0)]) ∧
      (w.1 / 2 ^ 34 = 2 → s.deepReady d b false 4 = true → ∃ t, exec (.deepStoreRead4 d b) s = .next t ∧
        (t.chan (s.deepChan d b 29)).words = rest ∧ t.rows = s.rows ∧ t.mem = s.mem ∧
        (t.chan (s.deepChan d b 31)).words = (s.chan (s.deepChan d b 31)).words ++
          (List.range 4).map (fun k => ((s.deepRead d (a + k)).1 % 2 ^ 36, 0))) ∧
      (w.1 / 2 ^ 34 = 1 → s.deepReady d b true 1 = true → ∃ t, exec (.deepStoreWrite d b) s = .next t ∧
        (t.chan (s.deepChan d b 29)).words = rest ∧ (t.chan (s.deepChan d b 30)).words = (s.chan (s.deepChan d b 30)).words.drop 1 ∧
        t.mem = s.mem ∧ (∀ k, k ≠ deepKey d a → t.row k = s.row k) ∧
        ∀ x, (s.chan (s.deepChan d b 30)).words[0]? = some x → (s.deep d).wrEn = true → x.1 / 2 ^ 32 % 16 = 15 →
          t.row (deepKey d a) = x.1 % 2 ^ 32) ∧
      (w.1 / 2 ^ 34 = 3 → s.deepReady d b true 4 = true → ∃ t, exec (.deepStoreWrite4 d b) s = .next t ∧
        (t.chan (s.deepChan d b 29)).words = rest ∧ (t.chan (s.deepChan d b 30)).words = (s.chan (s.deepChan d b 30)).words.drop 4 ∧
        t.mem = s.mem ∧ (∀ k, (∀ j, j < 4 → k ≠ deepKey d ((a + j) % 131072)) → t.row k = s.row k) ∧
        ∀ j x, j < 4 → (s.chan (s.deepChan d b 30)).words[j]? = some x → (s.deep d).wrEn = true → x.1 / 2 ^ 32 % 16 = 15 →
          t.row (deepKey d ((a + j) % 131072)) = x.1 % 2 ^ 32)) ∧
    (s.load.inits = [] → ∃ t, exec .storeFillDone s = .next t ∧ t = { s with islands := t.islands, deeps := t.deeps, load := t.load } ∧
      t.load = { s.load with fill := false } ∧ (∀ i, i < 384 → (t.island i).filling = false) ∧ ∀ d, d < 64 → (t.deep d).filling = false)

/-- RD_REQ and WR_REQ to a hole are answered ADDRESS at the entry port; on an open route to bay SRAM, RD_REQ is answered OK with the data and leaves memory as it was, WR_REQ of all bytes of an aligned word or more writes them and no other byte. RD_RSP and WR_RSP that reach their initiator end its request with the status carried, or count in NOC_LATE where none waits. RSP_TIMEOUT_EXPIRY ends a request with TIMEOUT, HOLD_LIMIT_EXPIRY answers a held request ROUTE_FENCED and drops any other held packet. MSG with a THROTTLE payload, and THROTTLE, begin a spacing; THROTTLE_EXPIRY ends it. (R257, R258, R259, R260, R275, R276, R306) -/
def Obligations.NocRequestsAndResponses : Prop :=
  ∀ (s : State),
    (∀ p be data net n lane pa, s.rtOk p.src = true → p.size ≤ 6 → n = 2 ^ p.size → pa = p.pa % 2 ^ 48 → pa % n = 0 → lane = pa % 64 →
      (s.target? pa = .hole → ∀ i w, (i, w) ∈ [(Instr.rdReq p net, false), (.wrReq p be data net, true)] →
        ∃ t, exec i s = .next t ∧ t = { s with flight := t.flight, blocked := t.blocked } ∧
          t.flight = s.flight ++ [⟨p.src, portOf p.src (p.sport % 4), p.tag, w, 2, 0, 3⟩]) ∧
      (∀ b off, s.target? pa = .sram b off → s.heldOn (s.route p.src (routerNum (b / 32) (b % 32))) = none → s.bayHeld pa = false →
        ((s.sramRead b off n).2.1 = false → ∃ t, exec (.rdReq p net) s = .next t ∧ t.mem = s.mem ∧ t.ctxs = s.ctxs ∧
          t.flight = s.flight ++ [⟨routerNum (b / 32) (b % 32), portOf p.src (p.sport % 4), p.tag, false, 0,
            (s.sramRead b off n).1 * 2 ^ (8 * lane), 1⟩]) ∧
        ((s.bay b).sramOpen = true → 2 ≤ p.size → be / 2 ^ lane % 2 ^ n = 2 ^ n - 1 →
          ∃ t, exec (.wrReq p be data net) s = .next t ∧ t.bytes (sramA b off) n = data / 2 ^ (8 * lane) % 2 ^ (8 * n) ∧
            (∀ x, x < sramA b off ∨ sramA b off + n ≤ x → t.byte x = s.byte x) ∧
            t.flight = s.flight ++ [⟨routerNum (b / 32) (b % 32), portOf p.src (p.sport % 4), p.tag, true, 0, 0, 1⟩]))) ∧
    (∀ port tag w r i, s.rtOk (port / 4) = true → (i, w) ∈ [(Instr.rdRsp port tag, false), (.wrRsp port tag, true)] →
      s.flight.find? (fun r => decide (r.port = port) && decide (r.tag = tag) && decide (r.write = w)) = some r →
      s.heldOn (s.route r.src (port / 4)) = none →
      (∀ o, s.outst.find? (fun o => decide (o.port = port) && decide (o.tag = tag)) = some o → o.owner = .other →
        ∃ t, exec i s = .next t ∧ t.outst = s.outst.erase o ∧ t.flight = s.flight.erase r ∧ t.mem = s.mem ∧
          t.out = .response o.port o.tag r.status r.data :: s.out) ∧
      (s.outst.find? (fun o => decide (o.port = port) && decide (o.tag = tag)) = none →
        ∃ t, exec i s = .next t ∧ t.outst = s.outst ∧ t.flight = s.flight.erase r ∧
          t.rd (nocA (rtQuad (port / 4))) R.NOC_LATE.COUNT =
            min (s.rd (nocA (rtQuad (port / 4))) R.NOC_LATE.COUNT + 1) (2 ^ R.NOC_LATE.COUNT.width - 1))) ∧
    (∀ port tag o, s.rtOk (port / 4) = true → s.outst.find? (fun o => decide (o.port = port) && decide (o.tag = tag)) = some o → o.owner = .other →
      ∃ t, exec (.rspTimeoutExpiry port tag) s = .next t ∧ t.outst = s.outst.erase o ∧ t.mem = s.mem ∧
        t.out = .response o.port o.tag 5 0 :: s.out ∧ s.occurred t (520 + rtQuad (port / 4)) 1) ∧
    (∀ r h, s.blocked.find? (fun h => decide (h.router = r)) = some h →
      ∃ t, exec (.holdLimitExpiry r) s = .next t ∧ t.blocked = s.blocked.erase h ∧ t.mem = s.mem ∧
        (h.request = true → t.flight = s.flight ++ [⟨r, h.port, h.tag, h.write, 3, 0, 1⟩]) ∧
        t.rd (rtA r) (if h.request then R.RT_HOLDCNT.FENCED else R.RT_HOLDCNT.DROP) =
          min (s.rd (rtA r) (if h.request then R.RT_HOLDCNT.FENCED else R.RT_HOLDCNT.DROP) + 1) 65535) ∧
    (∀ src dest dport payload, s.rtOk src = true → s.rtOk dest = true → s.heldOn (s.route src dest) = none →
      ∃ t, exec (.msg src dest dport payload) s = .next t ∧ t.mem = s.mem ∧ t.ctxs = s.ctxs ∧
        (payload % 256 = 1 → Tab.get (fun _ => 0) t.throttled (portOf dest (dport % 4) * 8 + bits payload 10 8) = bits payload 23 16 + 1) ∧
        (payload % 256 ≠ 1 → t.throttled = s.throttled)) ∧
    ∀ port ch gap time, s.rtOk (port / 4) = true → port % 4 < 3 →
      (∃ t, exec (.throttle port ch gap time) s = .next t ∧ t = { s with throttled := t.throttled } ∧
        Tab.get (fun _ => 0) t.throttled (port * 8 + ch % 8) = gap % 256 + 1) ∧
      ∃ t, exec (.throttleExpiry port ch) s = .next t ∧ t = { s with throttled := t.throttled } ∧
        Tab.get (fun _ => 0) t.throttled (port * 8 + ch % 8) = 0

/-- ROUTER_FENCE of a router in RUN leads to DRAINING, or sets FENCE_DENIED on a protected route; ROUTER_FENCED leads to FENCED with event 512+q, ROUTER_UNFENCE to RUN. RT_CFG_WRITE takes depths that fit of a FENCED router and sets CFG_IGN elsewhere. PROBE_CLEAR zeroes the four counters; PROBE_TRACE_RECORD takes the oldest staged record to the ring, or counts it as dropped when the ring is full. TCTX_WRITE reaches every live copy, and context 0 is fixed. XU_INVALIDATE joins the invalidations in progress; XU_INV_DONE ends the oldest with event 733, and one of all contexts empties every unit. (R236, R241, R274, R277, R278, R281, R282) -/
def Obligations.RoutersProbesAndTranslation : Prop :=
  ∀ (s : State),
    (∀ r (value : BitVec 32), s.rtOk r = true →
      (s.fenceDenied r = false → s.rtState r = 0 → exec (.routerFence r) s = .next (s.wr (rtA r) R.RT_STATE.STATE 1)) ∧
      (s.fenceDenied r = true → ∃ t, exec (.routerFence r) s = .next t ∧ s.regsOnly t ∧ t.bit (rtA r) R.RT_STATE.FENCE_DENIED = true ∧
        t.rtState r = s.rtState r) ∧
      exec (.routerUnfence r) s = .next (s.wr (rtA r) R.RT_STATE.STATE 0) ∧
      (s.rtState r = 1 → ∃ t, exec (.routerFenced r) s = .next t ∧ s.regsOnly t ∧ t.rtState r = 2 ∧ s.occurred t (512 + (routerLocal r).1) 1) ∧
      (s.rtState r = 2 → bits value.toNat 11 9 + bits value.toNat 8 6 + bits value.toNat 5 3 + bits value.toNat 2 0 + 4 ≤ 16 →
        ∃ t, exec (.rtCfgWrite r value) s = .next t ∧ t = { s with flds := t.flds } ∧ t.rd (rtA r) R.RT_CFG.VCD3 = bits value.toNat 11 9 ∧
          t.rd (rtA r) R.RT_CFG.VCD2 = bits value.toNat 8 6 ∧ t.rd (rtA r) R.RT_CFG.VCD1 = bits value.toNat 5 3 ∧
          t.rd (rtA r) R.RT_CFG.VCD0 = bits value.toNat 2 0) ∧
      (s.rtState r ≠ 2 → ∃ t, exec (.rtCfgWrite r value) s = .next t ∧ s.regsOnly t ∧ t.bit (rtA r) R.RT_STATE.CFG_IGN = true ∧
        t.rd (rtA r) R.RT_CFG.VCD0 = s.rd (rtA r) R.RT_CFG.VCD0)) ∧
    (∀ q p, s.quadLive q = true → p < 8 →
      (∃ t, exec (.probeClear q p) s = .next t ∧ t = { s with flds := t.flds } ∧ t.rd (prbA q p) R.PRB_PKT.PKT = 0 ∧
        t.rd (prbA q p) R.PRB_FLIT.FLIT = 0 ∧ t.rd (prbA q p) R.PRB_WAIT.WAIT = 0 ∧ t.rd (prbA q p) R.PRB_AGEMAX.AGEMAX = 0) ∧
      ∀ k rest n, (s.probe (q * 8 + p)).stage = k :: rest → n = 2 ^ (min 14 (s.rd (prbA q p) R.PRB_TRING_HI.LEN) + 8) →
        ∃ t, exec (.probeTraceRecord q p) s = .next t ∧ (t.probe (q * 8 + p)).stage = rest ∧
          ((t.probe (q * 8 + p)).loss = false → t.rd (prbA q p) R.PRB_TWR.WR = (s.rd (prbA q p) R.PRB_TWR.WR + 1) % n) ∧
          ((s.rd (prbA q p) R.PRB_TWR.WR + 1) % n = s.rd (prbA q p) R.PRB_TRD.RD → (t.probe (q * 8 + p)).loss = true ∧ t.mem = s.mem ∧
            t.rd (prbA q p) R.PRB_TDROP.DROP = min (s.rd (prbA q p) R.PRB_TDROP.DROP + 1) (2 ^ 32 - 1))) ∧
    (∀ addr w t0 off (value : BitVec 32), locate addr = some (w, .tctx, t0, off) → s.quadLive w = true → t0 < 4096 →
      (t0 = 0 → exec (.tctxWrite addr value) s = .next s) ∧
      (t0 ≠ 0 → off = 0 → ∃ t, exec (.tctxWrite addr value) s = .next t ∧ t = { s with flds := t.flds } ∧
        ∀ q, s.quadOk q = true → s.qReset q = false → t.rd (tctxA q t0) R.TCTX_LO.V = bits value.toNat 0 0 ∧
          t.rd (tctxA q t0) R.TCTX_LO.RO = bits value.toNat 2 2 ∧ t.rd (tctxA q t0) R.TCTX_LO.ROOT = bits value.toNat 31 12)) ∧
    (∀ q (value : BitVec 32), s.quadLive q = true → bits value.toNat 31 30 ≠ 3 →
      ∃ t, exec (.xuInvalidate q value) s = .next t ∧ t = { s with flds := t.flds, invWait := t.invWait } ∧ t.rd (xuA q) R.XU_INV_STAT.BUSY = 1 ∧
        t.invWait = s.invWait ++ [(q * 4 + bits value.toNat 31 30, bits value.toNat 11 0,
          s.rd (xuA q) R.XU_INV_VA_LO.VA * 4096 + s.rd (xuA q) R.XU_INV_VA_HI.VA * 2 ^ 32)]) ∧
    ∀ k c va rest, s.invWait = (k, c, va) :: rest → ∃ t, exec .xuInvDone s = .next t ∧ t.invWait = rest ∧ t.mem = s.mem ∧ s.occurred t 733 1 ∧
      ∀ q, s.quadOk q = true → t.xu q = (s.xu q).discard (k % 4) c va ∧ (k % 4 = 0 → t.xu q = XuSt.init)

/-- At a NAP without configured bundles and with nothing waiting inbound: a master request with MST_EN = 0 is answered ERROR and sends nothing; one that translates to a target on the mesh stands outstanding under its tag; a target response ends the request of its TTAG, or sets LATE_RSP where none has it; ABORT and the expiry of HOLD answer every held request XLATE, the latter with HOLD_EXPIRED; RESUME carries the held request out. USER_EVENT_EDGE and EVT_SWSET count their events alone. EVENT_DELIVERY of due occurrences clears them and sets the EPEND bit of the routed context. (R243, R247, R248, R249, R269, R270, R271, R273) -/
def Obligations.NapsAndEvents : Prop :=
  ∀ (s : State),
    (∀ r (q : MasterReq) (ans : Nat → MasterReq → Output), s.rtOk r = true → s.napBundle r = false → s.chanCfg (napIsland r) 6 0 = none →
      (s.nap r).inbound = [] → (ans = fun st x => .bundle r ((if x.write then 2 ^ 34 else 0) + x.tag % 64 * 2 ^ 25 + st * 2 ^ 22) 0 0 0) →
      (s.bit (rtA r) R.NAP_CFG.MST_EN = false →
        ∃ t, exec (.napMasterRequest r q) s = .next t ∧ t.outst = s.outst ∧ t.mem = s.mem ∧ t.out = ans 1 q :: s.out) ∧
      (s.bit (rtA r) R.NAP_CFG.MST_EN = true → (∀ o, o ∈ s.outst → o.port ≠ portOf r 0 ∨ o.tag ≠ q.tag % 64) → (s.nap r).held = [] →
        s.napF r R.NAP_XCFG.TCTX = 0 → s.target? (q.va % 2 ^ 48) ≠ .hole → s.target? (q.va % 2 ^ 48) ≠ .absent →
        ∃ t, exec (.napMasterRequest r q) s = .next t ∧ t = { s with outst := t.outst } ∧
          t.outst = s.outst ++ [⟨portOf r 0, q.tag % 64, q.write, q.va % 2 ^ 48, 2 ^ q.size, .nap⟩]) ∧
      (∀ ttag status data, (∀ x, (s.nap r).tgt.find? (fun x => decide (x.ttag = ttag % 64)) = some x →
          ∃ t, exec (.napTargetResponse r ttag status data) s = .next t ∧ t.mem = s.mem ∧ t.flight = s.flight ++
            [⟨r, x.port, x.tag, x.write, if status = 0 then 0 else 1, if status = 0 then data % 2 ^ 512 else 0, 0⟩]) ∧
        ((s.nap r).tgt.find? (fun x => decide (x.ttag = ttag % 64)) = none →
          ∃ t, exec (.napTargetResponse r ttag status data) s = .next t ∧ s.regsOnly t ∧ t.bit (rtA r) R.NAP_STAT.LATE_RSP = true)) ∧
      (s.bit (napA r) R.NAP_FSTAT.HOLDING = true →
        (∃ t, exec (.napAbort r) s = .next t ∧ (t.nap r).held = [] ∧ t.rd (napA r) R.NAP_FSTAT.HOLDING = 0 ∧ t.mem = s.mem ∧
          t.out = ((s.nap r).held.map (ans 7)).reverse ++ s.out) ∧
        (s.napF r R.NAP_XCFG.HOLD ≠ 0 → ∃ t, exec (.napHoldExpiry r) s = .next t ∧ (t.nap r).held = [] ∧ t.mem = s.mem ∧
          t.rd (napA r) R.NAP_FSTAT.HOLDING = 0 ∧ t.rd (napA r) R.NAP_FSTAT.HOLD_EXPIRED = 1 ∧
          t.out = ((s.nap r).held.map (ans 7)).reverse ++ s.out) ∧
        ((s.nap r).held = [q] → s.bit (rtA r) R.NAP_CFG.MST_EN = true → s.outst = [] → s.napF r R.NAP_XCFG.TCTX = 0 →
          s.target? (q.va % 2 ^ 48) ≠ .hole → s.target? (q.va % 2 ^ 48) ≠ .absent →
          ∃ t, exec (.napResume r) s = .next t ∧ (t.nap r).held = [] ∧ t.rd (napA r) R.NAP_FSTAT.HOLDING = 0 ∧ t.mem = s.mem ∧
            t.outst = [⟨portOf r 0, q.tag % 64, q.write, q.va % 2 ^ 48, 2 ^ q.size, .nap⟩]))) ∧
    (∀ r k, s.rtOk r = true → (routerLocal r).2 < 32 → k < 2 → ∃ t, exec (.userEventEdge r k) s = .next t ∧ s.regsOnly t ∧
      s.occurred t (768 + 64 * rtQuad r + 2 * (routerLocal r).2 + k) 1) ∧
    (∀ k (value : BitVec 32), k < 32 → ∃ t, exec (.evtSwset k value) s = .next t ∧ s.regsOnly t ∧
      ∀ j, j < 32 → s.evtOk (32 * k + j) = true → (value.toNat.testBit j = true → s.occurred t (32 * k + j) 1) ∧
        (value.toNat.testBit j = false → t.rd (evtA (32 * k + j)) R.EVT_STAT.OCC = s.rd (evtA (32 * k + j)) R.EVT_STAT.OCC)) ∧
    ∀ e b c, e < 1024 → s.evtDue e = true → b = s.rd (evtA e) R.EVT_ENG.BAY → c = s.rd (evtA e) R.EVT_ENG.CTX →
      ∃ t, exec (.eventDelivery e) s = .next t ∧ t.evt e = ⟨0, 0, some s.counter⟩ ∧ t.rd (evtA e) R.EVT_STAT.PENDING = 0 ∧ t.mem = s.mem ∧
        (s.bit (evtA e) R.EVT_CFG.HOST_EN = false → t.out = s.out) ∧ (s.bit (evtA e) R.EVT_CFG.ENG_EN = false → t.ctxs = s.ctxs) ∧
        (s.bit (evtA e) R.EVT_CFG.ENG_EN = true → s.bayOk b = true → s.bayState b < 2 →
          (t.cx b c).epend = (s.cx b c).epend ||| BitVec.ofNat 32 (2 ^ s.rd (evtA e) R.EVT_ENG.BIT))

/-- LANE_CFG_WRITE takes a MODE the lane supports and keeps any other; a change of MODE ends both locks. LANE_TX_SLEEP, with no frame in transmission, and LANE_RX_SLEEP put their direction to sleep, the latter losing lock, and wake it. LREFCLK_LOSS and LREFCLK_RETURN show on REF_OK of every lane of the quadrant. CDR_LOCK_ACQUIRE locks an awake receiver; CDR_LOCK_LOSS drops both locks and sets LOCK_LOST. BLOCK_RECEIVE locks at the 64th valid header in a row, slips on a bad one, and loses lock at the 16th bad one. BLOCK_TRANSMIT of a RAW66 lane sends the popped pair or counts TX_UNDER and sends the idle block. PRBS_CHECKER seeds, locks and counts. (R325, R326, R327, R330, R331, R333, R334, R335) -/
def Obligations.LanesAndBlocks : Prop :=
  ∀ (s : State),
    (∀ q, s.quadOk q = true → ∀ i v, (i, v) ∈ [(Instr.lrefclkLoss q, 0), (.lrefclkReturn q, 1)] →
      ∃ t, exec i s = .next t ∧ t = { s with flds := t.flds, lrefOff := t.lrefOff } ∧ (t.noLref q = true ↔ v = 0) ∧
        ∀ l, l ∈ quadLanes q → t.lf l R.LN_STAT.REF_OK = v) ∧
    ∀ l, s.laneOk l = true →
      (∀ value : BitVec 32, ∃ t, exec (.laneCfgWrite l value) s = .next t ∧ t.mem = s.mem ∧ t.lf l R.LN_CFG.TXEQ = bits value.toNat 11 8 ∧
        t.lf l R.LN_CFG.MODE = (if laneSupports l (bits value.toNat 31 28) then bits value.toNat 31 28 else s.lf l R.LN_CFG.MODE) ∧
        (t.lf l R.LN_CFG.MODE ≠ s.lf l R.LN_CFG.MODE → t.lb l R.LN_STAT.CDR_LOCK = false ∧ t.lb l R.LN_STAT.BLOCK_LOCK = false)) ∧
      (s.lf l R.LN_CFG.MODE ≠ 0 →
        (s.txHeld l = false → ∃ t, exec (.laneTxSleep l true) s = .next t ∧ t.lb l R.LN_STAT.TX_ON = false ∧ t.mem = s.mem) ∧
        (∃ t, exec (.laneTxSleep l false) s = .next t ∧ t.lb l R.LN_STAT.TX_ON = true ∧ t.mem = s.mem) ∧
        ∀ inFrame, (∃ t, exec (.laneRxSleep l true inFrame) s = .next t ∧ t.lb l R.LN_STAT.RX_ON = false ∧ t.lb l R.LN_STAT.CDR_LOCK = false ∧
            t.lb l R.LN_STAT.BLOCK_LOCK = false ∧ t.mem = s.mem) ∧
          ∃ t, exec (.laneRxSleep l false inFrame) s = .next t ∧ t.lb l R.LN_STAT.RX_ON = true ∧ t.mem = s.mem) ∧
      (s.lb l R.LN_STAT.REF_OK = true → s.lb l R.LN_STAT.RX_ON = true → s.lb l R.LN_STAT.TX_ON = true → s.lb l R.LN_STAT.CDR_LOCK = false →
        ∃ t, exec (.cdrLockAcquire l) s = .next t ∧ t.lb l R.LN_STAT.CDR_LOCK = true ∧ (t.lane l).hunt = 0 ∧ t.mem = s.mem) ∧
      (s.lb l R.LN_STAT.CDR_LOCK = true → ∃ t, exec (.cdrLockLoss l) s = .next t ∧ t.lb l R.LN_STAT.CDR_LOCK = false ∧
        t.lb l R.LN_STAT.BLOCK_LOCK = false ∧ t.lb l R.LN_STAT.LOCK_LOST = true ∧ t.mem = s.mem) ∧
      (∀ hdr payload h, s.laneBlocks l = true → s.rxPath l = true →
        h = (if s.lb l R.LN_CFG.RX_INV then 3 - hdr % 4 else hdr % 4) → ∃ t, exec (.blockReceive l hdr payload) s = .next t ∧
          (s.lb l R.LN_STAT.BLOCK_LOCK = false → h = 1 ∨ h = 2 → ((s.lane l).hunt ≠ 63 → (t.lane l).hunt = (s.lane l).hunt + 1 ∧ t.flds = s.flds) ∧
            ((s.lane l).hunt = 63 → t.lb l R.LN_STAT.BLOCK_LOCK = true)) ∧
          (s.lb l R.LN_STAT.BLOCK_LOCK = false → h = 0 ∨ h = 3 → (t.lane l).hunt = 0 ∧ t.lb l R.LN_STAT.BLOCK_LOCK = false ∧
            t.lf l R.LN_STAT.SLIPS = min (s.lf l R.LN_STAT.SLIPS + 1) (2 ^ R.LN_STAT.SLIPS.width - 1)) ∧
          (s.lb l R.LN_STAT.BLOCK_LOCK = true → h = 0 ∨ h = 3 → (s.lane l).bad = 15 →
            t.lb l R.LN_STAT.BLOCK_LOCK = false ∧ t.lb l R.LN_STAT.LOCK_LOST = true)) ∧
      (∀ i a b st pair, s.lb l R.LN_STAT.TX_ON = true → s.lf l R.LN_CFG.MODE = 3 → (s.lane l).txScr = some st → s.ownData l = true →
        s.lb l R.LN_CFG.TX_INV = false → i = laneIsland l → a = (s.chan (s.chanId i 7 0)).sinkEdge → b = (s.chan (s.chanId i 7 1)).sinkEdge →
        pair = (a.valid && b.valid && decide (s.chanMode i 7 0 ≠ 2)) →
        ∃ t, exec (.blockTransmit l) s = .next t ∧ t.mem = s.mem ∧
          (pair = true → t.out = .block l ((a.words.head?.map (·.1)).getD 0 / 2 ^ 34 % 4)
            (scramble true 64 ((a.words.head?.map (·.1)).getD 0 % 2 ^ 32 + (b.words.head?.map (·.1)).getD 0 % 2 ^ 32 * 2 ^ 32) st).1 :: s.out) ∧
          (pair = false → t.out = .block l 2 (scramble true 64 0x1E st).1 :: s.out ∧
            t.lf l R.LN_RAWCNT.TX_UNDER = min (s.lf l R.LN_RAWCNT.TX_UNDER + 1) (2 ^ R.LN_RAWCNT.TX_UNDER.width - 1))) ∧
      (∀ b v sel, 96 ≤ l → b < 2 → s.lf l R.LN_CFG.MODE = 4 → s.rxPath l = true →
        s.lb l R.LN_CFG.RX_INV = false → v = s.lane l → sel = s.lf l R.LN_CFG.PRBS → ∃ t, exec (.prbsChecker l [b]) s = .next t ∧ t.mem = s.mem ∧
          (v.seeded < (prbsTaps sel).1 → t.lane l = { v with ref := prbsPush sel v.ref b, seeded := v.seeded + 1 }) ∧
          ((prbsTaps sel).1 ≤ v.seeded → s.lb l R.LN_STAT.CHK_LOCK = false → prbsNext sel v.ref = b →
            (v.clean = 63 → t.lb l R.LN_STAT.CHK_LOCK = true) ∧ (v.clean ≠ 63 → (t.lane l).clean = v.clean + 1)) ∧
          ((prbsTaps sel).1 ≤ v.seeded → s.lb l R.LN_STAT.CHK_LOCK = true → prbsNext sel v.ref ≠ b →
            t.lf l R.LN_PRBSERR.COUNT = min (s.lf l R.LN_PRBSERR.COUNT + 1) (2 ^ R.LN_PRBSERR.COUNT.width - 1)))

/-- MAC_CFG_WRITE sets EN and the filters; the port and the address only while EN = 0. MAC_LINK_CHANGE makes LINK what its conditions say and adds to the FEC counters. MAC_PAUSE_SEND of an enabled, linked MAC sends one PAUSE frame, PAUSE_TIMER_EXPIRY ends a pause. RING_ENABLE of a disabled ring empties and enables one that lies where R340 allows, and sets RING_ERR for any other. TX_RING_WR_WRITE moves WR within the free entries and sets OVERRUN for any other value. CAN_CFG_WRITE sets EN and, while EN = 0, the bit timing; CAN_RESTART starts the recovery of a bus-off controller, whose end clears both error counters. (R337, R338, R339, R340, R343, R344, R346) -/
def Obligations.MacCanAndRingRegisters : Prop :=
  ∀ (s : State) (value : BitVec 32),
    (∀ e, s.macOk e = true →
      (∃ t, exec (.macCfgWrite e 0 value) s = .next t ∧ t.mem = s.mem ∧ t.rd (macA e) R.MAC_CFG.EN = bits value.toNat 31 31 ∧
        t.rd (macA e) R.MAC_CFG.PROMISC = bits value.toNat 30 30 ∧ t.rd (macA e) R.MAC_CFG.MCAST = bits value.toNat 29 29 ∧
        t.rd (macA e) R.MAC_CFG.KEEPBAD = bits value.toNat 28 28 ∧ t.rd (macA e) R.MAC_CFG.MAXLEN = bits value.toNat 13 0 ∧
        t.rd (macA e) R.MAC_CFG.PORT =
          (if s.bit (macA e) R.MAC_CFG.EN ∨ 8 < bits value.toNat 23 20 then s.rd (macA e) R.MAC_CFG.PORT else bits value.toNat 23 20)) ∧
      (∀ reg, reg = 1 ∨ reg = 2 → s.bit (macA e) R.MAC_CFG.EN = true → exec (.macCfgWrite e reg value) s = .next s) ∧
      (s.bit (macA e) R.MAC_CFG.EN = false → exec (.macCfgWrite e 1 value) s = .next (s.wr (macA e) R.MAC_ADDR_LO.ADDR value.toNat)) ∧
      (∀ report : MacReport, ∃ t, exec (.macLinkChange e report) s = .next t ∧ t.mem = s.mem ∧ t.bit (macA e) R.MAC_STAT.LINK = t.linkDue e ∧
        (t.mac e).pcs = report.pcs ∧ (t.mac e).fec = report.fec ∧ t.bit (macA e) R.MAC_STAT.LOCAL_FAULT = report.localFault ∧
        t.rd (macA e) R.MAC_FECUNC.COUNT = min (s.rd (macA e) R.MAC_FECUNC.COUNT + report.unc) (2 ^ R.MAC_FECUNC.COUNT.width - 1)) ∧
      (s.bit (macA e) R.MAC_CFG.EN = true → s.bit (macA e) R.MAC_STAT.LINK = true → s.macDrives e = true → s.macLoops e = false →
        exec (.macPauseSend e) s = .next (s.emit (.pauseFrame e (s.rd (macA e) R.MAC_PAUSE.QUANTA)))) ∧
      (∃ t, exec (.pauseTimerExpiry e) s = .next t ∧ t = { s with macs := t.macs } ∧ (t.mac e).paused = false)) ∧
    (∀ r, r < 48 → s.ringOk r = true →
      (s.rf r R.TX_CFG.EN ≠ 1 → 2 ^ 31 ≤ value.toNat → ∃ t, exec (.ringEnable r value) s = .next t ∧ t.mem = s.mem ∧
        t.rf r R.TX_CFG.LEN = bits value.toNat 23 20 ∧
        (t.ringFits r = true → t.rf r R.TX_CFG.EN = 1 ∧ t.rf r R.TX_WR.WR = 0 ∧ t.rf r R.TX_RD.RD = 0) ∧
        (t.ringFits r = false → t.rf r R.TX_CFG.EN = 0 ∧ t.rf r R.TX_CFG.RING_ERR ≠ 0)) ∧
      (s.rf r R.TX_CFG.EN = 1 → ∃ t, exec (.ringEnable r value) s = .next t ∧ t = { s with flds := t.flds } ∧
        t.rf r R.TX_CFG.EN = bits value.toNat 31 31) ∧
      ∀ v n wr, r % 2 = 0 → v = value.toNat % 2 ^ 15 → n = s.ringCount r → wr = s.rf r R.TX_WR.WR →
        (v < n → (v + n - wr % n) % n ≤ n - 1 - (wr + n - s.rf r R.TX_RD.RD % n) % n →
          exec (.txRingWrWrite r value) s = .next (s.wr (ringA r) (ringF r R.TX_WR.WR) v)) ∧
        (n ≤ v ∨ n - 1 - (wr + n - s.rf r R.TX_RD.RD % n) % n < (v + n - wr % n) % n →
          ∃ t, exec (.txRingWrWrite r value) s = .next t ∧ s.regsOnly t ∧ t.rf r R.TX_WR.WR = wr ∧ t.rf r R.TX_CFG.OVERRUN ≠ 0)) ∧
    ∀ n, s.canOk n = true →
      (∃ t, exec (.canCfgWrite n 0 value) s = .next t ∧ t = { s with flds := t.flds } ∧ t.rd (canA n) R.CAN_CFG.EN = bits value.toNat 31 31 ∧
        t.rd (canA n) R.CAN_CFG.FD_EN = bits value.toNat 28 28 ∧ t.rd (canA n) R.CAN_CFG.AUTO_REC = bits value.toNat 27 27) ∧
      (∀ reg, reg = 1 ∨ reg = 2 → s.bit (canA n) R.CAN_CFG.EN = true → exec (.canCfgWrite n reg value) s = .next s) ∧
      (s.bit (canA n) R.CAN_CFG.EN = false → ∃ t, exec (.canCfgWrite n 1 value) s = .next t ∧ t = { s with flds := t.flds } ∧
        t.rd (canA n) R.CAN_NBT.NBRP = bits value.toNat 31 24 ∧ t.rd (canA n) R.CAN_NBT.NSJW = bits value.toNat 7 0) ∧
      (s.rd (canA n) R.CAN_STAT.STATE = 2 → ∃ t, exec (.canRestart n) s = .next t ∧ t = { s with cans := t.cans } ∧ (t.can n).recovering = true) ∧
      (s.rd (canA n) R.CAN_STAT.STATE ≠ 2 → exec (.canRestart n) s = .next s) ∧
      (s.rd (canA n) R.CAN_STAT.STATE = 2 → s.bit (canA n) R.CAN_CFG.AUTO_REC = true ∨ (s.can n).recovering = true →
        ∃ t, exec (.canBusOffRecovery n) s = .next t ∧ t.rd (canA n) R.CAN_STAT.STATE = 0 ∧ t.rd (canA n) R.CAN_STAT.TEC = 0 ∧
          t.rd (canA n) R.CAN_STAT.REC = 0 ∧ (t.can n).recovering = false ∧ t.mem = s.mem)

/-- A MAC that hears counts a frame with a wrong FCS in CRC and one beyond MAXLEN in OVERSIZE, honours PAUSE, and counts an accepted frame in MAC_RXFRM. MAC_TX_ENTRY begins the agent's frame first, else the frame of the head entry as it lies in memory; MAC_LAUNCH that of a held entry whose instant has come; MAC_TX_COMPLETE sends it out and counts it. A CAN frame with an error counts in PROTO and REC, a good one lowers REC. CAN_TX_ENTRY begins a retry, the agent's frame or the head entry's, CAN_LAUNCH a held one; CAN_TX_COMPLETE sends it, or counts the loss or the error; CAN_BUS_OFF leaves TEC 255 and BUS_OFF. (R338, R339, R341, R344, R345, R346, R366) -/
def Obligations.FramesReceivedAndSent : Prop :=
  ∀ (s : State) (net : Net),
    (∀ e (f : Bytes), s.macHears e = true → 60 ≤ f.length →
      (s.bit (macA e) R.MAC_CFG.KEEPBAD = false → exec (.macFrameReceive e f false net) s = .next (s.bump (macA e) R.MAC_RXERR.CRC 1)) ∧
      (s.maxLen e < f.length + 4 → exec (.macFrameReceive e f true net) s = .next (s.bump (macA e) R.MAC_RXERR.OVERSIZE 1)) ∧
      (f.length + 4 ≤ s.maxLen e → s.bit (macA e) R.MAC_PAUSE.RX_PAUSE_EN = true → beAt f 12 2 = 0x8808 → beAt f 14 2 = 1 →
        ∃ t, exec (.macFrameReceive e f true net) s = .next t ∧ t = { s with macs := t.macs } ∧ (t.mac e).paused = decide (beAt f 16 2 ≠ 0)) ∧
      (f.length + 4 ≤ s.maxLen e → s.bit (macA e) R.MAC_PAUSE.RX_PAUSE_EN = false → s.ptpTakes e f = false → s.agentOn = false →
        s.macAccepts e f = true → 32 + f.length ≤ 2 ^ (s.rd (macA e) R.RX_CFG.SLOT + 11) →
        s.rf (2 * e + 1) R.TX_CFG.EN = 0 ∨ (s.rf (2 * e + 1) R.TX_WR.WR + 1) % s.ringCount (2 * e + 1) = s.rf (2 * e + 1) R.TX_RD.RD →
        ∃ t, exec (.macFrameReceive e f true net) s = .next t ∧ t.mem = s.mem ∧ (t.mac e).seq = ((s.mac e).seq + 1) % 2 ^ 32 ∧
          t.rd (macA e) R.MAC_RXFRM.COUNT = min (s.rd (macA e) R.MAC_RXFRM.COUNT + 1) (2 ^ R.MAC_RXFRM.COUNT.width - 1) ∧
          (s.rf (2 * e + 1) R.TX_CFG.EN ≠ 0 → t.rf (2 * e + 1) R.TX_DROP.COUNT =
            min (s.rf (2 * e + 1) R.TX_DROP.COUNT + 1) (2 ^ R.TX_DROP.COUNT.width - 1)))) ∧
    (∀ e, s.macFree e = true →
      (∀ f rest, (s.mac e).agent = f :: rest → s.bit (macA e) R.MAC_STAT.LINK = true → (s.mac e).paused = false →
        ∃ t j, exec (.macTxEntry e net) s = .next t ∧ t.mem = s.mem ∧ (t.mac e).agent = rest ∧ (t.mac e).tx = some j ∧ j.frame = f ∧ j.ring = false) ∧
      ∀ i nt fl v s1 d s2 len, (i, nt, fl) ∈ [(Instr.macTxEntry e net, net, 0), (.macLaunch e, netOk, 2)] → s.txPending (2 * e) = true →
        (fl = 0 → (s.mac e).agent = []) → (fl = 2 → (s.mac e).waiting = true ∧ (s1.mac e).waiting = true ∧
          (launchDue (s1.nowQ (e / 4)) (bits v 127 96) (bits v 159 128)).1 = true) →
        s.spanRead (laneWho (e / 4)) nt 33 (s.ringSlot (2 * e) (s.rf (2 * e) R.TX_RD.RD)) 32 = (0, v, s1) → len = bits v 79 64 →
        s1.bit (macA e) R.MAC_STAT.LINK = true → 60 ≤ len → len ≤ s1.maxLen e - 4 → bits v 63 48 = 0 → bits v 95 80 = fl →
        (s1.mac e).paused = false → s1.spanRead (laneWho (e / 4)) nt (len + 1) (bits v 47 0) len = (0, d, s2) →
        s2.tcAt e (leBytes d len) = none →
        ∃ t j, exec i s = .next t ∧ t.mem = s2.mem ∧ (t.mac e).tx = some j ∧ j.frame = leBytes d len ∧ j.ring = true ∧ j.late = false) ∧
    (∀ e j, s.macOk e = true → (s.mac e).tx = some j → j.cut = false → j.ring = false ∨ s.rf (2 * e) R.TX_CFG.EN ≠ 1 → s.macDrives e = true →
      s.macLoops e = false → ∃ t, exec (.macTxComplete e net) s = .next t ∧ t.mem = s.mem ∧ (t.mac e).tx = none ∧
        t.out = .frame e j.frame false :: s.out ∧
        t.rd (macA e) R.MAC_TXFRM.COUNT = min (s.rd (macA e) R.MAC_TXFRM.COUNT + 1) (2 ^ R.MAC_TXFRM.COUNT.width - 1)) ∧
    ∀ n tec rec, s.canLive n = true → tec = s.rd (canA n) R.CAN_STAT.TEC → rec = s.rd (canA n) R.CAN_STAT.REC →
      (∀ f, s.rd (canA n) R.CAN_CFG.MODE ≠ 2 →
        (∃ t, exec (.canFrameReceive n f true net) s = .next t ∧ t.mem = s.mem ∧ t.rd (canA n) R.CAN_STAT.REC = min (rec + 1) 255 ∧
          t.rd (canA n) R.CAN_ERRCNT.PROTO = min (s.rd (canA n) R.CAN_ERRCNT.PROTO + 1) (2 ^ R.CAN_ERRCNT.PROTO.width - 1)) ∧
        (f.fdf = false → s.agentOn = false → s.canFilter n f = none → rec ≤ 127 →
          ∃ t, exec (.canFrameReceive n f false net) s = .next t ∧ t.mem = s.mem ∧ t.rd (canA n) R.CAN_STAT.REC = rec - 1)) ∧
      (s.canSends n = true →
        (∀ x, (s.can n).tx = some x → ∃ t, exec (.canTxEntry n net) s = .next t ∧ t.mem = s.mem ∧ (t.can n).busy = true ∧
          ((t.can n).tx.map (·.1)) = some x.1) ∧
        (∀ f rest, (s.can n).tx = none → (s.can n).agent = f :: rest → ∃ t, exec (.canTxEntry n net) s = .next t ∧ t.mem = s.mem ∧
          (t.can n).busy = true ∧ (t.can n).own = true ∧ (t.can n).agent = rest ∧ ((t.can n).tx.map (·.1)) = some f) ∧
        ∀ i nt fl v s1, (i, nt, fl) ∈ [(Instr.canTxEntry n net, net, 0), (.canLaunch n, netOk, 1)] → s.txPending (32 + 2 * n) = true →
          (s.can n).tx = none → (fl = 0 → (s.can n).agent = []) → (fl = 1 → (s.can n).waiting = true ∧
            (launchDue (s1.nowQ (n / 2)) (bits v 95 64) (bits v 127 96)).1 = true) →
          s.spanRead (laneWho (n / 2)) nt 129 (s.ringSlot (32 + 2 * n) (s.rf (32 + 2 * n) R.TX_RD.RD)) 128 = (0, v, s1) →
          v.testBit 31 = false → v.testBit 36 = false → bits v 39 38 = 0 → bits v 63 40 = fl →
          ∃ t fr, exec i s = .next t ∧ t.mem = s1.mem ∧ (t.can n).busy = true ∧ (t.can n).own = false ∧ ((t.can n).tx.map (·.1)) = some fr ∧
            fr.id = (if v.testBit 29 then bits v 28 0 else bits v 10 0) ∧ fr.ide = v.testBit 29 ∧ fr.rtr = v.testBit 30 ∧ fr.dlc = bits v 35 32) ∧
      (∀ x, (s.can n).busy = true → (s.can n).tx = some x → (s.can n).own = true →
        (s.rd (canA n) R.CAN_CFG.MODE ≠ 2 → ∃ t, exec (.canTxComplete n 0 net) s = .next t ∧ t.mem = s.mem ∧ (t.can n).tx = none ∧
          t.out = .canFrame n x.1 :: s.out ∧ t.rd (canA n) R.CAN_STAT.TEC = min (tec - 1) 255) ∧
        (∃ t, exec (.canTxComplete n 1 net) s = .next t ∧ t.mem = s.mem ∧ (t.can n).tx = some x ∧ (t.can n).busy = false ∧
          t.rd (canA n) R.CAN_ERRCNT.ARB_LOST = min (s.rd (canA n) R.CAN_ERRCNT.ARB_LOST + 1) (2 ^ R.CAN_ERRCNT.ARB_LOST.width - 1)) ∧
        (tec ≤ 247 → ∃ t, exec (.canTxComplete n 2 net) s = .next t ∧ t.mem = s.mem ∧ (t.can n).tx = some x ∧ (t.can n).busy = false ∧
          t.rd (canA n) R.CAN_STAT.TEC = tec + 8) ∧
        ∃ t, exec (.canBusOff n net) s = .next t ∧ t.mem = s.mem ∧ t.rd (canA n) R.CAN_STAT.STATE = 2 ∧ t.rd (canA n) R.CAN_STAT.TEC = 255 ∧
          (t.can n).tx = none ∧ (t.can n).agent = x.1 :: (s.can n).agent)

/-- DOM_OFS_LOAD loads OFS_d from the word written and the two held words and DOM_ADJ adds its signed 64-bit value, each as a step that clears LOCKED and, for the active domain outside a switch, moves the offset in force and sets STEPPED. DOM_RATE_WRITE with SVO_EN = 0 loads RATE_d and adjusts OFS_d so that T_d stays, and is ignored with SVO_EN = 1. HOST_SAMPLE with SRC = HOST, and a PTP_MESSAGE_RECEIVE that completes an offset with SRC = PTP, reach a running servo: VALID sets, θ is shown, a first sample changes no rate, a later one moves I and RATE_d by the servo's law, and one beyond STEP_THR steps OFS_d. DOMAIN_SAMPLE_TIMEOUT clears VALID and LOCKED. TIME_CHANGE_APPLY outside a switch puts the active domain in force. (R354, R358, R359, R360, R361, R364) -/
def Obligations.TimeDomainsAndServo : Prop :=
  ∀ (s : State) (d : Nat) (value : BitVec 32), s.timeOk = true → d < 2 →
    (∀ i n, (i, n) ∈ [(Instr.domOfsLoad d value, ((s.dom d).held0 + (s.dom d).held1 * 2 ^ 32 + value.toNat * 2 ^ 64 : Int)),
        (.domAdj d value, s.dOfs d + sext 64 (s.rd (domA 0 d) R.DOM_ADJ_LO.ADJ + value.toNat * 2 ^ 32))] →
      ∃ t, exec i s = .next t ∧ t.mem = s.mem ∧ t.dOfs d = sext 96 (wrapTo 96 n) ∧ t.dRate d = s.dRate d ∧
        (t.dOfs d ≠ s.dOfs d → t.rd (domA 0 d) R.DOM_STAT.STEPPED = 1 ∧ t.bit (domA 0 d) R.DOM_STAT.LOCKED = false ∧
          (s.act = d → s.switching = false → t.ofsNow = t.dOfs d ∧ t.rateNow = t.dRate d ∧ t.bit (tuA 0) R.TU_STAT.STEPPED = true))) ∧
    (s.bit (domA 0 d) R.DOM_CFG.SVO_EN = true → exec (.domRateWrite d value) s = .next s) ∧
    (s.bit (domA 0 d) R.DOM_CFG.SVO_EN = false → ∃ t, exec (.domRateWrite d value) s = .next t ∧ t.mem = s.mem ∧ t.dRate d = value.toInt ∧
      (value.toInt ≠ s.dRate d → t.dOfs d = sext 96 (wrapTo 96 (s.dOfs d + (s.counter : Int) * s.dRate d / 2 ^ 24 - (s.counter : Int) * value.toInt / 2 ^ 24))) ∧
      (value.toInt = s.dRate d → t = s)) ∧
    (s.rd (domA 0 d) R.DOM_CFG.SRC ≠ 2 → exec (.hostSample d value) s = .next (s.wr (domA 0 d) R.DOM_SMP_HI.THETA value.toNat)) ∧
    (∀ i e (lo hi : Nat) (theta : Int) (m y ri rr : Int) (c : Nat) (w : BitVec 64),
      (i, lo, hi, theta) ∈ [(Instr.hostSample d value, s.rd (domA 0 d) R.DOM_SMP_LO.THETA, value.toNat,
          sext 64 (s.rd (domA 0 d) R.DOM_SMP_LO.THETA + value.toNat * 2 ^ 32)),
        (.ptpMessageReceive d e (some w), w.toNat % 2 ^ 32, w.toNat / 2 ^ 32, w.toInt)] →
      s.rd (domA 0 d) R.DOM_CFG.SRC = (match i with | .hostSample _ _ => 2 | _ => 0) → s.bit (domA 0 d) R.DOM_CFG.SVO_EN = true →
      (i = .ptpMessageReceive d e (some w) → s.macOk e = true ∧ s.bit (domA 0 d) R.DOM_CFG.PTP_EN = true ∧ s.rd (domA 0 d) R.DOM_CFG.PORT = e) →
      lo < 2 ^ 32 →
      m = min 2147483647 ((s.rd (domA 0 d) R.DOM_SVO.RATE_MAX : Int) * 65536) → y = theta * 2 ^ 24 / ((s.counter : Int) - c) →
      ri = max (-m) (min m (sext 32 (s.rd (domA 0 d) R.DOM_INT.I) - y / 2 ^ s.rd (domA 0 d) R.DOM_CFG.KI)) →
      rr = max (-m) (min m (ri - y / 2 ^ s.rd (domA 0 d) R.DOM_CFG.KP)) →
      ∃ t, exec i s = .next t ∧ t.mem = s.mem ∧ t.bit (domA 0 d) R.DOM_STAT.VALID = true ∧ (t.dom d).last = some s.counter ∧
        t.rd (domA 0 d) R.DOM_LAST_LO.THETA = lo ∧ t.rd (domA 0 d) R.DOM_LAST_HI.THETA = hi ∧
        (s.rd (domA 0 d) R.DOM_SVO.STEP_THR = 0 → (s.dom d).last = none → t.dRate d = s.dRate d ∧ t.dOfs d = s.dOfs d) ∧
        (s.rd (domA 0 d) R.DOM_SVO.STEP_THR = 0 → (s.dom d).last = some c → c < s.counter →
          t.rd (domA 0 d) R.DOM_INT.I = wrapTo 32 ri ∧ t.dRate d = rr) ∧
        (s.rd (domA 0 d) R.DOM_SVO.STEP_THR ≠ 0 → s.rd (domA 0 d) R.DOM_SVO.STEP_THR * 65536000 < theta.natAbs →
          t.dOfs d = sext 96 (wrapTo 96 (s.dOfs d - theta)) ∧ t.dRate d = s.dRate d)) ∧
    (∃ t, exec (.domainSampleTimeout d) s = .next t ∧ t.mem = s.mem ∧ t.bit (domA 0 d) R.DOM_STAT.VALID = false ∧
      t.bit (domA 0 d) R.DOM_STAT.LOCKED = false ∧ (t.dom d).good = 0 ∧ t.dOfs d = s.dOfs d ∧ t.dRate d = s.dRate d) ∧
    (s.switching = true → exec .timeChangeApply s = .next s) ∧
    (s.switching = false → ∃ t, exec .timeChangeApply s = .next t ∧ t = { s with flds := t.flds, ofsNow := t.ofsNow, rateNow := t.rateNow } ∧
      t.ofsNow = s.dOfs s.act ∧ t.rateNow = s.dRate s.act)

/-- DOMAIN_SWITCH makes ACT the bit written; when it changes, the new domain's time takes over at once where the times are equal, by a step where they differ by more than SW_STEP_MAX or SW_SLEW is 0, and else by a slewed rate that keeps the time; SWITCH_COMPLETE ends the slew once it has met the new time. TD_STREAM_LOSS makes quadrant q keep what it holds and sets TD_LOST, TD_STREAM_RETURN ends that. FRAME_ENABLE takes the first boundary of the schedule not before now, FR_PERIOD_WRITE sets the period, FRAME_NOTICE generates the next boundary and numbers it. TIME_SNAPSHOT copies the quadrant's time and the counter. (R355, R362, R367, R368, R369, R374) -/
def Obligations.SwitchesStreamsAndFrames : Prop :=
  ∀ (s : State) (value : BitVec 32),
    (s.timeOk = true → ∀ d delta k r, d = value.toNat % 2 → delta = s.dNow d - s.now →
      k = ((s.rd (tuA 0) R.TU_SWCFG.SW_SLEW : Int)) * 65536 → r = max (-2147483648) (min 2147483647 (s.dRate d + if 0 < delta then k else -k)) →
      ∃ t, exec (.domainSwitch value) s = .next t ∧ t.mem = s.mem ∧ t.act = d ∧
        (s.act = d → s.switching = false → t.ofsNow = s.ofsNow ∧ t.rateNow = s.rateNow) ∧
        (s.act ≠ d ∨ s.switching = true →
          (delta = 0 → t.switching = false ∧ t.ofsNow = s.dOfs d ∧ t.rateNow = s.dRate d ∧ s.occurred t 641 1) ∧
          (delta ≠ 0 → ((s.rd (tuA 0) R.TU_SWCFG.SW_STEP_MAX : Int)) * 65536000 < delta.natAbs ∨ k = 0 →
            t.switching = false ∧ t.ofsNow = s.dOfs d ∧ t.rateNow = s.dRate d ∧ t.bit (tuA 0) R.TU_STAT.STEPPED = true) ∧
          (delta ≠ 0 → (delta.natAbs : Int) ≤ (s.rd (tuA 0) R.TU_SWCFG.SW_STEP_MAX : Int) * 65536000 → k ≠ 0 → r ≠ s.dRate d →
            t.switching = true ∧ t.rateNow = r ∧
            t.ofsNow = sext 96 (wrapTo 96 (s.ofsNow + (s.counter : Int) * s.rateNow / 2 ^ 24 - (s.counter : Int) * r / 2 ^ 24))))) ∧
    (s.timeOk = true → s.switching = true → (s.dRate s.act < s.rateNow → s.dNow s.act ≤ s.now) → (s.rateNow ≤ s.dRate s.act → s.now ≤ s.dNow s.act) →
      ∃ t, exec .switchComplete s = .next t ∧ t.mem = s.mem ∧ t.switching = false ∧ t.ofsNow = s.dOfs s.act ∧ t.rateNow = s.dRate s.act ∧ s.occurred t 641 1) ∧
    (∀ q, s.timeOk = true → s.quadOk q = true → 1 ≤ q → q < 4 →
      ((s.rd (tuA 0) R.TU_STAT.TD_LOCK).testBit q = true → ∃ t, exec (.tdStreamLoss q) s = .next t ∧ t.mem = s.mem ∧
        (t.rd (tuA 0) R.TU_STAT.TD_LOCK).testBit q = false ∧ (t.rd (tuA 0) R.TU_STAT.TD_LOST).testBit q = true ∧
        t.held q = some ⟨s.ofsNow, s.rateNow, s.notice, s.nextB, s.framePeriod⟩ ∧ t.nowQ q = s.now) ∧
      (s.treeReaches q = true → ∃ t, exec (.tdStreamReturn q) s = .next t ∧ t = { s with flds := t.flds, heldT := t.heldT } ∧
        (t.rd (tuA 0) R.TU_STAT.TD_LOCK).testBit q = true ∧ t.held q = none) ∧
      ∀ h bt n, s.held q = some h → h.nextB = some (bt, n) → ∃ t, exec (.frameNotice q) s = .next t ∧ t = { s with heldT := t.heldT } ∧
        t.held q = some { h with notice := some (bt, n), nextB := some (bt + h.period, (n + 1) % 2 ^ 32) }) ∧
    (s.timeOk = true →
      (∃ t, exec (.frameEnable value) s = .next t ∧ t.mem = s.mem ∧ t.rd (frA 0) R.FR_CTRL.EN = bits value.toNat 31 31 ∧
        (value.toNat < 2 ^ 31 → t.nextB = none) ∧
        (2 ^ 31 ≤ value.toNat → s.bit (frA 0) R.FR_CTRL.EN = true → t.nextB = s.nextB) ∧
        (2 ^ 31 ≤ value.toNat → s.bit (frA 0) R.FR_CTRL.EN = false → ∀ b0 : Int,
          b0 = ((s.rd (frA 0) R.FR_START_SECL.SEC + s.rd (frA 0) R.FR_START_SECH.SEC * 2 ^ 32 : Nat) : Int) * ticksPerSec +
            (s.rd (frA 0) R.FR_START_NS.NS : Int) * 65536 →
          ∃ n : Nat, t.nextB = some (b0 + n * s.framePeriod, (s.rd (frA 0) R.FR_FIRST.FIRST + n) % 2 ^ 32) ∧ s.now ≤ b0 + n * s.framePeriod ∧
            (0 < n → b0 + ((n : Int) - 1) * s.framePeriod < s.now))) ∧
      exec (.frPeriodWrite value) s = .next (s.wr (frA 0) R.FR_PERIOD.PERIOD value.toNat)) ∧
    (∀ bt n, s.held 0 = none → s.nextB = some (bt, n) → s.framesOn = true → ∃ t, exec (.frameNotice 0) s = .next t ∧ t.mem = s.mem ∧
      t.notice = some (bt, n) ∧ t.nextB = some (bt + s.framePeriod, (n + 1) % 2 ^ 32) ∧ t.rd (frA 0) R.FR_NO.NO = n % 2 ^ 32 ∧ s.occurred t 648 1) ∧
    (∀ q, s.quadLive q = true → ∃ t, exec (.timeSnapshot q) s = .next t ∧ t = { s with flds := t.flds } ∧
      t.rd (idA q) R.LT_FRAC.FRAC = fracOf (s.nowQ q) ∧ t.rd (idA q) R.LT_NS.NS = nsOf (s.nowQ q) ∧
      t.rd (idA q) R.LT_SEC_LO.SEC = secOf (s.nowQ q) % 2 ^ 32 ∧ t.rd (idA q) R.LT_SEC_HI.SEC = secOf (s.nowQ q) / 2 ^ 32 ∧
      t.rd (idA q) R.LT_C_LO.C = s.counter % 2 ^ 32 ∧ t.rd (idA q) R.LT_C_HI.C = s.counter / 2 ^ 32 % 2 ^ 32)

/-- READ answers the value shown, the value staged in its session, or OBJECT_ABSENT or NO_SUB. DESCRIBE answers type, access and class. WRITE outside a session is refused with the status of the first check that fails and changes nothing, or takes effect (SESSION_TIMEOUT shows it); in a session it stages the value. BEGIN opens the lowest free session for its origin, or answers that there is none. A session of another origin is answered NO_SESSION. A repeated SEQ gets the kept answer again. SESSION_TIMEOUT rolls an open session back with event 725, and CLANEX_SEGMENT_TIMEOUT drops the segments of its node. (R380, R382, R384, R386, R389, R390, R391, R392, R399, R404, R405, R406) -/
def Obligations.ClanexReadsAndWrites : Prop :=
  ∀ (s : State) (o : Origin) (h : ClHead) (r : ClRec),
    (s.hears o h → r.len ≤ 16 →
      (∀ st, s.objEntry r.index r.sub = (st, none) → h.session = 0 →
        (∃ t, exec (.read o h [r]) s = .next t ∧ t.mem = s.mem ∧ s.answers t o h 1 st 0 [] [(bareRec r, st)]) ∧
        (∃ t, exec (.describe o h [r]) s = .next t ∧ t.mem = s.mem ∧ s.answers t o h 6 st 0 [] [(bareRec r, st)]) ∧
        ∃ t, exec (.write o h [r]) s = .next t ∧ t.mem = s.mem ∧ s.answers t o h 2 st 0 [] [(bareRec r, st)]) ∧
      (∀ e v n x, s.objEntry r.index r.sub = (0, some e) → e.len ≤ 16 →
        (h.session = 0 → e.src = .shown v → e.access ≠ 2 → ∃ t, exec (.read o h [r]) s = .next t ∧ t.mem = s.mem ∧
          s.answers t o h 1 0 0 [] [(⟨r.index, r.sub, e.type, e.len, v⟩, 0)]) ∧
        (h.session = 0 → e.access = 2 → ∃ t, exec (.read o h [r]) s = .next t ∧ t.mem = s.mem ∧
          s.answers t o h 1 3 0 [] [(⟨r.index, r.sub, e.type, 0, 0⟩, 3)]) ∧
        (s.owns o h n 1 → e.access ≠ 2 → (s.sess n).staged.find? (sameEntry r) = some x → x.len ≤ 16 →
          ∃ t, exec (.read o h [r]) s = .next t ∧ t.mem = s.mem ∧ (t.sess n).staged = (s.sess n).staged ∧
            s.answers t o h 1 0 n [] [(⟨r.index, r.sub, e.type, x.len, x.val⟩, 0)]) ∧
        (h.session = 0 → ∃ t, exec (.describe o h [r]) s = .next t ∧ t.mem = s.mem ∧
          s.answers t o h 6 0 0 [] [(⟨r.index, r.sub, 0xC, 4, e.type + e.access * 2 ^ 8 + (if e.frame then 0 else 2 ^ 16)⟩, 0)]) ∧
        (h.session = 0 → ∀ st, (st = 3 ∧ (e.access = 0 ∨ e.access = 4)) ∨ (st = 7 ∧ e.access = 3) ∨
            (st ≠ 0 ∧ st = e.check r ∧ (e.access = 1 ∨ e.access = 2)) ∨
            (st = 6 ∧ e.check r = 0 ∧ s.lockedBy 0 r = true ∧ (e.access = 1 ∨ e.access = 2)) →
          ∃ t, exec (.write o h [r]) s = .next t ∧ t.mem = s.mem ∧ s.answers t o h 2 st 0 [] [(bareRec r, st)]) ∧
        (s.owns o h n 1 → e.access ≠ 0 → e.access ≠ 4 → r.index ≠ 0x0140 → e.check r = 0 → s.lockedBy n r = false →
          (s.sess n).staged.length < 4096 → ∃ t, exec (.write o h [r]) s = .next t ∧ t.mem = s.mem ∧
            (t.sess n).staged = stage (s.sess n).staged r ∧ (t.sess n).st = 1 ∧ s.answers t o h 2 0 n [] [(bareRec r, 0)])) ∧
      (∀ v, h.session = 0 → r = ⟨0x0200, 2, 4, 4, v⟩ → s.lockedBy 0 r = false → ∃ t, exec (.write o h [r]) s = .next t ∧ t.mem = s.mem ∧
        t.agent.timeout = v ∧ s.answers t o h 2 0 0 [] [(bareRec r, 0)]) ∧
      (∀ i, i ∈ [Instr.read o h [r], .write o h [r], .describe o h [r], .commit o h 0 0, .rollback o h] → s.ownSess o h = false →
        h.session ≠ 0 ∨ i = .commit o h 0 0 ∨ i = .rollback o h → ∃ t op recs, exec i s = .next t ∧ t.mem = s.mem ∧
          s.answers t o h op 8 h.session [] recs) ∧
      (∀ n, s.freeSess = some n → ∃ t, exec (.begin o h) s = .next t ∧ t.mem = s.mem ∧ (t.sess n).st = 1 ∧ (t.sess n).origin = some o ∧
        (t.sess n).staged = [] ∧ s.answers t o h 3 0 n [] []) ∧
      (s.freeSess = none → ∃ t, exec (.begin o h) s = .next t ∧ t.mem = s.mem ∧ s.answers t o h 3 9 0 [] [])) ∧
    (∀ k rest, s.served o h = true → h.dst ≠ 0xFFFF → s.agent.kept = k :: rest → k.origin = o → k.seq = h.seq → s.counter ≤ k.at_ + 1000000000 →
      exec (.begin o h) s = .next (s.transmit o k.bytes)) ∧
    (∀ n, 1 ≤ n → n ≤ 16 → (s.sess n).st = 1 → s.agentOn = true → ∃ t, exec (.sessionTimeout n) s = .next t ∧ t.mem = s.mem ∧
      (t.sess n).st = 0 ∧ (t.sess n).staged = [] ∧ (t.sess n).last = (s.sess n).last ∧ s.occurred t 725 1) ∧
    ∀ n node, ∃ t, exec (.clanexSegmentTimeout n node) s = .next t ∧ t = { s with agent := t.agent } ∧
      t.agent.segs = s.agent.segs.filter (fun g => !(decide (g.n = n) && decide (g.node = node % 256)))

/-- COMMIT of an own open session whose staged values pass their checks applies them at once with MODE 0, closes the session, raises event 724 and answers. With MODE 1 or 2 it is refused while no boundaries are generated; MODE 1 takes the first boundary that meets the lead, MODE 2 the boundary it names if that meets the lead, and the session becomes COMMIT_PENDING with no register changed and no answer yet. A MODE beyond 2 is BAD_MSG. COMMIT_APPLY, once the notice of the boundary has come, applies the entries, closes the session, raises event 724 and answers the COMMIT. ROLLBACK closes an open session and discards its values; ROLLBACK or COMMIT of a COMMIT_PENDING session answers TOO_LATE. (R393, R394, R395, R397, R400, R404) -/
def Obligations.ClanexCommits : Prop :=
  ∀ (s : State) (o : Origin) (h : ClHead) (n v mode frame : Nat) (r : ClRec), r = ⟨0x0200, 2, 4, 4, v⟩ →
    (s.hears o h →
      (2 < mode → ∃ t, exec (.commit o h mode frame) s = .next t ∧ t.mem = s.mem ∧ s.answers t o h 4 0x11 h.session [] []) ∧
      (s.owns o h n 1 →
        ((s.sess n).staged = [r] → ∃ t f, exec (.commit o h 0 frame) s = .next t ∧ t.mem = s.mem ∧ t.agent.timeout = v ∧ (t.sess n).st = 0 ∧
          (t.sess n).staged = [] ∧ s.occurred t 724 1 ∧ s.answers t o h 4 0 n (commitArg 0 f) []) ∧
        (mode = 1 ∨ mode = 2 → s.firstBad (s.sess n).staged = none → s.framesOn = false ∨ s.nextB = none → ∃ t f, exec (.commit o h mode frame) s = .next t ∧
          t.mem = s.mem ∧ (t.sess n).staged = (s.sess n).staged ∧ (t.sess n).st = 1 ∧ s.answers t o h 4 0x0C n (commitArg mode f) []) ∧
        (∀ bt b0 (lead : Int), s.firstBad (s.sess n).staged = none → s.framesOn = true → s.nextB = some (bt, b0) →
          lead = s.now + (10000 + 20 * ((s.sess n).staged.length : Int)) * 65536 →
          (∃ t, ∃ k : Nat, exec (.commit o h 1 frame) s = .next t ∧ t.mem = s.mem ∧ t.flds = s.flds ∧ t.agent = s.agent ∧ (t.sess n).st = 2 ∧
            (t.sess n).staged = (s.sess n).staged ∧ (t.sess n).target = (b0 + k) % 2 ^ 32 ∧ lead ≤ bt + k * s.framePeriod ∧
            (0 < k → bt + ((k : Int) - 1) * s.framePeriod < lead)) ∧
          (∀ k : Nat, k < 2 ^ 31 → frame = (b0 + k) % 2 ^ 32 → b0 < 2 ^ 32 →
            (lead ≤ bt + k * s.framePeriod → ∃ t, exec (.commit o h 2 frame) s = .next t ∧ t.mem = s.mem ∧ t.flds = s.flds ∧ t.agent = s.agent ∧
              (t.sess n).st = 2 ∧ (t.sess n).target = frame) ∧
            (bt + k * s.framePeriod < lead → ∃ t f, exec (.commit o h 2 frame) s = .next t ∧ t.mem = s.mem ∧ (t.sess n).st = 1 ∧
              s.answers t o h 4 0x0B n (commitArg 2 f) []))) ∧
        ∃ t, exec (.rollback o h) s = .next t ∧ t.mem = s.mem ∧ (t.sess n).st = 0 ∧ (t.sess n).staged = [] ∧ s.answers t o h 5 0 n [] []) ∧
      (∀ st, 2 ≤ st → s.owns o h n st → (∃ t, exec (.rollback o h) s = .next t ∧ t.mem = s.mem ∧ (t.sess n).st = st ∧
          (t.sess n).staged = (s.sess n).staged ∧ s.answers t o h 5 0x0D n [] []) ∧
        (mode < 3 → ∃ t f, exec (.commit o h mode frame) s = .next t ∧ t.mem = s.mem ∧ (t.sess n).st = st ∧
          s.answers t o h 4 0x0D n (commitArg mode f) []))) ∧
    (∀ bt, s.agentOn = true → 1 ≤ n → n ≤ 16 → (s.sess n).st = 2 → (s.sess n).target < 2 ^ 32 → s.notice = some (bt, (s.sess n).target) →
      (s.sess n).staged = [r] → (∀ e, e ∈ s.shadow → e.sess ≠ n) → (∀ e, e ∈ s.lostSh → e.sess ≠ n) →
      (s.sess n).origin = some o → (s.sess n).head = some h → h.dst ≠ 0xFFFF → 64 ≤ s.clLimit o →
      ∃ t, exec (.commitApply n) s = .next t ∧ t.mem = s.mem ∧ t.agent.timeout = v ∧ (t.sess n).st = 0 ∧ (t.sess n).staged = [] ∧
        s.occurred t 724 1 ∧ s.answers t o h 4 0 n (commitArg (s.sess n).mode (s.sess n).target) [])

/-- A GLOBAL operation that should originate at a device that is not the root does nothing there; the root numbers it with its GSEQ and sends it down every live port. The first copy from above goes down every live port; a device with no child answers BARRIER upward with 1 unless BARRIER_HOLD is set, ENUM with a subtree of 1, and an instant already past as late with event 729, and holds an instant to come. A count from below is noted. BROADCAST_FRAME sets FR_START, FR_PERIOD and FR_FIRST. BARRIER_TIMEOUT at the root records the missing count with event 730. GLOBAL_INSTANT carries out a capture or a device reset whose instant has come. (R410, R411, R414, R415, R416) -/
def Obligations.GlobalOperations : Prop :=
  ∀ (s : State) (p gseq arg : Nat),
    (s.slink.root = false → ∀ i, i ∈ [Instr.barrier .origin, .snapshotAt .origin, .resetAt .origin, .enum .origin, .broadcastFrame .origin 0 0 0 0] →
      exec i s = .next s) ∧
    (s.slink.root = true →
      (∀ i gop a, (i, gop, a) ∈ [(Instr.barrier .origin, 2, 0), (.snapshotAt .origin, 3, s.atArg), (.resetAt .origin, 4, s.atArg), (.enum .origin, 5, 0)] →
        ∃ t, exec i s = .next t ∧ t.mem = s.mem ∧ t.slink.gseq = (s.slink.gseq + 1) % 256 ∧
          ∀ d, d ∈ s.downPorts → .glob d gop false s.slink.gseq a ∈ t.out) ∧
      (∃ t, exec (.broadcastFrame .origin 0 0 0 0) s = .next t ∧ t = { s with slink := t.slink, out := t.out } ∧
        t.slink.gseq = (s.slink.gseq + 1) % 256 ∧ ∀ d, d ∈ s.downPorts → .globFrame d s.slink.gseq (s.rd (frA 0) R.FR_START_NS.NS)
          (s.rd (frA 0) R.FR_START_SECL.SEC + s.rd (frA 0) R.FR_START_SECH.SEC * 2 ^ 32) (s.rd (frA 0) R.FR_PERIOD.PERIOD)
          (s.rd (frA 0) R.FR_FIRST.FIRST) ∈ t.out) ∧
      (∀ g, s.slink.op = some (2, g) → ∃ t, exec .barrierTimeout s = .next t ∧ t.mem = s.mem ∧ t.slink.op = none ∧
        t.slink.lastMissing = s.slink.subtree - (s.childSum + if s.slink.hold then 0 else 1) ∧ s.occurred t 730 1)) ∧
    (s.globFirst p gseq = true →
      (∀ i gop, (i, gop) ∈ [(Instr.barrier (.down p gseq arg), 2), (.snapshotAt (.down p gseq arg), 3), (.resetAt (.down p gseq arg), 4),
          (.enum (.down p gseq arg), 5)] → ∃ t, exec i s = .next t ∧ t.mem = s.mem ∧ t.slink.seen = some gseq ∧
        (∀ d, d ∈ s.downPorts → .glob d gop false gseq arg ∈ t.out) ∧
        (s.downPorts = [] → s.slink.root = false →
          (gop = 2 → s.slink.hold = false → t.slink.op = none ∧ .glob p 2 true gseq 1 ∈ t.out) ∧
          (gop = 2 → s.slink.hold = true → t.slink.op = some (2, gseq) ∧ t.out = s.out) ∧
          (gop = 5 → t.slink.laValid = false ∧ t.slink.subtree = 1 ∧ ∃ x, .glob p 5 true gseq (1 + x * 2 ^ 17) ∈ t.out) ∧
          (gop = 3 ∨ gop = 4 → s.now < schedAt s.now arg → t.slink.op = some (gop, gseq) ∧
            t.slink.sched = s.slink.sched ++ [(gop, gseq, schedAt s.now arg)] ∧ t.out = s.out) ∧
          (gop = 3 ∨ gop = 4 → schedAt s.now arg ≤ s.now → s.occurred t 729 1 ∧ t.slink.op = none ∧ t.slink.sched = s.slink.sched ∧
            .glob p gop true gseq 1 ∈ t.out))) ∧
      (s.timeOk = true → ∀ ns sec period first, ∃ t, exec (.broadcastFrame (.down p gseq arg) ns sec period first) s = .next t ∧
        t = { s with slink := t.slink, flds := t.flds, out := t.out } ∧ t.slink.seen = some gseq ∧
        (∀ d, d ∈ s.downPorts → .globFrame d gseq ns sec period first ∈ t.out) ∧
        t.rd (frA 0) R.FR_PERIOD.PERIOD = period % 2 ^ 32 ∧ t.rd (frA 0) R.FR_FIRST.FIRST = first % 2 ^ 32 ∧
        t.rd (frA 0) R.FR_START_NS.NS = ns % 2 ^ R.FR_START_NS.NS.width ∧ t.rd (frA 0) R.FR_START_SECL.SEC = sec % 2 ^ 32 ∧
        t.rd (frA 0) R.FR_START_SECH.SEC = sec / 2 ^ 32 % 2 ^ R.FR_START_SECH.SEC.width)) ∧
    (2 ≤ p → s.portUp p = true → ∀ i gop, (i, gop) ∈ [(Instr.barrier (.up p gseq arg), 2), (.snapshotAt (.up p gseq arg), 3), (.resetAt (.up p gseq arg), 4),
        (.enum (.up p gseq arg), 5)] → s.slink.op = some (gop, gseq) → ∃ t, exec i s = .next t ∧ t.mem = s.mem ∧
      (t.port p).count = some (if gop = 5 then arg % 2 ^ 17 else arg)) ∧
    ∀ x, s.slink.sched.find? (fun y => decide (y.2.2 ≤ s.now)) = some x →
      (x.1 = 3 → ∃ t, exec .globalInstant s = .next t ∧ t.mem = s.mem ∧ t.slink.sched = s.slink.sched.erase x ∧ .broadcast 4 0 ∈ t.out) ∧
      (x.1 = 4 → s.power.on = true → s.power.stepsDone = true → s.power.dev = 0 → s.qReset 0 = false → ∃ t, exec .globalInstant s = .next t ∧
        t.slink.sched = s.slink.sched.erase x ∧ ∀ q, s.quadOk q = true → t.qReset q = true ∧ t.rd (idA q) R.RST_CAUSE.CAUSE = 4)

/-- SYSLINK_PACKET with a wrong CRC is answered NAK, any other ACK; a packet for another device goes out on the port of its route, and an assignment from above sets the device's place. ACK takes packets out of the window, NAK and the resend timeout send every unacknowledged packet again, and the eighth resend fails the port with event 726. UP_PORT_FAILOVER makes R the up-port with event 727. TICK_SEND stamps a TICK, a child answers a TICK from above at once and keeps its stamp, a parent answers the child's. LINK_RESET_SEND sends LINK_RESET, which applies a device reset at a child whose lane is locked. (R408, R409, R410, R411, R412, R413) -/
def Obligations.LinkPacketsAndTicks : Prop :=
  ∀ (s : State) (p seq : Nat) (k : LinkPkt), s.portUp p = true →
    exec (.syslinkPacket p seq k false) s = .next (s.emit (.ack p seq true)) ∧
    (∀ d b, k.type = 1 → k.bytes.length ≤ 4096 → s.linkRoute k.dst = (some d, b) → (s.port d).win.length < 32 → (s.port d).queue = [] →
      ∃ t, exec (.syslinkPacket p seq k true) s = .next t ∧ t = { s with ports := t.ports, out := t.out } ∧
        t.out = .packet d (s.port d).seq k :: .ack p seq false :: s.out ∧
        (t.port d).win = (s.port d).win ++ [((s.port d).seq, 0, k)] ∧ (t.port d).seq = ((s.port d).seq + 1) % 256) ∧
    (p < 2 → k.type = 2 → byteAt k.bytes 4 ≤ 5 → ∃ t, exec (.syslinkPacket p seq k true) s = .next t ∧ t.mem = s.mem ∧ t.flds = s.flds ∧
      t.slink.la = leAt k.bytes 0 2 ∧ t.slink.laValid = true ∧ t.slink.depth = byteAt k.bytes 4 ∧ .ack p seq false ∈ t.out) ∧
    (∀ (v : PortSt), v = s.port p →
      ((∀ x, x ∈ v.win → x.1 ≠ seq) → exec (.ack p seq) s = .next s) ∧
      (∀ x, x ∈ v.win → x.1 = seq → v.queue = [] → ∃ t, exec (.ack p seq) s = .next t ∧ t = { s with ports := t.ports } ∧
        t.port p = { v with win := (v.win.dropWhile (fun y => decide (y.1 ≠ seq))).drop 1 }) ∧
      (v.win ≠ [] → ∀ i, i ∈ [Instr.nak p seq, .syslinkResendTimeout p] → ∃ t, exec i s = .next t ∧ t.mem = s.mem ∧
        t.out = (v.win.map (fun x => Output.packet p x.1 x.2.2)).reverse ++ s.out ∧ (t.port p).win = v.win.map (fun x => (x.1, x.2.1 + 1, x.2.2)) ∧
        (t.port p).resends = min (v.resends + v.win.length) (2 ^ 32 - 1) ∧
        ((∀ x, x ∈ v.win → x.2.1 < 7) → (t.port p).failed = v.failed) ∧
        ((∃ x, x ∈ v.win ∧ 7 ≤ x.2.1) → (t.port p).failed = true ∧ s.occurred t 726 1))) ∧
    (p = 1 → s.portOk 0 = true → s.portUp 0 = false → s.slink.upActive ≠ 1 → ∃ t, exec .upPortFailover s = .next t ∧ t.mem = s.mem ∧
      t.slink.upActive = 1 ∧ (t.port 0).win = [] ∧ (t.port 0).queue = [] ∧ s.occurred t 727 1) ∧
    (s.timeOk = true → ∀ stamp,
      (2 ≤ p → exec (.tickSend p) s = .next (s.emit (.tick p false (tickStamp s.now))) ∧
        exec (.tick p false stamp) s = .next (s.emit (.tick p true (tickStamp s.now))) ∧ exec (.tick p true stamp) s = .next s) ∧
      (p < 2 → (∃ t, exec (.tick p false stamp) s = .next t ∧ t = { s with ports := t.ports, out := t.out } ∧ (t.port p).t3 = stamp ∧
          (t.port p).t4 = s.counter ∧ t.out = .tick p false (tickStamp s.now) :: s.out) ∧
        ((∀ d, d < 2 → s.rd (domA 0 d) R.DOM_CFG.SRC ≠ 1) → exec (.tick p true stamp) s = .next s))) ∧
    (s.lf (laneOfPort p) R.LN_CFG.MODE = 2 →
      (s.lb (laneOfPort p) R.LN_STAT.TX_ON = true → exec (.linkResetSend p) s = .next (s.emit (.linkReset p))) ∧
      (p < 2 → s.lb (laneOfPort p) R.LN_STAT.BLOCK_LOCK = true → s.power.on = true → s.power.stepsDone = true → s.power.dev = 0 → s.qReset 0 = false →
        ∃ t, exec (.linkReset p) s = .next t ∧ ∀ q, s.quadOk q = true → t.qReset q = true ∧ t.rd (idA q) R.RST_CAUSE.CAUSE = 4))

/-- IMAGE_HEADER, once 280 bytes have been taken, is accepted with its fields, and a full image starts the fill; else the load ends with the code of the first failing step at offset 0. Records taken whole and rightly placed act: CELLS sets its island's cells and holds a partial image's target, STORE_INIT waits for the fill or writes, REG writes in order and keeps lane writes for stage 1, MEM names a channel for INIT, MEMMAP sets MEM_TOP, RELEASE the gaps, OBJECTS collects entries, KEY and END close their segment. A wrongly placed one ends the load with FORMAT at its offset. SEGMENT_TAG completes a closed segment, or ends the load with the code of its fault. (R427, R428, R429, R430, R431, R432, R435) -/
def Obligations.ImageHeadersAndRecords : Prop :=
  ∀ (s : State), s.load.targets = [] →
    (∀ h : ImgHeader, s.load.mode ≠ 0 → s.load.header = false → 280 ≤ s.rd (cfgA 0) R.CFG_PROG.BYTES →
      (s.headerError h = 0 → ∃ t, exec (.imageHeader h) s = .next t ∧ t.load.header = true ∧ t.load.kind = h.kind ∧ t.load.qmask = h.qmask ∧
        t.load.segments = h.segments ∧ t.load.len = h.len ∧ t.load.pos = 288 ∧ (h.kind = 0 → t.image = [] ∧ t.load.fill = true ∧ t.rows = []) ∧
        (h.kind = 1 → t.mem = s.mem ∧ t.load.fill = s.load.fill)) ∧
      (∀ e, s.headerError h = e → e ≠ 0 → ∃ t, exec (.imageHeader h) s = .next t ∧ t.mem = s.mem ∧ s.loadFails t e 0 ∧
        (e = 7 → t.cfgState = s.load.prev % 16) ∧ (e = 1 → s.load.prev ≠ 5 → t.cfgState = 7) ∧
        (e = 2 ∨ e = 3 → s.load.prev ≠ 5 → h.kind = 0 → t.cfgState = 8 ∧ t.load.errLow = true) ∧
        (e = 4 → s.load.prev ≠ 5 → h.kind = 0 → t.cfgState = 7))) ∧
    (∀ (tgt len : Nat) (cfg : Option IslandCfg), s.recordReady len → tgt < 384 → s.tgtOk tgt = true → ∃ t, exec (.cells tgt len cfg) s = .next t ∧
      t.load.recs = s.load.recs + 1 ∧ t.load.pos = s.load.pos + (8 + (len + 7) / 8 * 8) ∧ t.cfgOf tgt = cfg ∧ tgt ∈ t.load.cells ∧
      (s.load.kind = 1 → t.load.targets = [tgt] ∧ t.islState tgt = 5)) ∧
    (∀ (b first : Nat) (data : List (BitVec 8)), s.recordReady (4 + data.length) → b < 128 → s.tgtOk (8192 + b) = true → 8192 + b ∈ s.load.cells →
      s.load.kind ≠ 1 → initOk (8192 + b) first data = true →
      (s.load.fill = true → ∃ t, exec (.storeInit (8192 + b) first data) s = .next t ∧ t = { s with load := t.load } ∧
        t.load.inits = s.load.inits ++ [(8192 + b, first, data)]) ∧
      (s.load.fill = false → data.length = 4 → ∃ t, exec (.storeInit (8192 + b) first data) s = .next t ∧ t.flds = s.flds ∧
        t.bytes (sramA b first) 4 = leAt data 0 4 ∧ t.load.inits = s.load.inits)) ∧
    (s.recordReady 16 → s.load.kind ≠ 2 →
      (∀ a v, registerSpace a = true → a % 4 = 0 → laneBlockReg a = true → ∃ t, exec (.reg [(a, v)]) s = .next t ∧ t = { s with load := t.load } ∧
        t.load.regs = s.load.regs ++ [(a, v)]) ∧
      (∀ v, s.timeOk = true → ∃ t, exec (.reg [(frA 0 + 0x10, v)]) s = .next t ∧ t.mem = s.mem ∧ t.rd (frA 0) R.FR_PERIOD.PERIOD = v % 2 ^ 32 ∧
        t.load.regs = s.load.regs) ∧
      (∀ o : UserObj, userObjOk o = true → ∃ t, exec (.objects [o]) s = .next t ∧ t = { s with load := t.load } ∧ t.load.objs = s.load.objs ++ [o])) ∧
    (s.recordReady 4 →
      (∀ ch value, s.load.kind = 0 → s.load.segs = 0 → s.load.qmask.testBit (ch % 8 / 2) = true → s.chOk (ch % 8) = true →
        ∃ t, exec (.mem ch value) s = .next t ∧ t.mem = s.mem ∧ ch % 8 ∈ t.load.initCh) ∧
      (∀ value, s.load.rel = none → s.load.kind = 0 → ∃ t, exec (.releaseRecord value) s = .next t ∧ t = { s with load := t.load, flds := t.flds } ∧
        t.load.rel = some value ∧ t.rd (cfgA 0) R.CFG_REL.COMPAT = bits value 31 31 ∧ t.rd (cfgA 0) R.CFG_REL.GAP12 = bits value 15 8 ∧
        t.rd (cfgA 0) R.CFG_REL.GAP23 = bits value 7 0) ∧
      (s.load.segs + 1 = s.load.segments → ∃ t, exec (.endImage s.load.recs) s = .next t ∧ t = { s with load := t.load } ∧ t.load.closed = true ∧
        t.load.ended = true)) ∧
    (∀ top, s.recordReady 132 → s.load.kind = 0 → s.load.segs = 0 → ∃ t, exec (.memmap top []) s = .next t ∧ t.mem = s.mem ∧
      ∀ q, q ∈ s.mapCopies → t.rd (mapA q) R.MEM_TOP.TOP = bits top 11 0) ∧
    (s.recordReady 32 → s.load.segs + 1 < s.load.segments → ∃ t, exec .key s = .next t ∧ t = { s with load := t.load } ∧ t.load.closed = true ∧
      t.load.recs = s.load.recs + 1) ∧
    (∀ (i : Instr) (n : Nat) (bad : Prop) (tgt first ch a v : Nat) (data : List (BitVec 8)) (cfg : Option IslandCfg) (o : UserObj),
      (i, n, bad) ∈ ([(.key, 32, s.load.segments ≤ s.load.segs + 1), (.endImage v, 4, v ≠ s.load.recs ∨ s.load.segs + 1 ≠ s.load.segments),
        (.releaseRecord v, 4, s.load.rel ≠ none), (.mem ch v, 4, s.load.kind ≠ 0 ∨ s.load.segs ≠ 0), (.memmap v [], 132, s.load.kind ≠ 0),
        (.objects [o], 16, userObjOk o = false), (.storeInit tgt first data, 4 + data.length, tgtUnit tgt ∉ s.load.cells),
        (.cells tgt first cfg, first, s.tgtOk tgt = false), (.reg [(a, v)], 16, registerSpace a = false)] : List (Instr × Nat × Prop)) →
      s.recordReady n → bad → ∃ t, exec i s = .next t ∧ t.mem = s.mem ∧ s.loadFails t 1 s.load.pos) ∧
    (s.load.mode ≠ 0 → s.load.header = true → s.load.pos + 16 ≤ s.rd (cfgA 0) R.CFG_PROG.BYTES → s.load.pos + 16 ≤ 280 + s.load.len →
      (s.load.closed = false → ∀ ok, ∃ t, exec (.segmentTag ok) s = .next t ∧ s.loadFails t 1 s.load.pos) ∧
      (s.load.closed = true → ∃ t, exec (.segmentTag false) s = .next t ∧ s.loadFails t 4 s.load.segPos) ∧
      (s.load.closed = true → s.load.initCh = [] → ∃ t, exec (.segmentTag true) s = .next t ∧ t.mem = s.mem ∧ t.load.segs = s.load.segs + 1 ∧
        t.load.closed = false ∧ (s.load.ended = false → t.load.mode = s.load.mode ∧ t.cfgState = s.cfgState) ∧
        (s.load.ended = true → t.load.mode = 0 ∧ t.cfgState = (if s.load.kind = 0 then 2 else s.cfgState))))

/-- START_PULL and START_PUSH begin a load, are ignored with CMD_IGN while one is in progress, and fail with MIXED_CLASS on a halted start-up. CFG_DATA_WRITE and PULL_READ_COMPLETION count image bytes; an error completion, and FINISH, ABORT or the list's end before the last byte, end the load. WINDOW_MISSED records a window missed with event 708. CLEARING_DONE ends in ERROR with CFG_ERR_N low. DEVICE_LOADED releases CFG_DONE; CFG_DONE_HIGH and RELEASE_NOW start the release in WAIT_DONE. STAGE2_ISSUE enables store writes, STAGE3_ISSUE releases islands and bays and makes the device CONFIGURED with event 704, PARTIAL_RELEASE does so for the targets with event 706. (R422, R433, R434, R435, R437, R438, R439, R440) -/
def Obligations.LoadsAndReleases : Prop :=
  ∀ (s : State), s.load.targets = [] →
    (∀ i mode, (i, mode) ∈ [(Instr.startPull, 1), (.startPush, 2)] →
      (s.cfgState = 9 → ∃ t, exec i s = .next t ∧ t.mem = s.mem ∧ t.cfgState = 9 ∧ t.rd (cfgA 0) R.CFG_STAT.ERR = 6 ∧ s.occurred t 705 1) ∧
      (s.loadBusy = true → exec i s = .next (s.wr (cfgA 0) R.CFG_STAT.CMD_IGN 1)) ∧
      (s.cfgState ≠ 9 → s.loadBusy = false → ∃ t, exec i s = .next t ∧ t = { s with load := t.load, flds := t.flds, out := t.out } ∧
        t.load.mode = mode ∧ t.load.prev = s.cfgState ∧ t.load.header = false ∧ t.cfgState = (if s.cfgState = 5 then 6 else 1) ∧
        t.rd (cfgA 0) R.CFG_PROG.BYTES = 0 ∧ t.rd (cfgA 0) R.CFG_STAT.ERR = 0 ∧
        t.out = (if mode = 1 then [.hostRead (s.rd (cfgA 0) R.CFG_SRC_LO.ADDR * 16 + s.rd (cfgA 0) R.CFG_SRC_HI.ADDR * 2 ^ 32)] else []) ++ s.out)) ∧
    (∀ v, (s.load.mode ≠ 2 → exec (.cfgDataWrite v) s = .next s) ∧
      (s.load.mode = 2 → ∃ t, exec (.cfgDataWrite v) s = .next t ∧ t = { s with flds := t.flds } ∧ t.rd (cfgA 0) R.CFG_PROG.BYTES =
        (if s.load.header then min (s.rd (cfgA 0) R.CFG_PROG.BYTES + 4) (280 + s.load.len) else s.rd (cfgA 0) R.CFG_PROG.BYTES + 4) % 2 ^ 32)) ∧
    (s.load.mode = 1 → s.allTaken = false →
      (∀ n, n ≠ 0 → ∃ t, exec (.pullReadCompletion true n) s = .next t ∧ t = { s with flds := t.flds } ∧ t.rd (cfgA 0) R.CFG_PROG.BYTES =
        (if s.load.header then min (s.rd (cfgA 0) R.CFG_PROG.BYTES + n) (280 + s.load.len) else s.rd (cfgA 0) R.CFG_PROG.BYTES + n) % 2 ^ 32) ∧
      (∃ t, exec (.pullReadCompletion true 0) s = .next t ∧ s.loadFails t 5 (s.rd (cfgA 0) R.CFG_PROG.BYTES)) ∧
      ∀ n, ∃ t, exec (.pullReadCompletion false n) s = .next t ∧ s.loadFails t 8 (s.rd (cfgA 0) R.CFG_PROG.BYTES)) ∧
    (∀ i, i ∈ [Instr.finish, .abort] → (s.load.mode = 0 ∨ s.allTaken = true → exec i s = .next s) ∧
      (s.load.mode ≠ 0 → s.allTaken = false → ∃ t, exec i s = .next t ∧ s.loadFails t 5 (s.rd (cfgA 0) R.CFG_PROG.BYTES))) ∧
    (∃ t, exec .windowMissed s = .next t ∧ t.mem = s.mem ∧ t.load.window = false ∧ (s.load.window = true →
      s.cfgState ∈ [0, 1, 7, 8, 9] → s.bit (cfgA 0) R.CFG_STAT.WINDOW_MISSED = false → t.bit (cfgA 0) R.CFG_STAT.WINDOW_MISSED = true ∧ s.occurred t 708 1)) ∧
    (s.cfgState = 7 → ∃ t, exec .clearingDone s = .next t ∧ t.cfgState = 8 ∧ t.load.errLow = true ∧ t.cells = [] ∧ t.load.link = s.load.link) ∧
    (s.cfgState = 2 → s.load.fill = false → (∀ c, c ∈ s.load.initCh → s.mcState c ≠ 1 ∧ s.mcState c ≠ 2) →
      (∀ g, g < 576 → s.genOk g = true → s.genSettled g = true) → ∃ t, exec .deviceLoaded s = .next t ∧ t = { s with load := t.load, flds := t.flds } ∧
        t.cfgState = 3 ∧ t.load.doneLow = false) ∧
    (s.load.doneLow = true → exec .cfgDoneHigh s = .next s) ∧
    (s.load.doneLow = false → s.cfgState ≠ 3 → exec .cfgDoneHigh s = .next (s.wr (cfgA 0) R.CFG_STAT.DONE_IN 1)) ∧
    (s.cfgState ≠ 3 → exec .releaseNow s = .next (s.wr (cfgA 0) R.CFG_STAT.CMD_IGN 1)) ∧
    (∀ i, i ∈ [Instr.cfgDoneHigh, .releaseNow] → s.cfgState = 3 → s.load.doneLow = false → s.load.regs = [] → s.rd (cfgA 0) R.CFG_REL.COMPAT = 0 →
      ∃ t, exec i s = .next t ∧ t.cfgState = 4 ∧ t.load.stage = 2 ∧ (∀ n, n ∈ s.reached → (t.island n).io = true) ∧
        ∀ b, b ∈ s.reachedBays → s.bayState b = 3 → (t.bay b).pinsLive = true) ∧
    (s.cfgState = 4 → s.load.stage = 2 → ∃ t, exec .stage2Issue s = .next t ∧ t.mem = s.mem ∧ t.flds = s.flds ∧ t.load.stage = 3 ∧
      (∀ n, n ∈ s.reached → (t.island n).wrEn = true) ∧ ∀ b, b ∈ s.reachedBays → (t.bay b).sramOpen = true) ∧
    (s.cfgState = 4 → s.load.stage = 3 → ∃ t, exec .stage3Issue s = .next t ∧ t.cfgState = 5 ∧ t.bit (cfgA 0) R.CFG_STAT.LOCK = true ∧
      t.rd (cfgA 0) R.CFG_IMAGE.IMAGE_ID = s.load.imageId % 2 ^ 32 ∧ t.userObjs = s.load.objs ∧ s.occurred t 704 1 ∧
      (∀ n, n ∈ s.reached → s.islState n = 5 → t.islState n = 0) ∧ ∀ b, b ∈ s.reachedBays → s.bayState b = 3 → t.bayState b = 0) ∧
    ∀ (ts : List Nat) (u : State), u = { s with load := { s.load with targets := ts } } → (∀ x, x ∈ ts → tgtQuad x ≠ none) →
      s.load.kind ≠ 0 → s.load.ended = true → s.load.segs = s.load.segments → s.load.fill = false → s.load.regs = [] →
      (∀ x, x ∈ ts → s.genSettled (if x / 8192 = 0 then x else if x / 8192 = 1 then 448 + x % 8192 else 384 + x % 8192) = true) →
      ∃ t, exec .partialRelease u = .next t ∧ t.cfgState = s.load.prev % 16 ∧ t.load.targets = [] ∧ t.load.ended = false ∧
        t.rd (cfgA 0) R.CFG_IMAGE.IMAGE_ID = s.load.imageId % 2 ^ 32 ∧ s.occurred t 706 1

/-- MAILBOX_TX appends a word while its direction holds fewer than four, else replaces the youngest and sets COLLISION; to a side B that is down it only sets TIMEOUT_A. MAILBOX_RX removes and returns the oldest word, 0 from an empty direction; MAILBOX_FLUSH empties both; MAILBOX_TIMEOUT sets TIMEOUT of the sender once for its word. A length written to the agent's mailbox opens its message. FR_CFG_WRITE sets an unused rail and unlocks it, RAIL_LOCK and RAIL_UNLOCK show its lock, NOC_CLK_WRITE and NOC_CLK_DONE set and end BUSY. SENSOR_UPDATE shows the hottest reading; CAP_DROP and CAP_RISE move CAP by one level with event 684 + q, and leave the cap of a quadrant whose telemetry is lost. The supply warnings show in PWR_LIMIT with their events. (R445, R446, R451, R453, R457, R458, R464, R473, R474, R475, R523) -/
def Obligations.MailboxesClocksAndHeat : Prop :=
  ∀ (s : State) (q : Nat) (value : BitVec 32), s.quadLive q = true →
    (∀ k (sideB : Bool) (l : List (Nat × Bool)), k < 40 → (q = 0 → k ≠ 32) → l = (if sideB then (s.mb q k).ba else (s.mb q k).ab) → s.calm →
      (∃ t, exec (.mailboxTx q k sideB value) s = .next t ∧
        (sideB = false → s.sideBDown q k = true → t.mb q k = s.mb q k ∧ t.bit (mbxA q k) R.MB_STAT.TIMEOUT_A = true) ∧
        (sideB = true ∨ s.sideBDown q k = false → (if sideB then (t.mb q k).ba else (t.mb q k).ab) =
            (if 4 ≤ l.length then l.take 3 else l) ++ [(value.toNat, false)] ∧
          (4 ≤ l.length → t.bit (mbxA q k) (if sideB then R.MB_STAT.COLLISION_B else R.MB_STAT.COLLISION_A) = true))) ∧
      (∃ t, exec (.mailboxRx q k (!sideB)) s = .next t ∧ (if sideB then (t.mb q k).ba else (t.mb q k).ab) = l.drop 1 ∧
        .regValue (mbxA q k + if sideB then 0x4 else 0xC) ((l.head?.map (·.1)).getD 0) ∈ t.out) ∧
      (∃ t, exec (.mailboxFlush q k) s = .next t ∧ t.mb q k = ⟨[], []⟩)) ∧
    (∀ k (fromB : Bool) w rest, k < 40 → s.rd (mbxA q k) R.MB_CFG.TIMEOUT_US ≠ 0 → (if fromB then (s.mb q k).ba else (s.mb q k).ab) = (w, false) :: rest →
      ∃ t, exec (.mailboxTimeout q k fromB) s = .next t ∧ t.mem = s.mem ∧ (if fromB then (t.mb q k).ba else (t.mb q k).ab) = (w, true) :: rest ∧
        t.bit (mbxA q k) (if fromB then R.MB_STAT.TIMEOUT_B else R.MB_STAT.TIMEOUT_A) = true) ∧
    (s.calm → s.agentOn = true → s.agent.dead = false → s.agent.need = none → s.sideBDown 0 32 = false → 1 ≤ value.toNat → value.toNat ≤ 4096 →
      ∃ t, exec (.mailboxTx 0 32 false value) s = .next t ∧ t.agent.need = some value.toNat ∧ t.agent.words = [] ∧ (t.mb 0 32).ab = []) ∧
    (s.calm → ∃ t, exec (.mailboxFlush 0 32) s = .next t ∧ t.mb 0 32 = ⟨[], []⟩ ∧ t.agent.need = none ∧ t.agent.words = [] ∧ t.agent.dead = false) ∧
    (∀ n, n < 4 →
      (s.railUsed q n = true → exec (.frCfgWrite q n value) s = .next (s.wr (clkA q) R.CLK_STAT.CMD_IGN 1)) ∧
      (s.railUsed q n = false → ∃ t, exec (.frCfgWrite q n value) s = .next t ∧ t = { s with flds := t.flds } ∧
        t.rd (clkA q) (R.FR_CFG0.MHZ.shift (4 * n)) = bits value.toNat 11 0 ∧ t.rd (clkA q) (R.FR_CFG0.LOCKED.shift (4 * n)) = 0) ∧
      (∃ t, exec (.railLock q n) s = .next t ∧ t.mem = s.mem ∧ t.rd (clkA q) (R.FR_CFG0.LOCKED.shift (4 * n)) = 1) ∧
      (∃ t, exec (.railUnlock q n) s = .next t ∧ t.mem = s.mem ∧ t.rd (clkA q) (R.FR_CFG0.LOCKED.shift (4 * n)) = 0 ∧
        (s.railUsed q n = true → (t.rd (clkA q) R.CLK_STAT.UNLOCK).testBit n = true ∧
          ((s.rd (clkA q) R.CLK_STAT.UNLOCK).testBit n = false → s.occurred t 701 1)))) ∧
    (∃ t, exec (.railUnlock q 4) s = .next t ∧ t.mem = s.mem ∧ (t.rd (clkA q) R.CLK_STAT.UNLOCK).testBit 4 = true) ∧
    (∃ t, exec (.nocClkWrite q value) s = .next t ∧ t = { s with flds := t.flds } ∧ t.rd (clkA q) R.NOC_CLK.BUSY = 1 ∧
      t.rd (clkA q) R.NOC_CLK.MHZ = bits value.toNat 11 0 ∧ t.rd (clkA q) R.NOC_CLK.PLVL = bits value.toNat 26 24) ∧
    exec (.nocClkDone q) s = .next (s.wr (clkA q) R.NOC_CLK.BUSY 0) ∧
    (∀ x : Sensors, x.temps ≠ [] → x.temps.length ≤ 16 → ∃ t, exec (.sensorUpdate q x) s = .next t ∧ s.regsOnly t ∧
      (∀ y, y ∈ x.temps → y.toInt ≤ t.tmax q) ∧ (∃ y, y ∈ x.temps ∧ y.toInt = t.tmax q) ∧
      ((s.rd (pwrA q) R.THERM_CFG.WARN_T * 8 : Int) < t.tmax q → t.bit (pwrA q) R.THERM_STAT.WARN = true)) ∧
    (s.telemLost q = true → exec (.capDrop q) s = .next s ∧ exec (.capRise q) s = .next s) ∧
    (s.telemLost q = false → s.throt q < s.tmax q ∨ s.loadLimit < s.deviceLoad → s.rd (pwrA q) R.PWR_CAP.CAP < 7 → ∃ t, exec (.capDrop q) s = .next t ∧ s.regsOnly t ∧
      t.rd (pwrA q) R.PWR_CAP.CAP = s.rd (pwrA q) R.PWR_CAP.CAP + 1 ∧ s.occurred t (684 + q) 1) ∧
    (s.telemLost q = false → s.tmax q < s.throt q - 40 → s.deviceLoad * 100 < s.loadLimit * 95 → 0 < s.rd (pwrA q) R.PWR_CAP.CAP → s.rd (pwrA q) R.PWR_CAP.CAP < 8 →
      ∃ t, exec (.capRise q) s = .next t ∧ s.regsOnly t ∧ t.rd (pwrA q) R.PWR_CAP.CAP = s.rd (pwrA q) R.PWR_CAP.CAP - 1 ∧ s.occurred t (684 + q) 1) ∧
    exec (.pwrLogClear q) s = .next ((s.wr (pwrA q) R.PWR_LOGSTAT.NEXT 0).wr (pwrA q) R.PWR_LOGSTAT.FILLED 0) ∧
    (∃ t, exec .vinWarning s = .next t ∧ s.regsOnly t ∧ t.rd (pwrA 0) R.PWR_LIMIT.VIN_WARN = 1 ∧ s.occurred t 672 1) ∧
    (∃ t, exec .vinWarningEnd s = .next t ∧ s.regsOnly t ∧ t.rd (pwrA 0) R.PWR_LIMIT.VIN_WARN = 0 ∧ s.occurred t 673 1) ∧
    (s.bit (pwrA 0) R.PWR_LIMIT.ILIM_ACTIVE = true → exec .inputCurrentLimit s = .next s) ∧
    (s.bit (pwrA 0) R.PWR_LIMIT.ILIM_ACTIVE = false → ∃ t, exec .inputCurrentLimit s = .next t ∧ s.regsOnly t ∧
      t.rd (pwrA 0) R.PWR_LIMIT.ILIM_ACTIVE = 1 ∧ s.occurred t 674 1) ∧
    exec .inputLimitEnd s = .next (s.wr (pwrA 0) R.PWR_LIMIT.ILIM_ACTIVE 0)

/-- A sleep command that a check refuses raises event 677 and leaves what sleeps as it was; STATUS becomes REFUSED unless the cause is BUSY. An accepted S1 or S4 stands at its commit point at once, S2 and S3 begin to fence. SLEEP_COMMIT_POINT comes once every unit has drained. SLEEP_ENTRY_DONE puts every unit of the target to sleep, islands STOPPED in S1 and OFF in S2, or the device into S3, with event 675, or into S4. SLEEP_EXIT of a sleeping target begins its exit, SLEEP_EXIT_DONE wakes its units with event 676. WAKE_EVENT begins the exit of its slot's target, WAKE_TIMER fires once with event 692, WAKE_PIN raises event 693 + k. (R460, R461, R462, R463, R464, R465, R466, R467) -/
def Obligations.SleepEntriesExitsAndWakes : Prop :=
  ∀ (s : State) (w : BitVec 32), (∀ q, q < 4 → s.rd (pwrA q) R.PWR_LOGSTAT.NEXT < 16) →
    (∀ i st, (i, st) ∈ [(Instr.sleepS1 w, 1), (.sleepS2 w, 2), (.sleepS3 w, 3), (.sleepS4 w, 4)] → s.agentOn = true →
      (∀ r u, ({ s with power := { s.power with target := w.toNat, state := st } } : State).sleepCheck w.toNat st = some (r, u) →
        ∃ t, exec i s = .next t ∧ t.mem = s.mem ∧ t.power.phase = s.power.phase ∧ t.power.asleep = s.power.asleep ∧
          t.power.status = (if r = 1 then s.power.status else 4) ∧ s.occurred t 677 1) ∧
      (({ s with power := { s.power with target := w.toNat, state := st } } : State).sleepCheck w.toNat st = none →
        ∃ t, exec i s = .next t ∧ t.power.curT = w.toNat ∧ t.power.curS = st ∧ t.power.status = 1 ∧
          t.power.phase = (if st = 1 ∨ st = 4 then 2 else 1) ∧ t.power.asleep = s.power.asleep ∧ (st = 1 → t.flds = s.flds ∧ t.mem = s.mem) ∧
          (st = 4 → t.rd (pwrA 0) R.PWR_STICKY.OFF_CMD = 1))) ∧
    (s.agentOn = true →
      (s.power.phase = 3 ∨ s.targetOk w.toNat = false → ∃ t, exec (.sleepExit w) s = .next t ∧ t.mem = s.mem ∧ t.power.phase = s.power.phase ∧
        t.power.asleep = s.power.asleep ∧ s.occurred t 677 1) ∧
      (s.power.phase = 0 → s.power.wakes = [] → s.tgtSleeps w.toNat = true → ∃ t, exec (.sleepExit w) s = .next t ∧ t = { s with power := t.power } ∧
        t.power.phase = 3 ∧ t.power.curT = w.toNat ∧ t.power.status = 3 ∧ t.power.wakes = []) ∧
      (s.power.phase = 0 → s.power.wakes = [] → s.targetOk w.toNat = true → s.tgtSleeps w.toNat = false →
        ∃ t, exec (.sleepExit w) s = .next t ∧ t = { s with power := t.power } ∧ t.power.phase = 0 ∧ t.power.asleep = s.power.asleep)) ∧
    (s.power.phase = 1 → (∀ k, k ∈ s.targetUnits s.power.curT → s.unitDrained k = true) → (s.power.curS = 3 → ∀ e, e < 16 → (s.mac e).tx = none) →
      ∃ t, exec .sleepCommitPoint s = .next t ∧ t.mem = s.mem ∧ t.power.phase = 2 ∧ t.agent.waiting = none) ∧
    (s.power.phase = 2 → s.power.wakes = [] → s.targetOk s.power.curT = true → ∃ t, exec .sleepEntryDone s = .next t ∧
      (s.power.curS = 1 ∨ s.power.curS = 2 → s.power.dev = 0 → t.power.phase = 0 ∧ t.power.status = 2 ∧ s.occurred t 675 1 ∧
        ∀ k, k ∈ s.targetUnits s.power.curT → t.unitSleep k = s.power.curS ∧ (k < 1000 → t.islState k = (if s.power.curS = 1 then 6 else 7))) ∧
      (s.power.curS = 3 → t.power.dev = 3 ∧ t.power.phase = 0 ∧ t.power.status = 2 ∧ t.load.link = false) ∧
      (s.power.curS = 4 → t.power.dev = 4 ∧ t.mem = [] ∧ t.counter = 0)) ∧
    (s.power.phase = 3 → s.power.curS = 2 → s.power.dev = 0 → s.power.wakes = [] → s.targetOk s.power.curT = true → ∃ t, exec .sleepExitDone s = .next t ∧
      t.power.phase = 0 ∧ t.power.status = 0 ∧ s.occurred t 676 1 ∧ ∀ k, k ∈ s.targetUnits s.power.curT → t.unitSleep k = 0) ∧
    (s.power.phase = 3 → s.power.curS = 3 → s.power.dev = 3 → s.power.perstLow = false → s.power.wakes = [] →
      (∀ b, b < 4 → ∀ p, p ∈ s.brgSides b → s.brg p R.BRG_STAT.STATE ≠ 1) → ∃ t, exec .sleepExitDone s = .next t ∧ t.power.dev = 0 ∧
        t.power.phase = 0 ∧ t.power.status = 0) ∧
    (∀ e n t, n < 64 → s.wakeSlot n = (some e, t) → (∀ m, m < 64 → m ≠ n → (s.wakeSlot m).1 ≠ some e) → s.power.phase = 0 → s.power.dev = 0 →
      s.power.wakes = [] → s.tgtSleeps t = true → ∃ u, exec (.wakeEvent e) s = .next u ∧ u = { s with power := u.power } ∧ u.power.phase = 3 ∧
        u.power.curT = t ∧ u.power.status = 3) ∧
    (∀ e, (∀ m, m < 64 → (s.wakeSlot m).1 ≠ some e) → exec (.wakeEvent e) s = .next { s with power := { s.power with wakeQ := s.power.wakeQ.erase e } }) ∧
    (s.power.timer = true → ∃ t, exec .wakeTimer s = .next t ∧ t.mem = s.mem ∧ t.power.timer = false ∧ s.occurred t 692 1) ∧
    (s.power.timer = false → exec .wakeTimer s = .next s) ∧
    ∀ k, s.power.on = true → k < 8 → exec (.wakePin k) s = .next (s.raise (693 + k))

/-- VIN_START of a stopped device, IBUS_UNDERVOLTAGE, REG_FAULT, SB_OVERCURRENT and THERMAL_RESTART begin the power-on steps: memories empty, registers at their reset values, bridges in training. The sticky power record keeps its bits through each and gains the bit of the event; RECORD_LOSS leaves VIN_FRESH alone set. BROWNOUT ends power. THERMAL_SHUTDOWN brings S4, and a second one within 60 s of a thermal restart sets THERM_REPEAT and is not restarted. POWER_ON_STEPS_DONE, once no bridge trains, leaves the bays in HOLD, and halts with MIXED_CLASS where the dies differ in class. (R17, R43, R131, R419, R421, R451, R453, R454, R472, R476, R477, R479) -/
def Obligations.SuppliesAndStartUp : Prop :=
  ∀ s : State,
    (∀ i f, (i, f) ∈ [(Instr.ibusUndervoltage, R.PWR_STICKY.IBUS_UV), (.regFault, R.PWR_STICKY.REG_FAULT), (.sbOvercurrent, R.PWR_STICKY.SB_OVERCURRENT)] →
      s.power.on = true → s.power.dev = 0 → ∃ t, exec i s = .next t ∧ s.restarts t ∧ s.keepsRecord t [f]) ∧
    (s.power.dev ≠ 4 → s.power.on = false ∨ s.power.stepsDone = false → ∃ t, exec .vinStart s = .next t ∧ s.restarts t ∧ s.keepsRecord t []) ∧
    (s.power.dev = 4 ∨ (s.power.on = true ∧ s.power.stepsDone = true) → exec .vinStart s = .next s) ∧
    (s.power.on = true → ∃ t, exec .brownout s = .next t ∧ t.power.on = false ∧ t.mem = [] ∧ t.rows = [] ∧ t.counter = 0 ∧
      t.fuses = s.fuses ∧ t.pending = s.pending ∧ s.keepsRecord t [R.PWR_STICKY.BROWNOUT]) ∧
    (s.power.on = false → ∀ i, i ∈ [Instr.brownout, .ibusUndervoltage, .regFault, .sbOvercurrent, .thermalShutdown, .powerOnStepsDone] →
      exec i s = .next s) ∧
    (∃ t, exec .recordLoss s = .next t ∧ t = { s with flds := t.flds } ∧ (∀ k, keyDom k ≠ .vin → Tab.get regReset t.flds k = Tab.get regReset s.flds k) ∧
      ∀ g, g ∈ stickies → t.rd (pwrA 0) g = if g = R.PWR_STICKY.VIN_FRESH then 1 else 0) ∧
    (∀ again, again = (s.power.thermal && decide (s.counter < 60000000000)) → s.power.on = true → s.power.dev ≠ 4 →
      ∃ t, exec .thermalShutdown s = .next t ∧ t.power.dev = 4 ∧ t.power.on = true ∧ t.power.thermal = !again ∧ t.mem = [] ∧ t.rows = [] ∧
        s.keepsRecord t (if again then [R.PWR_STICKY.THERM_SHUTDOWN, R.PWR_STICKY.THERM_REPEAT] else [R.PWR_STICKY.THERM_SHUTDOWN])) ∧
    (s.power.on = true → s.power.dev = 4 → s.power.thermal = true → ∃ t, exec .thermalRestart s = .next t ∧ s.restarts t ∧ s.keepsRecord t [] ∧
      t.power.thermal = true) ∧
    (s.power.dev ≠ 4 ∨ s.power.thermal = false → exec .thermalRestart s = .next s) ∧
    (s.power.on = true → s.power.stepsDone = false →
      ((∃ b p, b < 4 ∧ p ∈ s.brgSides b ∧ s.brg p R.BRG_STAT.STATE = 1) → exec .powerOnStepsDone s = .next s) ∧
      ((∀ b, b < 4 → ∀ p, p ∈ s.brgSides b → s.brg p R.BRG_STAT.STATE ≠ 1) → ∃ t, exec .powerOnStepsDone s = .next t ∧ t.mem = s.mem ∧
        t.power = { s.power with stepsDone := true } ∧ (∀ b, s.bayHere b = true → t.bayState b = if s.bayState b = 2 then 3 else s.bayState b) ∧
        (s.oneClass = true → t.cfgState = s.cfgState) ∧ (s.oneClass = false → t.cfgState = 9 ∧ t.rd (cfgA 0) R.CFG_STAT.ERR = 6)))

/-- Outside the power-on steps, S3, S4 and another device reset, the device watchdog, the falling edge of PERST_N, DEVRESET at debug level 2 and an accepted DEVICE_RESET command each begin a device reset: every present quadrant is in reset with its RST_CAUSE recorded and counted, bay registers read their reset values, and store contents, bay SRAM and the counter stand. Inside another device reset they are absorbed. While PERST_N only wakes the device, its edge resets nothing; DEVRESET below level 2 acts as BYPASS. DEVICE_RESET_DONE releases every quadrant, leaves the bays in HOLD and trains the bridges. (R42, R43, R46, R131, R388, R465, R486, R492, R504, R517) -/
def Obligations.DeviceResets : Prop :=
  ∀ s : State,
    (s.power.on = true → s.power.stepsDone = true → s.power.dev = 0 → s.qReset 0 = false →
      (∃ t, exec .deviceWdogExpiry s = .next t ∧ s.resetsDevice t 3) ∧
      (s.power.perstLow = false → s.perstMasked = false → ∃ t, exec .perstAssert s = .next t ∧ s.resetsDevice t 1 ∧ t.power.perstLow = true) ∧
      (2 ≤ s.level → ∃ t, exec .devreset s = .next t ∧ s.resetsDevice t 5 ∧ t.jtag.ir = 0x11) ∧
      ∀ o h, s.hears o h → h.session = 0 → s.lockedBy 0 ⟨0x0140, 2, 2, 1, 0xD5⟩ = false →
        ∃ t, exec (.deviceReset o h) s = .next t ∧ s.resetsDevice t 2) ∧
    (s.power.stepsDone = false ∨ s.power.dev ≠ 0 ∨ s.qReset 0 = true → exec .deviceWdogExpiry s = .next s ∧
      (2 ≤ s.level → exec .devreset s = .next (s.tap 0x11 0 (.scan 1 0)))) ∧
    (s.level < 2 → ∃ t, exec .devreset s = .next t ∧ t.mem = s.mem ∧ t.inReset = s.inReset ∧ t.jtag.ir = 0xFF ∧
      t.bit (dbgA 0) R.DBG_STAT.LEVEL_DENIED = true) ∧
    (s.power.on = true → s.power.perstLow = false → s.perstMasked = true → ∃ t, exec .perstAssert s = .next t ∧ t.mem = s.mem ∧
      t.inReset = s.inReset ∧ t.power.perstLow = true ∧ s.occurred t 702 1) ∧
    (s.power.perstLow = true → exec .perstAssert s = .next s) ∧
    exec .perstRelease s = .next { s with power := { s.power with perstLow := false } } ∧
    (s.qReset 0 = false → exec .deviceResetDone s = .next s) ∧
    (s.qReset 0 = true → ∃ t, exec .deviceResetDone s = .next t ∧ (∀ a, a < dramA 0 0 → t.byte a = s.byte a) ∧ t.rows = s.rows ∧
      (∀ q, s.quadOk q = true → t.qReset q = false) ∧
      (∀ b, s.bayHere b = true → t.bayState b = 3) ∧
      ∀ b, b < 4 → s.bridgeOk b = true → s.deadBrg b = false → ∀ p, p ∈ s.brgSides b → t.brg p R.BRG_STAT.STATE = 1)

/-- A QUADRANT_RESET command that names Q0 is answered QUADRANT_RESET_DENIED, an absent quadrant RANGE, during a load LOAD_BUSY, each with no effect; an accepted one resets that quadrant alone: its bays' registers read their reset values, its RST_CAUSE is recorded, all bay SRAM stands. QUADRANT_RESET_DONE releases it and trains its bridges, its bays end in HOLD. A telemetry record clears LOST of its quadrant with event 764 + q, or is held at a blocked hop; TELEMETRY_LOST sets it, and with FAULT_RESET resets the quadrant, at once or when the load in progress ends. (R42, R43, R44, R46, R131, R387, R517, R519, R522, R523) -/
def Obligations.QuadrantResetsAndTelemetry : Prop :=
  ∀ (s : State) (q : Nat), q < 4 →
    (∀ o h, s.hears o h → h.session = 0 → s.lockedBy 0 ⟨0x0140, 1, 2, 1, q⟩ = false →
      (∀ st, (q = 0 ∧ st = 0x13) ∨ (q ≠ 0 ∧ s.quadOk q = false ∧ st = 5) ∨ (q ≠ 0 ∧ s.quadOk q = true ∧ s.loadBusy = true ∧ st = 0x14) →
        ∃ t, exec (.quadrantReset o h q) s = .next t ∧ t.mem = s.mem ∧ t.inReset = s.inReset ∧
          s.answers t o h 2 st 0 [] [(⟨0x0140, 1, 2, 0, 0⟩, st)]) ∧
      (q ≠ 0 → s.quadOk q = true → s.loadBusy = false → s.qReset q = false → ∃ t, exec (.quadrantReset o h q) s = .next t ∧ t.qReset q = true ∧
        (∀ k, k ≠ q → t.qReset k = s.qReset k) ∧ t.rd (idA q) R.RST_CAUSE.CAUSE = 6 ∧
        t.rd (idA q) R.RST_CAUSE.COUNT = min (s.rd (idA q) R.RST_CAUSE.COUNT + 1) 65535 ∧ (∀ a, a < dramA 0 0 → t.byte a = s.byte a) ∧
        (∀ k, winA (32 * q) * 32 ≤ k → k < winA (32 * q + 32) * 32 → locate (k / 32) ≠ none → Tab.get regReset t.flds k = regReset k) ∧
        s.answers t o h 2 0 0 [] [(⟨0x0140, 1, 2, 0, 0⟩, 0)])) ∧
    (q ≠ 0 → s.qReset q = true → s.qReset 0 = false → ∃ t, exec (.quadrantResetDone q) s = .next t ∧ t.qReset q = false ∧ t.mem = s.mem ∧
      (∀ k, k ≠ q → t.qReset k = s.qReset k) ∧ (∀ k, k < 32 → s.bayState (32 * q + k) = 2 → t.bayState (32 * q + k) = 3) ∧
      ∀ b, b < 4 → s.bridgeOk b = true → s.deadBrg b = false → (∀ p, p ∈ s.brgSides b → s.brg p R.BRG_STAT.STATE ≠ 1 ∧ (p.1 = q ∨ s.qReset p.1 = false)) →
        (∃ p, p ∈ s.brgSides b ∧ p.1 = q) → ∀ p, p ∈ s.brgSides b → t.brg p R.BRG_STAT.STATE = 1) ∧
    (q = 0 ∨ s.qReset q = false ∨ s.qReset 0 = true → exec (.quadrantResetDone q) s = .next s) ∧
    (q ≠ 0 → s.quadOk q = true →
      (s.qReset q = false → s.qReset 0 = false →
        (∀ n, s.heldOn (s.route (controlRouter q) (controlRouter 0)) = some n → ∃ t, exec (.telemetrySend q) s = .next t ∧
          t = { s with blocked := t.blocked } ∧ ⟨n, false, portOf (controlRouter 0) 1, 0x4000 + q, false⟩ ∈ t.blocked) ∧
        (s.heldOn (s.route (controlRouter q) (controlRouter 0)) = none → ∃ t, exec (.telemetrySend q) s = .next t ∧ t.mem = s.mem ∧
          (t.rd (pwrA 0) R.TELEM_STAT.LOST).testBit (q - 1) = false ∧
          (∀ j, j < 3 → j ≠ q - 1 → (t.rd (pwrA 0) R.TELEM_STAT.LOST).testBit j = (s.rd (pwrA 0) R.TELEM_STAT.LOST).testBit j) ∧
          ((s.rd (pwrA 0) R.TELEM_STAT.LOST).testBit (q - 1) = true → s.occurred t (764 + q) 1))) ∧
      ((s.rd (pwrA 0) R.TELEM_CFG.FAULT_RESET).testBit (q - 1) = false ∨ s.qReset q = true → ∃ t, exec (.telemetryLost q) s = .next t ∧ t.mem = s.mem ∧
        t.inReset = s.inReset ∧ (t.rd (pwrA 0) R.TELEM_STAT.LOST).testBit (q - 1) = true ∧
        ((s.rd (pwrA 0) R.TELEM_STAT.LOST).testBit (q - 1) = false → s.occurred t (764 + q) 1)) ∧
      ((s.rd (pwrA 0) R.TELEM_CFG.FAULT_RESET).testBit (q - 1) = true → s.qReset q = false →
        (s.loadBusy = true → ∃ t, exec (.telemetryLost q) s = .next t ∧ t.mem = s.mem ∧ q ∈ t.power.faultQ ∧
          (t.rd (pwrA 0) R.TELEM_STAT.LOST).testBit (q - 1) = true) ∧
        (s.loadBusy = false → s.power.on = true → s.power.stepsDone = true → s.qReset 0 = false → ∃ t, exec (.telemetryLost q) s = .next t ∧
          t.qReset q = true ∧ t.rd (idA q) R.RST_CAUSE.CAUSE = 7 ∧ (t.rd (pwrA 0) R.TELEM_STAT.LOST).testBit (q - 1) = true)))

/-- REGISTER_WRITE sets the fields of an event's EVT_CFG and no other field, and clears the sticky bits written as 1. READ_CLEAR of EVT_STAT returns it and clears OCC; DEBUG_PEEK returns it and changes nothing. A follower quadrant's copy of a register that Q0 alone has reads 0 and ignores writes. With PF0's link up, the route open and no probe on, HOST_WRITE and HOST_READ through BAR2 reach the register at that offset. An address that is no word's, or in a bay or quadrant held in reset, has no effect (the model's choice, log entry 6). The device manager has nothing to do in these states. (R9, R11, R13, R34, R245, R247, R251, R425, R454, R491) -/
def Obligations.RegisterAndHostAccesses : Prop :=
  ∀ (s : State) (v : BitVec 32), s.calm →
    (∀ e, e < 1024 → s.quadLive 0 = true →
      (∃ t, exec (.registerWrite (evtA e) v) s = .next t ∧ t = { s with flds := t.flds } ∧ t.rd (evtA e) R.EVT_CFG.HOST_EN = bits v.toNat 31 31 ∧
        t.rd (evtA e) R.EVT_CFG.ENG_EN = bits v.toNat 30 30 ∧ t.rd (evtA e) R.EVT_CFG.VECTOR = bits v.toNat 10 0 ∧
        ∀ k, k ∉ [key (evtA e) R.EVT_CFG.HOST_EN, key (evtA e) R.EVT_CFG.ENG_EN, key (evtA e) R.EVT_CFG.VECTOR] →
          Tab.get regReset t.flds k = Tab.get regReset s.flds k) ∧
      (∀ x, x = s.rd (evtA e) R.EVT_STAT.PENDING * 2 ^ 31 + s.rd (evtA e) R.EVT_STAT.OCC →
        exec (.readClear (evtA e + 0xC)) s = .next ((s.wr (evtA e) R.EVT_STAT.OCC 0).emit (.regValue (evtA e + 0xC) x)) ∧
        exec (.debugPeek (evtA e + 0xC)) s = .next (s.emit (.regValue (evtA e + 0xC) x))) ∧
      (∀ q, 1 ≤ q → q < 4 → exec (.registerWrite (quadA q + 0xC00000 + e * 0x10) v) s = .next s ∧
        (s.quadLive q = true ∨ s.quadOk q = false → exec (.readClear (quadA q + 0xC00000 + e * 0x10)) s = .next (s.emit (.regValue (quadA q + 0xC00000 + e * 0x10) 0)))) ∧
      (s.load.link = true → s.power.dev = 0 → s.rtState (controlRouter 0) = 0 → s.probing = false →
        exec (.hostWrite 0 2 (0xC00000 + e * 0x10) 4 v.toNat 15 netOk) s = exec (.registerWrite (evtA e) v) s ∧
        exec (.hostRead 0 2 (0xC00000 + e * 0x10) 4 netOk) s = .next (s.emit (.completion 0 0
          (s.rd (evtA e) R.EVT_CFG.HOST_EN * 2 ^ 31 + s.rd (evtA e) R.EVT_CFG.ENG_EN * 2 ^ 30 + s.rd (evtA e) R.EVT_CFG.VECTOR))))) ∧
    (∀ f len a be net, s.load.link = false ∨ s.power.dev ≠ 0 → exec (.hostRead f 2 a len net) s = .next s ∧
      exec (.hostWrite f 2 a len v.toNat be net) s = .next s) ∧
    (s.quadLive 0 = true → ∃ t, exec (.registerWrite (pwrA 0) v) s = .next t ∧ t = { s with flds := t.flds } ∧ ∀ g, g ∈ stickies → s.rd (pwrA 0) g < 2 →
      t.rd (pwrA 0) g = if bits v.toNat g.hi g.lo = 1 then 0 else s.rd (pwrA 0) g) ∧
    ∀ a, a % 4 ≠ 0 ∨ (∃ b, b < 128 ∧ winA b ≤ a ∧ a < winA (b + 1) ∧ s.bayState b = 2) ∨
        (∃ q, q < 4 ∧ quadA q ≤ a ∧ a < quadA (q + 1) ∧ s.quadOk q = true ∧ s.qReset q = true) →
      exec (.registerWrite a v) s = .next s ∧ exec (.readClear a) s = .next s ∧ exec (.debugPeek a) s = .next s

/-- PCIE_LINK_UP opens the link after the resets with PERST_N released. A configuration request to an absent function is unsupported, one to PF1 to PF7 before CONFIGURED or PARTIAL asks for a retry, a write to the command register is kept and read back. FLR clears the function's state alone. A DAP read of DBG_LEVEL answers it; a read of an engine's debug registers at level 0, or a write of its stimulus ports, is denied with LEVEL_DENIED; at level 1 the write is done. DAP with neither selects the register only. (R420, R421, R423, R424, R486, R490, R492, R493, R508, R509) -/
def Obligations.PcieFunctionsAndDap : Prop :=
  ∀ (s : State) (f off v : Nat),
    (s.power.on = true → s.power.stepsDone = true → s.power.dev = 0 → s.qReset 0 = false → s.power.perstLow = false →
      ∃ t, exec .pcieLinkUp s = .next t ∧ t = { s with load := t.load } ∧ t.load.link = true ∧ (s.load.link = false → t.load.window = true)) ∧
    (s.power.perstLow = true ∨ s.qReset 0 = true ∨ s.power.dev ≠ 0 → exec .pcieLinkUp s = .next s) ∧
    (s.load.link = true → s.power.dev = 0 → s.qReset 0 = false →
      (∀ w, s.pfOk f = false → exec (.pcieConfigRequest f off w v) s = .next (s.emit (.config f 1 0))) ∧
      (∀ w, s.pfOk f = true → f ≠ 0 → s.cfgState ≠ 5 → s.cfgState ≠ 6 → s.cfgState ≠ 9 →
        exec (.pcieConfigRequest f off w v) s = .next (s.emit (.config f 2 0))) ∧
      (∀ w, f ≠ 0 → s.cfgState = 9 → exec (.pcieConfigRequest f off w v) s = .next (s.emit (.config f 1 0))) ∧
      (s.pfOk f = true → f = 0 ∨ s.cfgState = 5 ∨ s.cfgState = 6 →
        (∃ t, exec (.pcieConfigRequest f 4 true v) s = .next t ∧ t = { s with pfSt := t.pfSt, out := .config f 0 0 :: s.out } ∧
          (t.pfState f).command = v % 65536 ∧ ∀ g, g ≠ f → t.pfState g = s.pfState g) ∧
        (off ≠ 4 → exec (.pcieConfigRequest f off true v) s = .next (s.emit (.config f 0 0))) ∧
        ∃ t x, exec (.pcieConfigRequest f 4 false v) s = .next t ∧ t = { s with out := .config f 0 x :: s.out, free := t.free } ∧
          ((s.pfState f).command < 65536 → x % 65536 = (s.pfState f).command))) ∧
    (s.pfOk f = true → s.load.link = true → exec (.flr f) s = .next (s.setPfState f PfSt.init)) ∧
    (s.pfOk f = false ∨ s.load.link = false → exec (.flr f) s = .next s) ∧
    (∀ x, x = s.level % 4 + s.fuses.dbgCeil % 4 * 4 + s.fuses.dbgOpen % 4 * 16 →
      exec (.dap 1 0x1000 v) s = .next (({ s with jtag := { s.jtag with ir := 0x10, balls := 0, status := 0, data := x } } : State).emit (.dap 0 x))) ∧
    (∀ b, b < 32 →
      (s.level = 0 → ∃ t, exec (.dap 1 (b * 0x40 + 4) v) s = .next t ∧ t.mem = s.mem ∧ t.jtag.status = 2 ∧ t.bit (dbgA 0) R.DBG_STAT.LEVEL_DENIED = true) ∧
      ∀ k, k < 8 →
        (s.level = 0 → ∃ t, exec (.dap 2 (b * 0x40 + 0x10 + 4 * k) v) s = .next t ∧ t.mem = s.mem ∧ t.jtag.status = 2 ∧
          t.bit (dbgA 0) R.DBG_STAT.LEVEL_DENIED = true ∧
          t.rd (dbgEngA b) (R.STIM_EN.EN.shift (4 * k)) = s.rd (dbgEngA b) (R.STIM_EN.EN.shift (4 * k))) ∧
        (1 ≤ s.level → ∃ t, exec (.dap 2 (b * 0x40 + 0x10 + 4 * k) v) s = .next t ∧ t = { s with flds := t.flds, jtag := t.jtag, out := t.out } ∧
          t.jtag.status = 0 ∧ t.rd (dbgEngA b) (R.STIM_EN.EN.shift (4 * k)) = v % 2 ^ 32)) ∧
    ∀ o, o % 4 = 0 ∨ o % 4 = 3 → exec (.dap o off v) s = .next { s with jtag := { s.jtag with ir := 0x10, balls := 0 } }

/-- RETRAIN of an edge whose bridge is neither training nor cut off brings both sides to TRAINING with event 760 + b; else it is absorbed. When training ends, each side shows its own and its partner's mask, both take IN_USE = OWN AND PARTNER, the bridge is UP with four groups or more and FENCED below, and unequal masks set WIDTH_MISMATCH. A wrong rotation code leaves it DOWN with CODE_ERR for good. A bad frame adds 1 to REPLAY; the sixteenth of a group within 1 ms removes the group on both sides and sets DEGRADED. (R26, R27, R48, R512, R513, R514, R516, R517, R518, R526) -/
def Obligations.BridgeTrainingAndFrames : Prop :=
  ∀ (s : State) (b : Nat) (p0 p1 : Nat × Nat), s.brgSides b = [p0, p1] → s.bridgeOk b = true →
    (∀ q k, s.brgOf q k = some b →
      (s.deadBrg b = false → (∀ p, p ∈ [p0, p1] → s.qReset p.1 = false ∧ s.brg p R.BRG_STAT.STATE ≠ 1) → ∃ t, exec (.retrain q k) s = .next t ∧
        t.mem = s.mem ∧ (∀ p, p ∈ [p0, p1] → t.brg p R.BRG_STAT.STATE = 1) ∧ (∀ g, g < 8 → t.badFrames (b * 8 + g) = []) ∧ s.occurred t (760 + b) 1) ∧
      (s.deadBrg b = true ∨ (∃ p, p ∈ [p0, p1] ∧ s.brg p R.BRG_STAT.STATE = 1) → exec (.retrain q k) s = .next s)) ∧
    (∀ q k, s.brgOf q k = none → exec (.retrain q k) s = .next s) ∧
    (∀ code good0 good1 spare0 spare1,
      (s.deadBrg b = false → s.qReset p0.1 = false → s.qReset p1.1 = false → s.brg p0 R.BRG_STAT.STATE = 1 →
        (code = true → ∀ own0 own1, own0 = clearBits (good0 % 256) (s.brg p0 R.BRG_CTRL.GRP_DIS) → own1 = clearBits (good1 % 256) (s.brg p1 R.BRG_CTRL.GRP_DIS) →
          ∃ t, exec (.bridgeTrainingDone b code good0 good1 spare0 spare1) s = .next t ∧ t.mem = s.mem ∧
            t.brg p0 R.BRG_STAT.OWN = own0 ∧ t.brg p0 R.BRG_STAT.PARTNER = own1 ∧ t.brg p1 R.BRG_STAT.OWN = own1 ∧ t.brg p1 R.BRG_STAT.PARTNER = own0 ∧
            t.brg p0 R.BRG_SPARE.SPARE = spare0 % 256 ∧ t.brg p1 R.BRG_SPARE.SPARE = spare1 % 256 ∧
            (∀ p, p ∈ [p0, p1] → t.brg p R.BRG_STAT.IN_USE = own0 &&& own1 ∧
              t.brg p R.BRG_STAT.STATE = (if 4 ≤ groupCount (own0 &&& own1) then 2 else 3)) ∧
            (own0 ≠ own1 → ∀ p, p ∈ [p0, p1] → t.brg p R.BRG_LAST.OWN = t.brg p R.BRG_STAT.OWN ∧ t.bit (brgA p.1 p.2) R.BRG_STAT.WIDTH_MISMATCH = true)) ∧
        (code = false → ∃ t, exec (.bridgeTrainingDone b code good0 good1 spare0 spare1) s = .next t ∧ t.mem = s.mem ∧ t.deadBrg b = true ∧
          ∀ p, p ∈ [p0, p1] → t.brg p R.BRG_STAT.STATE = 0 ∧ t.bit (brgA p.1 p.2) R.BRG_STAT.CODE_ERR = true)) ∧
      (s.deadBrg b = true ∨ s.brg p0 R.BRG_STAT.STATE ≠ 1 → exec (.bridgeTrainingDone b code good0 good1 spare0 spare1) s = .next s)) ∧
    ∀ side g use p recent, [p0, p1][side]? = some p → use = s.brg p R.BRG_STAT.IN_USE → use < 256 → g < 8 →
      recent = s.counter :: (s.badFrames (b * 8 + g)).filter (fun t => decide (s.counter < t + 1000000)) →
      (use.testBit g = false ∨ s.brg p R.BRG_STAT.STATE < 2 → exec (.bridgeBadFrame b side g) s = .next s) ∧
      (use.testBit g = true → 2 ≤ s.brg p R.BRG_STAT.STATE → ∃ t, exec (.bridgeBadFrame b side g) s = .next t ∧ t.mem = s.mem ∧
        t.brg p R.BRG_REPLAY.REPLAY = min (s.brg p R.BRG_REPLAY.REPLAY + 1) (2 ^ 32 - 1) ∧
        (recent.length < 16 → t.badFrames (b * 8 + g) = recent ∧ t.brg p R.BRG_STAT.IN_USE = use) ∧
        (16 ≤ recent.length → t.badFrames (b * 8 + g) = [] ∧ ∀ r, r ∈ [p0, p1] → t.bit (brgA r.1 r.2) R.BRG_STAT.DEGRADED = true ∧
          t.brg r R.BRG_STAT.IN_USE = use - 2 ^ g ∧ t.brg r R.BRG_STAT.STATE = (if 4 ≤ groupCount (use - 2 ^ g) then 2 else 3)))

/-- For every command and state, the step of the state with that command at the front of its queue is exec of the command on the state with the queue's rest. With an empty queue the step is one tick (the model's choice, log entry 50). (R17, R352) -/
def Obligations.StepRunsTheFrontCommand : Prop :=
  (∀ (s : State) (c : Instr) (rest : List Instr), step { s with pending := c :: rest } = exec c { s with pending := rest }) ∧
    ∀ s : State, s.pending = [] → step s = .next s.tick

/-- No command ends in a fault or a refusal: for every command, well-formed or not, and every state there is a next state, and so there is for every step. (R4, R9, R14, R34) -/
def Obligations.EveryCommandAnswers : Prop :=
  (∀ (c : Instr) (s : State), ∃ t, exec c s = .next t) ∧ ∀ s : State, ∃ t, step s = .next t

/-- From every state whose tables of memory bytes, register fields, store rows and check bits have their canonical form (keys rise, and no entry says what an unlisted key reads as), every step that answers a next state, be it a command or a tick, leaves them in that form, and leaves the fuses as they were. (R4, R8, R17, R40) -/
def Obligations.StepsKeepTheTablesCanonical : Prop :=
  ∀ s t : State, s.canonical → step s = .next t → t.canonical ∧ t.fuses = s.fuses

/-- At reset the tables have their canonical form, no command waits, memory lists nothing, the counter is 0, and the configuration engine is UNCONFIGURED. Every bay's registers read their reset values, with context 0 enabled and READY and the others DISABLED, and every event is disabled with OCC 0. (R17, R43, R220, R251, R352, R447) -/
def Obligations.ResetState : Prop :=
  State.reset.canonical ∧ State.reset.pending = [] ∧ State.reset.mem = [] ∧ State.reset.counter = 0 ∧ State.reset.cfgState = 0 ∧
    State.reset.baysFresh ∧
    (∀ b, b < 128 → State.reset.rd (ctxA b 0) R.CTX_CFG.EN = 1 ∧ State.reset.rd (ctxA b 0) R.CTX_STATE.STATE = 2 ∧
      ∀ c, 1 ≤ c → c < 32 → State.reset.rd (ctxA b c) R.CTX_CFG.EN = 0 ∧ State.reset.rd (ctxA b c) R.CTX_STATE.STATE = 0) ∧
    ∀ e, e < 1024 → State.reset.rd (evtA e) R.EVT_CFG.HOST_EN = 0 ∧ State.reset.rd (evtA e) R.EVT_CFG.ENG_EN = 0 ∧ State.reset.rd (evtA e) R.EVT_STAT.OCC = 0

/-- A read from a physical address from 0xE0_0000_0000 upwards answers DECODE, a write to one is discarded and answers DECODE; both leave the whole state as it was. (R16) -/
def Obligations.ReservedRangeErrors : Prop :=
  ∀ (s : State) (pa n be v : Nat) (dbg : Bool) (who : Who) (net : Net), 0xE000000000 ≤ pa →
    (∃ st, st ≠ 0 ∧ s.busRead pa n dbg who net = (st, 0, s)) ∧ ∃ st, st ≠ 0 ∧ s.busWrite pa n be v who net = (st, s)

/-- In register space an access of fewer than 4 bytes, or at an address that is no multiple of 4, answers an error and leaves the whole state as it was. A 32-bit access is one register access. A 64-bit access is the register access at the lower address followed by the one at the higher. The last two hold where the register's bay is not in reset. (R9) -/
def Obligations.RegisterAccessWidths : Prop :=
  ∀ (s : State) (pa n be v r : Nat) (dbg : Bool) (who : Who) (net : Net), s.target? pa = .regs r →
    (n < 4 ∨ pa % 4 ≠ 0 → (∃ st, st ≠ 0 ∧ s.serveRead pa n dbg who net = (st, 0, s)) ∧ ∃ st, st ≠ 0 ∧ s.serveWrite pa n be v who net = (st, s)) ∧
    (pa % 4 = 0 → s.bayHeld pa = false → v < 2 ^ 64 →
      s.serveRead pa 4 dbg who net = (0, s.regRead dbg pa) ∧ s.serveWrite pa 4 15 (v % 2 ^ 32) who net = (0, s.regStore pa (v % 2 ^ 32)) ∧
      (∀ lo hi, lo = s.regRead dbg pa → hi = lo.2.regRead dbg (pa + 4) → s.serveRead pa 8 dbg who net = (0, lo.1 + 2 ^ 32 * hi.1, hi.2)) ∧
      s.serveWrite pa 8 255 v who net = (0, (s.regStore pa (v % 2 ^ 32)).regStore (pa + 4) (v / 2 ^ 32)))
end

