-- ==== Sys2Proof/Laws/Tab.lean ====
section
/-! SUPPORT. Laws/Tab.lean: sparse tables: reading after writing, and the canonical form that every table operation keeps. -/
namespace Sys2Proof.Machine

variable {α : Type}

@[simp] theorem Tab.get_nil (d : Nat → α) (k : Nat) : Tab.get d [] k = d k := rfl

theorem Tab.get_erase_same (d : Nat → α) (t : Tab α) (k : Nat) : Tab.get d (Tab.erase k t) k = d k := by
  induction t with
  | nil => rfl
  | cons e t ih =>
    obtain ⟨k', v⟩ := e
    by_cases h : k' = k <;> simp [Tab.erase, Tab.get, h, ih]

theorem Tab.get_erase_ne (d : Nat → α) (t : Tab α) {k k' : Nat} (h : k' ≠ k) :
    Tab.get d (Tab.erase k t) k' = Tab.get d t k' := by
  induction t with
  | nil => rfl
  | cons e t ih =>
    obtain ⟨j, v⟩ := e
    by_cases hj : j = k
    · subst hj; simp [Tab.erase, Tab.get, ih, Ne.symm h]
    · simp [Tab.erase, Tab.get, hj, ih]

theorem Tab.get_ins_same (d : Nat → α) (t : Tab α) (k : Nat) (v : α) : Tab.get d (Tab.ins k v (Tab.erase k t)) k = v := by
  induction t with
  | nil => simp [Tab.erase, Tab.ins, Tab.get]
  | cons e t ih =>
    obtain ⟨j, w⟩ := e
    by_cases hj : j = k
    · simp [Tab.erase, hj, ih]
    · by_cases hl : k < j <;> simp [Tab.erase, Tab.ins, Tab.get, hj, hl, ih]

theorem Tab.get_ins_ne (d : Nat → α) (t : Tab α) {k k' : Nat} (v : α) (h : k' ≠ k) :
    Tab.get d (Tab.ins k v t) k' = Tab.get d t k' := by
  induction t with
  | nil => simp [Tab.ins, Tab.get, Ne.symm h]
  | cons e t ih =>
    obtain ⟨j, w⟩ := e
    by_cases hl : k < j <;> simp [Tab.ins, Tab.get, hl, ih, Ne.symm h]

variable [DecidableEq α]

/-- A read after a write to the same key gives the value written. -/
@[simp] theorem Tab.get_put_same (d : Nat → α) (t : Tab α) (k : Nat) (v : α) : Tab.get d (Tab.put d t k v) k = v := by
  unfold Tab.put
  split
  · rename_i h; rw [Tab.get_erase_same, h]
  · exact Tab.get_ins_same d t k v

/-- A write leaves every other key alone. -/
theorem Tab.get_put_ne (d : Nat → α) (t : Tab α) {k k' : Nat} (v : α) (h : k' ≠ k) :
    Tab.get d (Tab.put d t k v) k' = Tab.get d t k' := by
  unfold Tab.put
  split
  · exact Tab.get_erase_ne d t h
  · rw [Tab.get_ins_ne _ _ _ h, Tab.get_erase_ne _ _ h]

theorem Tab.get_put (d : Nat → α) (t : Tab α) (k k' : Nat) (v : α) :
    Tab.get d (Tab.put d t k v) k' = if k' = k then v else Tab.get d t k' := by
  by_cases h : k' = k
  · subst h; simp
  · simp [Tab.get_put_ne _ _ _ h, h]

/-! ## The canonical form -/

omit [DecidableEq α] in
theorem Tab.rising_mono {lo lo' : Nat} (h : lo' ≤ lo) {t : Tab α} (ht : Tab.rising lo t = true) : Tab.rising lo' t = true := by
  cases t with
  | nil => rfl
  | cons e t =>
    obtain ⟨k, v⟩ := e
    simp only [Tab.rising, Bool.and_eq_true, decide_eq_true_eq] at ht ⊢
    exact ⟨by omega, ht.2⟩

omit [DecidableEq α] in
theorem Tab.rising_erase (k : Nat) {lo : Nat} {t : Tab α} (ht : Tab.rising lo t = true) : Tab.rising lo (Tab.erase k t) = true := by
  induction t generalizing lo with
  | nil => rfl
  | cons e t ih =>
    obtain ⟨j, v⟩ := e
    simp only [Tab.rising, Bool.and_eq_true, decide_eq_true_eq] at ht
    by_cases hj : j = k
    · simp only [Tab.erase, hj, if_true]
      exact ih (Tab.rising_mono (by omega) ht.2)
    · simp only [Tab.erase, hj, if_false, Tab.rising, Bool.and_eq_true, decide_eq_true_eq]
      exact ⟨ht.1, ih ht.2⟩

omit [DecidableEq α] in
theorem Tab.rising_drop (p : Nat → Bool) {lo : Nat} {t : Tab α} (ht : Tab.rising lo t = true) : Tab.rising lo (Tab.drop p t) = true := by
  induction t generalizing lo with
  | nil => rfl
  | cons e t ih =>
    obtain ⟨j, v⟩ := e
    simp only [Tab.rising, Bool.and_eq_true, decide_eq_true_eq] at ht
    cases hj : p j
    · simpa [Tab.drop, hj, Tab.rising, ht.1] using ih ht.2
    · simpa [Tab.drop, hj] using ih (Tab.rising_mono (by omega) ht.2)

omit [DecidableEq α] in
theorem Tab.rising_ins (k : Nat) (v : α) {lo : Nat} {t : Tab α} (hk : lo ≤ k) (ht : Tab.rising lo (Tab.erase k t) = true) :
    Tab.rising lo (Tab.ins k v (Tab.erase k t)) = true := by
  induction t generalizing lo with
  | nil => simp [Tab.erase, Tab.ins, Tab.rising, hk]
  | cons e t ih =>
    obtain ⟨j, w⟩ := e
    by_cases hj : j = k
    · simp only [Tab.erase, hj, if_true] at ht ⊢; exact ih hk ht
    · simp only [Tab.erase, hj, if_false, Tab.rising, Bool.and_eq_true, decide_eq_true_eq] at ht ⊢
      by_cases hl : k < j
      · simp only [Tab.ins, hl, if_true, Tab.rising, Bool.and_eq_true, decide_eq_true_eq]
        exact ⟨hk, by omega, ht.2⟩
      · simp only [Tab.ins, hl, if_false, Tab.rising, Bool.and_eq_true, decide_eq_true_eq]
        exact ⟨ht.1, ih (by omega) ht.2⟩

theorem Tab.lean_erase (d : Nat → α) (k : Nat) {t : Tab α} (ht : Tab.lean d t = true) : Tab.lean d (Tab.erase k t) = true := by
  induction t with
  | nil => rfl
  | cons e t ih =>
    obtain ⟨j, v⟩ := e
    simp only [Tab.lean, Bool.and_eq_true] at ht
    by_cases hj : j = k <;> simp [Tab.erase, hj, Tab.lean, ih ht.2]
    simpa using ht.1

theorem Tab.lean_drop (d : Nat → α) (p : Nat → Bool) {t : Tab α} (ht : Tab.lean d t = true) : Tab.lean d (Tab.drop p t) = true := by
  induction t with
  | nil => rfl
  | cons e t ih =>
    obtain ⟨j, v⟩ := e
    simp only [Tab.lean, Bool.and_eq_true] at ht
    by_cases hj : p j = true <;> simp [Tab.drop, hj, Tab.lean, ih ht.2]
    simpa using ht.1

theorem Tab.lean_ins (d : Nat → α) (k : Nat) (v : α) (hv : v ≠ d k) {t : Tab α} (ht : Tab.lean d t = true) :
    Tab.lean d (Tab.ins k v t) = true := by
  induction t with
  | nil => simp [Tab.ins, Tab.lean, hv]
  | cons e t ih =>
    obtain ⟨j, w⟩ := e
    simp only [Tab.lean, Bool.and_eq_true] at ht
    by_cases hl : k < j
    · simp [Tab.ins, hl, Tab.lean, hv, ht.2]; simpa using ht.1
    · simp [Tab.ins, hl, Tab.lean, ih ht.2]; simpa using ht.1

/-- A write keeps the canonical form. -/
theorem Tab.wf_put (d : Nat → α) {t : Tab α} (k : Nat) (v : α) (h : Tab.wf d t = true) : Tab.wf d (Tab.put d t k v) = true := by
  simp only [Tab.wf, Bool.and_eq_true] at h ⊢
  unfold Tab.put
  split
  · exact ⟨Tab.rising_erase k h.1, Tab.lean_erase d k h.2⟩
  · rename_i hv
    exact ⟨Tab.rising_ins k v (Nat.zero_le k) (Tab.rising_erase k h.1), Tab.lean_ins d k v hv (Tab.lean_erase d k h.2)⟩

/-- Forgetting a key keeps it. -/
theorem Tab.wf_erase (d : Nat → α) {t : Tab α} (k : Nat) (h : Tab.wf d t = true) : Tab.wf d (Tab.erase k t) = true := by
  simp only [Tab.wf, Bool.and_eq_true] at h ⊢
  exact ⟨Tab.rising_erase k h.1, Tab.lean_erase d k h.2⟩

/-- Forgetting the keys of a reset keeps it. -/
theorem Tab.wf_drop (d : Nat → α) {t : Tab α} (p : Nat → Bool) (h : Tab.wf d t = true) : Tab.wf d (Tab.drop p t) = true := by
  simp only [Tab.wf, Bool.and_eq_true] at h ⊢
  exact ⟨Tab.rising_drop p h.1, Tab.lean_drop d p h.2⟩

end Sys2Proof.Machine
end

