-- ==== Sys2Proof/Laws/State.lean ====
section
/-! SUPPORT. Laws/State.lean: the updates of the state: what each leaves unchanged, one lemma per field, and reading after writing. -/
namespace Sys2Proof.Machine

/-! ## wr -/
@[simp] theorem State.wr_pending (s : State) (a : Nat) (f : Fld) (v : Nat) : (s.wr a f v).pending = s.pending := rfl
@[simp] theorem State.wr_fuses (s : State) (a : Nat) (f : Fld) (v : Nat) : (s.wr a f v).fuses = s.fuses := rfl
@[simp] theorem State.wr_image (s : State) (a : Nat) (f : Fld) (v : Nat) : (s.wr a f v).image = s.image := rfl
@[simp] theorem State.wr_mem (s : State) (a : Nat) (f : Fld) (v : Nat) : (s.wr a f v).mem = s.mem := rfl
@[simp] theorem State.wr_chk (s : State) (a : Nat) (f : Fld) (v : Nat) : (s.wr a f v).chk = s.chk := rfl
@[simp] theorem State.wr_rows (s : State) (a : Nat) (f : Fld) (v : Nat) : (s.wr a f v).rows = s.rows := rfl
@[simp] theorem State.wr_bays (s : State) (a : Nat) (f : Fld) (v : Nat) : (s.wr a f v).bays = s.bays := rfl
@[simp] theorem State.wr_ctxs (s : State) (a : Nat) (f : Fld) (v : Nat) : (s.wr a f v).ctxs = s.ctxs := rfl
@[simp] theorem State.wr_movers (s : State) (a : Nat) (f : Fld) (v : Nat) : (s.wr a f v).movers = s.movers := rfl
@[simp] theorem State.wr_islands (s : State) (a : Nat) (f : Fld) (v : Nat) : (s.wr a f v).islands = s.islands := rfl
@[simp] theorem State.wr_cells (s : State) (a : Nat) (f : Fld) (v : Nat) : (s.wr a f v).cells = s.cells := rfl
@[simp] theorem State.wr_chans (s : State) (a : Nat) (f : Fld) (v : Nat) : (s.wr a f v).chans = s.chans := rfl
@[simp] theorem State.wr_outst (s : State) (a : Nat) (f : Fld) (v : Nat) : (s.wr a f v).outst = s.outst := rfl
@[simp] theorem State.wr_flight (s : State) (a : Nat) (f : Fld) (v : Nat) : (s.wr a f v).flight = s.flight := rfl
@[simp] theorem State.wr_blocked (s : State) (a : Nat) (f : Fld) (v : Nat) : (s.wr a f v).blocked = s.blocked := rfl
@[simp] theorem State.wr_throttled (s : State) (a : Nat) (f : Fld) (v : Nat) : (s.wr a f v).throttled = s.throttled := rfl
@[simp] theorem State.wr_naps (s : State) (a : Nat) (f : Fld) (v : Nat) : (s.wr a f v).naps = s.naps := rfl
@[simp] theorem State.wr_probes (s : State) (a : Nat) (f : Fld) (v : Nat) : (s.wr a f v).probes = s.probes := rfl
@[simp] theorem State.wr_xus (s : State) (a : Nat) (f : Fld) (v : Nat) : (s.wr a f v).xus = s.xus := rfl
@[simp] theorem State.wr_invWait (s : State) (a : Nat) (f : Fld) (v : Nat) : (s.wr a f v).invWait = s.invWait := rfl
@[simp] theorem State.wr_mcs (s : State) (a : Nat) (f : Fld) (v : Nat) : (s.wr a f v).mcs = s.mcs := rfl
@[simp] theorem State.wr_sgFired (s : State) (a : Nat) (f : Fld) (v : Nat) : (s.wr a f v).sgFired = s.sgFired := rfl
@[simp] theorem State.wr_evts (s : State) (a : Nat) (f : Fld) (v : Nat) : (s.wr a f v).evts = s.evts := rfl
@[simp] theorem State.wr_counter (s : State) (a : Nat) (f : Fld) (v : Nat) : (s.wr a f v).counter = s.counter := rfl
@[simp] theorem State.wr_ofsNow (s : State) (a : Nat) (f : Fld) (v : Nat) : (s.wr a f v).ofsNow = s.ofsNow := rfl
@[simp] theorem State.wr_rateNow (s : State) (a : Nat) (f : Fld) (v : Nat) : (s.wr a f v).rateNow = s.rateNow := rfl
@[simp] theorem State.wr_out (s : State) (a : Nat) (f : Fld) (v : Nat) : (s.wr a f v).out = s.out := rfl
@[simp] theorem State.wr_free (s : State) (a : Nat) (f : Fld) (v : Nat) : (s.wr a f v).free = s.free := rfl
@[simp] theorem State.wr_mbxs (s : State) (a : Nat) (f : Fld) (v : Nat) : (s.wr a f v).mbxs = s.mbxs := rfl
@[simp] theorem State.wr_notice (s : State) (a : Nat) (f : Fld) (v : Nat) : (s.wr a f v).notice = s.notice := rfl
@[simp] theorem State.wr_nextB (s : State) (a : Nat) (f : Fld) (v : Nat) : (s.wr a f v).nextB = s.nextB := rfl
@[simp] theorem State.wr_shadow (s : State) (a : Nat) (f : Fld) (v : Nat) : (s.wr a f v).shadow = s.shadow := rfl
@[simp] theorem State.wr_inReset (s : State) (a : Nat) (f : Fld) (v : Nat) : (s.wr a f v).inReset = s.inReset := rfl
@[simp] theorem State.wr_deeps (s : State) (a : Nat) (f : Fld) (v : Nat) : (s.wr a f v).deeps = s.deeps := rfl
@[simp] theorem State.wr_dbgs (s : State) (a : Nat) (f : Fld) (v : Nat) : (s.wr a f v).dbgs = s.dbgs := rfl
@[simp] theorem State.wr_sinks (s : State) (a : Nat) (f : Fld) (v : Nat) : (s.wr a f v).sinks = s.sinks := rfl
@[simp] theorem State.wr_xsig (s : State) (a : Nat) (f : Fld) (v : Nat) : (s.wr a f v).xsig = s.xsig := rfl
@[simp] theorem State.wr_lanes (s : State) (a : Nat) (f : Fld) (v : Nat) : (s.wr a f v).lanes = s.lanes := rfl
@[simp] theorem State.wr_macs (s : State) (a : Nat) (f : Fld) (v : Nat) : (s.wr a f v).macs = s.macs := rfl
@[simp] theorem State.wr_cans (s : State) (a : Nat) (f : Fld) (v : Nat) : (s.wr a f v).cans = s.cans := rfl
@[simp] theorem State.wr_lrefOff (s : State) (a : Nat) (f : Fld) (v : Nat) : (s.wr a f v).lrefOff = s.lrefOff := rfl
@[simp] theorem State.wr_doms (s : State) (a : Nat) (f : Fld) (v : Nat) : (s.wr a f v).doms = s.doms := rfl
@[simp] theorem State.wr_heldT (s : State) (a : Nat) (f : Fld) (v : Nat) : (s.wr a f v).heldT = s.heldT := rfl
@[simp] theorem State.wr_power (s : State) (a : Nat) (f : Fld) (v : Nat) : (s.wr a f v).power = s.power := rfl
@[simp] theorem State.wr_load (s : State) (a : Nat) (f : Fld) (v : Nat) : (s.wr a f v).load = s.load := rfl
@[simp] theorem State.wr_userObjs (s : State) (a : Nat) (f : Fld) (v : Nat) : (s.wr a f v).userObjs = s.userObjs := rfl
@[simp] theorem State.wr_brgDead (s : State) (a : Nat) (f : Fld) (v : Nat) : (s.wr a f v).brgDead = s.brgDead := rfl
@[simp] theorem State.wr_badFr (s : State) (a : Nat) (f : Fld) (v : Nat) : (s.wr a f v).badFr = s.badFr := rfl
@[simp] theorem State.wr_nonce (s : State) (a : Nat) (f : Fld) (v : Nat) : (s.wr a f v).nonce = s.nonce := rfl
@[simp] theorem State.wr_unlocks (s : State) (a : Nat) (f : Fld) (v : Nat) : (s.wr a f v).unlocks = s.unlocks := rfl
@[simp] theorem State.wr_jtag (s : State) (a : Nat) (f : Fld) (v : Nat) : (s.wr a f v).jtag = s.jtag := rfl
@[simp] theorem State.wr_sessions (s : State) (a : Nat) (f : Fld) (v : Nat) : (s.wr a f v).sessions = s.sessions := rfl
@[simp] theorem State.wr_agent (s : State) (a : Nat) (f : Fld) (v : Nat) : (s.wr a f v).agent = s.agent := rfl
@[simp] theorem State.wr_lostSh (s : State) (a : Nat) (f : Fld) (v : Nat) : (s.wr a f v).lostSh = s.lostSh := rfl
@[simp] theorem State.wr_ports (s : State) (a : Nat) (f : Fld) (v : Nat) : (s.wr a f v).ports = s.ports := rfl
@[simp] theorem State.wr_slink (s : State) (a : Nat) (f : Fld) (v : Nat) : (s.wr a f v).slink = s.slink := rfl
@[simp] theorem State.wr_pfSt (s : State) (a : Nat) (f : Fld) (v : Nat) : (s.wr a f v).pfSt = s.pfSt := rfl

/-! ## emit -/
@[simp] theorem State.emit_pending (s : State) (o : Output) : (s.emit o).pending = s.pending := rfl
@[simp] theorem State.emit_fuses (s : State) (o : Output) : (s.emit o).fuses = s.fuses := rfl
@[simp] theorem State.emit_flds (s : State) (o : Output) : (s.emit o).flds = s.flds := rfl
@[simp] theorem State.emit_image (s : State) (o : Output) : (s.emit o).image = s.image := rfl
@[simp] theorem State.emit_mem (s : State) (o : Output) : (s.emit o).mem = s.mem := rfl
@[simp] theorem State.emit_chk (s : State) (o : Output) : (s.emit o).chk = s.chk := rfl
@[simp] theorem State.emit_rows (s : State) (o : Output) : (s.emit o).rows = s.rows := rfl
@[simp] theorem State.emit_bays (s : State) (o : Output) : (s.emit o).bays = s.bays := rfl
@[simp] theorem State.emit_ctxs (s : State) (o : Output) : (s.emit o).ctxs = s.ctxs := rfl
@[simp] theorem State.emit_movers (s : State) (o : Output) : (s.emit o).movers = s.movers := rfl
@[simp] theorem State.emit_islands (s : State) (o : Output) : (s.emit o).islands = s.islands := rfl
@[simp] theorem State.emit_cells (s : State) (o : Output) : (s.emit o).cells = s.cells := rfl
@[simp] theorem State.emit_chans (s : State) (o : Output) : (s.emit o).chans = s.chans := rfl
@[simp] theorem State.emit_outst (s : State) (o : Output) : (s.emit o).outst = s.outst := rfl
@[simp] theorem State.emit_flight (s : State) (o : Output) : (s.emit o).flight = s.flight := rfl
@[simp] theorem State.emit_blocked (s : State) (o : Output) : (s.emit o).blocked = s.blocked := rfl
@[simp] theorem State.emit_throttled (s : State) (o : Output) : (s.emit o).throttled = s.throttled := rfl
@[simp] theorem State.emit_naps (s : State) (o : Output) : (s.emit o).naps = s.naps := rfl
@[simp] theorem State.emit_probes (s : State) (o : Output) : (s.emit o).probes = s.probes := rfl
@[simp] theorem State.emit_xus (s : State) (o : Output) : (s.emit o).xus = s.xus := rfl
@[simp] theorem State.emit_invWait (s : State) (o : Output) : (s.emit o).invWait = s.invWait := rfl
@[simp] theorem State.emit_mcs (s : State) (o : Output) : (s.emit o).mcs = s.mcs := rfl
@[simp] theorem State.emit_sgFired (s : State) (o : Output) : (s.emit o).sgFired = s.sgFired := rfl
@[simp] theorem State.emit_evts (s : State) (o : Output) : (s.emit o).evts = s.evts := rfl
@[simp] theorem State.emit_counter (s : State) (o : Output) : (s.emit o).counter = s.counter := rfl
@[simp] theorem State.emit_ofsNow (s : State) (o : Output) : (s.emit o).ofsNow = s.ofsNow := rfl
@[simp] theorem State.emit_rateNow (s : State) (o : Output) : (s.emit o).rateNow = s.rateNow := rfl
@[simp] theorem State.emit_free (s : State) (o : Output) : (s.emit o).free = s.free := rfl
@[simp] theorem State.emit_mbxs (s : State) (o : Output) : (s.emit o).mbxs = s.mbxs := rfl
@[simp] theorem State.emit_notice (s : State) (o : Output) : (s.emit o).notice = s.notice := rfl
@[simp] theorem State.emit_nextB (s : State) (o : Output) : (s.emit o).nextB = s.nextB := rfl
@[simp] theorem State.emit_shadow (s : State) (o : Output) : (s.emit o).shadow = s.shadow := rfl
@[simp] theorem State.emit_inReset (s : State) (o : Output) : (s.emit o).inReset = s.inReset := rfl
@[simp] theorem State.emit_deeps (s : State) (o : Output) : (s.emit o).deeps = s.deeps := rfl
@[simp] theorem State.emit_dbgs (s : State) (o : Output) : (s.emit o).dbgs = s.dbgs := rfl
@[simp] theorem State.emit_sinks (s : State) (o : Output) : (s.emit o).sinks = s.sinks := rfl
@[simp] theorem State.emit_xsig (s : State) (o : Output) : (s.emit o).xsig = s.xsig := rfl
@[simp] theorem State.emit_lanes (s : State) (o : Output) : (s.emit o).lanes = s.lanes := rfl
@[simp] theorem State.emit_macs (s : State) (o : Output) : (s.emit o).macs = s.macs := rfl
@[simp] theorem State.emit_cans (s : State) (o : Output) : (s.emit o).cans = s.cans := rfl
@[simp] theorem State.emit_lrefOff (s : State) (o : Output) : (s.emit o).lrefOff = s.lrefOff := rfl
@[simp] theorem State.emit_doms (s : State) (o : Output) : (s.emit o).doms = s.doms := rfl
@[simp] theorem State.emit_heldT (s : State) (o : Output) : (s.emit o).heldT = s.heldT := rfl
@[simp] theorem State.emit_power (s : State) (o : Output) : (s.emit o).power = s.power := rfl
@[simp] theorem State.emit_load (s : State) (o : Output) : (s.emit o).load = s.load := rfl
@[simp] theorem State.emit_userObjs (s : State) (o : Output) : (s.emit o).userObjs = s.userObjs := rfl
@[simp] theorem State.emit_brgDead (s : State) (o : Output) : (s.emit o).brgDead = s.brgDead := rfl
@[simp] theorem State.emit_badFr (s : State) (o : Output) : (s.emit o).badFr = s.badFr := rfl
@[simp] theorem State.emit_nonce (s : State) (o : Output) : (s.emit o).nonce = s.nonce := rfl
@[simp] theorem State.emit_unlocks (s : State) (o : Output) : (s.emit o).unlocks = s.unlocks := rfl
@[simp] theorem State.emit_jtag (s : State) (o : Output) : (s.emit o).jtag = s.jtag := rfl
@[simp] theorem State.emit_sessions (s : State) (o : Output) : (s.emit o).sessions = s.sessions := rfl
@[simp] theorem State.emit_agent (s : State) (o : Output) : (s.emit o).agent = s.agent := rfl
@[simp] theorem State.emit_lostSh (s : State) (o : Output) : (s.emit o).lostSh = s.lostSh := rfl
@[simp] theorem State.emit_ports (s : State) (o : Output) : (s.emit o).ports = s.ports := rfl
@[simp] theorem State.emit_slink (s : State) (o : Output) : (s.emit o).slink = s.slink := rfl
@[simp] theorem State.emit_pfSt (s : State) (o : Output) : (s.emit o).pfSt = s.pfSt := rfl

/-! ## drawn -/
@[simp] theorem State.drawn_pending (s : State) : (s.drawn).pending = s.pending := rfl
@[simp] theorem State.drawn_fuses (s : State) : (s.drawn).fuses = s.fuses := rfl
@[simp] theorem State.drawn_flds (s : State) : (s.drawn).flds = s.flds := rfl
@[simp] theorem State.drawn_image (s : State) : (s.drawn).image = s.image := rfl
@[simp] theorem State.drawn_mem (s : State) : (s.drawn).mem = s.mem := rfl
@[simp] theorem State.drawn_chk (s : State) : (s.drawn).chk = s.chk := rfl
@[simp] theorem State.drawn_rows (s : State) : (s.drawn).rows = s.rows := rfl
@[simp] theorem State.drawn_bays (s : State) : (s.drawn).bays = s.bays := rfl
@[simp] theorem State.drawn_ctxs (s : State) : (s.drawn).ctxs = s.ctxs := rfl
@[simp] theorem State.drawn_movers (s : State) : (s.drawn).movers = s.movers := rfl
@[simp] theorem State.drawn_islands (s : State) : (s.drawn).islands = s.islands := rfl
@[simp] theorem State.drawn_cells (s : State) : (s.drawn).cells = s.cells := rfl
@[simp] theorem State.drawn_chans (s : State) : (s.drawn).chans = s.chans := rfl
@[simp] theorem State.drawn_outst (s : State) : (s.drawn).outst = s.outst := rfl
@[simp] theorem State.drawn_flight (s : State) : (s.drawn).flight = s.flight := rfl
@[simp] theorem State.drawn_blocked (s : State) : (s.drawn).blocked = s.blocked := rfl
@[simp] theorem State.drawn_throttled (s : State) : (s.drawn).throttled = s.throttled := rfl
@[simp] theorem State.drawn_naps (s : State) : (s.drawn).naps = s.naps := rfl
@[simp] theorem State.drawn_probes (s : State) : (s.drawn).probes = s.probes := rfl
@[simp] theorem State.drawn_xus (s : State) : (s.drawn).xus = s.xus := rfl
@[simp] theorem State.drawn_invWait (s : State) : (s.drawn).invWait = s.invWait := rfl
@[simp] theorem State.drawn_mcs (s : State) : (s.drawn).mcs = s.mcs := rfl
@[simp] theorem State.drawn_sgFired (s : State) : (s.drawn).sgFired = s.sgFired := rfl
@[simp] theorem State.drawn_evts (s : State) : (s.drawn).evts = s.evts := rfl
@[simp] theorem State.drawn_counter (s : State) : (s.drawn).counter = s.counter := rfl
@[simp] theorem State.drawn_ofsNow (s : State) : (s.drawn).ofsNow = s.ofsNow := rfl
@[simp] theorem State.drawn_rateNow (s : State) : (s.drawn).rateNow = s.rateNow := rfl
@[simp] theorem State.drawn_out (s : State) : (s.drawn).out = s.out := rfl
@[simp] theorem State.drawn_mbxs (s : State) : (s.drawn).mbxs = s.mbxs := rfl
@[simp] theorem State.drawn_notice (s : State) : (s.drawn).notice = s.notice := rfl
@[simp] theorem State.drawn_nextB (s : State) : (s.drawn).nextB = s.nextB := rfl
@[simp] theorem State.drawn_shadow (s : State) : (s.drawn).shadow = s.shadow := rfl
@[simp] theorem State.drawn_inReset (s : State) : (s.drawn).inReset = s.inReset := rfl
@[simp] theorem State.drawn_deeps (s : State) : (s.drawn).deeps = s.deeps := rfl
@[simp] theorem State.drawn_dbgs (s : State) : (s.drawn).dbgs = s.dbgs := rfl
@[simp] theorem State.drawn_sinks (s : State) : (s.drawn).sinks = s.sinks := rfl
@[simp] theorem State.drawn_xsig (s : State) : (s.drawn).xsig = s.xsig := rfl
@[simp] theorem State.drawn_lanes (s : State) : (s.drawn).lanes = s.lanes := rfl
@[simp] theorem State.drawn_macs (s : State) : (s.drawn).macs = s.macs := rfl
@[simp] theorem State.drawn_cans (s : State) : (s.drawn).cans = s.cans := rfl
@[simp] theorem State.drawn_lrefOff (s : State) : (s.drawn).lrefOff = s.lrefOff := rfl
@[simp] theorem State.drawn_doms (s : State) : (s.drawn).doms = s.doms := rfl
@[simp] theorem State.drawn_heldT (s : State) : (s.drawn).heldT = s.heldT := rfl
@[simp] theorem State.drawn_power (s : State) : (s.drawn).power = s.power := rfl
@[simp] theorem State.drawn_load (s : State) : (s.drawn).load = s.load := rfl
@[simp] theorem State.drawn_userObjs (s : State) : (s.drawn).userObjs = s.userObjs := rfl
@[simp] theorem State.drawn_brgDead (s : State) : (s.drawn).brgDead = s.brgDead := rfl
@[simp] theorem State.drawn_badFr (s : State) : (s.drawn).badFr = s.badFr := rfl
@[simp] theorem State.drawn_nonce (s : State) : (s.drawn).nonce = s.nonce := rfl
@[simp] theorem State.drawn_unlocks (s : State) : (s.drawn).unlocks = s.unlocks := rfl
@[simp] theorem State.drawn_jtag (s : State) : (s.drawn).jtag = s.jtag := rfl
@[simp] theorem State.drawn_sessions (s : State) : (s.drawn).sessions = s.sessions := rfl
@[simp] theorem State.drawn_agent (s : State) : (s.drawn).agent = s.agent := rfl
@[simp] theorem State.drawn_lostSh (s : State) : (s.drawn).lostSh = s.lostSh := rfl
@[simp] theorem State.drawn_ports (s : State) : (s.drawn).ports = s.ports := rfl
@[simp] theorem State.drawn_slink (s : State) : (s.drawn).slink = s.slink := rfl
@[simp] theorem State.drawn_pfSt (s : State) : (s.drawn).pfSt = s.pfSt := rfl

@[simp] theorem State.emit_out (s : State) (o : Output) : (s.emit o).out = o :: s.out := rfl
@[simp] theorem State.drawn_free (s : State) : s.drawn.free = s.free + 1 := rfl

@[simp] theorem State.setByte_pending (s : State) (a : Nat) (v : Byte) : (s.setByte a v).pending = s.pending := rfl
@[simp] theorem State.setByte_fuses (s : State) (a : Nat) (v : Byte) : (s.setByte a v).fuses = s.fuses := rfl
@[simp] theorem State.setByte_flds (s : State) (a : Nat) (v : Byte) : (s.setByte a v).flds = s.flds := rfl
@[simp] theorem State.setByte_chk (s : State) (a : Nat) (v : Byte) : (s.setByte a v).chk = s.chk := rfl
@[simp] theorem State.setByte_rows (s : State) (a : Nat) (v : Byte) : (s.setByte a v).rows = s.rows := rfl
@[simp] theorem State.setByte_ctxs (s : State) (a : Nat) (v : Byte) : (s.setByte a v).ctxs = s.ctxs := rfl
@[simp] theorem State.setByte_bays (s : State) (a : Nat) (v : Byte) : (s.setByte a v).bays = s.bays := rfl
@[simp] theorem State.setByte_islands (s : State) (a : Nat) (v : Byte) : (s.setByte a v).islands = s.islands := rfl
@[simp] theorem State.setByte_out (s : State) (a : Nat) (v : Byte) : (s.setByte a v).out = s.out := rfl
@[simp] theorem State.setByte_free (s : State) (a : Nat) (v : Byte) : (s.setByte a v).free = s.free := rfl
@[simp] theorem State.setByte_counter (s : State) (a : Nat) (v : Byte) : (s.setByte a v).counter = s.counter := rfl
@[simp] theorem State.setByte_power (s : State) (a : Nat) (v : Byte) : (s.setByte a v).power = s.power := rfl
@[simp] theorem State.setByte_load (s : State) (a : Nat) (v : Byte) : (s.setByte a v).load = s.load := rfl
@[simp] theorem State.setDiff_pending (s : State) (k v : Nat) : (s.setDiff k v).pending = s.pending := rfl
@[simp] theorem State.setDiff_fuses (s : State) (k v : Nat) : (s.setDiff k v).fuses = s.fuses := rfl
@[simp] theorem State.setDiff_flds (s : State) (k v : Nat) : (s.setDiff k v).flds = s.flds := rfl
@[simp] theorem State.setDiff_mem (s : State) (k v : Nat) : (s.setDiff k v).mem = s.mem := rfl
@[simp] theorem State.setDiff_rows (s : State) (k v : Nat) : (s.setDiff k v).rows = s.rows := rfl
@[simp] theorem State.setDiff_ctxs (s : State) (k v : Nat) : (s.setDiff k v).ctxs = s.ctxs := rfl
@[simp] theorem State.setDiff_bays (s : State) (k v : Nat) : (s.setDiff k v).bays = s.bays := rfl
@[simp] theorem State.setDiff_islands (s : State) (k v : Nat) : (s.setDiff k v).islands = s.islands := rfl
@[simp] theorem State.setDiff_out (s : State) (k v : Nat) : (s.setDiff k v).out = s.out := rfl
@[simp] theorem State.setDiff_free (s : State) (k v : Nat) : (s.setDiff k v).free = s.free := rfl
@[simp] theorem State.setDiff_counter (s : State) (k v : Nat) : (s.setDiff k v).counter = s.counter := rfl
@[simp] theorem State.setDiff_power (s : State) (k v : Nat) : (s.setDiff k v).power = s.power := rfl
@[simp] theorem State.setDiff_load (s : State) (k v : Nat) : (s.setDiff k v).load = s.load := rfl
@[simp] theorem State.setRow_pending (s : State) (k v : Nat) : (s.setRow k v).pending = s.pending := rfl
@[simp] theorem State.setRow_fuses (s : State) (k v : Nat) : (s.setRow k v).fuses = s.fuses := rfl
@[simp] theorem State.setRow_flds (s : State) (k v : Nat) : (s.setRow k v).flds = s.flds := rfl
@[simp] theorem State.setRow_mem (s : State) (k v : Nat) : (s.setRow k v).mem = s.mem := rfl
@[simp] theorem State.setRow_chk (s : State) (k v : Nat) : (s.setRow k v).chk = s.chk := rfl
@[simp] theorem State.setRow_ctxs (s : State) (k v : Nat) : (s.setRow k v).ctxs = s.ctxs := rfl
@[simp] theorem State.setRow_bays (s : State) (k v : Nat) : (s.setRow k v).bays = s.bays := rfl
@[simp] theorem State.setRow_islands (s : State) (k v : Nat) : (s.setRow k v).islands = s.islands := rfl
@[simp] theorem State.setRow_out (s : State) (k v : Nat) : (s.setRow k v).out = s.out := rfl
@[simp] theorem State.setRow_free (s : State) (k v : Nat) : (s.setRow k v).free = s.free := rfl
@[simp] theorem State.setRow_counter (s : State) (k v : Nat) : (s.setRow k v).counter = s.counter := rfl
@[simp] theorem State.setRow_power (s : State) (k v : Nat) : (s.setRow k v).power = s.power := rfl
@[simp] theorem State.setRow_load (s : State) (k v : Nat) : (s.setRow k v).load = s.load := rfl

/-! ## One unit of a table -/
@[simp] theorem State.setBay_pending (s : State) (i : Nat) (v : BaySt) : (s.setBay i v).pending = s.pending := rfl
@[simp] theorem State.setBay_fuses (s : State) (i : Nat) (v : BaySt) : (s.setBay i v).fuses = s.fuses := rfl
@[simp] theorem State.setBay_flds (s : State) (i : Nat) (v : BaySt) : (s.setBay i v).flds = s.flds := rfl
@[simp] theorem State.setBay_mem (s : State) (i : Nat) (v : BaySt) : (s.setBay i v).mem = s.mem := rfl
@[simp] theorem State.setBay_ctxs (s : State) (i : Nat) (v : BaySt) : (s.setBay i v).ctxs = s.ctxs := rfl
@[simp] theorem State.setBay_out (s : State) (i : Nat) (v : BaySt) : (s.setBay i v).out = s.out := rfl
@[simp] theorem State.setBay_free (s : State) (i : Nat) (v : BaySt) : (s.setBay i v).free = s.free := rfl
@[simp] theorem State.bay_setBay_same (s : State) (i : Nat) (v : BaySt) : (s.setBay i v).bay i = v := Tab.get_put_same _ _ _ _
theorem State.bay_setBay_ne (s : State) {i j : Nat} (v : BaySt) (h : j ≠ i) : (s.setBay i v).bay j = s.bay j := Tab.get_put_ne _ _ _ h
@[simp] theorem State.setCtx_pending (s : State) (i : Nat) (v : CtxSt) : (s.setCtx i v).pending = s.pending := rfl
@[simp] theorem State.setCtx_fuses (s : State) (i : Nat) (v : CtxSt) : (s.setCtx i v).fuses = s.fuses := rfl
@[simp] theorem State.setCtx_flds (s : State) (i : Nat) (v : CtxSt) : (s.setCtx i v).flds = s.flds := rfl
@[simp] theorem State.setCtx_mem (s : State) (i : Nat) (v : CtxSt) : (s.setCtx i v).mem = s.mem := rfl
@[simp] theorem State.setCtx_out (s : State) (i : Nat) (v : CtxSt) : (s.setCtx i v).out = s.out := rfl
@[simp] theorem State.setCtx_free (s : State) (i : Nat) (v : CtxSt) : (s.setCtx i v).free = s.free := rfl
@[simp] theorem State.ctx_setCtx_same (s : State) (i : Nat) (v : CtxSt) : (s.setCtx i v).ctx i = v := Tab.get_put_same _ _ _ _
theorem State.ctx_setCtx_ne (s : State) {i j : Nat} (v : CtxSt) (h : j ≠ i) : (s.setCtx i v).ctx j = s.ctx j := Tab.get_put_ne _ _ _ h
@[simp] theorem State.setMover_pending (s : State) (i : Nat) (v : MoverSt) : (s.setMover i v).pending = s.pending := rfl
@[simp] theorem State.setMover_fuses (s : State) (i : Nat) (v : MoverSt) : (s.setMover i v).fuses = s.fuses := rfl
@[simp] theorem State.setMover_flds (s : State) (i : Nat) (v : MoverSt) : (s.setMover i v).flds = s.flds := rfl
@[simp] theorem State.setMover_mem (s : State) (i : Nat) (v : MoverSt) : (s.setMover i v).mem = s.mem := rfl
@[simp] theorem State.setMover_ctxs (s : State) (i : Nat) (v : MoverSt) : (s.setMover i v).ctxs = s.ctxs := rfl
@[simp] theorem State.setMover_out (s : State) (i : Nat) (v : MoverSt) : (s.setMover i v).out = s.out := rfl
@[simp] theorem State.setMover_free (s : State) (i : Nat) (v : MoverSt) : (s.setMover i v).free = s.free := rfl
@[simp] theorem State.mover_setMover_same (s : State) (i : Nat) (v : MoverSt) : (s.setMover i v).mover i = v := Tab.get_put_same _ _ _ _
theorem State.mover_setMover_ne (s : State) {i j : Nat} (v : MoverSt) (h : j ≠ i) : (s.setMover i v).mover j = s.mover j := Tab.get_put_ne _ _ _ h
@[simp] theorem State.setIsland_pending (s : State) (i : Nat) (v : IslandSt) : (s.setIsland i v).pending = s.pending := rfl
@[simp] theorem State.setIsland_fuses (s : State) (i : Nat) (v : IslandSt) : (s.setIsland i v).fuses = s.fuses := rfl
@[simp] theorem State.setIsland_flds (s : State) (i : Nat) (v : IslandSt) : (s.setIsland i v).flds = s.flds := rfl
@[simp] theorem State.setIsland_mem (s : State) (i : Nat) (v : IslandSt) : (s.setIsland i v).mem = s.mem := rfl
@[simp] theorem State.setIsland_ctxs (s : State) (i : Nat) (v : IslandSt) : (s.setIsland i v).ctxs = s.ctxs := rfl
@[simp] theorem State.setIsland_out (s : State) (i : Nat) (v : IslandSt) : (s.setIsland i v).out = s.out := rfl
@[simp] theorem State.setIsland_free (s : State) (i : Nat) (v : IslandSt) : (s.setIsland i v).free = s.free := rfl
@[simp] theorem State.island_setIsland_same (s : State) (i : Nat) (v : IslandSt) : (s.setIsland i v).island i = v := Tab.get_put_same _ _ _ _
theorem State.island_setIsland_ne (s : State) {i j : Nat} (v : IslandSt) (h : j ≠ i) : (s.setIsland i v).island j = s.island j := Tab.get_put_ne _ _ _ h
@[simp] theorem State.setCfgOf_pending (s : State) (i : Nat) (v : (Option IslandCfg)) : (s.setCfgOf i v).pending = s.pending := rfl
@[simp] theorem State.setCfgOf_fuses (s : State) (i : Nat) (v : (Option IslandCfg)) : (s.setCfgOf i v).fuses = s.fuses := rfl
@[simp] theorem State.setCfgOf_flds (s : State) (i : Nat) (v : (Option IslandCfg)) : (s.setCfgOf i v).flds = s.flds := rfl
@[simp] theorem State.setCfgOf_mem (s : State) (i : Nat) (v : (Option IslandCfg)) : (s.setCfgOf i v).mem = s.mem := rfl
@[simp] theorem State.setCfgOf_ctxs (s : State) (i : Nat) (v : (Option IslandCfg)) : (s.setCfgOf i v).ctxs = s.ctxs := rfl
@[simp] theorem State.setCfgOf_out (s : State) (i : Nat) (v : (Option IslandCfg)) : (s.setCfgOf i v).out = s.out := rfl
@[simp] theorem State.setCfgOf_free (s : State) (i : Nat) (v : (Option IslandCfg)) : (s.setCfgOf i v).free = s.free := rfl
@[simp] theorem State.cfgOf_setCfgOf_same (s : State) (i : Nat) (v : (Option IslandCfg)) : (s.setCfgOf i v).cfgOf i = v := Tab.get_put_same _ _ _ _
theorem State.cfgOf_setCfgOf_ne (s : State) {i j : Nat} (v : (Option IslandCfg)) (h : j ≠ i) : (s.setCfgOf i v).cfgOf j = s.cfgOf j := Tab.get_put_ne _ _ _ h
@[simp] theorem State.setChan_pending (s : State) (i : Nat) (v : Chan) : (s.setChan i v).pending = s.pending := rfl
@[simp] theorem State.setChan_fuses (s : State) (i : Nat) (v : Chan) : (s.setChan i v).fuses = s.fuses := rfl
@[simp] theorem State.setChan_flds (s : State) (i : Nat) (v : Chan) : (s.setChan i v).flds = s.flds := rfl
@[simp] theorem State.setChan_mem (s : State) (i : Nat) (v : Chan) : (s.setChan i v).mem = s.mem := rfl
@[simp] theorem State.setChan_ctxs (s : State) (i : Nat) (v : Chan) : (s.setChan i v).ctxs = s.ctxs := rfl
@[simp] theorem State.setChan_out (s : State) (i : Nat) (v : Chan) : (s.setChan i v).out = s.out := rfl
@[simp] theorem State.setChan_free (s : State) (i : Nat) (v : Chan) : (s.setChan i v).free = s.free := rfl
@[simp] theorem State.chan_setChan_same (s : State) (i : Nat) (v : Chan) : (s.setChan i v).chan i = v := Tab.get_put_same _ _ _ _
theorem State.chan_setChan_ne (s : State) {i j : Nat} (v : Chan) (h : j ≠ i) : (s.setChan i v).chan j = s.chan j := Tab.get_put_ne _ _ _ h
@[simp] theorem State.setNap_pending (s : State) (i : Nat) (v : NapSt) : (s.setNap i v).pending = s.pending := rfl
@[simp] theorem State.setNap_fuses (s : State) (i : Nat) (v : NapSt) : (s.setNap i v).fuses = s.fuses := rfl
@[simp] theorem State.setNap_flds (s : State) (i : Nat) (v : NapSt) : (s.setNap i v).flds = s.flds := rfl
@[simp] theorem State.setNap_mem (s : State) (i : Nat) (v : NapSt) : (s.setNap i v).mem = s.mem := rfl
@[simp] theorem State.setNap_ctxs (s : State) (i : Nat) (v : NapSt) : (s.setNap i v).ctxs = s.ctxs := rfl
@[simp] theorem State.setNap_out (s : State) (i : Nat) (v : NapSt) : (s.setNap i v).out = s.out := rfl
@[simp] theorem State.setNap_free (s : State) (i : Nat) (v : NapSt) : (s.setNap i v).free = s.free := rfl
@[simp] theorem State.nap_setNap_same (s : State) (i : Nat) (v : NapSt) : (s.setNap i v).nap i = v := Tab.get_put_same _ _ _ _
theorem State.nap_setNap_ne (s : State) {i j : Nat} (v : NapSt) (h : j ≠ i) : (s.setNap i v).nap j = s.nap j := Tab.get_put_ne _ _ _ h
@[simp] theorem State.setProbe_pending (s : State) (i : Nat) (v : ProbeSt) : (s.setProbe i v).pending = s.pending := rfl
@[simp] theorem State.setProbe_fuses (s : State) (i : Nat) (v : ProbeSt) : (s.setProbe i v).fuses = s.fuses := rfl
@[simp] theorem State.setProbe_flds (s : State) (i : Nat) (v : ProbeSt) : (s.setProbe i v).flds = s.flds := rfl
@[simp] theorem State.setProbe_mem (s : State) (i : Nat) (v : ProbeSt) : (s.setProbe i v).mem = s.mem := rfl
@[simp] theorem State.setProbe_ctxs (s : State) (i : Nat) (v : ProbeSt) : (s.setProbe i v).ctxs = s.ctxs := rfl
@[simp] theorem State.setProbe_out (s : State) (i : Nat) (v : ProbeSt) : (s.setProbe i v).out = s.out := rfl
@[simp] theorem State.setProbe_free (s : State) (i : Nat) (v : ProbeSt) : (s.setProbe i v).free = s.free := rfl
@[simp] theorem State.probe_setProbe_same (s : State) (i : Nat) (v : ProbeSt) : (s.setProbe i v).probe i = v := Tab.get_put_same _ _ _ _
theorem State.probe_setProbe_ne (s : State) {i j : Nat} (v : ProbeSt) (h : j ≠ i) : (s.setProbe i v).probe j = s.probe j := Tab.get_put_ne _ _ _ h
@[simp] theorem State.setXu_pending (s : State) (i : Nat) (v : XuSt) : (s.setXu i v).pending = s.pending := rfl
@[simp] theorem State.setXu_fuses (s : State) (i : Nat) (v : XuSt) : (s.setXu i v).fuses = s.fuses := rfl
@[simp] theorem State.setXu_flds (s : State) (i : Nat) (v : XuSt) : (s.setXu i v).flds = s.flds := rfl
@[simp] theorem State.setXu_mem (s : State) (i : Nat) (v : XuSt) : (s.setXu i v).mem = s.mem := rfl
@[simp] theorem State.setXu_ctxs (s : State) (i : Nat) (v : XuSt) : (s.setXu i v).ctxs = s.ctxs := rfl
@[simp] theorem State.setXu_out (s : State) (i : Nat) (v : XuSt) : (s.setXu i v).out = s.out := rfl
@[simp] theorem State.setXu_free (s : State) (i : Nat) (v : XuSt) : (s.setXu i v).free = s.free := rfl
@[simp] theorem State.xu_setXu_same (s : State) (i : Nat) (v : XuSt) : (s.setXu i v).xu i = v := Tab.get_put_same _ _ _ _
theorem State.xu_setXu_ne (s : State) {i j : Nat} (v : XuSt) (h : j ≠ i) : (s.setXu i v).xu j = s.xu j := Tab.get_put_ne _ _ _ h
@[simp] theorem State.setMc_pending (s : State) (i : Nat) (v : McSt) : (s.setMc i v).pending = s.pending := rfl
@[simp] theorem State.setMc_fuses (s : State) (i : Nat) (v : McSt) : (s.setMc i v).fuses = s.fuses := rfl
@[simp] theorem State.setMc_flds (s : State) (i : Nat) (v : McSt) : (s.setMc i v).flds = s.flds := rfl
@[simp] theorem State.setMc_mem (s : State) (i : Nat) (v : McSt) : (s.setMc i v).mem = s.mem := rfl
@[simp] theorem State.setMc_ctxs (s : State) (i : Nat) (v : McSt) : (s.setMc i v).ctxs = s.ctxs := rfl
@[simp] theorem State.setMc_out (s : State) (i : Nat) (v : McSt) : (s.setMc i v).out = s.out := rfl
@[simp] theorem State.setMc_free (s : State) (i : Nat) (v : McSt) : (s.setMc i v).free = s.free := rfl
@[simp] theorem State.mc_setMc_same (s : State) (i : Nat) (v : McSt) : (s.setMc i v).mc i = v := Tab.get_put_same _ _ _ _
theorem State.mc_setMc_ne (s : State) {i j : Nat} (v : McSt) (h : j ≠ i) : (s.setMc i v).mc j = s.mc j := Tab.get_put_ne _ _ _ h
@[simp] theorem State.setSgf_pending (s : State) (i : Nat) (v : Bool) : (s.setSgf i v).pending = s.pending := rfl
@[simp] theorem State.setSgf_fuses (s : State) (i : Nat) (v : Bool) : (s.setSgf i v).fuses = s.fuses := rfl
@[simp] theorem State.setSgf_flds (s : State) (i : Nat) (v : Bool) : (s.setSgf i v).flds = s.flds := rfl
@[simp] theorem State.setSgf_mem (s : State) (i : Nat) (v : Bool) : (s.setSgf i v).mem = s.mem := rfl
@[simp] theorem State.setSgf_ctxs (s : State) (i : Nat) (v : Bool) : (s.setSgf i v).ctxs = s.ctxs := rfl
@[simp] theorem State.setSgf_out (s : State) (i : Nat) (v : Bool) : (s.setSgf i v).out = s.out := rfl
@[simp] theorem State.setSgf_free (s : State) (i : Nat) (v : Bool) : (s.setSgf i v).free = s.free := rfl
@[simp] theorem State.sgf_setSgf_same (s : State) (i : Nat) (v : Bool) : (s.setSgf i v).sgf i = v := Tab.get_put_same _ _ _ _
theorem State.sgf_setSgf_ne (s : State) {i j : Nat} (v : Bool) (h : j ≠ i) : (s.setSgf i v).sgf j = s.sgf j := Tab.get_put_ne _ _ _ h
@[simp] theorem State.setEvt_pending (s : State) (i : Nat) (v : EvtSt) : (s.setEvt i v).pending = s.pending := rfl
@[simp] theorem State.setEvt_fuses (s : State) (i : Nat) (v : EvtSt) : (s.setEvt i v).fuses = s.fuses := rfl
@[simp] theorem State.setEvt_flds (s : State) (i : Nat) (v : EvtSt) : (s.setEvt i v).flds = s.flds := rfl
@[simp] theorem State.setEvt_mem (s : State) (i : Nat) (v : EvtSt) : (s.setEvt i v).mem = s.mem := rfl
@[simp] theorem State.setEvt_ctxs (s : State) (i : Nat) (v : EvtSt) : (s.setEvt i v).ctxs = s.ctxs := rfl
@[simp] theorem State.setEvt_out (s : State) (i : Nat) (v : EvtSt) : (s.setEvt i v).out = s.out := rfl
@[simp] theorem State.setEvt_free (s : State) (i : Nat) (v : EvtSt) : (s.setEvt i v).free = s.free := rfl
@[simp] theorem State.evt_setEvt_same (s : State) (i : Nat) (v : EvtSt) : (s.setEvt i v).evt i = v := Tab.get_put_same _ _ _ _
theorem State.evt_setEvt_ne (s : State) {i j : Nat} (v : EvtSt) (h : j ≠ i) : (s.setEvt i v).evt j = s.evt j := Tab.get_put_ne _ _ _ h
@[simp] theorem State.setMbx_pending (s : State) (i : Nat) (v : MbxSt) : (s.setMbx i v).pending = s.pending := rfl
@[simp] theorem State.setMbx_fuses (s : State) (i : Nat) (v : MbxSt) : (s.setMbx i v).fuses = s.fuses := rfl
@[simp] theorem State.setMbx_flds (s : State) (i : Nat) (v : MbxSt) : (s.setMbx i v).flds = s.flds := rfl
@[simp] theorem State.setMbx_mem (s : State) (i : Nat) (v : MbxSt) : (s.setMbx i v).mem = s.mem := rfl
@[simp] theorem State.setMbx_ctxs (s : State) (i : Nat) (v : MbxSt) : (s.setMbx i v).ctxs = s.ctxs := rfl
@[simp] theorem State.setMbx_out (s : State) (i : Nat) (v : MbxSt) : (s.setMbx i v).out = s.out := rfl
@[simp] theorem State.setMbx_free (s : State) (i : Nat) (v : MbxSt) : (s.setMbx i v).free = s.free := rfl
@[simp] theorem State.mbx_setMbx_same (s : State) (i : Nat) (v : MbxSt) : (s.setMbx i v).mbx i = v := Tab.get_put_same _ _ _ _
theorem State.mbx_setMbx_ne (s : State) {i j : Nat} (v : MbxSt) (h : j ≠ i) : (s.setMbx i v).mbx j = s.mbx j := Tab.get_put_ne _ _ _ h
@[simp] theorem State.setQReset_pending (s : State) (i : Nat) (v : Bool) : (s.setQReset i v).pending = s.pending := rfl
@[simp] theorem State.setQReset_fuses (s : State) (i : Nat) (v : Bool) : (s.setQReset i v).fuses = s.fuses := rfl
@[simp] theorem State.setQReset_flds (s : State) (i : Nat) (v : Bool) : (s.setQReset i v).flds = s.flds := rfl
@[simp] theorem State.setQReset_mem (s : State) (i : Nat) (v : Bool) : (s.setQReset i v).mem = s.mem := rfl
@[simp] theorem State.setQReset_ctxs (s : State) (i : Nat) (v : Bool) : (s.setQReset i v).ctxs = s.ctxs := rfl
@[simp] theorem State.setQReset_out (s : State) (i : Nat) (v : Bool) : (s.setQReset i v).out = s.out := rfl
@[simp] theorem State.setQReset_free (s : State) (i : Nat) (v : Bool) : (s.setQReset i v).free = s.free := rfl
@[simp] theorem State.qReset_setQReset_same (s : State) (i : Nat) (v : Bool) : (s.setQReset i v).qReset i = v := Tab.get_put_same _ _ _ _
theorem State.qReset_setQReset_ne (s : State) {i j : Nat} (v : Bool) (h : j ≠ i) : (s.setQReset i v).qReset j = s.qReset j := Tab.get_put_ne _ _ _ h
@[simp] theorem State.setDeep_pending (s : State) (i : Nat) (v : DeepSt) : (s.setDeep i v).pending = s.pending := rfl
@[simp] theorem State.setDeep_fuses (s : State) (i : Nat) (v : DeepSt) : (s.setDeep i v).fuses = s.fuses := rfl
@[simp] theorem State.setDeep_flds (s : State) (i : Nat) (v : DeepSt) : (s.setDeep i v).flds = s.flds := rfl
@[simp] theorem State.setDeep_mem (s : State) (i : Nat) (v : DeepSt) : (s.setDeep i v).mem = s.mem := rfl
@[simp] theorem State.setDeep_ctxs (s : State) (i : Nat) (v : DeepSt) : (s.setDeep i v).ctxs = s.ctxs := rfl
@[simp] theorem State.setDeep_out (s : State) (i : Nat) (v : DeepSt) : (s.setDeep i v).out = s.out := rfl
@[simp] theorem State.setDeep_free (s : State) (i : Nat) (v : DeepSt) : (s.setDeep i v).free = s.free := rfl
@[simp] theorem State.deep_setDeep_same (s : State) (i : Nat) (v : DeepSt) : (s.setDeep i v).deep i = v := Tab.get_put_same _ _ _ _
theorem State.deep_setDeep_ne (s : State) {i j : Nat} (v : DeepSt) (h : j ≠ i) : (s.setDeep i v).deep j = s.deep j := Tab.get_put_ne _ _ _ h
@[simp] theorem State.setDbg_pending (s : State) (i : Nat) (v : DbgSt) : (s.setDbg i v).pending = s.pending := rfl
@[simp] theorem State.setDbg_fuses (s : State) (i : Nat) (v : DbgSt) : (s.setDbg i v).fuses = s.fuses := rfl
@[simp] theorem State.setDbg_flds (s : State) (i : Nat) (v : DbgSt) : (s.setDbg i v).flds = s.flds := rfl
@[simp] theorem State.setDbg_mem (s : State) (i : Nat) (v : DbgSt) : (s.setDbg i v).mem = s.mem := rfl
@[simp] theorem State.setDbg_ctxs (s : State) (i : Nat) (v : DbgSt) : (s.setDbg i v).ctxs = s.ctxs := rfl
@[simp] theorem State.setDbg_out (s : State) (i : Nat) (v : DbgSt) : (s.setDbg i v).out = s.out := rfl
@[simp] theorem State.setDbg_free (s : State) (i : Nat) (v : DbgSt) : (s.setDbg i v).free = s.free := rfl
@[simp] theorem State.dbg_setDbg_same (s : State) (i : Nat) (v : DbgSt) : (s.setDbg i v).dbg i = v := Tab.get_put_same _ _ _ _
theorem State.dbg_setDbg_ne (s : State) {i j : Nat} (v : DbgSt) (h : j ≠ i) : (s.setDbg i v).dbg j = s.dbg j := Tab.get_put_ne _ _ _ h
@[simp] theorem State.setSink_pending (s : State) (i : Nat) (v : SinkSt) : (s.setSink i v).pending = s.pending := rfl
@[simp] theorem State.setSink_fuses (s : State) (i : Nat) (v : SinkSt) : (s.setSink i v).fuses = s.fuses := rfl
@[simp] theorem State.setSink_flds (s : State) (i : Nat) (v : SinkSt) : (s.setSink i v).flds = s.flds := rfl
@[simp] theorem State.setSink_mem (s : State) (i : Nat) (v : SinkSt) : (s.setSink i v).mem = s.mem := rfl
@[simp] theorem State.setSink_ctxs (s : State) (i : Nat) (v : SinkSt) : (s.setSink i v).ctxs = s.ctxs := rfl
@[simp] theorem State.setSink_out (s : State) (i : Nat) (v : SinkSt) : (s.setSink i v).out = s.out := rfl
@[simp] theorem State.setSink_free (s : State) (i : Nat) (v : SinkSt) : (s.setSink i v).free = s.free := rfl
@[simp] theorem State.sink_setSink_same (s : State) (i : Nat) (v : SinkSt) : (s.setSink i v).sink i = v := Tab.get_put_same _ _ _ _
theorem State.sink_setSink_ne (s : State) {i j : Nat} (v : SinkSt) (h : j ≠ i) : (s.setSink i v).sink j = s.sink j := Tab.get_put_ne _ _ _ h
@[simp] theorem State.setLane_pending (s : State) (i : Nat) (v : LaneSt) : (s.setLane i v).pending = s.pending := rfl
@[simp] theorem State.setLane_fuses (s : State) (i : Nat) (v : LaneSt) : (s.setLane i v).fuses = s.fuses := rfl
@[simp] theorem State.setLane_flds (s : State) (i : Nat) (v : LaneSt) : (s.setLane i v).flds = s.flds := rfl
@[simp] theorem State.setLane_mem (s : State) (i : Nat) (v : LaneSt) : (s.setLane i v).mem = s.mem := rfl
@[simp] theorem State.setLane_ctxs (s : State) (i : Nat) (v : LaneSt) : (s.setLane i v).ctxs = s.ctxs := rfl
@[simp] theorem State.setLane_out (s : State) (i : Nat) (v : LaneSt) : (s.setLane i v).out = s.out := rfl
@[simp] theorem State.setLane_free (s : State) (i : Nat) (v : LaneSt) : (s.setLane i v).free = s.free := rfl
@[simp] theorem State.lane_setLane_same (s : State) (i : Nat) (v : LaneSt) : (s.setLane i v).lane i = v := Tab.get_put_same _ _ _ _
theorem State.lane_setLane_ne (s : State) {i j : Nat} (v : LaneSt) (h : j ≠ i) : (s.setLane i v).lane j = s.lane j := Tab.get_put_ne _ _ _ h
@[simp] theorem State.setMac_pending (s : State) (i : Nat) (v : MacSt) : (s.setMac i v).pending = s.pending := rfl
@[simp] theorem State.setMac_fuses (s : State) (i : Nat) (v : MacSt) : (s.setMac i v).fuses = s.fuses := rfl
@[simp] theorem State.setMac_flds (s : State) (i : Nat) (v : MacSt) : (s.setMac i v).flds = s.flds := rfl
@[simp] theorem State.setMac_mem (s : State) (i : Nat) (v : MacSt) : (s.setMac i v).mem = s.mem := rfl
@[simp] theorem State.setMac_ctxs (s : State) (i : Nat) (v : MacSt) : (s.setMac i v).ctxs = s.ctxs := rfl
@[simp] theorem State.setMac_out (s : State) (i : Nat) (v : MacSt) : (s.setMac i v).out = s.out := rfl
@[simp] theorem State.setMac_free (s : State) (i : Nat) (v : MacSt) : (s.setMac i v).free = s.free := rfl
@[simp] theorem State.mac_setMac_same (s : State) (i : Nat) (v : MacSt) : (s.setMac i v).mac i = v := Tab.get_put_same _ _ _ _
theorem State.mac_setMac_ne (s : State) {i j : Nat} (v : MacSt) (h : j ≠ i) : (s.setMac i v).mac j = s.mac j := Tab.get_put_ne _ _ _ h
@[simp] theorem State.setCan_pending (s : State) (i : Nat) (v : CanSt) : (s.setCan i v).pending = s.pending := rfl
@[simp] theorem State.setCan_fuses (s : State) (i : Nat) (v : CanSt) : (s.setCan i v).fuses = s.fuses := rfl
@[simp] theorem State.setCan_flds (s : State) (i : Nat) (v : CanSt) : (s.setCan i v).flds = s.flds := rfl
@[simp] theorem State.setCan_mem (s : State) (i : Nat) (v : CanSt) : (s.setCan i v).mem = s.mem := rfl
@[simp] theorem State.setCan_ctxs (s : State) (i : Nat) (v : CanSt) : (s.setCan i v).ctxs = s.ctxs := rfl
@[simp] theorem State.setCan_out (s : State) (i : Nat) (v : CanSt) : (s.setCan i v).out = s.out := rfl
@[simp] theorem State.setCan_free (s : State) (i : Nat) (v : CanSt) : (s.setCan i v).free = s.free := rfl
@[simp] theorem State.can_setCan_same (s : State) (i : Nat) (v : CanSt) : (s.setCan i v).can i = v := Tab.get_put_same _ _ _ _
theorem State.can_setCan_ne (s : State) {i j : Nat} (v : CanSt) (h : j ≠ i) : (s.setCan i v).can j = s.can j := Tab.get_put_ne _ _ _ h
@[simp] theorem State.setNoLref_pending (s : State) (i : Nat) (v : Bool) : (s.setNoLref i v).pending = s.pending := rfl
@[simp] theorem State.setNoLref_fuses (s : State) (i : Nat) (v : Bool) : (s.setNoLref i v).fuses = s.fuses := rfl
@[simp] theorem State.setNoLref_flds (s : State) (i : Nat) (v : Bool) : (s.setNoLref i v).flds = s.flds := rfl
@[simp] theorem State.setNoLref_mem (s : State) (i : Nat) (v : Bool) : (s.setNoLref i v).mem = s.mem := rfl
@[simp] theorem State.setNoLref_ctxs (s : State) (i : Nat) (v : Bool) : (s.setNoLref i v).ctxs = s.ctxs := rfl
@[simp] theorem State.setNoLref_out (s : State) (i : Nat) (v : Bool) : (s.setNoLref i v).out = s.out := rfl
@[simp] theorem State.setNoLref_free (s : State) (i : Nat) (v : Bool) : (s.setNoLref i v).free = s.free := rfl
@[simp] theorem State.noLref_setNoLref_same (s : State) (i : Nat) (v : Bool) : (s.setNoLref i v).noLref i = v := Tab.get_put_same _ _ _ _
theorem State.noLref_setNoLref_ne (s : State) {i j : Nat} (v : Bool) (h : j ≠ i) : (s.setNoLref i v).noLref j = s.noLref j := Tab.get_put_ne _ _ _ h
@[simp] theorem State.setDom_pending (s : State) (i : Nat) (v : DomSt) : (s.setDom i v).pending = s.pending := rfl
@[simp] theorem State.setDom_fuses (s : State) (i : Nat) (v : DomSt) : (s.setDom i v).fuses = s.fuses := rfl
@[simp] theorem State.setDom_flds (s : State) (i : Nat) (v : DomSt) : (s.setDom i v).flds = s.flds := rfl
@[simp] theorem State.setDom_mem (s : State) (i : Nat) (v : DomSt) : (s.setDom i v).mem = s.mem := rfl
@[simp] theorem State.setDom_ctxs (s : State) (i : Nat) (v : DomSt) : (s.setDom i v).ctxs = s.ctxs := rfl
@[simp] theorem State.setDom_out (s : State) (i : Nat) (v : DomSt) : (s.setDom i v).out = s.out := rfl
@[simp] theorem State.setDom_free (s : State) (i : Nat) (v : DomSt) : (s.setDom i v).free = s.free := rfl
@[simp] theorem State.dom_setDom_same (s : State) (i : Nat) (v : DomSt) : (s.setDom i v).dom i = v := Tab.get_put_same _ _ _ _
theorem State.dom_setDom_ne (s : State) {i j : Nat} (v : DomSt) (h : j ≠ i) : (s.setDom i v).dom j = s.dom j := Tab.get_put_ne _ _ _ h
@[simp] theorem State.setHeld_pending (s : State) (i : Nat) (v : (Option HeldTime)) : (s.setHeld i v).pending = s.pending := rfl
@[simp] theorem State.setHeld_fuses (s : State) (i : Nat) (v : (Option HeldTime)) : (s.setHeld i v).fuses = s.fuses := rfl
@[simp] theorem State.setHeld_flds (s : State) (i : Nat) (v : (Option HeldTime)) : (s.setHeld i v).flds = s.flds := rfl
@[simp] theorem State.setHeld_mem (s : State) (i : Nat) (v : (Option HeldTime)) : (s.setHeld i v).mem = s.mem := rfl
@[simp] theorem State.setHeld_ctxs (s : State) (i : Nat) (v : (Option HeldTime)) : (s.setHeld i v).ctxs = s.ctxs := rfl
@[simp] theorem State.setHeld_out (s : State) (i : Nat) (v : (Option HeldTime)) : (s.setHeld i v).out = s.out := rfl
@[simp] theorem State.setHeld_free (s : State) (i : Nat) (v : (Option HeldTime)) : (s.setHeld i v).free = s.free := rfl
@[simp] theorem State.held_setHeld_same (s : State) (i : Nat) (v : (Option HeldTime)) : (s.setHeld i v).held i = v := Tab.get_put_same _ _ _ _
theorem State.held_setHeld_ne (s : State) {i j : Nat} (v : (Option HeldTime)) (h : j ≠ i) : (s.setHeld i v).held j = s.held j := Tab.get_put_ne _ _ _ h
@[simp] theorem State.setDeadBrg_pending (s : State) (i : Nat) (v : Bool) : (s.setDeadBrg i v).pending = s.pending := rfl
@[simp] theorem State.setDeadBrg_fuses (s : State) (i : Nat) (v : Bool) : (s.setDeadBrg i v).fuses = s.fuses := rfl
@[simp] theorem State.setDeadBrg_flds (s : State) (i : Nat) (v : Bool) : (s.setDeadBrg i v).flds = s.flds := rfl
@[simp] theorem State.setDeadBrg_mem (s : State) (i : Nat) (v : Bool) : (s.setDeadBrg i v).mem = s.mem := rfl
@[simp] theorem State.setDeadBrg_ctxs (s : State) (i : Nat) (v : Bool) : (s.setDeadBrg i v).ctxs = s.ctxs := rfl
@[simp] theorem State.setDeadBrg_out (s : State) (i : Nat) (v : Bool) : (s.setDeadBrg i v).out = s.out := rfl
@[simp] theorem State.setDeadBrg_free (s : State) (i : Nat) (v : Bool) : (s.setDeadBrg i v).free = s.free := rfl
@[simp] theorem State.deadBrg_setDeadBrg_same (s : State) (i : Nat) (v : Bool) : (s.setDeadBrg i v).deadBrg i = v := Tab.get_put_same _ _ _ _
theorem State.deadBrg_setDeadBrg_ne (s : State) {i j : Nat} (v : Bool) (h : j ≠ i) : (s.setDeadBrg i v).deadBrg j = s.deadBrg j := Tab.get_put_ne _ _ _ h
@[simp] theorem State.setBadFrames_pending (s : State) (i : Nat) (v : (List Nat)) : (s.setBadFrames i v).pending = s.pending := rfl
@[simp] theorem State.setBadFrames_fuses (s : State) (i : Nat) (v : (List Nat)) : (s.setBadFrames i v).fuses = s.fuses := rfl
@[simp] theorem State.setBadFrames_flds (s : State) (i : Nat) (v : (List Nat)) : (s.setBadFrames i v).flds = s.flds := rfl
@[simp] theorem State.setBadFrames_mem (s : State) (i : Nat) (v : (List Nat)) : (s.setBadFrames i v).mem = s.mem := rfl
@[simp] theorem State.setBadFrames_ctxs (s : State) (i : Nat) (v : (List Nat)) : (s.setBadFrames i v).ctxs = s.ctxs := rfl
@[simp] theorem State.setBadFrames_out (s : State) (i : Nat) (v : (List Nat)) : (s.setBadFrames i v).out = s.out := rfl
@[simp] theorem State.setBadFrames_free (s : State) (i : Nat) (v : (List Nat)) : (s.setBadFrames i v).free = s.free := rfl
@[simp] theorem State.badFrames_setBadFrames_same (s : State) (i : Nat) (v : (List Nat)) : (s.setBadFrames i v).badFrames i = v := Tab.get_put_same _ _ _ _
theorem State.badFrames_setBadFrames_ne (s : State) {i j : Nat} (v : (List Nat)) (h : j ≠ i) : (s.setBadFrames i v).badFrames j = s.badFrames j := Tab.get_put_ne _ _ _ h
@[simp] theorem State.setSess_pending (s : State) (i : Nat) (v : SessSt) : (s.setSess i v).pending = s.pending := rfl
@[simp] theorem State.setSess_fuses (s : State) (i : Nat) (v : SessSt) : (s.setSess i v).fuses = s.fuses := rfl
@[simp] theorem State.setSess_flds (s : State) (i : Nat) (v : SessSt) : (s.setSess i v).flds = s.flds := rfl
@[simp] theorem State.setSess_mem (s : State) (i : Nat) (v : SessSt) : (s.setSess i v).mem = s.mem := rfl
@[simp] theorem State.setSess_ctxs (s : State) (i : Nat) (v : SessSt) : (s.setSess i v).ctxs = s.ctxs := rfl
@[simp] theorem State.setSess_out (s : State) (i : Nat) (v : SessSt) : (s.setSess i v).out = s.out := rfl
@[simp] theorem State.setSess_free (s : State) (i : Nat) (v : SessSt) : (s.setSess i v).free = s.free := rfl
@[simp] theorem State.sess_setSess_same (s : State) (i : Nat) (v : SessSt) : (s.setSess i v).sess i = v := Tab.get_put_same _ _ _ _
theorem State.sess_setSess_ne (s : State) {i j : Nat} (v : SessSt) (h : j ≠ i) : (s.setSess i v).sess j = s.sess j := Tab.get_put_ne _ _ _ h
@[simp] theorem State.setPort_pending (s : State) (i : Nat) (v : PortSt) : (s.setPort i v).pending = s.pending := rfl
@[simp] theorem State.setPort_fuses (s : State) (i : Nat) (v : PortSt) : (s.setPort i v).fuses = s.fuses := rfl
@[simp] theorem State.setPort_flds (s : State) (i : Nat) (v : PortSt) : (s.setPort i v).flds = s.flds := rfl
@[simp] theorem State.setPort_mem (s : State) (i : Nat) (v : PortSt) : (s.setPort i v).mem = s.mem := rfl
@[simp] theorem State.setPort_ctxs (s : State) (i : Nat) (v : PortSt) : (s.setPort i v).ctxs = s.ctxs := rfl
@[simp] theorem State.setPort_out (s : State) (i : Nat) (v : PortSt) : (s.setPort i v).out = s.out := rfl
@[simp] theorem State.setPort_free (s : State) (i : Nat) (v : PortSt) : (s.setPort i v).free = s.free := rfl
@[simp] theorem State.port_setPort_same (s : State) (i : Nat) (v : PortSt) : (s.setPort i v).port i = v := Tab.get_put_same _ _ _ _
theorem State.port_setPort_ne (s : State) {i j : Nat} (v : PortSt) (h : j ≠ i) : (s.setPort i v).port j = s.port j := Tab.get_put_ne _ _ _ h
@[simp] theorem State.setPfState_pending (s : State) (i : Nat) (v : PfSt) : (s.setPfState i v).pending = s.pending := rfl
@[simp] theorem State.setPfState_fuses (s : State) (i : Nat) (v : PfSt) : (s.setPfState i v).fuses = s.fuses := rfl
@[simp] theorem State.setPfState_flds (s : State) (i : Nat) (v : PfSt) : (s.setPfState i v).flds = s.flds := rfl
@[simp] theorem State.setPfState_mem (s : State) (i : Nat) (v : PfSt) : (s.setPfState i v).mem = s.mem := rfl
@[simp] theorem State.setPfState_ctxs (s : State) (i : Nat) (v : PfSt) : (s.setPfState i v).ctxs = s.ctxs := rfl
@[simp] theorem State.setPfState_out (s : State) (i : Nat) (v : PfSt) : (s.setPfState i v).out = s.out := rfl
@[simp] theorem State.setPfState_free (s : State) (i : Nat) (v : PfSt) : (s.setPfState i v).free = s.free := rfl
@[simp] theorem State.pfState_setPfState_same (s : State) (i : Nat) (v : PfSt) : (s.setPfState i v).pfState i = v := Tab.get_put_same _ _ _ _
theorem State.pfState_setPfState_ne (s : State) {i j : Nat} (v : PfSt) (h : j ≠ i) : (s.setPfState i v).pfState j = s.pfState j := Tab.get_put_ne _ _ _ h

/-! ## Registers -/

/-- A register field reads as what was written to it, cut to its width. -/
@[simp] theorem State.rd_wr_same (s : State) (a : Nat) (f : Fld) (v : Nat) : (s.wr a f v).rd a f = v % 2 ^ f.width :=
  Tab.get_put_same _ _ _ _

/-- A write leaves every field at another place alone. -/
theorem State.rd_wr_ne (s : State) {a a' : Nat} {f f' : Fld} (v : Nat) (h : key a' f' ≠ key a f) :
    (s.wr a f v).rd a' f' = s.rd a' f' := Tab.get_put_ne _ _ _ h

theorem State.rd_wr (s : State) (a a' : Nat) (f f' : Fld) (v : Nat) :
    (s.wr a f v).rd a' f' = if key a' f' = key a f then v % 2 ^ f.width else s.rd a' f' := Tab.get_put _ _ _ _ _

/-- Any update that keeps the register fields keeps every read. -/
theorem State.rd_congr {s t : State} (h : t.flds = s.flds) (a : Nat) (f : Fld) : t.rd a f = s.rd a f := by
  unfold State.rd; rw [h]

/-! ## Memory -/

@[simp] theorem State.byte_setByte_same (s : State) (a : Nat) (v : Byte) : (s.setByte a v).byte a = v := Tab.get_put_same _ _ _ _

theorem State.byte_setByte_ne (s : State) {a a' : Nat} (v : Byte) (h : a' ≠ a) : (s.setByte a v).byte a' = s.byte a' :=
  Tab.get_put_ne _ _ _ h

theorem State.byte_congr {s t : State} (h : t.mem = s.mem) (a : Nat) : t.byte a = s.byte a := by unfold State.byte; rw [h]

@[simp] theorem State.diff_setDiff_same (s : State) (k v : Nat) : (s.setDiff k v).diff k = v := Tab.get_put_same _ _ _ _

theorem State.diff_setDiff_ne (s : State) {k k' : Nat} (v : Nat) (h : k' ≠ k) : (s.setDiff k v).diff k' = s.diff k' :=
  Tab.get_put_ne _ _ _ h

@[simp] theorem State.row_setRow_same (s : State) (k v : Nat) : (s.setRow k v).row k = v := Tab.get_put_same _ _ _ _

theorem State.row_setRow_ne (s : State) {k k' : Nat} (v : Nat) (h : k' ≠ k) : (s.setRow k v).row k' = s.row k' :=
  Tab.get_put_ne _ _ _ h

/-- The number that `n` bytes hold fits in them. -/
theorem State.bytes_lt (s : State) (a n : Nat) : s.bytes a n < 256 ^ n := by
  induction n generalizing a with
  | zero => simp [State.bytes]
  | succ n ih =>
    have h := ih (a + 1)
    have hb := (s.byte a).isLt
    simp only [State.bytes, Nat.pow_succ]
    omega

/-- Writing bytes leaves every byte outside them alone. -/
theorem State.byte_setBytes_ne (s : State) (a n v : Nat) {a' : Nat} (h : a' < a ∨ a + n ≤ a') :
    (s.setBytes a n v).byte a' = s.byte a' := by
  induction n generalizing s a v with
  | zero => rfl
  | succ n ih =>
    simp only [State.setBytes]
    rw [ih _ _ _ (by omega), State.byte_setByte_ne _ _ (by omega)]

/-- A multi-byte value reads back as it was written, least significant byte first (R8). -/
theorem State.bytes_setBytes (s : State) (a n v : Nat) : (s.setBytes a n v).bytes a n = v % 256 ^ n := by
  induction n generalizing s a v with
  | zero => simp [State.bytes, Nat.mod_one]
  | succ n ih =>
    have hb : ((s.setByte a (BitVec.ofNat 8 v)).setBytes (a + 1) n (v / 256)).byte a = BitVec.ofNat 8 v := by
      rw [State.byte_setBytes_ne _ _ _ _ (Or.inl (by omega)), State.byte_setByte_same]
    simp only [State.setBytes, State.bytes]
    rw [ih, hb, BitVec.toNat_ofNat, show (256 : Nat) ^ (n + 1) = 256 * 256 ^ n from Nat.pow_succ', Nat.mod_mul]

@[simp] theorem State.setBytes_flds (s : State) (a n v : Nat) : (s.setBytes a n v).flds = s.flds := by
  induction n generalizing s a v with
  | zero => rfl
  | succ n ih => simp only [State.setBytes]; rw [ih]; rfl

/-- Every byte operation keeps the canonical form of memory. -/
theorem State.setByte_wf (s : State) (a : Nat) (v : Byte) (h : Tab.wf (fun _ => (0 : Byte)) s.mem = true) :
    Tab.wf (fun _ => (0 : Byte)) (s.setByte a v).mem = true := Tab.wf_put _ _ _ h

theorem State.setBytes_wf (s : State) (a n v : Nat) (h : Tab.wf (fun _ => (0 : Byte)) s.mem = true) :
    Tab.wf (fun _ => (0 : Byte)) (s.setBytes a n v).mem = true := by
  induction n generalizing s a v with
  | zero => exact h
  | succ n ih => exact ih _ _ _ (s.setByte_wf a _ h)

theorem State.setEnabled_wf (s : State) (a n be v : Nat) (h : Tab.wf (fun _ => (0 : Byte)) s.mem = true) :
    Tab.wf (fun _ => (0 : Byte)) (s.setEnabled a n be v).mem = true := by
  induction n generalizing s a be v with
  | zero => exact h
  | succ n ih =>
    simp only [State.setEnabled]
    split
    · exact ih _ _ _ _ (s.setByte_wf a _ h)
    · exact ih _ _ _ _ h

/-- A register write keeps the canonical form of the register fields. -/
theorem State.wr_wf (s : State) (a : Nat) (f : Fld) (v : Nat) (h : Tab.wf regReset s.flds = true) :
    Tab.wf regReset (s.wr a f v).flds = true := Tab.wf_put _ _ _ h

end Sys2Proof.Machine
end

