-- ==== Sys2Proof/Tests/Slice0.lean ====
section
/-! SUPPORT. Tests/Slice0.lean: the checks of WellFormed refuse, single steps against values that the spec states, and for each obligation with
hypotheses states and operands that meet them. -/
namespace Sys2Proof.Tests
open Sys2Proof Sys2Proof.Machine

/-! ## Well-formedness -/

theorem test_wf_units :
    (Instr.bayReset 128).wf = false ∧ (Instr.nop 0 32).wf = false ∧ (Instr.islandFence 384).wf = false ∧ (Instr.deepStoreRead 64 false).wf = false ∧
      (Instr.domOfsLoad 2 0).wf = false ∧ (Instr.dividerRampStep 576).wf = false ∧ (Instr.quadrantResetDone 4).wf = false ∧
      (Instr.routerFence 144).wf = false ∧ (Instr.eventDelivery 1024).wf = false ∧ (Instr.mcInit 8).wf = false ∧
      (Instr.ringEnable 48 0).wf = false ∧ (Instr.laneCfgWrite 120 0).wf = false ∧ (Instr.moverAbort 0 4).wf = false ∧
      (Instr.queueEnable 0 64 0).wf = false ∧ (Instr.macPauseSend 16).wf = false ∧ (Instr.canRestart 8).wf = false := by decide
theorem test_wf_numbers :
    (Instr.ack 16 0).wf = false ∧ (Instr.mailboxFlush 0 40).wf = false ∧ (Instr.railLock 0 4).wf = false ∧ (Instr.railUnlock 0 5).wf = false ∧
      (Instr.stuckTimeout 0 10).wf = false ∧ (Instr.vccioLoss 40).wf = false ∧ (Instr.bridgeBadFrame 4 0 0).wf = false ∧
      (Instr.probeClear 0 8).wf = false ∧ (Instr.rdRsp 576 0).wf = false ∧ (Instr.sessionTimeout 17).wf = false ∧ (Instr.wakePin 8).wf = false ∧
      (Instr.refreshDue 0 128 true).wf = false ∧ (Instr.xtPulse 8).wf = false ∧ (Instr.flr 8).wf = false ∧ (Instr.logClear 0 3).wf = false ∧
      (Instr.dbmGo 2).wf = false ∧ (Instr.interleaveEnable 0 8 0).wf = false ∧ (Instr.retrain 0 2).wf = false ∧ (Instr.evtSwset 32 0).wf = false ∧
      (Instr.registerWrite 2 0).wf = false := by decide
theorem test_wf_engine :
    (Instr.add 0 0 32 0 0).wf = false ∧ (Instr.movp 0 0 8 0).wf = false ∧ (Instr.clra 0 0 4).wf = false ∧ (Instr.rot 0 0 16).wf = false ∧
      (Instr.mfs 0 0 0 256).wf = false ∧ (Instr.stim 0 0 256 0 0).wf = false ∧ (Instr.stim 0 0 0 0 4).wf = false ∧
      (Instr.mac 0 0 0 0 0 0 4 0 0 false false).wf = false ∧ (Instr.sac 0 0 0 0 32 false false false).wf = false := by decide

/-! ## States -/

/-- Write a list of register fields. -/
def put (s : State) (l : List (Nat × Fld × Nat)) : State := l.foldl (fun s x => s.wr x.1 x.2.1 x.2.2) s
/-- A device that has completed its power-on steps. -/
def up : State := { State.reset with power := { PowerSt.init with stepsDone := true } }
/-- Context 0 of bay 0 runs at address 0. -/
def run : State := put up [(bayA 0, R.BAY_STATE.STATE, 0), (ctxA 0 0, R.CTX_STATE.STATE, 3), (schedA 0, R.SCHED_STAT.ACTIVE, 1)]
/-- Bay 127 in HOLD. -/
def up127 : State := put up [(bayA 127, R.BAY_STATE.STATE, 3)]
/-- Context 0 of bay 0 with a state of its own. -/
def withCtx (s : State) (v : CtxSt) : State := s.setCtx 0 v
/-- The state that a command leaves. -/
def nx (o : Host.Outcome State Fault Refusal) : State :=
  match o with
  | .next t => t
  | _ => State.reset

theorem run_mayIssue : run.mayIssue 0 0 := by unfold State.mayIssue; decide

/-! ## Values that the spec states -/

/-- The words that R199, R198 and R195 give for ROT Z, LOOP and MAC. -/
theorem test_engine_words :
    decodeEngine 0 0 0xBA000000 = some (.rotZ 0 0) ∧ decodeEngine 0 0 0xB6300000 = some (.loop 0 0 3 0 true) ∧
      (decodeEngine 0 0 0x809DC043).isSome = true := by decide
/-- ADDI wraps at 32 bits and moves the PC on (R191, R198). -/
theorem test_addi_wraps :
    ((nx (exec (.addi 0 0 5 0 0xFFFF) run)).cx 0 0).getW 5 = 0xFFFFFFFF ∧ (nx (exec (.addi 0 0 5 0 0xFFFF) run)).pcOf 0 0 = 4 := by decide
/-- SAR keeps the sign, and shifts by the low five bits of its operand (R190). -/
theorem test_sar_sign :
    ((nx (exec (.sar 0 0 3 1 2) (withCtx run { CtxSt.init with w := [(1, 0x80000000), (2, 33)] }))).cx 0 0).getW 3 = 0xC0000000 := by decide
/-- MULH of the two most negative numbers (R190). -/
theorem test_mulh_corner :
    ((nx (exec (.mulh 0 0 3 1 1) (withCtx run { CtxSt.init with w := [(1, 0x80000000)] }))).cx 0 0).getW 3 = 0x40000000 := by decide
/-- A store writes its bytes little-endian (R8, R192); STB leaves the bytes beside it. -/
theorem test_stores_little_endian :
    (let s := { (run.modBay 0 fun v => { v with sramOpen := true }) with ctxs := [(0, { CtxSt.init with w := [(1, 0x100), (2, 0x11223344)] })] }
     (nx (exec (.stw 0 0 2 1 0) s)).byte (sramA 0 0x100) = 0x44 ∧ (nx (exec (.stb 0 0 2 1 3) s)).bytes (sramA 0 0x100) 4 = 0x44000000) := by decide
/-- A misaligned load faults with MISALIGNED and its address (R192, R205). -/
theorem test_misaligned_load :
    (nx (exec (.ldw 0 0 2 1 2) run)).ctxState 0 0 = 5 ∧ (nx (exec (.ldw 0 0 2 1 2) run)).rd (ctxA 0 0) R.CTX_CAUSE.CAUSE = 2 ∧
      (nx (exec (.ldw 0 0 2 1 2) run)).rd (ctxA 0 0) R.CTX_INFO.INFO = 2 := by decide
/-- The routers of an XY route turn once (R262). -/
theorem test_xy_route : up.route 0 26 = [0, 1, 2, 14, 26] := by decide
/-- A device reset records its cause and leaves bays in RESET (R42, R43). -/
theorem test_device_reset :
    (nx (exec .deviceWdogExpiry up)).rd (idA 3) R.RST_CAUSE.CAUSE = 3 ∧ (nx (exec .deviceWdogExpiry up)).qReset 2 = true := by decide
/-- Every wire group good: the bridge is UP with eight groups on both sides (R514). -/
theorem test_bridge_up :
    (nx (exec (.bridgeTrainingDone 0 true 255 255 0 0) (nx (exec .vinStart State.reset)))).brg (1, 1) R.BRG_STAT.STATE = 2 ∧
      (nx (exec (.bridgeTrainingDone 0 true 255 0x0F 0 0) (nx (exec .vinStart State.reset)))).brg (0, 0) R.BRG_STAT.IN_USE = 0x0F := by decide
/-- With an empty queue a step is a tick: the counter moves on (log entry 50). -/
theorem test_idle_tick : (nx (step up)).counter = 1 := by decide
/-- A follower's copy of an event register reads 0 (R38, R247). -/
theorem test_follower_copy : (up.regRead false (quadA 1 + 0xC00000)).1 = 0 := by decide

/-! ## Witnesses: for each obligation with hypotheses, states and operands that meet them

Each conjunct is the hypotheses of one clause, at concrete values. -/

theorem noneAll {α : Type} {o : Option α} (h : o = none) (P : α → Prop) : ∀ r, o = some r → P r := by
  intro r hr; rw [h] at hr; cases hr

/-- `run` with bay SRAM open. -/
def runOpen : State := run.modBay 0 fun v => { v with sramOpen := true }
/-- Bay 0's engine runs with context 0 in a wait. -/
def waitingIn (w : Wait) : State := withCtx (put up [(bayA 0, R.BAY_STATE.STATE, 0), (ctxA 0 0, R.CTX_STATE.STATE, 4)]) { CtxSt.init with wait := w }

theorem withCtx_mayIssue : (withCtx run { CtxSt.init with w := [(1, 2), (2, 0x100)] }).mayIssue 0 0 := by unfold State.mayIssue; decide
theorem runOpen_mayIssue : runOpen.mayIssue 0 0 := by unfold State.mayIssue; decide

theorem witness_EngineWordRoundTrip :
    (Instr.beq 127 31 31 31 0x1FFF).wf = true ∧ encodeEngine (.beq 127 31 31 31 0x1FFF) = some 0xA07FFFFF := by decide
theorem witness_EngineWordUnique : 0xA07FFFFF < 2 ^ 32 ∧ decodeEngine 0 0 0xA07FFFFF = some (.beq 0 0 31 31 0x1FFF) := by decide
theorem witness_AluAndImmediateResults :
    (Instr.add 0 0 1 2 3, fun x y : BitVec 32 => BitVec.ofNat 32 (x.toNat + y.toNat)) ∈ aluRows 0 0 1 2 3 ∧
      (Instr.addi 0 0 1 2 0xFFFF, fun x : BitVec 32 => BitVec.ofInt 32 (x.toInt + (0xFFFF : BitVec 16).toInt)) ∈ immRows 0 0 1 2 0xFFFF ∧
      run.mayIssue 0 0 := ⟨List.Mem.head _, List.Mem.head _, run_mayIssue⟩
theorem witness_ForbiddenFieldsAreIllegal :
    (Instr.clz 0 0 1 2 31 = .clz 0 0 1 2 31 ∧ 31 < 32 ∧ 31 ≠ 0 ∧ wordR 0 1 2 31 0x13 = wordR 0 1 2 31 0x13) ∧ (1 < 32 ∧ 1 ≠ 0) ∧
      128 ≤ (128 : BitVec 16).toNat ∧ ((true = true) ∧ (1 : BitVec 14) ≠ 0) ∧
      (encodeEngine (.mta 0 0 0 0 9)).isSome = true ∧ (encodeEngine (.stim 0 0 255 0 3)).isSome = true ∧
      (encodeEngine (.mfs 0 0 0 12)).isSome = true ∧ (encodeEngine (.mts 0 0 0 3)).isSome = true ∧ decodeEngine 0 0 0 = none ∧
      run.mayIssue 0 0 := ⟨by decide, by decide, by decide, by decide, by decide, by decide, by decide, by decide, by decide, run_mayIssue⟩
theorem witness_SramLoads :
    (Instr.ldw 0 0 1 2 0x100, 4, false, 0x100) ∈ loadRows ((run.fetched 0 0).cx 0 0) 0 0 1 2 0 0x100 0 ∧
      0x100 % 4 = 0 ∧ 0x100 < 0x40000 ∧ (run.fetched 0 0).diff (chkSram 0 (0x100 / 4)) = 0 ∧
      ((run.fetched 0 0).cx 0 0).modify 7 = some 0 ∧ (((run.fetched 0 0).cx 0 0).getP 7).toNat % 2 ^ 2 = 0 ∧
      (((run.fetched 0 0).cx 0 0).getP 7).toNat < 0x40000 ∧ ((runOpen.fetched 0 0).bay 0).sramOpen = true ∧ run.mayIssue 0 0 ∧
      runOpen.mayIssue 0 0 :=
  ⟨by decide, by decide, by decide, by decide, by decide, by decide, by decide, by decide, run_mayIssue, runOpen_mayIssue⟩
/-- Context 0 holds a reservation on the word that w1 names. -/
def reserved : State := withCtx runOpen { CtxSt.init with w := [(1, 0x3FFFC)], resv := some 0xFFFF }
theorem witness_SramStoresAndReservations :
    ((Instr.stw 0 0 2 0 0x10, 4, 0x10) ∈ storeRows ((runOpen.fetched 0 0).cx 0 0) 0 0 2 0 0 0x10 0 ∧ 0x10 % 4 = 0 ∧ 0x10 < 0x40000 ∧
        ((runOpen.fetched 0 0).bay 0).sramOpen = true ∧ (runOpen.fetched 0 0).diff (chkSram 0 4) = 0) ∧
      (((((runOpen.fetched 0 0).cx 0 0).getW 0 + (0x10 : BitVec 16).signExtend 32).toNat < 0x40000)) ∧
      ((((reserved.fetched 0 0).cx 0 0).getW 1).toNat = 0x3FFFC ∧ ((reserved.fetched 0 0).cx 0 0).resv = some (0x3FFFC / 4) ∧
        ((reserved.fetched 0 0).bay 0).sramOpen = true) ∧
      ((runOpen.fetched 0 0).cx 0 0).resv ≠ some ((((runOpen.fetched 0 0).cx 0 0).getW 1).toNat / 4) ∧
      runOpen.mayIssue 0 0 ∧ reserved.mayIssue 0 0 :=
  ⟨by decide, by decide, by decide, by decide, runOpen_mayIssue, by unfold State.mayIssue; decide⟩
theorem witness_PointersAccumulatorsAndMac :
    run.mayIssue 0 0 ∧ (((run.fetched 0 0).cx 0 0).getM 7).toNat = 0 ∧
      (let s := withCtx run { CtxSt.init with m := [(0, 4)] }
       s.mayIssue 0 0 ∧ (((s.fetched 0 0).cx 0 0).getM 0).toNat ≠ 0) ∧
      (let v := (run.fetched 0 0).cx 0 0
       (v.getP 3).toNat % 2 = 0 ∧ (v.getP 3).toNat < 0x40000 ∧ (run.fetched 0 0).diff (chkSram 0 ((v.getP 3).toNat / 4)) = 0 ∧
         v.modify 3 = some 0 ∧ v.modify (4 + 3) = some 0 ∧
         product (v.mode.toNat % 4) (v.mode.getLsbD 2) ((v.getW 0).truncate 16) ((v.getW 0).truncate 16) = (0, false)) :=
  ⟨run_mayIssue, by decide, ⟨by unfold State.mayIssue; decide, by decide⟩, by decide⟩
/-- Context 0 of `run` with 1 in w1. -/
def one : State := withCtx run { CtxSt.init with w := [(1, 1)] }
theorem one_mayIssue : one.mayIssue 0 0 := by unfold State.mayIssue; decide
theorem witness_BranchesJumpsAndLoops :
    one.mayIssue 0 0 ∧ ((one.fetched 0 0).cx 0 0).getW 1 = 1 ∧ ((one.fetched 0 0).cx 0 0).getW 0 ≠ 1 ∧
      (((one.fetched 0 0).cx 0 0).getW 0).toNat % 4 = 0 ∧ ((one.fetched 0 0).cx 0 0).loop = none ∧ ((one.fetched 0 0).cx 0 0).getW 0 = 0 ∧
      (Instr.blt 0 0 0 1 0x1FFF, fun x y : BitVec 32 => x.toInt < y.toInt) ∈ branchRows 0 0 0 1 0x1FFF :=
  ⟨one_mayIssue, by decide, by decide, by decide, by decide, by decide, .tail _ (.tail _ (List.Mem.head _))⟩
theorem witness_SpecialRegisterMoves : run.mayIssue 0 0 ∧ (7 : Nat) < 8 := ⟨run_mayIssue, by decide⟩
theorem witness_IssueAndAddressFaults :
    (decodeEngine 0 0 0x04640000).isSome = true ∧ up.canIssue 0 0 = false ∧
      (let s := withCtx run { CtxSt.init with pendVa := some 0xFFFFFFFFFFFF }
       s.canIssue 0 0 = true ∧ (s.dbg 0).deferred = none ∧ (s.cx 0 0).pendVa = some 0xFFFFFFFFFFFF ∧ 0xFFFFFFFFFFFF < 2 ^ 48) ∧
      (let s := run.wr (ctxA 0 0) R.CTX_PC.PC 0x10000
       s.canIssue 0 0 = true ∧ (s.dbg 0).deferred = none ∧ (s.cx 0 0).pendVa = none ∧ 0x40000 ≤ s.pcOf 0 0 ∧ s.pcOf 0 0 < 2 ^ 32) ∧
      (let s := run.setDiff (chkSram 0 0) 3
       s.canIssue 0 0 = true ∧ (s.dbg 0).deferred = none ∧ (s.cx 0 0).pendVa = none ∧ s.pcOf 0 0 < 0x40000 ∧ (s.fetchCheck 0 0).1 = true) ∧
      ((Instr.ldw 0 0 1 0 0x102, 4, false, 0x102) ∈ loadRows ((run.fetched 0 0).cx 0 0) 0 0 1 0 0 0x102 0 ∧ 0x102 % 4 ≠ 0) ∧
      (let s := withCtx run { CtxSt.init with w := [(1, 0x40000), (2, 0x3FFFE)] }
       s.mayIssue 0 0 ∧ 0x40000 ≤ (((s.fetched 0 0).cx 0 0).getW 1).toNat ∧ (((s.fetched 0 0).cx 0 0).getW 2).toNat < 0x40000 ∧
         (((s.fetched 0 0).cx 0 0).getW 2).toNat % 4 ≠ 0) ∧
      (run.fetched 0 0).level < 2 ∧ run.mayIssue 0 0 :=
  ⟨by decide, by decide, by decide, by decide, by decide, by decide, ⟨by unfold State.mayIssue; decide, by decide, by decide, by decide⟩, by decide,
    run_mayIssue⟩
theorem witness_EngineWaits :
    (let s := withCtx run { CtxSt.init with w := [(1, 1)], epend := 1, posted := [⟨0, 0, 4, 0⟩] }
     s.mayIssue 0 0 ∧ ((s.fetched 0 0).cx 0 0).epend &&& ((s.fetched 0 0).cx 0 0).getW 1 ≠ 0 ∧
       ((s.fetched 0 0).cx 0 0).epend &&& ((s.fetched 0 0).cx 0 0).getW 0 = 0 ∧ ((s.fetched 0 0).cx 0 0).posted ≠ []) ∧
      (run.mayIssue 0 0 ∧ ((run.fetched 0 0).cx 0 0).posted = [] ∧ (run.fetched 0 0).ctxState 0 0 = 3) ∧
      (let s := (waitingIn (.fsync 1 0)).modBay 0 fun v => { v with boundaries := 1 }
       s.engineOn 0 = true ∧ s.ctxState 0 0 = 4 ∧ s.running 0 = none ∧ (s.cx 0 0).wait = .fsync 1 0 ∧ (s.bay 0).boundaries ≠ 0) ∧
      (let s := waitingIn (.wfe 1 1 7)
       s.engineOn 0 = true ∧ s.ctxState 0 0 = 4 ∧ (∀ r, s.running 0 = some r → s.prio 0 r ≤ s.prio 0 0) ∧ (s.cx 0 0).wait = .wfe 1 1 7 ∧
         (s.cx 0 0).epend &&& 1 = 0 ∧ 7 ≠ 0) ∧
      (let s := withCtx (waitingIn .none) { CtxSt.init with wait := .wfe 1 1 7, epend := 1 }
       s.engineOn 0 = true ∧ s.ctxState 0 0 = 4 ∧ s.running 0 = none ∧ (s.cx 0 0).wait = .wfe 1 1 7 ∧ (s.cx 0 0).epend &&& 1 ≠ 0) :=
  ⟨⟨by unfold State.mayIssue; decide, by decide, by decide, by decide⟩, ⟨run_mayIssue, by decide, by decide⟩, by decide,
    ⟨by decide, by decide, noneAll (by decide) _, by decide, by decide, by decide⟩, by decide⟩

theorem witness_ContextsAndScheduler :
    (let s := put up [(bayA 0, R.BAY_STATE.STATE, 0), (ctxA 0 31, R.CTX_STATE.STATE, 1), (ctxA 0 31, R.CTX_CFG.EN, 1), (ctxA 0 30, R.CTX_STATE.STATE, 5)]
     s.bayTakes 0 = true ∧ (s.dbg 0).deferred = none ∧ (∀ r, s.running 0 = some r → s.prio 0 r ≤ s.prio 0 31) ∧ s.ctxState 0 31 = 1 ∧
       s.bit (ctxA 0 31) R.CTX_CFG.EN = true ∧ s.ctxState 0 30 = 5 ∧ s.ctxState 0 0 = 2 ∧ s.ctxState 0 1 = 0 ∧ s.bit (ctxA 0 1) R.CTX_CFG.EN = false ∧
       (0x7FFFFFFF : BitVec 32).toNat < 2 ^ 31 ∧ 2 ^ 31 ≤ (0x80000000 : BitVec 32).toNat) ∧
      (let s := put up [(bayA 0, R.BAY_STATE.STATE, 0)]
       s.engineOn 0 = true ∧ s.halted 0 = false ∧ s.running 0 = none ∧ (∀ c, c < 32 → s.prio 0 c < 4) ∧ s.ctxState 0 0 = 2) ∧
      (let s := put up [(bayA 0, R.BAY_STATE.STATE, 0), (ctxA 0 0, R.CTX_STATE.STATE, 0)]
       s.engineOn 0 = true ∧ s.halted 0 = false ∧ s.running 0 = none ∧ ∀ c, c < 32 → s.ctxState 0 c ≠ 2) ∧
      (let s := put run [(schedA 0, R.SCHED_CFG.QUANTUM, 1), (ctxA 0 31, R.CTX_STATE.STATE, 2)]
       s.running 0 = some 0 ∧ s.rd (schedA 0) R.SCHED_CFG.QUANTUM ≠ 0 ∧ (s.cx 0 0).pendVa = none ∧ (s.dbg 0).deferred = none ∧ s.engineOn 0 = true ∧
         s.halted 0 = false ∧ s.ctxState 0 31 = 2 ∧ s.prio 0 31 = s.prio 0 0) ∧
      (let s := put run [(schedA 0, R.SCHED_CFG.QUANTUM, 1), (ctxA 0 31, R.CTX_STATE.STATE, 2), (ctxA 0 31, R.CTX_CFG.PRIO, 1)]
       s.running 0 = some 0 ∧ ∀ c, c < 32 → s.ctxState 0 c = 2 → s.prio 0 c ≠ s.prio 0 0) :=
  ⟨⟨by decide, by decide, noneAll (by decide) _, by decide, by decide, by decide, by decide, by decide, by decide, by decide, by decide⟩, by decide,
    by decide, by decide, by decide⟩
/-- The debug level is 2. -/
def deb (s : State) : State := s.wr (dbgA 0) R.DBG_LEVEL.LEVEL 2
theorem witness_DebugHaltsAndAccess :
    ((deb up).bayOk 127 = true ∧ 2 ≤ (deb run).level ∧ (deb run).engineOn 0 = true ∧ (deb run).halted 0 = false ∧
        (∀ r, (deb run).running 0 = some r → ((deb run).cx 0 r).resv = none) ∧ ((deb run).dbg 0).deferred = none ∧ up.level < 2) ∧
      (let s := run.modDbg 0 fun v => { v with deferred := some 7 }
       (s.dbg 0).deferred = some 7 ∧ s.engineOn 0 = true) ∧
      (let s := put (deb up) [(dbgEngA 0, R.DBG_ENG_STAT.HALTED, 1), (dbgEngA 0, R.DBG_CTXSEL.CTX, 31), (dbgEngA 0, R.DBG_CTXSEL.REG, 31)]
       s.bayOk 0 = true ∧ s.halted 0 = true ∧ s.rd (dbgEngA 0) R.DBG_CTXSEL.CTX = 31 ∧ s.rd (dbgEngA 0) R.DBG_CTXSEL.REG = 31 ∧ 2 ≤ s.level ∧
         (s.dbg 0).stepping = false ∧ (∀ k, k < 32 → s.ctxState 0 k = 6 → (s.cx 0 k).prev ≠ 2 ∧ (s.cx 0 k).prev ≠ 3)) ∧
      (let s := put (deb up) [(dbgEngA 0, R.DBG_ENG_STAT.HALTED, 1), (dbgEngA 0, R.DBG_CTXSEL.REG, 0x20)]
       s.halted 0 = true ∧ s.rd (dbgEngA 0) R.DBG_CTXSEL.REG = 0x20 ∧ 2 ≤ s.level) :=
  ⟨⟨by decide, by decide, by decide, by decide, (by intro r h; rw [show (deb run).running 0 = some 0 by decide] at h; cases h; decide),
    by decide, by decide⟩, by decide, by decide, by decide⟩
theorem witness_UnlockAndJtag :
    up.bit (dbgA 0) R.DBG_STAT.UBUSY = false ∧ up.bit (dbgA 0) R.DBG_STAT.LOCKOUT = false ∧
      (let s := { up with fuses := { up.fuses with dbgCeil := 2 } }
       s.dbgCeil ≠ 0) ∧
      (let s := put { up with fuses := { up.fuses with dbgCeil := 2 } } [(dbgA 0, R.DBG_STAT.UBUSY, 1), (dbgA 0, R.DBG_UNLOCK.LEVEL, 2), (dbgA 0, R.DBG_STAT.FAILS, 15)]
       s.bit (dbgA 0) R.DBG_STAT.UBUSY = true ∧ s.rd (dbgA 0) R.DBG_UNLOCK.LEVEL = 2 ∧ 2 ≤ s.dbgCeil ∧ s.bit (dbgA 0) R.DBG_STAT.LOCKOUT = false ∧
         15 ≤ s.rd (dbgA 0) R.DBG_STAT.FAILS) ∧
      up.rd (cfgA 0) R.CFG_STAT.STATE = 0 ∧
      (let s := up.wr (cfgA 0) R.CFG_STAT.STATE 5
       s.level < 2 ∧ s.rd (cfgA 0) R.CFG_STAT.STATE ≠ 0 ∧ s.rd (cfgA 0) R.CFG_STAT.STATE ≠ 8) := by decide
theorem witness_DebugBusMasterGo :
    (up.wr (dbgA 0) (dbmF 1 R.DBM_STAT.BUSY) 1).dbm 1 R.DBM_STAT.BUSY = 1 ∧
      (up.dbm 1 R.DBM_STAT.BUSY ≠ 1 ∧ up.level < (if up.dbm 1 R.DBM_CTRL.WR = 1 then 2 else 1)) ∧
      (let s := put (deb up) [(dbgA 0, dbmF 1 R.DBM_ADDR_LO.PA, 2)]
       s.dbm 1 R.DBM_STAT.BUSY ≠ 1 ∧ (if s.dbm 1 R.DBM_CTRL.WR = 1 then 2 else 1) ≤ s.level ∧
         accessAllowed (s.dbmAddr 1) (2 ^ s.dbm 1 R.DBM_CTRL.SIZE) = false) ∧
      (let s := put (deb up) [(dbgA 0, dbmF 0 R.DBM_CTRL.SIZE, 2), (dbgA 0, dbmF 0 R.DBM_CTRL.WR, 1), (dbgA 0, dbmF 0 R.DBM_ADDR_HI.PA, 0xC0)]
       s.dbm 0 R.DBM_STAT.BUSY ≠ 1 ∧ (if s.dbm 0 R.DBM_CTRL.WR = 1 then 2 else 1) ≤ s.level ∧
         accessAllowed (s.dbmAddr 0) (2 ^ s.dbm 0 R.DBM_CTRL.SIZE) = true) := by decide
/-- A trace packet. -/
def pkt : TrcPkt := ⟨0, 0, false, 2, 0, 0, 255, 7⟩
theorem witness_StimulusAndTraceSink :
    (run.mayIssue 0 0 ∧ ((run.fetched 0 0).rd (dbgEngA 0) (R.STIM_EN.EN.shift (4 * (255 / 32)))).testBit (255 % 32) = false) ∧
      (let s := put run [(dbgEngA 0, R.STIM_EN.EN.shift 28, 0x80000000), (trcA 0, R.TRC_CFG.EN, 1)]
       s.mayIssue 0 0 ∧ ((s.fetched 0 0).rd (dbgEngA 0) (R.STIM_EN.EN.shift (4 * (255 / 32)))).testBit (255 % 32) = true ∧
         (s.fetched 0 0).bit (trcA (0 / 32)) R.TRC_CFG.EN = true ∧ ((s.fetched 0 0).dbg 0).stage.length < 8) ∧
      (let s := (put run [(dbgEngA 0, R.STIM_EN.EN.shift 28, 0x80000000), (trcA 0, R.TRC_CFG.EN, 1)]).modDbg 0 fun v => { v with stage := List.replicate 8 pkt }
       s.mayIssue 0 0 ∧ 8 ≤ ((s.fetched 0 0).dbg 0).stage.length) ∧
      (let s := (put up [(trcA 0, R.TRC_CFG.EN, 1)]).modDbg 31 fun v => { v with stage := [pkt] }
       s.bayOk 31 = true ∧ s.bit (trcA (31 / 32)) R.TRC_CFG.EN = true ∧ s.rd (trcA (31 / 32)) R.TRC_CFG.RING = 0 ∧ (s.dbg 31).stage = pkt :: [] ∧
         (s.sink (31 / 32)).fifo.length < 64) ∧
      64 ≤ (({ up with sinks := [(0, ⟨List.replicate 64 pkt, false⟩)] } : State).sink 0).fifo.length ∧
      (up.quadLive 3 = true ∧ 1 ≤ (deb up).level ∧ up.level < 1) :=
  ⟨⟨run_mayIssue, by decide⟩, ⟨by unfold State.mayIssue; decide, by decide, by decide, by decide⟩, ⟨by unfold State.mayIssue; decide, by decide⟩,
    by decide, by decide, by decide⟩
theorem witness_CrossTriggers :
    (up.level < 2 ∧ 2 ≤ (deb up).level ∧ (deb up).xt 7 R.XT_CFG.EN ≠ 1 ∧ (deb up).xtMembers 7 = [] ∧ (deb up).xt 7 R.XT_CFG.STOP = 0) ∧
      (let s := (deb up).wr (xtA 0) (R.XT_CFG.EN.shift 56) 1
       s.xt 7 R.XT_CFG.EN = 1 ∧ s.xtMembers 7 = [] ∧ s.xt 7 R.XT_CFG.CAPTURE = 0 ∧ s.xt 7 R.XT_CFG.STOP = 0) ∧
      (let s := put (deb up) [(bayA 0, R.BAY_STATE.STATE, 0), (xtA 0, R.XT_CFG.EN.shift 56, 1), (dbgEngA 0, R.DBG_ENG_CTRL.XT_OUT, 0x80)]
       2 ≤ s.level ∧ s.xt 7 R.XT_CFG.EN = 1 ∧ s.xt 7 R.XT_CFG.CAPTURE = 0 ∧ s.xt 7 R.XT_CFG.STOP = 0 ∧ s.xtMembers 7 = [0] ∧ s.engineOn 0 = true ∧
         s.halted 0 = false ∧ s.running 0 = none) := by decide
theorem witness_PinSettingsAndStuckTimers :
    up127.bayTakes 127 = true ∧
      (let s := (put up [(bayA 0, R.BAY_STATE.STATE, 0), (pinA 0 9, R.PIN_STK.TO, 1)]).modBay 0 fun v => v
       let s := s.setPin 0 9 { s.pin 0 9 with stuckOn := true, stuckMask := false }
       s.bayTakes 0 = true ∧ s.capturing 0 = true ∧ (s.pin 0 9).stuckOn = true ∧ (s.pin 0 9).stuckMask = false ∧ s.rd (pinA 0 9) R.PIN_STK.TO ≠ 0) := by decide

/-- Bay 0 runs with the comparators of pin 9 on; `hi` says what waits and runs on both outputs. -/
def pinOn (pend : Option Cross) (dead : Option Bool) : State :=
  let s := put up [(bayA 0, R.BAY_STATE.STATE, 0), (ioBankA 0, R.IO_BANKSTAT.VCCIO_OK, 1), (pinA 0 9, R.PIN_MODE.MODE, 1)]
  s.setPin 0 9 { s.pin 0 9 with pendHi := pend, pendLo := pend, deadHi := dead, deadLo := dead }
theorem witness_ComparatorsAndDeglitching :
    ((pinOn none none).compOn 0 9 = true ∧ ((pinOn none none).pin 0 9).rawHi ≠ true ∧ ((pinOn none none).pin 0 9).pendHi = none) ∧
      ((pinOn (some ⟨true, 0, false, 1, 0⟩) none).compOn 0 9 = true ∧ ((pinOn (some ⟨true, 0, false, 1, 0⟩) none).pin 0 9).rawLo ≠ true ∧
        ((pinOn (some ⟨true, 0, false, 1, 0⟩) none).pin 0 9).pendLo = some ⟨true, 0, false, 1, 0⟩ ∧
        ((pinOn (some ⟨true, 0, false, 1, 0⟩) none).pin 0 9).deadLo = none) ∧
      ((pinOn (some ⟨true, 0, false, 1, 0⟩) (some true)).compOn 0 9 = true ∧
        ((pinOn (some ⟨true, 0, false, 1, 0⟩) (some true)).pin 0 9).deadLo = some true ∧
        (pinOn (some ⟨true, 0, false, 1, 0⟩) (some true)).zoneLo 0 9 ≠ true ∧
        (pinOn (some ⟨true, 0, false, 1, 0⟩) (some false)).zoneLo 0 9 = false) := by decide
/-- A record and a block wait for their rings, of 16 records and 8 blocks, in bay 0. -/
def staged (rd : Nat) : State :=
  (put run [(bayA 0, R.CAP_RING.LEN, 4), (bayA 0, R.ADC_RING.LEN, 3), (bayA 0, R.CAP_WR.WR, 15), (bayA 0, R.ADC_WR.WR, 7), (bayA 0, R.CAP_RD.RD, rd),
    (bayA 0, R.ADC_RD.RD, rd), (bayA 0, R.ADC_CFG.EN, 1)]).modBay 0 fun v =>
      { v with stage := [⟨0, 0, 0, 0, 0, 0, false, false, 0, 0, 0⟩], adcStage := [⟨0, false, false, false, 0, 4, []⟩], sramOpen := true }
theorem witness_CaptureAndAdcRings :
    (∃ r, ((staged 1).bay 0).stage = r :: []) ∧ (∃ r, ((staged 1).bay 0).adcStage = r :: []) ∧ (staged 1).capLen 0 = 16 ∧ (staged 1).adcLen 0 = 8 ∧
      (15 + 1) % 16 ≠ (staged 1).rd (bayA 0) R.CAP_RD.RD ∧ (7 + 1) % 8 ≠ (staged 1).rd (bayA 0) R.ADC_RD.RD ∧ ((staged 1).bay 0).sramOpen = true ∧
      (15 + 1) % 16 = (staged 0).rd (bayA 0) R.CAP_RD.RD ∧ (7 + 1) % 8 = (staged 0).rd (bayA 0) R.ADC_RD.RD ∧
      ((staged 0).capturing 0 = true ∧ (staged 0).adcOk = true ∧ (staged 0).bit (bayA 0) R.ADC_CFG.EN = true) ∧ up.bit (bayA 0) R.ADC_CFG.EN = false :=
  ⟨⟨_, rfl⟩, ⟨_, rfl⟩, by decide, by decide, by decide, by decide, by decide, by decide, by decide, by decide, by decide⟩
theorem witness_BayStatesAndWatchdog :
    (up.bayOk 127 = true ∧ up.bayState 127 = 2) ∧ (up.power.stepsDone = true ∧ up.qReset (127 / 32) = false) ∧
      (let s := put up [(bayA 127, R.BAY_STATE.STATE, 1)]
       s.bayState 127 = 1) ∧
      (let s := put up [(bayA 127, R.BAY_STATE.STATE, 3)]
       s.bayState 127 = 3 ∧ 2 ≤ s.bayState 127 ∧ s.bayState 127 ≠ 1) ∧
      (let s := put up [(bayA 127, R.BAY_STATE.STATE, 0), (bayA 127, R.WDOG_CFG.EN, 1), (bayA 127, R.WDOG_CFG.ACTION, 2)]
       s.bayState 127 = 0 ∧ s.wdogCounts 127 = true ∧ 2 ≤ s.rd (bayA 127) R.WDOG_CFG.ACTION) ∧
      (put up [(bayA 0, R.WDOG_CFG.ACTION, 1)]).rd (bayA 0) R.WDOG_CFG.ACTION = 1 ∧ up.rd (bayA 0) R.WDOG_CFG.ACTION = 0 ∧ up.wdogCounts 0 = false := by decide
theorem witness_BayBoundariesAndSupplies :
    (let s := { run with notice := some (0, 0xFFFFFFFF) }
     s.noticeQ (0 / 32) = some (0, 0xFFFFFFFF) ∧ s.bayOk 0 = true ∧ s.bayState 0 < 2 ∧ (∀ e, e ∈ s.shadow → e.bay = some 0 → e.frame ≠ 0xFFFFFFFF) ∧
       s.halted 0 = false ∧ s.bit (bayA 0) R.PIN_NEXT.ARMED = false ∧ (s.wr (bayA 0) R.PIN_NEXT.ARMED 1).bit (bayA 0) R.PIN_NEXT.ARMED = true ∧
       (s.wr (dbgEngA 0) R.DBG_ENG_STAT.HALTED 1).halted 0 = true) ∧
      (up.quadLive (bankOf 39).1 = true ∧ up.quadLive (bankOf 31).1 = true) ∧
      (let s := put up [(bayA 127, R.BAY_STATE.STATE, 0), (pinA 127 9, R.PIN_MODE.MODE, 1)]
       s.capturing (31 * 4 + 3) = true ∧ s.rd (pinA (31 * 4 + 3) 9) R.PIN_MODE.MODE ≠ 0) := by decide
/-- Queue 63 of bay 0 is enabled with eight entries (LOG 3), from `prod` to `cons`; w1 names it, w2 a descriptor. -/
def queueUp (prod cons head tail : Nat) : State :=
  withCtx (put runOpen [(queueA 0 63, R.Q_CFG.EN, 1), (queueA 0 63, R.Q_CFG.PROD, prod), (queueA 0 63, R.Q_CFG.CONS, cons), (queueA 0 63, R.Q_CFG.LEN, 3),
    (queueA 0 63, R.Q_BASE_HI.BASE, 0xC0), (queueA 0 63, R.Q_HEAD.HEAD, head), (queueA 0 63, R.Q_TAIL.TAIL, tail)])
    { CtxSt.init with w := [(1, 63), (2, 0x3FFE0)] }
theorem witness_QueuesPushAndPop :
    (up127.bayTakes 127 = true ∧ up127.qOn 127 63 = false ∧ 2 ^ 31 ≤ (0x801F0000 : BitVec 32).toNat ∧
        ringPlaced 127 ((up127.wr (queueA 127 63) R.Q_BASE_HI.BASE 0xC0).qBase 127 63) (32 * 2 ^ min (bits (0x801F0000 : BitVec 32).toNat 20 16) 16) = false) ∧
      (let s := put up127 [(queueA 127 63, R.Q_BASE_HI.BASE, 0xC0), (queueA 127 63, R.Q_BASE_LO.BASE, winA 127 % 2 ^ 32 / 2 ^ R.Q_BASE_LO.BASE.lo)]
       s.bayTakes 127 = true ∧ ringPlaced 127 (s.qBase 127 63) (32 * 2 ^ min (bits (0x80030000 : BitVec 32).toNat 20 16) 16) = true) ∧
      ((queueUp 0 0 0 8).bayTakes 0 = true ∧ (queueUp 0 0 0 8).qOn 0 63 = true ∧ (queueUp 0 0 0 8).qf 0 63 R.Q_CFG.PROD = 0 ∧
        (queueUp 0 0 0 8).qf 0 63 R.Q_CFG.CONS = 0 ∧ (queueUp 0 0 0 8).qLog 0 63 = 3 ∧
        (8 < 16 ∧ (8 + 16 - (queueUp 0 0 0 8).qf 0 63 R.Q_HEAD.HEAD % 16) % 16 ≤ 2 ^ 3) ∧
        2 ^ 3 < (9 + 16 - (queueUp 0 0 0 8).qf 0 63 R.Q_HEAD.HEAD % 16) % 16 ∧
        (8 + 16 - (queueUp 0 0 0 8).qf 0 63 R.Q_HEAD.HEAD % 16) % 16 ≤ (queueUp 0 0 0 8).qCount 0 63 ∧
        (queueUp 0 0 0 8).qCount 0 63 < (9 + 16 - (queueUp 0 0 0 8).qf 0 63 R.Q_HEAD.HEAD % 16) % 16) ∧
      ((queueUp 1 1 0 8).mayIssue 0 0 ∧ ((((queueUp 1 1 0 8).fetched 0 0).cx 0 0).getW 1).toNat % 64 = 63 ∧
        ((((queueUp 1 1 0 8).fetched 0 0).cx 0 0).getW 2).toNat = 0x3FFE0 ∧ 0x3FFE0 % 32 = 0 ∧ ((queueUp 1 1 0 8).fetched 0 0).qFull 0 63 = true ∧
        ((queueUp 1 1 0 8).fetched 0 0).qEmpty 0 63 = false ∧ ((queueUp 1 1 0 8).fetched 0 0).qLocal 0 63 = true ∧
        ((queueUp 1 1 0 8).fetched 0 0).qSlot 0 63 0 < winA 0 + 0x40000 ∧
        (((queueUp 1 1 0 8).fetched 0 0).sramRead 0 (((queueUp 1 1 0 8).fetched 0 0).qSlot 0 63 0 - winA 0) 32).2.1 = false) ∧
      ((queueUp 1 1 15 15).mayIssue 0 0 ∧ ((queueUp 1 1 15 15).fetched 0 0).qEmpty 0 63 = true ∧ ((queueUp 1 1 15 15).fetched 0 0).qFull 0 63 = false ∧
        (((queueUp 1 1 15 15).fetched 0 0).bay 0).sramOpen = true ∧ (((queueUp 1 1 15 15).fetched 0 0).sramRead 0 0x3FFE0 32).2.1 = false) :=
  ⟨by decide, by decide, by decide, ⟨by unfold State.mayIssue; decide, by decide⟩, ⟨by unfold State.mayIssue; decide, by decide⟩⟩

/-- Context 0 of bay 0 of `s` waits for `w`, with its own state `v`. -/
def waitSt (v : CtxSt) : State := withCtx (put up [(bayA 0, R.BAY_STATE.STATE, 0), (bayA 1, R.BAY_STATE.STATE, 0), (ctxA 0 0, R.CTX_STATE.STATE, 4)]) v
theorem witness_QueueAndTranslatedWaitsEnd :
    (let s := waitSt { CtxSt.init with wait := .qpush 63 1 0 true }
     s.engineOn 0 = true ∧ s.ctxState 0 0 = 4 ∧ s.running 0 = none ∧ (s.cx 0 0).wait = .qpush 63 1 0 true ∧ s.qOn 0 63 = false ∧
       s.firstWaiter 0 0 63 (decide ((s.cx 0 0).wait = .qpush 63 1 0 true)) = true) ∧
      (let s := waitSt { CtxSt.init with vhi := 0xC0, w := [(2, 0x01000000)], wait := .load (.ldw 0 0 1 2 0) }
       s.ctxState 0 0 = 4 ∧ s.running 0 = none ∧ (s.cx 0 0).wait = .load (.ldw 0 0 1 2 0) ∧ (s.cx 0 0).posted = [] ∧
         ∃ vs s', State.doLoads 0 0 (some (State.extLoad 0 0 netOk)) ((s.cx 0 0).loadPlan (.ldw 0 0 1 2 0)) s = (.done vs, s') ∧
           s'.ctxState 0 0 = 4 ∧ s'.running 0 = none) ∧
      (let s := waitSt { CtxSt.init with vhi := 0xC0, w := [(2, 0x01000000)], wait := .store (.stw 0 0 1 2 0) }
       ∃ a pa s', (s.cx 0 0).wait = .store (.stw 0 0 1 2 0) ∧ (s.cx 0 0).storePlan (.stw 0 0 1 2 0) = some a ∧ netOk.status = 0 ∧
         s.translate (0 / 32) (s.ctxT 0 0) ((s.cx 0 0).va a.ea) true = (0, pa, s') ∧ s'.ctxState 0 0 = 4 ∧ s'.running 0 = none) ∧
      (let s := waitSt { CtxSt.init with wait := .fence }
       (s.cx 0 0).wait = .fence ∧ (s.cx 0 0).posted = []) ∧
      (let s := waitSt { CtxSt.init with posted := [⟨0, 0, 4, 0⟩] }
       (s.cx 0 0).posted = ⟨0, 0, 4, 0⟩ :: [] ∧ s.ctxState 0 0 = 4 ∧ (s.dbg 0).deferred = none) ∧
      (let s := withCtx run { CtxSt.init with posted := [⟨0, 0, 4, 0⟩] }
       s.engineOn 0 = true ∧ s.ctxState 0 0 = 3 ∧ (s.cx 0 0).pendVa = none) ∧
      (put up [(bayA 0, R.BAY_STATE.STATE, 0), (ctxA 0 0, R.CTX_STATE.STATE, 5)]).ctxState 0 0 = 5 ∧
      (let s := put up [(bayA 0, R.BAY_STATE.STATE, 0), (ctxA 0 31, R.CTX_STATE.STATE, 7)]
       s.engineOn 0 = true ∧ s.ctxState 0 31 = 7 ∧ (s.cx 0 31).posted = []) := by
  refine ⟨by decide, ⟨by decide, by decide, by decide, by decide, _, _, Prod.ext rfl rfl, by decide, by decide⟩, ?_, by decide, by decide, by decide,
    by decide, by decide⟩
  exact ⟨_, _, _, by decide, rfl, rfl, Prod.ext (by decide) (Prod.ext rfl rfl), by decide, by decide⟩

/-- Mover 3 of bay 0 works from queue 62 to queue 63, in the state `st`, with a descriptor that fills 16 bytes at `dst` in it. -/
def moving (st : Nat) (dst : Nat) (cpl : Option Compl) : State :=
  { put runOpen [(queueA 0 62, R.Q_CFG.EN, 1), (queueA 0 62, R.Q_CFG.CONS, 2), (queueA 0 62, R.Q_CFG.LEN, 3), (queueA 0 62, R.Q_BASE_HI.BASE, 0xC0),
      (queueA 0 62, R.Q_TAIL.TAIL, 1), (queueA 0 63, R.Q_CFG.EN, 1), (queueA 0 63, R.Q_CFG.PROD, 2), (queueA 0 63, R.Q_CFG.LEN, 3),
      (queueA 0 63, R.Q_BASE_HI.BASE, 0xC0), (mvA 0 3, R.MV_CFG.EN, 1), (mvA 0 3, R.MV_CFG.CMDQ, 62), (mvA 0 3, R.MV_CFG.CPLQ, 63),
      (mvA 0 3, R.MV_STATE.STATE, st)] with movers := [(3, ⟨if st = 0 then none else some ⟨0, dst, 16, 7, true, false, false, 0xFF⟩, cpl⟩)] }
theorem witness_MoverCommands :
    (up127.bayTakes 127 = true) ∧
      (let s := moving 0 0 none
       s.bayTakes 0 = true ∧ s.rd (mvA 0 3) R.MV_CFG.CMDQ = 62 ∧ s.engineOn 0 = true ∧ s.halted 0 = false ∧ s.mvState 0 3 = 0 ∧ s.mvTakes 0 3 62 = true ∧
         s.qEmpty 0 62 = false ∧ (s.oldest 0 62).1 = true ∧ descOk (s.oldest 0 62).2.1 = true) ∧
      (let s := moving 1 0xC000001000 none
       let d : Desc := ⟨0, 0xC000001000, 16, 7, true, false, false, 0xFF⟩
       let r := s.mvRun 0 (s.rd (mvA 0 3) R.MV_CFG.TCTX) d none netOk none (d.len / 64 + 2) (s.rd (mvA 0 3) R.MV_DONE.BYTES_DONE) 0
       s.mvActive 0 3 = true ∧ (s.mover (0 * 4 + 3)).desc = some d ∧ d.cpl = false ∧ (match r.1 with | .done => true | _ => false) = true ∧
         r.2.rd (mvA 0 3) R.MV_CFG.CMDQ < 64 ∧ r.2.rd (mvA 0 3) R.MV_CFG.CPLQ < 64) ∧
      (let s := moving 1 0xFFFFFFFFFFF0 none
       let d : Desc := ⟨0, 0xFFFFFFFFFFF0, 16, 7, true, false, false, 0xFF⟩
       let r := s.mvRun 0 (s.rd (mvA 0 3) R.MV_CFG.TCTX) d none netOk none (d.len / 64 + 2) (s.rd (mvA 0 3) R.MV_DONE.BYTES_DONE) 0
       s.mvActive 0 3 = true ∧ (s.mover (0 * 4 + 3)).desc = some d ∧ (match r.1 with | .fault .. => true | _ => false) = true) ∧
      (let s := moving 1 0 (some ⟨7, 0, 0, 16, 0, false⟩)
       let r := s.produce 0 63 (Compl.pack ⟨7, 0, 0, 16, 0, false⟩ (stampOf (s.nowQ (0 / 32))))
       (s.mover (0 * 4 + 3)).cpl = some ⟨7, 0, 0, 16, 0, false⟩ ∧ s.engineOn 0 = true ∧ s.rd (mvA 0 3) R.MV_CFG.CPLQ = 63 ∧ s.qOn 0 63 = true ∧
         s.qf 0 63 R.Q_CFG.PROD = 2 ∧ s.qFull 0 63 = false ∧ r.1 = true ∧ r.2.rd (mvA 0 3) R.MV_CFG.CMDQ < 64) ∧
      (let s := (moving 2 0 none).wr (queueA 0 63) R.Q_CFG.EN 0
       s.mvState 0 3 = 2 ∧ (s.mover (0 * 4 + 3)).cpl = none ∧ s.qOn 0 (s.rd (mvA 0 3) R.MV_CFG.CPLQ) = false) ∧
      ((moving 3 0 none).mvState 0 3 = 3 ∧ (moving 0 0 none).mvState 0 3 = 0) :=
  ⟨by decide, by decide, by decide +kernel, by decide, by decide +kernel, by decide, by decide⟩

/-- Channel 7 in the controller state `st`. -/
def mcIn (st : Nat) (v : McSt) : State := (up.wr (mcA 7) R.MC_STATE.STATE st).setMc 7 v
theorem witness_MemoryControllerStates :
    (up.chOk 7 = true ∧ up.mcState 7 = 0) ∧ bits (0xC000000 : BitVec 32).toNat 27 26 = 3 ∧
      ((mcIn 1 McSt.init).mcState 7 = 1 ∧ (mcIn 2 McSt.init).mcState 7 = 2 ∧ (mcIn 3 McSt.init).mcState 7 = 3 ∧ (mcIn 4 McSt.init).mcState 7 = 4 ∧
        (mcIn 5 McSt.init).mcState 7 = 5 ∧ (mcIn 6 McSt.init).mcState 7 = 6) ∧
      ((mcIn 3 { McSt.init with offlining := true }).mc 7).offlining = true ∧
      ((mcIn 1 McSt.init).wr (mcA 7) R.MC_CFG.DRAM_FILL_BEFORE_RELEASE 1).bit (mcA 7) R.MC_CFG.DRAM_FILL_BEFORE_RELEASE = true ∧
      ((mcIn 1 McSt.init).wr (mcA 7) R.MC_CFG.DRAM_FILL_BEFORE_RELEASE 0).bit (mcA 7) R.MC_CFG.DRAM_FILL_BEFORE_RELEASE = false := by decide
theorem witness_RefreshAndInterleaving :
    (up.chOk 7 = true ∧ (mcIn 3 { McSt.init with postponed := [(127, 3)] }).mcState 7 = 3 ∧
        Tab.get (fun _ => 0) ((mcIn 3 { McSt.init with postponed := [(127, 3)] }).mc 7).postponed 127 = 3) ∧
      (((mcIn 3 McSt.init).wr (mcA 7) R.MC_CFG.SR_IDLE 1).mcState 7 = 3 ∧ ((mcIn 3 McSt.init).wr (mcA 7) R.MC_CFG.SR_IDLE 1).rd (mcA 7) R.MC_CFG.SR_IDLE ≠ 0) ∧
      (mcIn 4 McSt.init).mcState 7 = 4 ∧ 3 ∈ up.mapCopies ∧ up.il 3 7 R.IL_CFG.EN ≠ 1 ∧
      (up.wr (mapA 3) (R.IL_CFG.EN.shift (0x10 * 7)) 1).il 3 7 R.IL_CFG.EN = 1 := by decide
/-- Channel 7 READY with its line under test defined and its test window on. -/
def tested : State := put (mcIn 3 { McSt.init with undef := false }) [(eccA 7, R.ECC_TEST_CTL.EN, 1), (eccA 7, R.SCRUB_CTL.EN, 1)]
theorem witness_ScrubbingAndTestWindows :
    (tested.chOk 7 = true ∧ tested.rd (eccA 7) R.SCRUB_POS.LINE = 0 ∧ tested.bit (eccA 7) R.SCRUB_CTL.EN = true ∧ (tested.mc 7).stopped = false ∧
        tested.mcState 7 = 3 ∧ 64 * (0 + 1) < tested.mcCap 7) ∧
      (let s := tested.wr (eccA 7) R.SCRUB_POS.LINE (tested.mcCap 7 / 64 - 1)
       s.rd (eccA 7) R.SCRUB_POS.LINE = tested.mcCap 7 / 64 - 1 ∧ s.mcCap 7 ≤ 64 * (tested.mcCap 7 / 64 - 1 + 1)) ∧
      ((tested.setMc 7 { McSt.init with stopped := true, rewritten := true }).mc 7).rewritten = true ∧
      (let s := (tested.setMc 7 { McSt.init with stopped := true }).wr (eccA 7) R.SCRUB_STAT.SCRUB_HALT 1
       (s.mc 7).stopped = true ∧ (s.mc 7).rewritten = false ∧ s.bit (eccA 7) R.SCRUB_STAT.SCRUB_HALT = true) ∧
      (tested.bit (eccA 7) R.ECC_TEST_CTL.EN = true ∧ tested.mcServes 7 = true ∧ tested.lineUndef 7 (tested.testLine 7) = false) ∧
      (let s := put up [(sgA 3, R.SG_TEST_CTL.EN, 1), (sgA 3, R.SG_TEST_TGT.KIND, 2)]
       s.quadLive 3 = true ∧ s.bit (sgA 3) R.SG_TEST_CTL.EN = true ∧ s.sgResult 3 = 0) ∧
      (let s := put up [(sgA 3, R.SG_TEST_CTL.EN, 1)]
       s.sgResult 3 ≠ 0) := by decide

/-- Island 0 with the configuration cells of an empty image, in the state `st`. -/
def islIn (st : Nat) : State := put { up with cells := [(0, some ⟨[], [], [], [], [], []⟩)] } [(islA 0, R.ISL_STATE.STATE, st), (clkA 0, R.FR_CFG0.LOCKED, 1)]
theorem witness_IslandStates :
    (up.islOk 383 = true ∧ up.islState 383 = 5) ∧ ((islIn 0).islState 0 = 0 ∧ (islIn 6).islState 0 = 6 ∧ (islIn 3).islState 0 = 3) ∧
      ((islIn 1).islState 0 = 1 ∧ (islIn 1).drained 0 = true ∧ (islIn 1).power.phase ≠ 1) ∧ ((islIn 2).islState 0 = 2 ∧ (islIn 0).islState 0 ≠ 5) ∧
      (let s := (islIn 4).wr (islA 0) R.ISL_BIST.RESULT 1
       s.islState 0 = 4 ∧ s.rd (islA 0) R.ISL_BIST.RESULT = 1) ∧
      ((islIn 1).cfgOf 0 = some ⟨[], [], [], [], [], []⟩ ∧ (islIn 1).islState 0 < 2 ∧
        (islIn 1).railLocked (0 / 96) ((islIn 1).rd (islA 0) R.ISL_CLKSTAT.RAIL_NOW) = true ∧ ((islIn 1).island 0).clk = false ∧
        ((islIn 1).island 0).clk ≠ true) := by decide
/-- Generator 575, a bay's, ramps at the divider `now` toward its rail `rail`. -/
def ramping (now rail div : Nat) : State :=
  put up [(genA 575, R.ISL_CLKSTAT.RAMPING, 1), (genA 575, R.ISL_CLKSTAT.DIV_NOW, now), (genA 575, R.ISL_CLK.RAIL, rail), (genA 575, R.ISL_CLK.DIV, div),
    (clkA 3, R.FR_CFG0.LOCKED.shift (4 * rail), 1), (genA 575, R.ISL_CLKSTAT.VBUSY, 1)]
theorem witness_IslandClocksAndBroadcasts :
    (up.genOk 575 = true ∧ up127.genOk 575 = true ∧ up127.bayTakes (575 - 448) = true ∧ (ramping 63 3 0).bit (genA 575) R.ISL_CLKSTAT.RAMPING = true ∧ (ramping 63 3 0).genStopped 575 = false ∧
        (ramping 63 3 0).railLocked (genQuad 575) ((ramping 63 3 0).rd (genA 575) R.ISL_CLK.RAIL) = true ∧
        (ramping 63 3 0).rd (genA 575) R.ISL_CLK.RAIL ≠ (ramping 63 3 0).rd (genA 575) R.ISL_CLKSTAT.RAIL_NOW ∧
        (ramping 63 3 0).rd (genA 575) R.ISL_CLKSTAT.DIV_NOW = 63) ∧
      ((ramping 62 0 63).rd (genA 575) R.ISL_CLKSTAT.DIV_NOW + 1 < (ramping 62 0 63).divTarget 575 ∧ (ramping 62 0 63).rd (genA 575) R.ISL_CLKSTAT.DIV_NOW < 63 ∧
        (ramping 62 0 63).railLocked (genQuad 575) ((ramping 62 0 63).rd (genA 575) R.ISL_CLK.RAIL) = true) ∧
      ((ramping 63 0 0).divTarget 575 < (ramping 63 0 0).rd (genA 575) R.ISL_CLKSTAT.DIV_NOW + 1 ∧
        (ramping 63 0 0).rd (genA 575) R.ISL_CLK.RAIL = (ramping 63 0 0).rd (genA 575) R.ISL_CLKSTAT.RAIL_NOW) ∧
      (ramping 63 0 0).bit (genA 575) R.ISL_CLKSTAT.VBUSY = true ∧ (up.treeReaches 0 = true ∧ up.quadOk 0 = true) := by decide
/-- Deep store 0 has a command word with the operation `op` at port 0, and write words. -/
def deepCmd (op : Nat) : State :=
  { up with deeps := [(0, { DeepSt.init with wrEn := true })], chans := [(up.deepChan 0 false 29, ⟨[(op * 2 ^ 34 + 131071 * 2 ^ 17, 2)], []⟩),
      (up.deepChan 0 false 30, ⟨[(0xF00000001, 2), (0xF00000002, 2), (0xF00000003, 2), (0xF00000004, 2)], []⟩)] }
theorem witness_DeepStoreCommands :
    ((deepCmd 0).quadLive (0 / 16) = true ∧ (deepCmd 0).awake (2000 + 0) = true) ∧
      (∃ w, ((deepCmd 0).chan ((deepCmd 0).deepChan 0 false 29)).words = w :: [] ∧ w.1 / 2 ^ 34 = 0 ∧ w.1 / 2 ^ 17 % 131072 = 131071) ∧
      (deepCmd 0).deepReady 0 false false 1 = true ∧
      (∃ w, ((deepCmd 2).chan ((deepCmd 2).deepChan 0 false 29)).words = w :: [] ∧ w.1 / 2 ^ 34 = 2) ∧ (deepCmd 2).deepReady 0 false false 4 = true ∧
      (∃ w, ((deepCmd 1).chan ((deepCmd 1).deepChan 0 false 29)).words = w :: [] ∧ w.1 / 2 ^ 34 = 1) ∧ (deepCmd 1).deepReady 0 false true 1 = true ∧
      (∃ w, ((deepCmd 3).chan ((deepCmd 3).deepChan 0 false 29)).words = w :: [] ∧ w.1 / 2 ^ 34 = 3) ∧ (deepCmd 3).deepReady 0 false true 4 = true ∧
      (∃ x, ((deepCmd 3).chan ((deepCmd 3).deepChan 0 false 30)).words[3]? = some x ∧ x.1 / 2 ^ 32 % 16 = 15) ∧ ((deepCmd 3).deep 0).wrEn = true ∧
      up.load.inits = [] :=
  ⟨by decide, ⟨_, rfl, by decide, by decide⟩, by decide, ⟨_, rfl, by decide⟩, by decide, ⟨_, rfl, by decide⟩, by decide, ⟨_, rfl, by decide⟩, by decide,
    ⟨_, rfl, by decide⟩, by decide, by decide⟩
/-- A request for bay 0's SRAM from router 65. -/
def rq (pa size : Nat) : Packet := ⟨65, 0, 0, 5, pa, size, false, false, 0⟩
/-- A response to it is on its way, and the request waits. -/
def answered : State := { run with flight := [⟨0, portOf 65 0, 5, false, 0, 7, 1⟩], outst := [⟨portOf 65 0, 5, false, 0, 4, .other⟩] }
theorem witness_NocRequestsAndResponses :
    (up.rtOk 143 = true ∧ (rq 0xC00003FFC0 6).size ≤ 6 ∧ (rq 0xC00003FFC0 6).pa % 2 ^ 48 % 64 = 0 ∧ up.target? (0xE000000000 % 2 ^ 48) = .hole) ∧
      (runOpen.target? 0xC00003FFC0 = .sram 0 0x3FFC0 ∧ runOpen.heldOn (runOpen.route 65 (routerNum (0 / 32) (0 % 32))) = none ∧
        runOpen.bayHeld 0xC00003FFC0 = false ∧ (runOpen.sramRead 0 0x3FFC0 64).2.1 = false ∧ (runOpen.bay 0).sramOpen = true ∧
        (2 ^ 64 - 1) / 2 ^ 0 % 2 ^ 64 = 2 ^ 64 - 1) ∧
      (answered.rtOk (portOf 65 0 / 4) = true ∧ (Instr.rdRsp (portOf 65 0) 5, false) ∈ [(Instr.rdRsp (portOf 65 0) 5, false), (.wrRsp (portOf 65 0) 5, true)] ∧
        answered.flight.find? (fun r => decide (r.port = portOf 65 0) && decide (r.tag = 5) && decide (r.write = false)) = some ⟨0, portOf 65 0, 5, false, 0, 7, 1⟩ ∧
        answered.heldOn (answered.route 0 (portOf 65 0 / 4)) = none ∧
        answered.outst.find? (fun o => decide (o.port = portOf 65 0) && decide (o.tag = 5)) = some ⟨portOf 65 0, 5, false, 0, 4, .other⟩) ∧
      ({ answered with outst := [] } : State).outst.find? (fun o => decide (o.port = portOf 65 0) && decide (o.tag = 5)) = none ∧
      (({ up with blocked := [⟨143, true, 5, 5, true⟩] } : State).blocked.find? (fun h => decide (h.router = 143)) = some ⟨143, true, 5, 5, true⟩) ∧
      (up.rtOk 143 = true ∧ up.heldOn (up.route 65 0) = none) ∧ (up.rtOk (575 / 4) = true ∧ 574 % 4 < 3) :=
  ⟨by decide, by decide, by decide, by decide, by decide, by decide, by decide⟩

theorem witness_RoutersProbesAndTranslation :
    (up.rtOk 14 = true ∧ up.fenceDenied 14 = false ∧ up.rtState 14 = 0) ∧ up.fenceDenied 65 = true ∧
      (up.wr (rtA 14) R.RT_STATE.STATE 1).rtState 14 = 1 ∧
      ((up.wr (rtA 14) R.RT_STATE.STATE 2).rtState 14 = 2 ∧
        bits (0xFC0 : BitVec 32).toNat 11 9 + bits (0xFC0 : BitVec 32).toNat 8 6 + bits (0xE00 : BitVec 32).toNat 5 3 + 0 + 4 ≤ 18 ∧
        bits (0xE28 : BitVec 32).toNat 11 9 + bits (0xE28 : BitVec 32).toNat 8 6 + bits (0xE28 : BitVec 32).toNat 5 3 + bits (0xE28 : BitVec 32).toNat 2 0 + 4 = 16) ∧
      (let s := { up with probes := [(31, ⟨[⟨0, 0, 0, false⟩], false, false⟩)] }
       s.quadLive 3 = true ∧ (s.probe (3 * 8 + 7)).stage = ⟨0, 0, 0, false⟩ :: [] ∧
         (s.rd (prbA 3 7) R.PRB_TWR.WR + 1) % 2 ^ (min 14 (s.rd (prbA 3 7) R.PRB_TRING_HI.LEN) + 8) =
           (s.wr (prbA 3 7) R.PRB_TRD.RD 1).rd (prbA 3 7) R.PRB_TRD.RD) ∧
      ((locate (tctxA 3 4095)).map (fun x => (x.1, x.2.2.1, x.2.2.2)) = some (3, 4095, 0) ∧
        (locate (tctxA 3 0)).map (fun x => (x.1, x.2.2.1, x.2.2.2)) = some (3, 0, 0) ∧ up.quadOk 3 = true ∧ up.quadLive 3 = true ∧ up.qReset 3 = false) ∧
      (up.quadLive 3 = true ∧ bits (0x80000FFF : BitVec 32).toNat 31 30 ≠ 3) ∧
      ({ up with invWait := [(12, 0, 0)] } : State).invWait = (12, 0, 0) :: [] := by decide
/-- The NAP of router 0 with the master enabled or not, and a request held. -/
def napUp (en hold : Nat) : State :=
  put { up with naps := [(0, ⟨if hold = 1 then [⟨false, 2, 5, 0xC000000000, 0, 0⟩] else [], [⟨63, 9, 5, false, 2, 0, 0, 0⟩], []⟩)] }
    [(rtA 0, R.NAP_CFG.MST_EN, en), (napA 0, R.NAP_FSTAT.HOLDING, hold), (napA 0, R.NAP_XCFG.HOLD, 1)]
theorem witness_NapsAndEvents :
    ((napUp 0 0).rtOk 0 = true ∧ (napUp 0 0).napBundle 0 = false ∧ (napUp 0 0).chanCfg (napIsland 0) 6 0 = none ∧ ((napUp 0 0).nap 0).inbound = [] ∧
        (napUp 0 0).bit (rtA 0) R.NAP_CFG.MST_EN = false) ∧
      ((napUp 1 0).bit (rtA 0) R.NAP_CFG.MST_EN = true ∧ (∀ o, o ∈ (napUp 1 0).outst → o.port ≠ portOf 0 0 ∨ o.tag ≠ 63 % 64) ∧ ((napUp 1 0).nap 0).held = [] ∧
        (napUp 1 0).napF 0 R.NAP_XCFG.TCTX = 0 ∧ (napUp 1 0).target? (0xC000000000 % 2 ^ 48) ≠ .hole ∧ (napUp 1 0).target? (0xC000000000 % 2 ^ 48) ≠ .absent) ∧
      ((napUp 1 0).nap 0).tgt.find? (fun x => decide (x.ttag = 63 % 64)) = some ⟨63, 9, 5, false, 2, 0, 0, 0⟩ ∧
      ((napUp 1 0).nap 0).tgt.find? (fun x => decide (x.ttag = 0 % 64)) = none ∧
      ((napUp 1 1).bit (napA 0) R.NAP_FSTAT.HOLDING = true ∧ (napUp 1 1).napF 0 R.NAP_XCFG.HOLD ≠ 0 ∧
        ((napUp 1 1).nap 0).held = [⟨false, 2, 5, 0xC000000000, 0, 0⟩] ∧ (napUp 1 1).outst = []) ∧
      (up.rtOk 65 = true ∧ (routerLocal 14).2 < 32) ∧ up.evtOk (32 * 31 + 0) = true ∧
      (let s := put { run with evts := [(1023, ⟨1, 0, none⟩)] } [(evtA 1023, R.EVT_CFG.ENG_EN, 1)]
       s.evtDue 1023 = true ∧ s.rd (evtA 1023) R.EVT_ENG.BAY = 0 ∧ s.bit (evtA 1023) R.EVT_CFG.ENG_EN = true ∧ s.bit (evtA 1023) R.EVT_CFG.HOST_EN = false ∧
         s.bayOk 0 = true ∧ s.bayState 0 < 2) := by decide
/-- Lane `l` with the mode `m`, awake and locked as `lock` says. -/
def laneUp (l m lock : Nat) (v : LaneSt) : State :=
  (put up [(lnA l, R.LN_CFG.MODE, m), (lnA l, R.LN_STAT.RX_ON, 1), (lnA l, R.LN_CTRL.TX_SLEEP, 0), (lnA l, R.LN_STAT.TX_ON, 1), (lnA l, R.LN_STAT.REF_OK, 1), (lnA l, R.LN_STAT.CDR_LOCK, lock),
    (lnA l, R.LN_STAT.BLOCK_LOCK, lock / 2), (lnA l, R.LN_STAT.CHK_LOCK, lock / 2)]).setLane l v
theorem witness_LanesAndBlocks :
    up.quadOk 3 = true ∧ up.laneOk 119 = true ∧ ((laneUp 119 3 0 LaneSt.init).lf 119 R.LN_CFG.MODE ≠ 0 ∧ (laneUp 119 3 0 LaneSt.init).txHeld 119 = false) ∧
      ((laneUp 119 3 0 LaneSt.init).lb 119 R.LN_STAT.REF_OK = true ∧ (laneUp 119 3 0 LaneSt.init).lb 119 R.LN_STAT.RX_ON = true ∧
        (laneUp 119 3 0 LaneSt.init).lb 119 R.LN_STAT.TX_ON = true ∧ (laneUp 119 3 0 LaneSt.init).lb 119 R.LN_STAT.CDR_LOCK = false) ∧
      ((laneUp 119 3 1 { LaneSt.init with hunt := 63 }).laneBlocks 119 = true ∧ (laneUp 119 3 1 { LaneSt.init with hunt := 63 }).lb 119 R.LN_STAT.CDR_LOCK = true ∧
        (laneUp 119 3 1 { LaneSt.init with hunt := 63 }).lb 119 R.LN_STAT.BLOCK_LOCK = false ∧
        ((laneUp 119 3 1 { LaneSt.init with hunt := 63 }).lane 119).hunt = 63) ∧
      ((laneUp 119 3 3 { LaneSt.init with bad := 15 }).lb 119 R.LN_STAT.BLOCK_LOCK = true ∧ ((laneUp 119 3 3 { LaneSt.init with bad := 15 }).lane 119).bad = 15) ∧
      ((laneUp 119 3 1 { LaneSt.init with txScr := some 0 }).lf 119 R.LN_CFG.MODE = 3 ∧ ((laneUp 119 3 1 { LaneSt.init with txScr := some 0 }).lane 119).txScr = some 0 ∧
        (laneUp 119 3 1 { LaneSt.init with txScr := some 0 }).ownData 119 = true ∧ (laneUp 119 3 1 { LaneSt.init with txScr := some 0 }).lb 119 R.LN_CFG.TX_INV = false) ∧
      ((laneUp 96 4 1 { LaneSt.init with seeded := 31, clean := 63 }).lf 96 R.LN_CFG.MODE = 4 ∧ (laneUp 96 4 1 { LaneSt.init with seeded := 31, clean := 63 }).lb 96 R.LN_CFG.RX_INV = false ∧
        (prbsTaps ((laneUp 96 4 1 LaneSt.init).lf 96 R.LN_CFG.PRBS)).1 ≤ 31 ∧ LaneSt.init.seeded < (prbsTaps ((laneUp 96 4 1 LaneSt.init).lf 96 R.LN_CFG.PRBS)).1 ∧
        (laneUp 96 4 1 LaneSt.init).lb 96 R.LN_STAT.CHK_LOCK = false ∧ prbsNext ((laneUp 96 4 1 LaneSt.init).lf 96 R.LN_CFG.PRBS) 0 = 0) ∧
      ((laneUp 96 4 3 LaneSt.init).lb 96 R.LN_STAT.CHK_LOCK = true ∧ prbsNext ((laneUp 96 4 3 LaneSt.init).lf 96 R.LN_CFG.PRBS) 0 ≠ 1) :=
  ⟨by decide, by decide, by decide, by decide, by decide, by decide, by decide, by decide, by decide⟩
/-- MAC 0 as a 10GBASE-R port over lane 96, up, with the rings of `en` and a TX entry of a 60-byte frame whose flags and instant are `fl`. -/
def macUp (en fl : Nat) (v : MacSt) : State :=
  let s := put (laneUp 96 1 3 LaneSt.init) [(bayA 0, R.BAY_STATE.STATE, 0), (macA 0, R.MAC_CFG.PORT, 1), (macA 0, R.MAC_CFG.EN, 1), (macA 0, R.MAC_STAT.LINK, 1),
    (macA 0, R.MAC_ADDR_LO.ADDR, 7), (ringA 0, ringF 0 R.TX_CFG.EN, en), (ringA 0, ringF 0 R.TX_CFG.BASE, 0xC0), (ringA 0, ringF 0 R.TX_WR.WR, en)]
  (((s.setByte 0xC000000001 1).setByte 0xC000000004 0xC0).setBytes 0xC000000008 4 (60 + fl * 2 ^ 16)).setMac 0 v
/-- CAN controller 0 on the bus, with a TX ring of one base frame with the flags `fl`. -/
def canUp (en fl : Nat) (v : CanSt) : State :=
  let s := put up [(bayA 0, R.BAY_STATE.STATE, 0), (canA 0, R.CAN_CFG.EN, 1), (ringA 32, ringF 32 R.TX_CFG.EN, en), (ringA 32, ringF 32 R.TX_CFG.BASE, 0xC0),
    (ringA 32, ringF 32 R.TX_WR.WR, en), (canA 0, R.CAN_FID.EN.shift 120, 1), (canA 0, R.CAN_FID.FID.shift 120, 0x7FF), (canA 0, R.CAN_FMASK.MASK.shift 120, 0x7FF)]
  (s.setBytes 0xC000000000 8 (0x123 + fl * 2 ^ 40)).setCan 0 v
theorem witness_MacCanAndRingRegisters :
    (up.macOk 15 = true ∧ up.bit (macA 15) R.MAC_CFG.EN = false) ∧ (macUp 0 0 MacSt.init).bit (macA 0) R.MAC_CFG.EN = true ∧
      ((macUp 0 0 MacSt.init).bit (macA 0) R.MAC_STAT.LINK = true ∧ (macUp 0 0 MacSt.init).macDrives 0 = true ∧ (macUp 0 0 MacSt.init).macLoops 0 = false) ∧
      (up.ringOk 47 = true ∧ up.rf 47 R.TX_CFG.EN ≠ 1 ∧ up.ringFits 47 = true) ∧ (macUp 1 0 MacSt.init).rf 0 R.TX_CFG.EN = 1 ∧
      (0 < up.ringCount 46 ∧ (0 + up.ringCount 46 - up.rf 46 R.TX_WR.WR % up.ringCount 46) % up.ringCount 46 ≤
        up.ringCount 46 - 1 - (up.rf 46 R.TX_WR.WR + up.ringCount 46 - up.rf 46 R.TX_RD.RD % up.ringCount 46) % up.ringCount 46) ∧
      up.ringCount 46 ≤ 2 ∧
      (up.canOk 7 = true ∧ up.bit (canA 7) R.CAN_CFG.EN = false ∧ up.rd (canA 7) R.CAN_STAT.STATE ≠ 2) ∧
      ((up.wr (canA 7) R.CAN_STAT.STATE 2).rd (canA 7) R.CAN_STAT.STATE = 2 ∧ ((up.wr (canA 7) R.CAN_CFG.AUTO_REC 1).bit (canA 7) R.CAN_CFG.AUTO_REC = true)) ∧
      (canUp 0 0 CanSt.init).bit (canA 0) R.CAN_CFG.EN = true := by decide
/-- A frame of `n` bytes to the address 7, whose bytes from 12 on begin with `t`. -/
def frameOf (n : Nat) (t : List (BitVec 8)) : List (BitVec 8) := ([0, 0, 0, 0, 0, 7, 0, 0, 0, 0, 0, 0] ++ t ++ List.replicate n 0).take n
/-- MAC 0 without PAUSE, with no agent in the device. -/
def macQuiet : State := { (macUp 0 0 MacSt.init).wr (macA 0) R.MAC_PAUSE.RX_PAUSE_EN 0 with power := PowerSt.init }
theorem witness_FramesReceivedAndSent :
    ((macUp 0 0 MacSt.init).macHears 0 = true ∧ 60 ≤ (frameOf 60 []).length ∧ (macUp 0 0 MacSt.init).bit (macA 0) R.MAC_CFG.KEEPBAD = false) ∧
      ((frameOf 60 [0x88, 0x08, 0, 1, 0, 9]).length + 4 ≤ (macUp 0 0 MacSt.init).maxLen 0 ∧ beAt (frameOf 60 [0x88, 0x08, 0, 1, 0, 9]) 12 2 = 0x8808 ∧
        beAt (frameOf 60 [0x88, 0x08, 0, 1, 0, 9]) 14 2 = 1 ∧ (macUp 0 0 MacSt.init).bit (macA 0) R.MAC_PAUSE.RX_PAUSE_EN = true) ∧
      ((macUp 0 0 MacSt.init).maxLen 0 = 1518 ∧ 1518 < List.length (List.replicate 1515 (0 : BitVec 8)) + 4) ∧
      (macQuiet.macHears 0 = true ∧ macQuiet.bit (macA 0) R.MAC_PAUSE.RX_PAUSE_EN = false ∧ macQuiet.ptpTakes 0 (frameOf 60 []) = false ∧ macQuiet.agentOn = false ∧
        macQuiet.macAccepts 0 (frameOf 60 []) = true ∧ 32 + (frameOf 60 []).length ≤ 2 ^ (macQuiet.rd (macA 0) R.RX_CFG.SLOT + 11) ∧
        macQuiet.rf (2 * 0 + 1) R.TX_CFG.EN = 0) ∧
      (let s := macUp 0 0 { MacSt.init with agent := [frameOf 60 []] }
       s.macFree 0 = true ∧ (s.mac 0).agent = frameOf 60 [] :: [] ∧ s.bit (macA 0) R.MAC_STAT.LINK = true ∧ (s.mac 0).paused = false) ∧
      (let s := macUp 1 0 MacSt.init
       let r := s.spanRead (laneWho (0 / 4)) netOk 33 (s.ringSlot (2 * 0) (s.rf (2 * 0) R.TX_RD.RD)) 32
       let d := r.2.2.spanRead (laneWho (0 / 4)) netOk (60 + 1) (bits r.2.1 47 0) 60
       s.macFree 0 = true ∧ s.txPending (2 * 0) = true ∧ (s.mac 0).agent = [] ∧ r.1 = 0 ∧ bits r.2.1 79 64 = 60 ∧ r.2.2.bit (macA 0) R.MAC_STAT.LINK = true ∧
         60 ≤ r.2.2.maxLen 0 - 4 ∧ bits r.2.1 63 48 = 0 ∧ bits r.2.1 95 80 = 0 ∧ (r.2.2.mac 0).paused = false ∧ d.1 = 0 ∧
         d.2.2.tcAt 0 (leBytes d.2.1 60) = none) ∧
      (let s := macUp 1 2 { MacSt.init with waiting := true }
       let r := s.spanRead (laneWho (0 / 4)) netOk 33 (s.ringSlot (2 * 0) (s.rf (2 * 0) R.TX_RD.RD)) 32
       s.macFree 0 = true ∧ (s.mac 0).waiting = true ∧ r.1 = 0 ∧ (r.2.2.mac 0).waiting = true ∧ bits r.2.1 95 80 = 2 ∧
         (launchDue (r.2.2.nowQ (0 / 4)) (bits r.2.1 127 96) (bits r.2.1 159 128)).1 = true) ∧
      (let s := macUp 0 0 { MacSt.init with tx := some ⟨frameOf 60 [], 0, false, false, false, 0⟩ }
       s.macOk 0 = true ∧ (s.mac 0).tx = some ⟨frameOf 60 [], 0, false, false, false, 0⟩ ∧ s.rf (2 * 0) R.TX_CFG.EN ≠ 1 ∧ s.macDrives 0 = true ∧ s.macLoops 0 = false) ∧
      (let s := { canUp 0 0 CanSt.init with power := PowerSt.init }
       let f : CanFrame := ⟨0x123, false, false, 0, false, false, false, []⟩
       s.canLive 0 = true ∧ s.rd (canA 0) R.CAN_CFG.MODE ≠ 2 ∧ f.fdf = false ∧ s.agentOn = false ∧ s.canFilter 0 f = none ∧ s.rd (canA 0) R.CAN_STAT.REC ≤ 127 ∧
         s.canSends 0 = true ∧ s.rd (canA 0) R.CAN_STAT.TEC ≤ 247) ∧
      (let f : CanFrame := ⟨0x123, false, false, 0, false, false, false, []⟩
       let s := canUp 0 0 { CanSt.init with tx := some (f, false, 0), own := true, busy := true }
       (s.can 0).busy = true ∧ (s.can 0).tx = some (f, false, 0) ∧ (s.can 0).own = true ∧ s.canLive 0 = true ∧
         (canUp 0 0 { CanSt.init with tx := some (f, false, 0) }).canSends 0 = true ∧ ((canUp 0 0 { CanSt.init with agent := [f] }).can 0).agent = f :: []) ∧
      (let s := canUp 1 0 CanSt.init
       let r := s.spanRead (laneWho (0 / 2)) netOk 129 (s.ringSlot (32 + 2 * 0) (s.rf (32 + 2 * 0) R.TX_RD.RD)) 128
       s.canSends 0 = true ∧ s.txPending (32 + 2 * 0) = true ∧ (s.can 0).tx = none ∧ (s.can 0).agent = [] ∧ r.1 = 0 ∧ r.2.1.testBit 31 = false ∧
         r.2.1.testBit 36 = false ∧ bits r.2.1 39 38 = 0 ∧ bits r.2.1 63 40 = 0) ∧
      (let s := canUp 1 1 { CanSt.init with waiting := true }
       let r := s.spanRead (laneWho (0 / 2)) netOk 129 (s.ringSlot (32 + 2 * 0) (s.rf (32 + 2 * 0) R.TX_RD.RD)) 128
       (s.can 0).waiting = true ∧ r.1 = 0 ∧ bits r.2.1 63 40 = 1 ∧ (launchDue (r.2.2.nowQ (0 / 2)) (bits r.2.1 95 64) (bits r.2.1 127 96)).1 = true) :=
  ⟨by decide, by decide, ⟨by decide, by rw [List.length_replicate]; decide⟩, by decide, by decide, by decide +kernel, by decide +kernel, by decide,
    by decide, by decide, by decide +kernel, by decide +kernel⟩

theorem witness_TimeDomainsAndServo :
    (up.timeOk = true ∧ up.bit (domA 0 1) R.DOM_CFG.SVO_EN = false) ∧
      (let s := put up [(domA 0 1, R.DOM_CFG.SVO_EN, 1), (domA 0 1, R.DOM_CFG.SRC, 2)]
       s.bit (domA 0 1) R.DOM_CFG.SVO_EN = true ∧ s.rd (domA 0 1) R.DOM_CFG.SRC = 2 ∧ s.rd (domA 0 1) R.DOM_SMP_LO.THETA < 2 ^ 32 ∧ (s.dom 1).last = none) ∧
      (let s := { put up [(domA 0 1, R.DOM_CFG.SVO_EN, 1), (domA 0 1, R.DOM_CFG.SRC, 0), (domA 0 1, R.DOM_CFG.PTP_EN, 1), (domA 0 1, R.DOM_CFG.PORT, 15),
            (domA 0 1, R.DOM_SVO.STEP_THR, 0)] with doms := [(1, { DomSt.init with last := some 0 })], counter := 125000000 }
       s.bit (domA 0 1) R.DOM_CFG.SVO_EN = true ∧ s.rd (domA 0 1) R.DOM_CFG.SRC = 0 ∧ s.macOk 15 = true ∧ s.bit (domA 0 1) R.DOM_CFG.PTP_EN = true ∧
         s.rd (domA 0 1) R.DOM_CFG.PORT = 15 ∧ s.rd (domA 0 1) R.DOM_SVO.STEP_THR = 0 ∧ (s.dom 1).last = some 0 ∧ 0 < s.counter) ∧
      (let s := put up [(domA 0 1, R.DOM_SVO.STEP_THR, 1)]
       s.rd (domA 0 1) R.DOM_SVO.STEP_THR ≠ 0 ∧ s.rd (domA 0 1) R.DOM_SVO.STEP_THR * 65536000 < (65536001 : Int).natAbs) ∧
      (up.switching = false ∧ (up.wr (tuA 0) R.TU_STAT.SWITCHING 1).switching = true) := by decide
/-- Domain 1 runs ahead of domain 0 by 2^-16 ns × `ofs`; frames are on, and quadrant 3 holds a time of its own. -/
def timed (ofs : Nat) : State :=
  { put up [(domA 0 1, R.DOM_OFS.OFS, ofs), (tuA 0, R.TU_SWCFG.SW_STEP_MAX, 1), (tuA 0, R.TU_SWCFG.SW_SLEW, 1), (frA 0, R.FR_CTRL.EN, 1), (tuA 0, R.TU_STAT.TD_LOCK, 8)] with
    nextB := some (0, 0xFFFFFFFF), heldT := [(3, some ⟨0, 0, none, some (0, 5), 65536⟩)] }
theorem witness_SwitchesStreamsAndFrames :
    (up.timeOk = true ∧ up.dNow 1 - up.now = 0) ∧
      ((timed 1).dNow 1 - (timed 1).now = 1 ∧ (1 : Int).natAbs ≤ ((timed 1).rd (tuA 0) R.TU_SWCFG.SW_STEP_MAX : Int) * 65536000 ∧
        ((timed 1).rd (tuA 0) R.TU_SWCFG.SW_SLEW : Int) * 65536 ≠ 0 ∧ (timed 1).act ≠ 1 ∧
        max (-2147483648) (min 2147483647 ((timed 1).dRate 1 + (timed 1).rd (tuA 0) R.TU_SWCFG.SW_SLEW * 65536)) ≠ (timed 1).dRate 1) ∧
      (((timed 65536001).rd (tuA 0) R.TU_SWCFG.SW_STEP_MAX : Int) * 65536000 < ((timed 65536001).dNow 1 - (timed 65536001).now).natAbs) ∧
      (let s := up.wr (tuA 0) R.TU_STAT.SWITCHING 1
       s.switching = true ∧ (s.dRate s.act < s.rateNow → s.dNow s.act ≤ s.now) ∧ (s.rateNow ≤ s.dRate s.act → s.now ≤ s.dNow s.act)) ∧
      ((timed 1).quadOk 3 = true ∧ up.quadLive 3 = true ∧ ((timed 1).rd (tuA 0) R.TU_STAT.TD_LOCK).testBit 3 = true ∧ (timed 1).held 3 = some ⟨0, 0, none, some (0, 5), 65536⟩) ∧
      (let s := put up [(brgA 0 0, R.BRG_STAT.STATE, 2), (brgA 1 1, R.BRG_STAT.STATE, 2)]
       s.treeReaches 1 = true) ∧
      ((timed 1).held 0 = none ∧ (timed 1).nextB = some (0, 0xFFFFFFFF) ∧ (timed 1).framesOn = true) ∧
      ((timed 1).bit (frA 0) R.FR_CTRL.EN = true ∧ up.bit (frA 0) R.FR_CTRL.EN = false) := by decide
/-- A request of PF0 with the session `n`. -/
def hd (n : Nat) : ClHead := ⟨0, 7, 1, n, false, 0⟩
/-- Session 16 of PF0 in the state `st` with the staged records `l`. -/
def opened (st : Nat) (l : List ClRec) : State := up.setSess 16 { SessSt.init with st := st, origin := some .pf0, staged := l, head := some (hd 16) }
theorem up_hears : up.hears .pf0 (hd 0) := by unfold State.hears; decide
theorem opened_hears (st : Nat) (l : List ClRec) : (opened st l).hears .pf0 (hd 16) :=
  ⟨show up.served .pf0 (hd 16) = true by decide, by decide, rfl, show 64 ≤ up.clLimit .pf0 by decide, fun k hk => absurd hk (by intro h; cases h)⟩
theorem witness_ClanexReadsAndWrites :
    up.hears .pf0 (hd 0) ∧ (opened 1 []).hears .pf0 (hd 16) ∧ up.objEntry 0xFFFF 0 = (1, none) ∧ up.objEntry 0x0140 3 = (2, none) ∧
      up.objEntry 0x0410 0 = (0, some ⟨2, 4, 1, false, .shown 8⟩) ∧ up.objEntry 0x0140 1 = (0, some ⟨2, 2, 1, false, .agent .quadrantReset⟩) ∧
      up.objEntry 0x0200 2 = (0, some ⟨4, 1, 4, false, .agent .sessionTimeout⟩) ∧
      ({ up with userObjs := [⟨0x3FFF, 255, 4, 3, false, 4, 0xC000000000⟩] } : State).objEntry 0x3FFF 255 =
        (0, some ⟨4, 3, 4, false, .user ⟨0x3FFF, 255, 4, 3, false, 4, 0xC000000000⟩⟩) ∧
      Ent.check ⟨4, 1, 4, false, .agent .sessionTimeout⟩ ⟨0x0200, 2, 2, 1, 0⟩ = 4 ∧ Ent.check ⟨4, 1, 4, false, .agent .sessionTimeout⟩ ⟨0x0200, 2, 4, 4, 9⟩ = 0 ∧
      (opened 1 [⟨0x0200, 2, 4, 4, 9⟩]).lockedBy 0 ⟨0x0200, 2, 4, 4, 9⟩ = true ∧ up.lockedBy 0 ⟨0x0200, 2, 4, 4, 9⟩ = false ∧
      (opened 1 [⟨0x0200, 2, 4, 4, 9⟩]).owns .pf0 (hd 16) 16 1 ∧
      ((opened 1 [⟨0x0200, 2, 4, 4, 9⟩]).sess 16).staged.find? (sameEntry ⟨0x0200, 2, 0, 0, 0⟩) = some ⟨0x0200, 2, 4, 4, 9⟩ ∧
      (opened 1 []).lockedBy 16 ⟨0x0200, 2, 4, 4, 9⟩ = false ∧ up.ownSess .pf0 (hd 16) = false ∧ up.freeSess = some 1 ∧
      ({ up with sessions := (List.range 16).map fun k => (k + 1, { SessSt.init with st := 1 }) } : State).freeSess = none ∧
      (let s : State := { up with agent := { AgentSt.init with kept := [⟨.pf0, 1, 0, []⟩] } }
       s.served .pf0 (hd 0) = true ∧ s.agent.kept = ⟨.pf0, 1, 0, []⟩ :: [] ∧ s.counter ≤ 0 + 1000000000) ∧
      ((opened 1 []).agent.timeout ≠ 0 ∧ (opened 1 []).agentOn = true ∧ ((opened 1 []).sess 16).st = 1) :=
  ⟨up_hears, opened_hears _ _, by decide, by decide, by decide, by decide, by decide, by decide, by decide, by decide, by decide, by decide,
    by unfold State.owns; decide, by decide, by decide, by decide, by decide, by decide, by decide, by decide⟩
theorem witness_ClanexCommits :
    (opened 1 [⟨0x0200, 2, 4, 4, 9⟩]).hears .pf0 (hd 16) ∧ (opened 1 [⟨0x0200, 2, 4, 4, 9⟩]).owns .pf0 (hd 16) 16 1 ∧
      ((opened 1 [⟨0x0200, 2, 4, 4, 9⟩]).sess 16).staged = [⟨0x0200, 2, 4, 4, 9⟩] ∧
      (opened 1 [⟨0x0200, 2, 4, 4, 9⟩]).firstBad ((opened 1 [⟨0x0200, 2, 4, 4, 9⟩]).sess 16).staged = none ∧ (opened 1 []).framesOn = false ∧
      (let s := { (opened 1 [⟨0x0200, 2, 4, 4, 9⟩]).wr (frA 0) R.FR_CTRL.EN 1 with nextB := some (0, 0xFFFFFFFF) }
       s.framesOn = true ∧ s.nextB = some (0, 0xFFFFFFFF) ∧ s.now + (10000 + 20 * (1 : Int)) * 65536 ≤ (0 : Int) + ((2 ^ 31 - 1 : Nat) : Int) * s.framePeriod ∧
         (0 : Int) + ((0 : Nat) : Int) * s.framePeriod < s.now + (10000 + 20 * (1 : Int)) * 65536) ∧
      (opened 3 []).owns .pf0 (hd 16) 16 3 ∧
      (let s := { opened 2 [⟨0x0200, 2, 4, 4, 9⟩] with notice := some (0, 0) }
       s.agentOn = true ∧ (s.sess 16).st = 2 ∧ (s.sess 16).target < 2 ^ 32 ∧ s.notice = some (0, (s.sess 16).target) ∧ (∀ e, e ∈ s.shadow → e.sess ≠ 16) ∧
         (∀ e, e ∈ s.lostSh → e.sess ≠ 16) ∧ (s.sess 16).origin = some .pf0 ∧ (s.sess 16).head = some (hd 16) ∧ 64 ≤ s.clLimit .pf0) :=
  ⟨opened_hears _ _, by unfold State.owns; decide, by decide, by decide, by decide, by decide, by unfold State.owns; decide, by decide⟩

/-- Port `p` of the system link is UP with the window `win`. -/
def linked (p : Nat) (win : List (Nat × Nat × LinkPkt)) (v : LinkSt) : State :=
  { (put up [(lnA (laneOfPort p), R.LN_CFG.MODE, 2), (lnA (laneOfPort p), R.LN_STAT.TX_ON, 1), (lnA (laneOfPort p), R.LN_STAT.BLOCK_LOCK, 1)]).setPort p
      { PortSt.init with up := true, win := win } with slink := v }
theorem witness_GlobalOperations :
    up.slink.root = false ∧ ({ up with slink := { LinkSt.init with root := true, op := some (2, 255) } } : State).slink.op = some (2, 255) ∧
      ((linked 1 [] { LinkSt.init with hold := true }).globFirst 1 255 = true ∧ (linked 1 [] LinkSt.init).downPorts = [] ∧ (linked 1 [] LinkSt.init).timeOk = true ∧
        (linked 1 [] LinkSt.init).now < schedAt (linked 1 [] LinkSt.init).now (2 ^ 30) ∧ schedAt (linked 1 [] LinkSt.init).now 0 ≤ (linked 1 [] LinkSt.init).now) ∧
      ((linked 15 [] { LinkSt.init with op := some (5, 255) }).portUp 15 = true ∧ (linked 15 [] { LinkSt.init with op := some (5, 255) }).slink.op = some (5, 255)) ∧
      (let s := { up with slink := { LinkSt.init with sched := [(3, 1, 0), (4, 2, 0)] } }
       s.slink.sched.find? (fun y => decide (y.2.2 ≤ s.now)) = some (3, 1, 0)) ∧
      (let s := { up with slink := { LinkSt.init with sched := [(4, 2, 0)] } }
       s.slink.sched.find? (fun y => decide (y.2.2 ≤ s.now)) = some (4, 2, 0) ∧ s.power.on = true ∧ s.power.stepsDone = true ∧ s.power.dev = 0 ∧ s.qReset 0 = false) := by
  decide
/-- A packet of the system link. -/
def lpkt (ty : Nat) (b : List (BitVec 8)) : LinkPkt := ⟨ty, 5, 0, b⟩
theorem witness_LinkPacketsAndTicks :
    (linked 15 [] LinkSt.init).portUp 15 = true ∧
      (let s := (linked 2 [] LinkSt.init).setPort 2 { PortSt.init with up := true, range := some (5, 5) }
       (lpkt 1 []).type = 1 ∧ (lpkt 1 []).bytes.length ≤ 4096 ∧ s.linkRoute (lpkt 1 []).dst = (some 2, true) ∨ s.linkRoute (lpkt 1 []).dst = (some 2, false)) ∧
      ((lpkt 2 [1, 0, 1, 0, 5]).type = 2 ∧ byteAt (lpkt 2 [1, 0, 1, 0, 5]).bytes 4 ≤ 5) ∧
      (∀ x, x ∈ ((linked 1 [(7, 7, lpkt 1 [])] LinkSt.init).port 1).win → x.1 ≠ 8) ∧ (7, 7, lpkt 1 []) ∈ ((linked 1 [(7, 7, lpkt 1 [])] LinkSt.init).port 1).win ∧
      ((linked 1 [(7, 7, lpkt 1 [])] LinkSt.init).port 1).queue = [] ∧ (∀ x, x ∈ ((linked 1 [(7, 6, lpkt 1 [])] LinkSt.init).port 1).win → x.2.1 < 7) ∧
      ((linked 1 [] LinkSt.init).portUp 1 = true ∧ (linked 1 [] LinkSt.init).portOk 0 = true ∧ (linked 1 [] LinkSt.init).portUp 0 = false ∧
        (linked 1 [] LinkSt.init).slink.upActive ≠ 1) ∧
      ((linked 1 [] LinkSt.init).timeOk = true ∧ ∀ d, d < 2 → (linked 1 [] LinkSt.init).rd (domA 0 d) R.DOM_CFG.SRC ≠ 1) ∧
      ((linked 1 [] LinkSt.init).lf (laneOfPort 1) R.LN_CFG.MODE = 2 ∧ (linked 1 [] LinkSt.init).lb (laneOfPort 1) R.LN_STAT.TX_ON = true ∧
        (linked 1 [] LinkSt.init).lb (laneOfPort 1) R.LN_STAT.BLOCK_LOCK = true ∧ (linked 1 [] LinkSt.init).power.on = true ∧
        (linked 1 [] LinkSt.init).power.stepsDone = true ∧ (linked 1 [] LinkSt.init).power.dev = 0 ∧ (linked 1 [] LinkSt.init).qReset 0 = false) := by decide
/-- A header of a full image of the device. -/
def hdr (kind : Nat) : ImgHeader := ⟨0x5C1AB540, 1, kind, 15, 0x9640, 0, 1, 0, 7, 2, 4096, true, true, true⟩
/-- A load whose header has been accepted stands at offset 288 with `bytes` bytes taken. -/
def loading (bytes : Nat) (v : LoadSt) : State :=
  { put up [(cfgA 0, R.CFG_PROG.BYTES, bytes), (cfgA 0, R.CFG_STAT.STATE, 1)] with
    load := { v with mode := 2, header := true, len := 4096, segments := 2, qmask := 15, pos := 288, segPos := 280 } }
theorem loading_ready (bytes len : Nat) (v : LoadSt) (hc : v.closed = false)
    (hb : (loading bytes v).load.pos + (8 + (len + 7) / 8 * 8) ≤ (loading bytes v).rd (cfgA 0) R.CFG_PROG.BYTES)
    (hl : 288 + (8 + (len + 7) / 8 * 8) ≤ 280 + 4096) : (loading bytes v).recordReady len :=
  ⟨by show (2 : Nat) ≠ 0; decide, rfl, hc, hb, hl, Nat.le_trans hl (show 280 + 4096 ≤ 280 + 8 + 1048576 by decide)⟩
theorem witness_ImageHeadersAndRecords :
    up.load.targets = [] ∧
      (let s := { put up [(cfgA 0, R.CFG_PROG.BYTES, 280), (cfgA 0, R.CFG_STAT.STATE, 1)] with load := { LoadSt.init with mode := 2 } }
       s.load.mode ≠ 0 ∧ s.load.header = false ∧ 280 ≤ s.rd (cfgA 0) R.CFG_PROG.BYTES ∧ s.headerError (hdr 0) = 0 ∧ s.headerError (hdr 1) = 7 ∧
         s.headerError { hdr 0 with magic := 0 } = 1 ∧ s.headerError { hdr 0 with sigOk := false } = 3 ∧ s.headerError { hdr 0 with wkOk := false } = 4 ∧
         s.load.prev ≠ 5) ∧
      ((loading 1000 LoadSt.init).recordReady 16 ∧ (loading 1000 LoadSt.init).recordReady 4 ∧ (loading 1000 LoadSt.init).recordReady 132 ∧
        (loading 1000 LoadSt.init).recordReady 32 ∧ (loading 1000 LoadSt.init).tgtOk 383 = true) ∧
      (let s := loading 1000 { LoadSt.init with cells := [8192 + 127], fill := true }
       s.tgtOk (8192 + 127) = true ∧ 8192 + 127 ∈ s.load.cells ∧ s.load.kind ≠ 1 ∧ initOk (8192 + 127) 0x3FFFC [1, 2, 3, 4] = true) ∧
      ((loading 1000 LoadSt.init).load.kind ≠ 2 ∧ registerSpace (macA 15) = true ∧ macA 15 % 4 = 0 ∧ laneBlockReg (macA 15) = true ∧ up.timeOk = true ∧
        userObjOk ⟨0x3FFF, 1, 4, 1, true, 4, 0xC000000000⟩ = true ∧ userObjOk ⟨0x3FFF, 1, 4, 1, true, 3, 0xC000000000⟩ = false) ∧
      ((loading 1000 LoadSt.init).load.segs = 0 ∧ (loading 1000 LoadSt.init).load.qmask.testBit (7 % 8 / 2) = true ∧ (loading 1000 LoadSt.init).chOk (7 % 8) = true ∧
        (loading 1000 LoadSt.init).load.rel = none ∧ (loading 1000 { LoadSt.init with segs := 1 }).load.segs + 1 = (loading 1000 LoadSt.init).load.segments ∧
        (loading 1000 LoadSt.init).load.segs + 1 < (loading 1000 LoadSt.init).load.segments ∧ registerSpace 0 = false) ∧
      (let s := loading 1000 { LoadSt.init with closed := true, ended := true }
       s.load.pos + 16 ≤ s.rd (cfgA 0) R.CFG_PROG.BYTES ∧ s.load.pos + 16 ≤ 280 + s.load.len ∧ s.load.closed = true ∧ s.load.initCh = [] ∧ s.load.ended = true) :=
  ⟨by decide, by decide, ⟨loading_ready _ _ _ rfl (by decide) (by decide), loading_ready _ _ _ rfl (by decide) (by decide),
      loading_ready _ _ _ rfl (by decide) (by decide), loading_ready _ _ _ rfl (by decide) (by decide), by decide⟩,
    by decide, by decide, by decide, by decide⟩
theorem witness_LoadsAndReleases :
    (up.load.targets = [] ∧ up.cfgState ≠ 9 ∧ up.loadBusy = false) ∧ (up.wr (cfgA 0) R.CFG_STAT.STATE 9).cfgState = 9 ∧
      ((loading 1000 LoadSt.init).loadBusy = true ∧ (loading 1000 LoadSt.init).load.mode = 2 ∧ (loading 1000 LoadSt.init).allTaken = false ∧
        (loading 4376 LoadSt.init).allTaken = true ∧ up.load.mode = 0) ∧
      (let s := { up with load := { LoadSt.init with mode := 1, window := true } }
       s.load.mode = 1 ∧ s.allTaken = false ∧ s.load.window = true ∧ s.cfgState ∈ [0, 1, 7, 8, 9] ∧ s.bit (cfgA 0) R.CFG_STAT.WINDOW_MISSED = false) ∧
      (up.wr (cfgA 0) R.CFG_STAT.STATE 7).cfgState = 7 ∧
      (let s := up.wr (cfgA 0) R.CFG_STAT.STATE 2
       s.cfgState = 2 ∧ s.load.fill = false ∧ (∀ c, c ∈ s.load.initCh → s.mcState c ≠ 1 ∧ s.mcState c ≠ 2) ∧ ∀ g, g < 576 → s.genOk g = true → s.genSettled g = true) ∧
      (up.load.doneLow = true ∧ up.cfgState ≠ 3) ∧
      (let s := { up.wr (cfgA 0) R.CFG_STAT.STATE 3 with load := { LoadSt.init with doneLow := false } }
       s.cfgState = 3 ∧ s.load.doneLow = false ∧ s.load.regs = [] ∧ s.rd (cfgA 0) R.CFG_REL.COMPAT = 0 ∧ 0 ∈ s.reached ∧ 0 ∈ s.reachedBays) ∧
      (let s := { up.wr (cfgA 0) R.CFG_STAT.STATE 4 with load := { LoadSt.init with stage := 2 } }
       s.cfgState = 4 ∧ s.load.stage = 2) ∧
      (let s := { up.wr (cfgA 0) R.CFG_STAT.STATE 4 with load := { LoadSt.init with stage := 3 } }
       s.cfgState = 4 ∧ s.load.stage = 3) ∧
      (let s := { up with load := { LoadSt.init with kind := 1, ended := true } }
       (∀ x, x ∈ [383, 8192 + 127] → tgtQuad x ≠ none) ∧ s.load.kind ≠ 0 ∧ s.load.ended = true ∧ s.load.segs = s.load.segments ∧ s.load.fill = false ∧
         s.load.regs = [] ∧ ∀ x, x ∈ [383, 8192 + 127] →
           s.genSettled (if x / 8192 = 0 then x else if x / 8192 = 1 then 448 + x % 8192 else 384 + x % 8192) = true) :=
  ⟨by decide, by decide, by decide, by decide, by decide, by decide +kernel, by decide, by decide, by decide, by decide, by decide⟩

theorem up_calm : up.calm := by unfold State.calm; decide
theorem witness_MailboxesClocksAndHeat :
    (up.quadLive 3 = true ∧ up.calm ∧ up.sideBDown 3 31 = true ∧ up.sideBDown 0 32 = false) ∧
      (let s := { up with mbxs := [(159, ⟨[(7, false)], List.replicate 4 (1, false)⟩)] }
       4 ≤ ((s.mb 3 39).ba).length ∧ (s.mb 3 39).ab = (7, false) :: [] ∧ (s.wr (mbxA 3 39) R.MB_CFG.TIMEOUT_US 1).rd (mbxA 3 39) R.MB_CFG.TIMEOUT_US ≠ 0) ∧
      (up.agentOn = true ∧ up.agent.dead = false ∧ up.agent.need = none ∧ (4096 : BitVec 32).toNat ≤ 4096) ∧
      (up.railUsed 3 0 = true ∧ up.railUsed 3 3 = false ∧ (up.rd (clkA 3) R.CLK_STAT.UNLOCK).testBit 0 = false) ∧
      (List.replicate 16 (0x7FF : BitVec 12) ≠ [] ∧ (List.replicate 16 (0x7FF : BitVec 12)).length ≤ 16) ∧
      (let s := put up [(pwrA 3, R.THERM_STAT.TMAX, 0x7FF), (pwrA 3, R.PWR_CAP.CAP, 6)]
       s.telemLost 3 = false ∧ s.throt 3 < s.tmax 3 ∧ s.rd (pwrA 3) R.PWR_CAP.CAP < 7) ∧
      (up.wr (pwrA 0) R.TELEM_STAT.LOST 4).telemLost 3 = true ∧
      (let s := put up [(pwrA 3, R.PWR_CAP.CAP, 7), (pwrA 0, R.PWR_VIN.VIN, 12000), (pwrA 0, R.PWR_LIMIT.LIMIT, 1)]
       s.telemLost 3 = false ∧ s.tmax 3 < s.throt 3 - 40 ∧ s.deviceLoad * 100 < s.loadLimit * 95 ∧ 0 < s.rd (pwrA 3) R.PWR_CAP.CAP ∧ s.rd (pwrA 3) R.PWR_CAP.CAP < 8) ∧
      (up.bit (pwrA 0) R.PWR_LIMIT.ILIM_ACTIVE = false ∧ (up.wr (pwrA 0) R.PWR_LIMIT.ILIM_ACTIVE 1).bit (pwrA 0) R.PWR_LIMIT.ILIM_ACTIVE = true) :=
  ⟨⟨by decide, up_calm, by decide, by decide⟩, by decide, by decide, by decide, by decide, by decide, by decide, by decide, by decide⟩
/-- Island 0 of a CONFIGURED device in RUN, with `p` as the state of its power. -/
def powered (p : PowerSt) : State := { put up [(islA 0, R.ISL_STATE.STATE, 0), (cfgA 0, R.CFG_STAT.STATE, 5)] with power := p }
theorem witness_SleepEntriesExitsAndWakes :
    (∀ q, q < 4 → up.rd (pwrA q) R.PWR_LOGSTAT.NEXT < 16) ∧ up.agentOn = true ∧
      (({ up with power := { up.power with target := 383, state := 1 } } : State).sleepCheck 383 1 = some (2, 383)) ∧
      (let p := up.power
       (powered p).agentOn = true ∧ ({ powered p with power := { p with target := 0, state := 1 } } : State).sleepCheck 0 1 = none) ∧
      (let p := { up.power with phase := 3 }
       (powered p).agentOn = true ∧ (powered p).power.phase = 3) ∧
      (up.targetOk 0xF0000000 = false ∧ up.targetOk 383 = true ∧ up.tgtSleeps 383 = false) ∧
      (let p := { up.power with asleep := [(0, (1, 0))] }
       (powered p).tgtSleeps 0 = true ∧ (powered p).power.phase = 0 ∧ (powered p).power.wakes = []) ∧
      (let p := { up.power with phase := 1, curS := 2, curT := 0 }
       let s := (powered p).wr (islA 0) R.ISL_STATE.STATE 2
       s.power.phase = 1 ∧ (∀ k, k ∈ s.targetUnits s.power.curT → s.unitDrained k = true)) ∧
      (let p := { up.power with phase := 2, curS := 4, curT := 0x50000000 }
       (powered p).power.phase = 2 ∧ (powered p).power.wakes = [] ∧ (powered p).targetOk (powered p).power.curT = true ∧ (powered p).power.curS = 4) ∧
      (let p := { up.power with phase := 3, curS := 2, curT := 383, asleep := [(383, (2, 0))] }
       (powered p).power.phase = 3 ∧ (powered p).power.curS = 2 ∧ (powered p).power.dev = 0 ∧ (powered p).power.wakes = [] ∧ (powered p).targetOk (powered p).power.curT = true) ∧
      (let p := { up.power with phase := 3, curS := 3, curT := 0x50000000, dev := 3 }
       (powered p).power.curS = 3 ∧ (powered p).power.dev = 3 ∧ (powered p).power.perstLow = false ∧ (powered p).targetOk (powered p).power.curT = true ∧
         ∀ b, b < 4 → ∀ x, x ∈ (powered p).brgSides b → (powered p).brg x R.BRG_STAT.STATE ≠ 1) ∧
      (let p := { up.power with asleep := [(0, (1, 0))] }
       let s := put (powered p) [(pwrA 0, R.WAKE_EVT.EN.shift (8 * 63), 1), (pwrA 0, R.WAKE_EVT.EVENT.shift (8 * 63), 1023)]
       s.wakeSlot 63 = (some 1023, 0) ∧ (∀ m, m < 64 → m ≠ 63 → (s.wakeSlot m).1 ≠ some 1023) ∧ s.power.phase = 0 ∧ s.power.dev = 0 ∧ s.power.wakes = [] ∧
         s.tgtSleeps 0 = true) ∧
      (∀ m, m < 64 → (up.wakeSlot m).1 ≠ some 1023) ∧ up.power.timer = false ∧ ({ up.power with timer := true } : PowerSt).timer = true ∧ up.power.on = true := by
  decide
theorem witness_SuppliesAndStartUp :
    (up.power.on = true ∧ up.power.dev = 0 ∧ up.power.dev ≠ 4 ∧ up.power.stepsDone = true) ∧
      (State.reset.power.dev ≠ 4 ∧ State.reset.power.stepsDone = false ∧ State.reset.power.on = true) ∧
      (({ up with power := { up.power with on := false } } : State).power.on = false) ∧
      (let s := { up with power := { up.power with thermal := true } }
       (s.power.thermal && decide (s.counter < 60000000000)) = true ∧ s.power.on = true ∧ s.power.dev ≠ 4) ∧
      (let s := { up with power := { up.power with thermal := true, dev := 4 } }
       s.power.on = true ∧ s.power.dev = 4 ∧ s.power.thermal = true) ∧
      (∃ b p, b < 4 ∧ p ∈ (nx (exec .vinStart State.reset)).brgSides b ∧ (nx (exec .vinStart State.reset)).brg p R.BRG_STAT.STATE = 1) ∧
      (∀ b, b < 4 → ∀ p, p ∈ State.reset.brgSides b → State.reset.brg p R.BRG_STAT.STATE ≠ 1) ∧
      (up.oneClass = true ∧ ({ up with fuses := { up.fuses with compat := [(3, 1)] } } : State).oneClass = false) :=
  ⟨by decide, by decide, by decide, by decide, by decide, ⟨3, (0, 1), by decide, by decide, by decide⟩, by decide, by decide⟩
theorem witness_DeviceResets :
    (up.power.on = true ∧ up.power.stepsDone = true ∧ up.power.dev = 0 ∧ up.qReset 0 = false ∧ up.power.perstLow = false ∧ up.perstMasked = false) ∧
      2 ≤ (deb up).level ∧ up.level < 2 ∧ (up.hears .pf0 (hd 0) ∧ (hd 0).session = 0 ∧ up.lockedBy 0 ⟨0x0140, 2, 2, 1, 0xD5⟩ = false) ∧
      ({ up with power := { up.power with dev := 3 } } : State).perstMasked = true ∧ ({ up.power with perstLow := true } : PowerSt).perstLow = true ∧
      (let s := { up with inReset := [(0, true), (1, true), (2, true), (3, true)] }
       s.qReset 0 = true ∧ s.bridgeOk 3 = true ∧ s.deadBrg 3 = false ∧ ∀ p, p ∈ s.brgSides 3 → s.brg p R.BRG_STAT.STATE ≠ 1) :=
  ⟨by decide, by decide, by decide, ⟨up_hears, by decide, by decide⟩, by decide, by decide, by decide⟩
theorem witness_QuadrantResetsAndTelemetry :
    (up.hears .pf0 (hd 0) ∧ (hd 0).session = 0 ∧ up.lockedBy 0 ⟨0x0140, 1, 2, 1, 3⟩ = false ∧ up.quadOk 3 = true ∧ up.loadBusy = false ∧ up.qReset 3 = false) ∧
      (({ up with fuses := { up.fuses with part := .abn9620 } } : State).quadOk 3 = false ∧ (up.wr (cfgA 0) R.CFG_STAT.STATE 1).loadBusy = true) ∧
      (let s := { up with inReset := [(3, true)] }
       s.qReset 3 = true ∧ s.qReset 0 = false ∧ s.bridgeOk 3 = true ∧ s.deadBrg 3 = false ∧
         (∀ p, p ∈ s.brgSides 3 → s.brg p R.BRG_STAT.STATE ≠ 1 ∧ (p.1 = 3 ∨ s.qReset p.1 = false)) ∧ ∃ p, p ∈ s.brgSides 3 ∧ p.1 = 3) ∧
      (∃ n, up.heldOn (up.route (controlRouter 3) (controlRouter 0)) = some n) ∧
      (let s := put up [(brgA 3 0, R.BRG_STAT.STATE, 2), (brgA 0 1, R.BRG_STAT.STATE, 2), (pwrA 0, R.TELEM_STAT.LOST, 4)]
       s.heldOn (s.route (controlRouter 3) (controlRouter 0)) = none ∧ (s.rd (pwrA 0) R.TELEM_STAT.LOST).testBit (3 - 1) = true) ∧
      ((up.rd (pwrA 0) R.TELEM_CFG.FAULT_RESET).testBit (3 - 1) = false ∧
        ((up.wr (pwrA 0) R.TELEM_CFG.FAULT_RESET 4).rd (pwrA 0) R.TELEM_CFG.FAULT_RESET).testBit (3 - 1) = true) :=
  ⟨⟨up_hears, by decide, by decide, by decide, by decide, by decide⟩, by decide,
    ⟨by decide, by decide, by decide, by decide, by decide, ⟨(3, 0), by decide, by decide⟩⟩, Option.isSome_iff_exists.mp (by decide), by decide, by decide⟩
theorem witness_RegisterAndHostAccesses :
    up.calm ∧ (let s := { up with load := { up.load with link := true } }
       s.calm ∧ s.quadLive 0 = true ∧ s.load.link = true ∧ s.power.dev = 0 ∧ s.rtState (controlRouter 0) = 0 ∧ s.probing = false) ∧ up.load.link = false ∧
      (∀ g, g ∈ stickies → up.rd (pwrA 0) g < 2) ∧ 0xD000000001 % 4 ≠ 0 ∧ (winA 127 ≤ bayA 127 ∧ bayA 127 < winA (127 + 1) ∧ up.bayState 127 = 2) ∧
      (up.quadLive 0 = true ∧ up.quadLive 3 = true ∧ (let s := up.setQReset 3 true; s.calm ∧ quadA 3 ≤ mbxA 3 0 ∧ mbxA 3 0 < quadA (3 + 1) ∧ s.quadOk 3 = true ∧ s.qReset 3 = true)) :=
  ⟨up_calm, ⟨by unfold State.calm; decide, by decide⟩, by decide, by decide, by decide, by decide, by decide, by decide, by unfold State.calm; decide, by decide⟩
theorem witness_PcieFunctionsAndDap :
    (up.power.on = true ∧ up.power.stepsDone = true ∧ up.power.dev = 0 ∧ up.qReset 0 = false ∧ up.power.perstLow = false) ∧
      (let s := { up with load := { up.load with link := true }, fuses := { up.fuses with pfs := [(7, ⟨0, [], []⟩)] } }
       s.load.link = true ∧ s.pfOk 8 = false ∧ s.pfOk 7 = true ∧ s.cfgState ≠ 5 ∧ s.cfgState ≠ 6 ∧ s.cfgState ≠ 9 ∧ s.pfOk 0 = true ∧
         (s.wr (cfgA 0) R.CFG_STAT.STATE 9).cfgState = 9 ∧ (s.wr (cfgA 0) R.CFG_STAT.STATE 6).cfgState = 6 ∧ (s.pfState 7).command < 65536) ∧
      (up.level = 0 ∧ 1 ≤ (deb up).level) := by decide
/-- Bridge 3 is UP on both sides with every group, and group 7 has met fifteen bad frames. -/
def bridged (bad : Nat) : State :=
  { put up [(brgA 3 0, R.BRG_STAT.STATE, 2), (brgA 0 1, R.BRG_STAT.STATE, 2), (brgA 3 0, R.BRG_STAT.IN_USE, 255), (brgA 0 1, R.BRG_STAT.IN_USE, 255)] with
    badFr := [(31, List.replicate bad 0)] }
theorem witness_BridgeTrainingAndFrames :
    ((bridged 15).brgSides 3 = [(3, 0), (0, 1)] ∧ (bridged 15).bridgeOk 3 = true ∧ (bridged 15).brgOf 0 1 = some 3 ∧ (bridged 15).deadBrg 3 = false ∧
        (∀ p, p ∈ [(3, 0), (0, 1)] → (bridged 15).qReset p.1 = false ∧ (bridged 15).brg p R.BRG_STAT.STATE ≠ 1) ∧ (bridged 15).brgOf 0 2 = none) ∧
      (let s := nx (exec .vinStart State.reset)
       s.brgSides 3 = [(3, 0), (0, 1)] ∧ s.bridgeOk 3 = true ∧ s.deadBrg 3 = false ∧ s.qReset 3 = false ∧ s.qReset 0 = false ∧ s.brg (3, 0) R.BRG_STAT.STATE = 1) ∧
      ([(3, 0), (0, 1)][1]? = some ((0, 1) : Nat × Nat) ∧ (bridged 15).brg (0, 1) R.BRG_STAT.IN_USE = 255 ∧ (255 : Nat).testBit 7 = true ∧
        2 ≤ (bridged 15).brg (0, 1) R.BRG_STAT.STATE ∧
        16 ≤ ((bridged 15).counter :: ((bridged 15).badFrames (3 * 8 + 7)).filter (fun t => decide ((bridged 15).counter < t + 1000000))).length ∧
        ((bridged 14).counter :: ((bridged 14).badFrames (3 * 8 + 7)).filter (fun t => decide ((bridged 14).counter < t + 1000000))).length < 16) := by decide
theorem witness_StepsKeepTheTablesCanonical :
    (put up [(macA 0, R.MAC_CFG.EN, 1), (bayA 127, R.BAY_STATE.STATE, 0)]).canonical := by unfold State.canonical; decide
theorem witness_ReservedRangeErrors : (0xE000000000 : Nat) ≤ 0xE000000000 := by decide
theorem witness_RegisterAccessWidths :
    up.target? (pwrA 3) = .regs 77 ∧ pwrA 3 % 4 = 0 ∧ up.bayHeld (pwrA 3) = false ∧ up.bayHeld (bayA 127) = true ∧ (2 ^ 64 - 1 : Nat) < 2 ^ 64 ∧
      (pwrA 3 + 1) % 4 ≠ 0 := by decide

/-! ## Worked examples of the spec -/

/-- The router of Q3 with local coordinates (2, 4) is router 112 (the worked example of R28). -/
theorem test_router_number : routerNum 3 (4 * 6 + 2) = 112 := by decide
/-- BRG_STAT on both sides of B0 after the training with wire group 5 lost on Q1's side (the worked example of 15_multi_die.md). -/
theorem test_bridge_width_mismatch :
    (let t := nx (exec (.bridgeTrainingDone 0 true 0xFF 0xDF 0 0) (nx (exec .vinStart State.reset)))
     (t.regRead false 0xD000E00004).1 = 0xA0DFFFDF ∧ (t.regRead false 0xD010E00104).1 = 0xA0FFDFDF) := by decide
/-- The precoded bit stream of R329's example. -/
theorem test_precode : (pamEncode true [1, 1, 1, 0, 0, 0, 0, 1] 0).1 = [2, 1, 3, 2] := by decide
/-- The slewed switch of 10_time.md: RATE_1 = 0x1200, 300 ns ahead. -/
theorem test_slewed_switch :
    (let t := nx (exec (.domainSwitch 1) (put up [(domA 0 1, R.DOM_RATE.RATE, 0x1200), (domA 0 1, R.DOM_OFS.OFS, 300 * 65536)]))
     t.switching = true ∧ t.rateNow = 0x01001200) := by decide
/-- The weekend standby of 13_power.md: 193.28 mA at 50 °C or below, 228.07 mA at 68 °C. -/
theorem test_weekend_standby :
    (let l := (List.range 4).flatMap fun q => (List.range 6).map (fun k => (pwrA q, R.PWR_ISLRET.RET.shift (4 * k), 0x55555555)) ++
        (List.range 2).map (fun k => (pwrA q, R.PWR_BAYRET.RET.shift (4 * k), 0x55555555))
     let s := put (put up l) [(pwrA 0, R.PWR_ISLRET.RET, 0xAAAAAAAA), (pwrA 0, R.PWR_ISLRET.RET.shift 4, 0x5555AAAA), (pwrA 0, R.PWR_BAYRET.RET, 0x5555AAAA)]
     s.sbSum = 19328 ∧ (let t := s.wr (pwrA 2) R.THERM_STAT.TMAX 544
      t.sbShow.rd (pwrA 0) R.PWR_SBEST.EST = 22807 ∧ t.sbOver = false ∧ (t.wr (pwrA 2) R.THERM_STAT.TMAX 600).sbOver = true)) := by decide +kernel
/-- The access of 08_memory.md's example: one set over eight channels of ORG_B, PA 0x12_3456_78C0 lies on M7 at CA 0x2_468A_C8C0. -/
theorem test_interleave :
    (let l := (List.range 4).flatMap fun q => [(mapA q, R.MEM_TOP.TOP, 0x800), (mapA q, R.IL_CFG.EN, 1), (mapA q, R.IL_CFG.GRAIN, 4), (mapA q, R.IL_CFG.CHMASK, 0xFF),
        (mapA q, R.IL_SIZE.SIZE, 0x800), (mcA (2 * q), R.MC_CFG.ORG, 1), (mcA (2 * q + 1), R.MC_CFG.ORG, 1)]
     (put up l).decodeMem 0x12345678C0 = some (7, 0x2468AC8C0)) := by decide

end Sys2Proof.Tests
end

/-! # What every step keeps

`Keeps s₀ s` says that the way from `s₀` to `s` kept the canonical form of the four tables and the fuses. Each function of the model
that answers a state has one lemma, named after it, which carries `Keeps s₀` over from the state it is given to the state it answers;
each command `execX` has one lemma `execX_answers`. The proofs follow the shape of the definition: `.ite` for a choice, `.foldl` for
a loop, `.other` for an update of fields that are not tables, `.edit` for an update of a table. -/
namespace Sys2Proof.Machine
open Sys2Proof

/-- The parts of a state that `State.canonical` and the fuses speak of. -/
def State.tables (s : State) : List Host.Cell × Tab Nat × Tab Nat × Tab Nat × Fuses :=
  (s.mem, s.flds, s.rows, s.chk, s.fuses)

/-- From `s₀` to `s`, canonical tables stay canonical and the fuses stay as they were. -/
def Keeps (s₀ s : State) : Prop := (s₀.canonical → s.canonical) ∧ s.fuses = s₀.fuses

/-- The outcome is a next state, and that state keeps the tables of `s₀`. -/
def Answers (s₀ : State) (o : Host.Outcome State Fault Refusal) : Prop :=
  ∃ t, o = .next t ∧ Keeps s₀ t

section
/- A thousand short proofs, one after another: elaborated side by side, their threads' stacks exceed the memory limit of the check. -/
set_option Elab.async false
variable {α β γ : Type} {s₀ s t : State}

/-! ## The rules for the shapes of a definition -/

theorem Keeps.refl : Keeps s s := ⟨id, rfl⟩

/-- An update of other fields than the tables and the fuses. -/
theorem Keeps.other (h : Keeps s₀ s) (ht : t.tables = s.tables := by rfl) : Keeps s₀ t := by
  simp only [State.tables, Prod.mk.injEq] at ht
  obtain ⟨hm, hf, hr, hc, hu⟩ := ht
  simpa only [Keeps, State.canonical, hm, hf, hr, hc, hu] using h

/-- An update of tables, each of which keeps its canonical form. -/
theorem Keeps.edit (h : Keeps s₀ s) (hm : Tab.wf (fun _ => 0) s.mem = true → Tab.wf (fun _ => 0) t.mem = true := by exact id)
    (hf : Tab.wf regReset s.flds = true → Tab.wf regReset t.flds = true := by exact id)
    (hr : Tab.wf (fun _ => 0) s.rows = true → Tab.wf (fun _ => 0) t.rows = true := by exact id)
    (hc : Tab.wf (fun _ => 0) s.chk = true → Tab.wf (fun _ => 0) t.chk = true := by exact id)
    (hu : t.fuses = s.fuses := by rfl) : Keeps s₀ t := by
  refine ⟨fun h₀ => ?_, hu.trans h.2⟩
  obtain ⟨m, f, r, c⟩ := h.1 h₀
  exact ⟨hm m, hf f, hr r, hc c⟩

theorem Keeps.of_pair {r : α × State} {x : α} (h : Keeps s₀ r.2) (hr : r = (x, t)) : Keeps s₀ t := by
  subst hr
  exact h

theorem Tab.wf_foldl_put [DecidableEq α] {d : Nat → α} {u : Tab α} (l : List (Nat × α)) (h : Tab.wf d u = true) :
    Tab.wf d (l.foldl (fun u x => Tab.put d u x.1 x.2) u) = true := by
  induction l generalizing u with
  | nil => exact h
  | cons x l ih => exact ih (Tab.wf_put d x.1 x.2 h)

theorem Keeps.ite {c : Prop} {_ : Decidable c} (hs : Keeps s₀ s) (ht : Keeps s₀ t) :
    Keeps s₀ (if c then s else t) := by
  split <;> assumption

theorem Keeps.ite₂ {c : Prop} {_ : Decidable c} {x y : α × State} (hx : Keeps s₀ x.2) (hy : Keeps s₀ y.2) :
    Keeps s₀ (if c then x else y).2 := by
  split <;> assumption

theorem Keeps.ite₃ {c : Prop} {_ : Decidable c} {x y : α × β × State} (hx : Keeps s₀ x.2.2) (hy : Keeps s₀ y.2.2) :
    Keeps s₀ (if c then x else y).2.2 := by
  split <;> assumption

theorem Keeps.ite₄ {c : Prop} {_ : Decidable c} {x y : α × β × γ × State} (hx : Keeps s₀ x.2.2.2) (hy : Keeps s₀ y.2.2.2) :
    Keeps s₀ (if c then x else y).2.2.2 := by
  split <;> assumption

theorem Keeps.snd {a : α} (h : Keeps s₀ t) : Keeps s₀ (a, t).2 := h

theorem Keeps.snd₂ {a : α} {b : β} (h : Keeps s₀ t) : Keeps s₀ (a, b, t).2.2 := h

theorem Keeps.snd₃ {a : α} {b : β} {c : γ} (h : Keeps s₀ t) : Keeps s₀ (a, b, c, t).2.2.2 := h

theorem Keeps.foldl {f : State → α → State} {l : List α} (h : Keeps s₀ s) (hf : ∀ s x, Keeps s₀ s → Keeps s₀ (f s x)) :
    Keeps s₀ (l.foldl f s) := by
  induction l generalizing s with
  | nil => exact h
  | cons x l ih => exact ih (hf s x h)

theorem Keeps.withCells (h : Keeps s₀ s) {x : Tab (Option IslandCfg)} : Keeps s₀ { s with cells := x } := h.other

theorem Keeps.withFlight (h : Keeps s₀ s) {x : List Rsp} : Keeps s₀ { s with flight := x } := h.other

theorem Keeps.withImage (h : Keeps s₀ s) {x : Tab Nat} : Keeps s₀ { s with image := x } := h.other

theorem Keeps.withInvWait (h : Keeps s₀ s) {x : List (Nat × Nat × Nat)} : Keeps s₀ { s with invWait := x } := h.other

theorem Keeps.withJtag (h : Keeps s₀ s) {x : JtagSt} : Keeps s₀ { s with jtag := x } := h.other

theorem Keeps.withNextB (h : Keeps s₀ s) {x : Option (Int × Nat)} : Keeps s₀ { s with nextB := x } := h.other

theorem Keeps.withOutst (h : Keeps s₀ s) {x : List Outst} : Keeps s₀ { s with outst := x } := h.other

theorem Keeps.withPower (h : Keeps s₀ s) {x : PowerSt} : Keeps s₀ { s with power := x } := h.other

theorem Keeps.withSlink (h : Keeps s₀ s) {x : LinkSt} : Keeps s₀ { s with slink := x } := h.other

theorem Keeps.withUnlocks (h : Keeps s₀ s) {x : Nat} : Keeps s₀ { s with unlocks := x } := h.other

theorem Keeps.withUserObjs (h : Keeps s₀ s) {x : List UserObj} : Keeps s₀ { s with userObjs := x } := h.other

theorem Keeps.withXsig (h : Keeps s₀ s) {x : List Nat} : Keeps s₀ { s with xsig := x } := h.other

theorem Keeps.withOfsNowRateNow (h : Keeps s₀ s) {x y : Int} : Keeps s₀ { s with ofsNow := x, rateNow := y } := h.other

theorem Answers.next (h : Keeps s₀ t) : Answers s₀ (.next t) := ⟨t, rfl, h⟩

theorem Answers.outState {o : Host.Outcome State Fault Refusal} (h : Answers s₀ o) : Keeps s₀ (outState s o) := by
  obtain ⟨t, rfl, ht⟩ := h
  exact ht
end

/-! ## The functions and commands of the model -/

section
set_option Elab.async false
variable {s₀ s : State}

theorem Keeps.setBay (hs : Keeps s₀ s) {i : Nat} {v : BaySt} : Keeps s₀ (s.setBay i v) :=
  .other hs

theorem Keeps.setCtx (hs : Keeps s₀ s) {i : Nat} {v : CtxSt} : Keeps s₀ (s.setCtx i v) :=
  .other hs

theorem Keeps.setMover (hs : Keeps s₀ s) {i : Nat} {v : MoverSt} : Keeps s₀ (s.setMover i v) :=
  .other hs

theorem Keeps.setIsland (hs : Keeps s₀ s) {i : Nat} {v : IslandSt} : Keeps s₀ (s.setIsland i v) :=
  .other hs

theorem Keeps.setCfgOf (hs : Keeps s₀ s) {i : Nat} {v : Option IslandCfg} : Keeps s₀ (s.setCfgOf i v) :=
  .other hs

theorem Keeps.setChan (hs : Keeps s₀ s) {i : Nat} {v : Chan} : Keeps s₀ (s.setChan i v) :=
  .other hs

theorem Keeps.setNap (hs : Keeps s₀ s) {i : Nat} {v : NapSt} : Keeps s₀ (s.setNap i v) :=
  .other hs

theorem Keeps.setProbe (hs : Keeps s₀ s) {i : Nat} {v : ProbeSt} : Keeps s₀ (s.setProbe i v) :=
  .other hs

theorem Keeps.setXu (hs : Keeps s₀ s) {i : Nat} {v : XuSt} : Keeps s₀ (s.setXu i v) :=
  .other hs

theorem Keeps.setMc (hs : Keeps s₀ s) {i : Nat} {v : McSt} : Keeps s₀ (s.setMc i v) :=
  .other hs

theorem Keeps.setSgf (hs : Keeps s₀ s) {i : Nat} {v : Bool} : Keeps s₀ (s.setSgf i v) :=
  .other hs

theorem Keeps.setEvt (hs : Keeps s₀ s) {i : Nat} {v : EvtSt} : Keeps s₀ (s.setEvt i v) :=
  .other hs

theorem Keeps.setMbx (hs : Keeps s₀ s) {i : Nat} {v : MbxSt} : Keeps s₀ (s.setMbx i v) :=
  .other hs

theorem Keeps.setQReset (hs : Keeps s₀ s) {i : Nat} {v : Bool} : Keeps s₀ (s.setQReset i v) :=
  .other hs

theorem Keeps.setDeep (hs : Keeps s₀ s) {i : Nat} {v : DeepSt} : Keeps s₀ (s.setDeep i v) :=
  .other hs

theorem Keeps.setDbg (hs : Keeps s₀ s) {i : Nat} {v : DbgSt} : Keeps s₀ (s.setDbg i v) :=
  .other hs

theorem Keeps.setSink (hs : Keeps s₀ s) {i : Nat} {v : SinkSt} : Keeps s₀ (s.setSink i v) :=
  .other hs

theorem Keeps.setLane (hs : Keeps s₀ s) {i : Nat} {v : LaneSt} : Keeps s₀ (s.setLane i v) :=
  .other hs

theorem Keeps.setMac (hs : Keeps s₀ s) {i : Nat} {v : MacSt} : Keeps s₀ (s.setMac i v) :=
  .other hs

theorem Keeps.setCan (hs : Keeps s₀ s) {i : Nat} {v : CanSt} : Keeps s₀ (s.setCan i v) :=
  .other hs

theorem Keeps.setNoLref (hs : Keeps s₀ s) {i : Nat} {v : Bool} : Keeps s₀ (s.setNoLref i v) :=
  .other hs

theorem Keeps.setDom (hs : Keeps s₀ s) {i : Nat} {v : DomSt} : Keeps s₀ (s.setDom i v) :=
  .other hs

theorem Keeps.setHeld (hs : Keeps s₀ s) {i : Nat} {v : Option HeldTime} : Keeps s₀ (s.setHeld i v) :=
  .other hs

theorem Keeps.setDeadBrg (hs : Keeps s₀ s) {i : Nat} {v : Bool} : Keeps s₀ (s.setDeadBrg i v) :=
  .other hs

theorem Keeps.setBadFrames (hs : Keeps s₀ s) {i : Nat} {v : List Nat} : Keeps s₀ (s.setBadFrames i v) :=
  .other hs

theorem Keeps.setSess (hs : Keeps s₀ s) {i : Nat} {v : SessSt} : Keeps s₀ (s.setSess i v) :=
  .other hs

theorem Keeps.setPort (hs : Keeps s₀ s) {i : Nat} {v : PortSt} : Keeps s₀ (s.setPort i v) :=
  .other hs

theorem Keeps.setPfState (hs : Keeps s₀ s) {i : Nat} {v : PfSt} : Keeps s₀ (s.setPfState i v) :=
  .other hs

theorem Keeps.wr (hs : Keeps s₀ s) {a : Nat} {f : Fld} {v : Nat} : Keeps s₀ (s.wr a f v) := by
  unfold State.wr
  exact .edit hs (hf := by exact Tab.wf_put _ _ _)

theorem Keeps.bump (hs : Keeps s₀ s) {a : Nat} {f : Fld} {n : Nat} : Keeps s₀ (s.bump a f n) := by
  unfold State.bump
  exact hs.wr

theorem Keeps.emit (hs : Keeps s₀ s) {o : Output} : Keeps s₀ (s.emit o) :=
  .other hs

theorem Keeps.drawn (hs : Keeps s₀ s) : Keeps s₀ (s.drawn) :=
  .other hs

theorem Keeps.xtEvent (hs : Keeps s₀ s) {e : Nat} : Keeps s₀ (s.xtEvent e) :=
  .other hs

theorem Keeps.wakeNote (hs : Keeps s₀ s) {e : Nat} : Keeps s₀ (s.wakeNote e) := by
  unfold State.wakeNote
  exact .ite hs (.other hs)

theorem Keeps.leaveSleep (hs : Keeps s₀ s) {k : Nat} : Keeps s₀ (s.leaveSleep k) :=
  .other hs

theorem Keeps.raise (hs : Keeps s₀ s) {e : Nat} : Keeps s₀ (s.raise e) := by
  unfold State.raise
  exact .ite (.ite hs.xtEvent.wakeNote.bump.setEvt.wr hs.xtEvent.wakeNote.bump) hs

theorem Keeps.raiseN (hs : Keeps s₀ s) {e n : Nat} : Keeps s₀ (s.raiseN e n) := by
  unfold State.raiseN
  exact .ite hs (.ite hs.raise.bump hs.raise.bump.setEvt)

theorem Keeps.raiseIf (hs : Keeps s₀ s) {p : Bool} {e : Nat} : Keeps s₀ (s.raiseIf p e) := by
  unfold State.raiseIf
  exact .ite hs.raise hs

theorem Keeps.setFlag (hs : Keeps s₀ s) {a : Nat} {f : Fld} {e : Nat} : Keeps s₀ (s.setFlag a f e) := by
  unfold State.setFlag
  exact .ite hs hs.wr.raise

theorem Keeps.setBitFlag (hs : Keeps s₀ s) {a : Nat} {f : Fld} {k e : Nat} : Keeps s₀ (s.setBitFlag a f k e) := by
  unfold State.setBitFlag
  exact .ite hs hs.wr.raise

theorem Keeps.alert (hs : Keeps s₀ s) {b i : Nat} : Keeps s₀ (s.alert b i) := by
  unfold State.alert
  exact .ite hs hs.wr.raiseIf

theorem Keeps.setByte (hs : Keeps s₀ s) {a : Nat} {v : Byte} : Keeps s₀ (s.setByte a v) := by
  unfold State.setByte
  exact .edit hs (hm := by exact Tab.wf_put _ _ _)

theorem Keeps.setBytes (hs : Keeps s₀ s) {a n v : Nat} : Keeps s₀ (s.setBytes a n v) := by
  induction n generalizing s a v with
  | zero => exact hs
  | succ n ih => exact ih hs.setByte

theorem Keeps.setDiff (hs : Keeps s₀ s) {k v : Nat} : Keeps s₀ (s.setDiff k v) := by
  unfold State.setDiff
  exact .edit hs (hc := by exact Tab.wf_put _ _ _)

theorem Keeps.setRow (hs : Keeps s₀ s) {k v : Nat} : Keeps s₀ (s.setRow k v) := by
  unfold State.setRow
  exact .edit hs (hr := by exact Tab.wf_put _ _ _)

theorem Keeps.logEntry (hs : Keeps s₀ s) {a q w0 w1 : Nat} : Keeps s₀ (s.logEntry a q w0 w1) := by
  unfold State.logEntry
  exact .wr (.wr (.wr (.wr (.wr (.wr (.ite hs.setFlag hs))))))

theorem Keeps.storeError (hs : Keeps s₀ s) {q kind unit row : Nat} {ue write : Bool} {syn : Nat} :
    Keeps s₀ (s.storeError q kind unit row ue write syn) := by
  unfold State.storeError
  exact .logEntry (.ite hs.bump.raise (.ite hs.bump.setSgf.raise hs.bump))

theorem Keeps.sramWord (hs : Keeps s₀ s) {b w : Nat} {write : Bool} : Keeps s₀ (s.sramWord b w write).2 := by
  unfold State.sramWord
  exact .snd (.ite hs.storeError hs)

theorem Keeps.setSramWord (hs : Keeps s₀ s) {b w v : Nat} : Keeps s₀ (s.setSramWord b w v) := by
  unfold State.setSramWord
  exact hs.setBytes.setDiff

theorem Keeps.sramWords (hs : Keeps s₀ s) {b w n : Nat} : Keeps s₀ (s.sramWords b w n).2.2 := by
  induction n generalizing s w with
  | zero => exact hs
  | succ n ih => exact ih hs.sramWord

theorem Keeps.sramRead (hs : Keeps s₀ s) {b off n : Nat} : Keeps s₀ (s.sramRead b off n).2.2 := by
  unfold State.sramRead
  exact .snd₂ hs.sramWords

theorem Keeps.breakResv (hs : Keeps s₀ s) {b w : Nat} : Keeps s₀ (s.breakResv b w) := by
  unfold State.breakResv
  exact hs.foldl fun _ _ ht => .ite ht.setCtx ht

theorem Keeps.sramPut (hs : Keeps s₀ s) {b w be v : Nat} : Keeps s₀ (s.sramPut b w be v).2 := by
  unfold State.sramPut
  exact .ite₂ (.snd hs) (.ite₂ (.snd hs.setSramWord.breakResv) (.ite₂ (.snd hs.sramWord)
    (.snd hs.sramWord.setSramWord.breakResv)))

theorem Keeps.sramPuts (hs : Keeps s₀ s) {b w n be v : Nat} : Keeps s₀ (s.sramPuts b w n be v).2 := by
  induction n generalizing s w be v with
  | zero => exact hs
  | succ n ih => exact ih hs.sramPut

theorem Keeps.sramWrite (hs : Keeps s₀ s) {b off n be v : Nat} : Keeps s₀ (s.sramWrite b off n be v).2 := by
  unfold State.sramWrite
  exact hs.sramPuts

theorem Keeps.modDbg (hs : Keeps s₀ s) {b : Nat} {f : DbgSt → DbgSt} : Keeps s₀ (s.modDbg b f) := by
  unfold State.modDbg
  exact hs.setDbg

theorem Keeps.tracePkt (hs : Keeps s₀ s) {b kind size c port data : Nat} : Keeps s₀ (s.tracePkt b kind size c port data) := by
  unfold State.tracePkt
  exact .ite (.ite hs.bump.setDbg hs.setDbg) hs

theorem Keeps.traceState (hs : Keeps s₀ s) {b kind c port data : Nat} : Keeps s₀ (s.traceState b kind c port data) := by
  unfold State.traceState
  exact .ite hs.tracePkt hs

theorem Keeps.modBay (hs : Keeps s₀ s) {b : Nat} {f : BaySt → BaySt} : Keeps s₀ (s.modBay b f) := by
  unfold State.modBay
  exact hs.setBay

theorem Keeps.setPin (hs : Keeps s₀ s) {b k : Nat} {p : PinSt} : Keeps s₀ (s.setPin b k p) := by
  unfold State.setPin
  exact hs.modBay

theorem Keeps.setZone (hs : Keeps s₀ s) {b k : Nat} {hi val : Bool} : Keeps s₀ (s.setZone b k hi val) := by
  unfold State.setZone
  exact .ite hs.wr hs.wr

theorem Keeps.drivePins (hs : Keeps s₀ s) {b : Nat} : Keeps s₀ (s.drivePins b) := by
  unfold State.drivePins
  exact .ite hs (hs.foldl fun _ _ ht => ht.setPin)

theorem Keeps.stageRecord (hs : Keeps s₀ s) {b : Nat} {r : CapRecord} : Keeps s₀ (s.stageRecord b r) := by
  unfold State.stageRecord
  exact .ite hs (.ite hs.bump.modBay.alert hs.modBay)

theorem Keeps.record (hs : Keeps s₀ s) {b kind pin edge zone : Nat} {stamp : Int} {settle : Bool} {ovr glitch : Nat}
    {once : Bool} : Keeps s₀ (s.record b kind pin edge zone stamp settle ovr glitch once) := by
  unfold State.record
  exact hs.modBay.foldl fun _ _ ht => ht.stageRecord

theorem Keeps.pinRecord (hs : Keeps s₀ s) {b k kind edge : Nat} {stamp : Int} {settle : Bool} :
    Keeps s₀ (s.pinRecord b k kind edge stamp settle) := by
  unfold State.pinRecord
  exact hs.record.setPin

theorem Keeps.resyncPins (hs : Keeps s₀ s) {b : Nat} : Keeps s₀ (s.resyncPins b) := by
  unfold State.resyncPins
  exact hs.foldl fun _ _ ht => .ite ht ht.pinRecord

theorem Keeps.ruleBegins (hs : Keeps s₀ s) {b r : Nat} : Keeps s₀ (s.ruleBegins b r) := by
  unfold State.ruleBegins
  exact .ite (.alert (.ite hs.record hs)) (.ite hs.record hs)

theorem Keeps.evalRule (hs : Keeps s₀ s) {b : Nat} {frame : Bool} {r : Nat} : Keeps s₀ (s.evalRule b frame r) := by
  unfold State.evalRule
  exact .ite hs.wr.wr.modBay.ruleBegins hs.wr.wr.modBay

theorem Keeps.reflex (hs : Keeps s₀ s) {b : Nat} {frame : Bool} : Keeps s₀ (s.reflex b frame) := by
  unfold State.reflex
  exact .ite (.drivePins (.modBay (hs.foldl fun _ _ ht => ht.evalRule))) hs

theorem Keeps.stuckFollow (hs : Keeps s₀ s) {b k : Nat} : Keeps s₀ (s.stuckFollow b k) := by
  unfold State.stuckFollow
  exact .ite (.ite hs hs.setPin) hs.setPin

theorem Keeps.stuckRestart (hs : Keeps s₀ s) {b k : Nat} : Keeps s₀ (s.stuckRestart b k) := by
  unfold State.stuckRestart
  exact hs.setPin

theorem Keeps.accept (hs : Keeps s₀ s) {b k : Nat} {hi : Bool} {c : Cross} : Keeps s₀ (s.accept b k hi c) := by
  unfold State.accept
  exact .reflex (.stuckFollow (.ite hs.setZone.setPin.bump.alert (.ite hs.setZone.setPin.pinRecord hs.setZone.setPin)))

theorem execThresholdCrossing_answers (hs : Keeps s₀ s) {b k : Nat} {hi val : Bool} {frac : Nat} :
    Answers s₀ (execThresholdCrossing b k hi val frac s) := by
  unfold execThresholdCrossing
  refine .next (.ite ?_ (.ite hs.setPin hs))
  extract_lets _ _ _ pend
  clear_value pend
  split
  · exact .ite hs.accept.setPin hs.setPin.bump
  · exact hs.setPin

theorem execDeglitchAccept_answers (hs : Keeps s₀ s) {b k : Nat} {hi : Bool} : Answers s₀ (execDeglitchAccept b k hi s) := by
  unfold execDeglitchAccept
  refine .next (.ite ?_ hs)
  split
  · exact hs.accept
  · exact hs

theorem execDeadTimeEnd_answers (hs : Keeps s₀ s) {b k : Nat} {hi : Bool} : Answers s₀ (execDeadTimeEnd b k hi s) := by
  unfold execDeadTimeEnd
  refine .next (.ite ?_ hs)
  split
  · exact .ite hs.setPin hs.setPin.pinRecord
  · exact hs

theorem execCaptureRecordStore_answers (hs : Keeps s₀ s) {b : Nat} : Answers s₀ (execCaptureRecordStore b s) := by
  unfold execCaptureRecordStore
  refine .next ?_
  split
  · exact hs
  · exact .ite hs.modBay (.ite hs.modBay.bump.modBay.alert hs.modBay.sramWrite.modBay.wr)

theorem execStuckTimeout_answers (hs : Keeps s₀ s) {b k : Nat} : Answers s₀ (execStuckTimeout b k s) := by
  unfold execStuckTimeout
  exact .next (.ite hs.setPin.wr.pinRecord.alert hs)

theorem execStuckRearm_answers (hs : Keeps s₀ s) {b mask : Nat} : Answers s₀ (execStuckRearm b mask s) := by
  unfold execStuckRearm
  exact .next (.ite (hs.foldl fun _ _ ht => .ite ht.setPin.stuckRestart ht) hs)

theorem Keeps.regrid (hs : Keeps s₀ s) {b : Nat} : Keeps s₀ (s.regrid b) := by
  unfold State.regrid
  exact hs.modBay

theorem Keeps.closeBlocks (hs : Keeps s₀ s) {b : Nat} : Keeps s₀ (s.closeBlocks b) := by
  unfold State.closeBlocks
  exact hs.modBay

theorem Keeps.addSample (hs : Keeps s₀ s) {b : Nat} {t : Int} {code : BitVec 16} {clip : Bool} :
    Keeps s₀ (s.addSample b t code clip) := by
  unfold State.addSample
  exact .modBay (.ite hs.closeBlocks hs)

theorem execAdcSample_answers (hs : Keeps s₀ s) {b : Nat} {code : BitVec 16} {clip : Bool} :
    Answers s₀ (execAdcSample b code clip s) := by
  unfold execAdcSample
  exact .next (.ite (.reflex (.addSample (.ite hs.wr.wr.modBay.alert hs.wr.wr.modBay))) hs)

theorem execAdcBlockClose_answers (hs : Keeps s₀ s) {b : Nat} : Answers s₀ (execAdcBlockClose b s) := by
  unfold execAdcBlockClose
  exact .next (.ite hs.closeBlocks hs)

theorem execAdcBlockStore_answers (hs : Keeps s₀ s) {b : Nat} : Answers s₀ (execAdcBlockStore b s) := by
  unfold execAdcBlockStore
  refine .next ?_
  split
  · exact hs
  · exact .ite hs.modBay (.ite hs.modBay.bump.modBay.alert hs.modBay.sramWrite.modBay.wr)

theorem Keeps.adcCfgWrite (hs : Keeps s₀ s) {b : Nat} {en : Bool} {div : Nat} : Keeps s₀ (s.adcCfgWrite b en div) := by
  unfold State.adcCfgWrite
  refine .ite ?_ hs
  extract_lets _ _ s1
  have hs1 : Keeps s₀ s1 := .ite hs.closeBlocks hs
  exact .ite (.ite hs1.wr.wr.regrid hs1.wr.wr.modBay) (.ite hs1.wr.wr.regrid hs1.wr.wr)

theorem Keeps.pinOff (hs : Keeps s₀ s) {b k : Nat} : Keeps s₀ (s.pinOff b k) := by
  unfold State.pinOff
  exact hs.setZone.setZone.setPin

theorem Keeps.pinTakes (hs : Keeps s₀ s) {b k : Nat} : Keeps s₀ (s.pinTakes b k) := by
  unfold State.pinTakes
  exact hs.setZone.setZone

theorem Keeps.setMode (hs : Keeps s₀ s) {b k m : Nat} : Keeps s₀ (s.setMode b k m) := by
  unfold State.setMode
  exact .ite hs (.ite (.ite (.stuckFollow (.pinRecord (.pinTakes (.ite hs.wr.alert hs.wr)))) (.ite hs.wr.alert hs.wr))
    (.ite hs.wr.pinOff hs.wr))

theorem execPinModeWrite_answers (hs : Keeps s₀ s) {b k : Nat} {value : BitVec 32} :
    Answers s₀ (execPinModeWrite b k value s) := by
  unfold execPinModeWrite
  exact .next (.ite hs.wr.wr.setMode.reflex.drivePins hs)

theorem execPinThrWrite_answers (hs : Keeps s₀ s) {b k : Nat} {value : BitVec 32} : Answers s₀ (execPinThrWrite b k value s) := by
  unfold execPinThrWrite
  exact .next (.ite (.ite (.alert (.ite hs.wr.wr.wr.setPin hs.wr.wr.wr)) (.ite hs.wr.wr.wr.setPin hs.wr.wr.wr)) hs)

theorem execPinStkWrite_answers (hs : Keeps s₀ s) {b k : Nat} {value : BitVec 32} : Answers s₀ (execPinStkWrite b k value s) := by
  unfold execPinStkWrite
  exact .next (.ite hs.wr.wr.wr.stuckRestart hs)

theorem execPinNextWrite_answers (hs : Keeps s₀ s) {b : Nat} {value : BitVec 32} : Answers s₀ (execPinNextWrite b value s) := by
  unfold execPinNextWrite
  exact .next (.ite hs.wr.wr.wr hs)

theorem Keeps.enterOffline (hs : Keeps s₀ s) {b : Nat} : Keeps s₀ (s.enterOffline b) := by
  unfold State.enterOffline
  exact .drivePins (hs.closeBlocks.wr.modBay.foldl fun _ _ ht => ht.setPin)

theorem Keeps.enterOnline (hs : Keeps s₀ s) {b : Nat} : Keeps s₀ (s.enterOnline b) := by
  unfold State.enterOnline
  exact .reflex (.foldl (.resyncPins (.drivePins (hs.wr.modBay.regrid.wr.foldl fun _ _ ht => .ite ht ht.pinTakes)))
    fun _ _ ht => ht.stuckRestart)

theorem Keeps.loadImage (hs : Keeps s₀ s) {p : Nat → Bool} : Keeps s₀ (s.loadImage p) := by
  unfold State.loadImage
  exact hs.foldl fun _ _ ht => .ite (.edit ht (hf := by exact Tab.wf_put _ _ _)) ht

theorem Keeps.loseShadow (hs : Keeps s₀ s) {b : Nat} : Keeps s₀ (s.loseShadow b) :=
  .other hs

theorem Keeps.clearBay (hs : Keeps s₀ s) {b : Nat} : Keeps s₀ (s.clearBay b) := by
  unfold State.clearBay
  exact .wr (.wr (.setDbg (.setMbx (.setBay (.edit hs (hf := by exact Tab.wf_drop _ _))))))

theorem Keeps.startBayReset (hs : Keeps s₀ s) {b : Nat} : Keeps s₀ (s.startBayReset b) := by
  unfold State.startBayReset
  exact hs.leaveSleep.clearBay.wr.drivePins

theorem Keeps.startContexts (hs : Keeps s₀ s) {b : Nat} : Keeps s₀ (s.startContexts b) := by
  unfold State.startContexts
  exact hs.foldl fun _ _ ht => ht.wr

theorem Keeps.holdReset (hs : Keeps s₀ s) {b : Nat} : Keeps s₀ (s.holdReset b) := by
  unfold State.holdReset
  exact .ite (.traceState (.raise (.wr (.wr (hs.foldl fun _ _ ht => .ite ht ht.setCtx.wr))))) hs

theorem Keeps.enterRun (hs : Keeps s₀ s) {b : Nat} : Keeps s₀ (s.enterRun b) := by
  unfold State.enterRun
  extract_lets _ _ _ s4
  have hs4 : Keeps s₀ s4 := .foldl (hs.wr.modBay.holdReset.foldl fun _ _ ht => .ite ht ht.pinTakes) fun _ _ ht => ht.stuckRestart
  exact .reflex (.drivePins (.ite (.alert (.ite hs4.wr hs4)) (.ite hs4.wr hs4)))

theorem execBayReset_answers (hs : Keeps s₀ s) {b : Nat} : Answers s₀ (execBayReset b s) := by
  unfold execBayReset
  refine .next (.ite ?_ hs)
  split
  · exact hs.wr
  · exact hs
  · exact hs.startBayReset

theorem execBayResetDone_answers (hs : Keeps s₀ s) {b : Nat} : Answers s₀ (execBayResetDone b s) := by
  unfold execBayResetDone
  exact .next (.ite hs.loadImage.startContexts.enterRun hs)

theorem execBayOffline_answers (hs : Keeps s₀ s) {b : Nat} : Answers s₀ (execBayOffline b s) := by
  unfold execBayOffline
  refine .next (.ite ?_ hs)
  split
  · exact hs.enterOffline
  · exact hs
  · exact hs.wr

theorem execBayOnline_answers (hs : Keeps s₀ s) {b : Nat} : Answers s₀ (execBayOnline b s) := by
  unfold execBayOnline
  exact .next (.ite (.ite hs.enterOnline hs.wr) hs)

theorem Keeps.wdogExpire (hs : Keeps s₀ s) {b : Nat} : Keeps s₀ (s.wdogExpire b) := by
  unfold State.wdogExpire
  extract_lets
  split
  · exact hs.wr.raise.wr
  · exact hs.wr.raise.wr.enterOffline
  · exact hs.wr.raise.startBayReset

theorem execWdogKick_answers (hs : Keeps s₀ s) {b : Nat} {value : BitVec 32} : Answers s₀ (execWdogKick b value s) := by
  unfold execWdogKick
  exact .next (.ite (.ite hs.wr (.ite hs.wr.wdogExpire hs.wr)) hs)

theorem execWdogExpiry_answers (hs : Keeps s₀ s) {b : Nat} : Answers s₀ (execWdogExpiry b s) := by
  unfold execWdogExpiry
  exact .next (.ite hs.wdogExpire hs)

theorem Keeps.wdogCfgWrite (hs : Keeps s₀ s) {b action : Nat} {en : Bool} {timeout : Nat} :
    Keeps s₀ (s.wdogCfgWrite b action en timeout) := by
  unfold State.wdogCfgWrite
  exact .ite (.wr (.wr (.wr (.ite hs hs.wr)))) (.wr (.wr (.ite hs hs.wr)))

theorem Keeps.bayField (hs : Keeps s₀ s) {b base : Nat} {f : Fld} {v : Nat} : Keeps s₀ (s.bayField b base f v) := by
  unfold State.bayField
  exact .ite (.ite (.ite (execBayReset_answers hs).outState (.ite (execBayOnline_answers hs).outState
    (.ite (execBayOffline_answers hs).outState hs))) (.ite hs.adcCfgWrite (.ite hs.adcCfgWrite (.ite hs.wdogCfgWrite hs.wr))))
    (.ite (.ite hs.setMode (.ite (.ite (.alert (.wr (.ite hs hs.setPin))) (.wr (.ite hs hs.setPin)))
    (.ite hs.wr.stuckRestart hs.wr))) hs.wr)

theorem Keeps.applyShadow (hs : Keeps s₀ s) {b n : Nat} : Keeps s₀ (s.applyShadow b n) := by
  unfold State.applyShadow
  exact .ite (.other hs) (.ite (.drivePins (.reflex (.foldl (.other hs) fun _ _ ht => ht.bayField))) (.other hs))

theorem execBayFrameBoundary_answers (hs : Keeps s₀ s) {b : Nat} : Answers s₀ (execBayFrameBoundary b s) := by
  unfold execBayFrameBoundary
  refine .next ?_
  split
  · exact hs
  · exact .ite (.ite hs.wr.modBay
      (.raiseIf (.reflex
      (.reflex (.drivePins (.applyShadow (.ite hs.wr.modBay.modBay.record.wr.wr.wr hs.wr.modBay.modBay.record)))))))
      (.ite hs.applyShadow hs)

theorem execVccioLoss_answers (hs : Keeps s₀ s) {bank : Nat} : Answers s₀ (execVccioLoss bank s) := by
  unfold execVccioLoss
  exact .next (.ite (.ite (hs.wr.wr.foldl fun _ _ ht => .reflex (.drivePins (ht.foldl fun _ _ ht => ht.pinOff))) hs.wr.wr) hs)

theorem execVccioRestore_answers (hs : Keeps s₀ s) {bank zones : Nat} : Answers s₀ (execVccioRestore bank zones s) := by
  unfold execVccioRestore
  exact .next (.ite (.ite (hs.wr.foldl fun _ _ ht => .ite
    (.reflex (.foldl (.resyncPins (.drivePins (.foldl (ht.foldl fun _ _ ht => ht.setPin) fun _ _ ht => .ite ht ht.pinTakes)))
    fun _ _ ht => ht.stuckRestart)) (ht.foldl fun _ _ ht => ht.setPin)) hs.wr) hs)

theorem Keeps.genUpdate (hs : Keeps s₀ s) {g : Nat} : Keeps s₀ (s.genUpdate g) := by
  unfold State.genUpdate
  exact hs.wr.wr.wr.raiseIf

theorem execIslClkWrite_answers (hs : Keeps s₀ s) {gen : Nat} {value : BitVec 32} : Answers s₀ (execIslClkWrite gen value s) := by
  unfold execIslClkWrite
  exact .next (.ite hs.wr.wr.wr.wr.genUpdate hs)

theorem execDividerRampStep_answers (hs : Keeps s₀ s) {gen : Nat} : Answers s₀ (execDividerRampStep gen s) := by
  unfold execDividerRampStep
  exact .next (.ite (.ite hs.wr.genUpdate (.ite hs.wr.genUpdate (.ite hs.wr.genUpdate hs))) hs)

theorem execLevelVoltageDone_answers (hs : Keeps s₀ s) {gen : Nat} : Answers s₀ (execLevelVoltageDone gen s) := by
  unfold execLevelVoltageDone
  exact .next (.ite hs.wr.genUpdate hs)

theorem Keeps.lost (hs : Keeps s₀ s) {i e n : Nat} : Keeps s₀ (s.lost i e n) := by
  unfold State.lost
  exact .ite hs hs.bump.raiseIf

theorem Keeps.deepRead (hs : Keeps s₀ s) {d a : Nat} : Keeps s₀ (s.deepRead d a).2 := by
  unfold State.deepRead
  exact .ite₂ (.snd hs) (.snd (.ite hs.storeError hs))

theorem Keeps.deepWrite (hs : Keeps s₀ s) {d a be v : Nat} : Keeps s₀ (s.deepWrite d a be v) := by
  unfold State.deepWrite
  exact .ite hs (.ite hs.setRow.setDiff (.ite (.ite hs.storeError hs) (.setDiff (.setRow (.ite hs.storeError hs)))))

theorem Keeps.takeWord (hs : Keeps s₀ s) {id : Nat} : Keeps s₀ (s.takeWord id).2 := by
  unfold State.takeWord
  split
  · exact .snd hs
  · exact .snd hs.setChan

theorem Keeps.deepReads (hs : Keeps s₀ s) {d : Nat} {b : Bool} {a n : Nat} : Keeps s₀ (s.deepReads d b a n) := by
  induction n generalizing s a with
  | zero => exact hs
  | succ n ih => exact ih hs.deepRead.setChan

theorem Keeps.deepWrites (hs : Keeps s₀ s) {d : Nat} {b : Bool} {a n : Nat} : Keeps s₀ (s.deepWrites d b a n) := by
  induction n generalizing s a with
  | zero => exact hs
  | succ n ih => exact ih hs.takeWord.deepWrite

theorem Keeps.deepTake (hs : Keeps s₀ s) {d : Nat} {b : Bool} : Keeps s₀ (s.deepTake d b) := by
  unfold State.deepTake
  extract_lets
  split
  · exact hs
  · exact .ite hs.setChan.deepWrites hs.setChan.deepReads

theorem Keeps.deepCommand (hs : Keeps s₀ s) {d : Nat} {b : Bool} {op : Nat} : Keeps s₀ (s.deepCommand d b op) := by
  unfold State.deepCommand
  split
  · exact hs
  · exact .ite hs.deepTake hs

theorem execDeepStoreRead_answers (hs : Keeps s₀ s) {d : Nat} {b : Bool} : Answers s₀ (execDeepStoreRead d b s) := by
  unfold execDeepStoreRead
  exact .next hs.deepCommand

theorem execDeepStoreRead4_answers (hs : Keeps s₀ s) {d : Nat} {b : Bool} : Answers s₀ (execDeepStoreRead4 d b s) := by
  unfold execDeepStoreRead4
  exact .next hs.deepCommand

theorem execDeepStoreWrite_answers (hs : Keeps s₀ s) {d : Nat} {b : Bool} : Answers s₀ (execDeepStoreWrite d b s) := by
  unfold execDeepStoreWrite
  exact .next hs.deepCommand

theorem execDeepStoreWrite4_answers (hs : Keeps s₀ s) {d : Nat} {b : Bool} : Answers s₀ (execDeepStoreWrite4 d b s) := by
  unfold execDeepStoreWrite4
  exact .next hs.deepCommand

theorem Keeps.deepDrain (hs : Keeps s₀ s) {d : Nat} {b : Bool} {n : Nat} : Keeps s₀ (s.deepDrain d b n) := by
  induction n generalizing s with
  | zero => exact hs
  | succ n ih =>
    unfold State.deepDrain
    split
    · exact hs
    · exact .ite (ih hs.deepTake) hs

theorem Keeps.napError (hs : Keeps s₀ s) {n : Nat} : Keeps s₀ (s.napError n) :=
  .other hs

theorem Keeps.clearSink (hs : Keeps s₀ s) {i e c : Nat} : Keeps s₀ (s.clearSink i e c) := by
  unfold State.clearSink
  exact hs.setChan.lost

theorem Keeps.clearDeepPort (hs : Keeps s₀ s) {i e : Nat} : Keeps s₀ (s.clearDeepPort i e) := by
  unfold State.clearDeepPort
  split
  · exact hs
  · exact .ite hs.deepDrain.setChan.setChan.setChan.lost hs.clearSink

theorem Keeps.clearEdges (hs : Keeps s₀ s) {i : Nat} : Keeps s₀ (s.clearEdges i) := by
  unfold State.clearEdges
  extract_lets _ s2
  have hs2 : Keeps s₀ s2 := by
    unfold s2
    split
    · exact hs.clearDeepPort.clearDeepPort
    · exact hs.clearDeepPort.clearDeepPort.foldl fun _ _ ht => .ite ht ht.clearSink
  split
  · exact hs2
  · exact hs2.napError

theorem Keeps.syncLines (hs : Keeps s₀ s) {i : Nat} : Keeps s₀ (s.syncLines i) := by
  unfold State.syncLines
  exact .ite (.ite hs hs.modBay.drivePins.reflex) hs

theorem Keeps.checkDirs (hs : Keeps s₀ s) {i : Nat} : Keeps s₀ (s.checkDirs i) := by
  unfold State.checkDirs
  split
  · exact hs
  · refine hs.foldl fun _ _ ht => ?_
    split
    · exact ht
    · exact .ite ht.setFlag.setFlag ht

theorem Keeps.setIslState (hs : Keeps s₀ s) {i st : Nat} : Keeps s₀ (s.setIslState i st) := by
  unfold State.setIslState
  exact .ite hs.wr.syncLines.checkDirs hs.wr.syncLines

theorem Keeps.initFlops (hs : Keeps s₀ s) {i : Nat} : Keeps s₀ (s.initFlops i) := by
  unfold State.initFlops
  extract_lets
  split
  · exact hs.setIsland
  · exact hs.setIsland

theorem Keeps.fence (hs : Keeps s₀ s) {i : Nat} : Keeps s₀ (s.fence i) := by
  unfold State.fence
  exact .ite hs.setIslState hs.setIslState

theorem execIslandFence_answers (hs : Keeps s₀ s) {i : Nat} : Answers s₀ (execIslandFence i s) := by
  unfold execIslandFence
  refine .next (.ite ?_ hs)
  split
  · exact hs.fence
  · exact hs.fence
  · exact hs.setIsland
  · exact hs

theorem execIslandFenceDrained_answers (hs : Keeps s₀ s) {i : Nat} : Answers s₀ (execIslandFenceDrained i s) := by
  unfold execIslandFenceDrained
  exact .next (.ite hs.setIslState hs)

theorem Keeps.fenceTimeout (hs : Keeps s₀ s) {i : Nat} : Keeps s₀ (s.fenceTimeout i) := by
  unfold State.fenceTimeout
  exact hs.setIslState.setFlag

theorem execIslandUnfence_answers (hs : Keeps s₀ s) {i : Nat} : Answers s₀ (execIslandUnfence i s) := by
  unfold execIslandUnfence
  refine .next (.ite ?_ hs)
  split
  · exact hs.setIslState
  · exact hs.setIslState
  · exact hs.setIsland
  · exact hs

theorem Keeps.startIslandReset (hs : Keeps s₀ s) {i : Nat} : Keeps s₀ (s.startIslandReset i) := by
  unfold State.startIslandReset
  exact .initFlops (.clearEdges (.setIsland (.setIslState (.leaveSleep (.ite hs.wr.raise hs)))))

theorem execIslandReset_answers (hs : Keeps s₀ s) {i : Nat} : Answers s₀ (execIslandReset i s) := by
  unfold execIslandReset
  exact .next (.ite hs.startIslandReset hs)

theorem execIslandResetDone_answers (hs : Keeps s₀ s) {i : Nat} : Answers s₀ (execIslandResetDone i s) := by
  unfold execIslandResetDone
  refine .next (.ite ?_ hs)
  split
  · exact hs.setIslState
  · exact hs.setIslState

theorem execBistStart_answers (hs : Keeps s₀ s) {i : Nat} : Answers s₀ (execBistStart i s) := by
  unfold execBistStart
  refine .next (.ite ?_ hs)
  split
  · exact hs.setIslState.clearEdges.initFlops.wr
  · exact hs
  · exact hs
  · exact hs.wr

theorem Keeps.zeroStores (hs : Keeps s₀ s) {i : Nat} : Keeps s₀ (s.zeroStores i) := by
  unfold State.zeroStores
  exact .edit hs (hr := by exact Tab.wf_drop _ _) (hc := by exact Tab.wf_drop _ _)

theorem execBistDone_answers (hs : Keeps s₀ s) {i result unit : Nat} : Answers s₀ (execBistDone i result unit s) := by
  unfold execBistDone
  exact .next (.ite (.raise (.setIslState (.initFlops (.zeroStores (.ite hs.wr hs.wr.wr))))) hs)

theorem Keeps.broadcast (hs : Keeps s₀ s) {code mask : Nat} : Keeps s₀ (s.broadcast code mask) := by
  unfold State.broadcast
  exact hs.wr.wr.emit

theorem Keeps.captureIsland (hs : Keeps s₀ s) {i : Nat} : Keeps s₀ (s.captureIsland i) := by
  unfold State.captureIsland
  exact .ite hs.setIsland.wr hs.wr

theorem Keeps.captureBay (hs : Keeps s₀ s) {b : Nat} : Keeps s₀ (s.captureBay b) := by
  unfold State.captureBay
  exact .ite hs.wr.wr.wr.wr.wr.wr.wr.wr hs.wr

theorem Keeps.capture (hs : Keeps s₀ s) : Keeps s₀ (s.capture) := by
  unfold State.capture
  exact .raise (.foldl (.foldl (hs.broadcast.foldl fun _ _ ht => ht.wr) fun _ _ ht => ht.foldl fun _ _ ht => ht.captureIsland)
    fun _ _ ht => ht.foldl fun _ _ ht => ht.captureBay)

theorem execBcastCapture_answers (hs : Keeps s₀ s) : Answers s₀ (execBcastCapture s) := by
  unfold execBcastCapture
  exact .next hs.capture

theorem Keeps.stopGroups (hs : Keeps s₀ s) {mask : Nat} : Keeps s₀ (s.stopGroups mask) := by
  unfold State.stopGroups
  exact hs.broadcast.foldl fun _ _ ht => .ite ht.setIslState ht

theorem execBcastStop_answers (hs : Keeps s₀ s) {mask : Nat} : Answers s₀ (execBcastStop mask s) := by
  unfold execBcastStop
  exact .next hs.stopGroups

theorem Keeps.goGroups (hs : Keeps s₀ s) {mask : Nat} : Keeps s₀ (s.goGroups mask) := by
  unfold State.goGroups
  exact hs.broadcast.foldl fun _ _ ht => .ite ht.leaveSleep.setIslState ht

theorem execBcastGo_answers (hs : Keeps s₀ s) {mask : Nat} : Answers s₀ (execBcastGo mask s) := by
  unfold execBcastGo
  exact .next hs.goGroups

theorem Keeps.setMcState (hs : Keeps s₀ s) {ch st : Nat} : Keeps s₀ (s.setMcState ch st) := by
  unfold State.setMcState
  exact hs.wr

theorem Keeps.mcIgn (hs : Keeps s₀ s) {ch : Nat} : Keeps s₀ (s.mcIgn ch) := by
  unfold State.mcIgn
  exact hs.wr

theorem Keeps.modMc (hs : Keeps s₀ s) {ch : Nat} {f : McSt → McSt} : Keeps s₀ (s.modMc ch f) := by
  unfold State.modMc
  exact hs.setMc

theorem Keeps.rowDisturb (hs : Keeps s₀ s) {ch bank row : Nat} {who : Who} : Keeps s₀ (s.rowDisturb ch bank row who) := by
  unfold State.rowDisturb
  exact .ite hs.emit.modMc.wr.wr.wr.wr.wr.wr.wr.bump.raise hs.emit.modMc.wr.wr.wr.wr.wr.wr.wr.bump.raise.emit

theorem Keeps.openFor (hs : Keeps s₀ s) {ch ca : Nat} {who : Who} : Keeps s₀ (s.openFor ch ca who) := by
  unfold State.openFor
  exact .ite hs (.ite hs.modMc.rowDisturb hs.modMc)

theorem Keeps.putLine (hs : Keeps s₀ s) {ch line data d : Nat} : Keeps s₀ (s.putLine ch line data d) := by
  unfold State.putLine
  exact .ite hs.setBytes.setDiff.modMc hs.setBytes.setDiff

theorem Keeps.memError (hs : Keeps s₀ s) {ch line : Nat} {who : Who} {r : LineEcc} : Keeps s₀ (s.memError ch line who r) := by
  unfold State.memError
  exact .logEntry (.ite hs.bump.raise (.ite hs.bump.modMc.raise hs.bump))

theorem Keeps.lineRead (hs : Keeps s₀ s) {ch line : Nat} {who : Who} : Keeps s₀ (s.lineRead ch line who).2 := by
  unfold State.lineRead
  exact .ite₂ (.ite₂ (.snd hs.openFor.drawn.memError) (.snd hs.openFor.drawn.putLine))
    (.snd (.ite hs.openFor.memError hs.openFor))

theorem Keeps.mcWake (hs : Keeps s₀ s) {ch : Nat} : Keeps s₀ (s.mcWake ch) := by
  unfold State.mcWake
  exact .ite hs.setMcState hs

theorem Keeps.memLine (hs : Keeps s₀ s) {ch line : Nat} {who : Who} : Keeps s₀ (s.memLine ch line who).2.2 := by
  unfold State.memLine
  exact .ite₃ (.ite₃ (.snd₂ hs.mcWake.lineRead) (.snd₂ (.ite hs.mcWake.lineRead.putLine hs.mcWake.lineRead))) (.snd₂ hs)

theorem Keeps.memPut (hs : Keeps s₀ s) {ch line be data : Nat} {who : Who} : Keeps s₀ (s.memPut ch line be data who).2 := by
  unfold State.memPut
  exact .ite₂ (.ite₂ (.snd hs.mcWake.openFor.putLine) (.ite₂ (.snd hs.mcWake.lineRead) (.snd hs.mcWake.lineRead.putLine)))
    (.snd hs)

/-- The definition is unfolded as a function, under an arbitrary predicate: comparing its application with its body, the kernel would
evaluate `decodeMem`, and unroll the products by `2 ^ 28` in it. The same holds for the four other definitions unfolded in this way. -/
theorem Keeps.memRead (hs : Keeps s₀ s) {pa n : Nat} {who : Who} : Keeps s₀ (s.memRead pa n who).2.2 := by
  suffices h : ∀ P : Nat × Nat × State → Prop, (∀ r, Keeps s₀ r.2.2 → P r) → ∀ f, f = @State.memRead →
      P (f s pa n who) from h _ (fun _ => id) _ rfl
  intro P hP f hf
  delta State.memRead at hf
  subst hf
  beta_reduce
  split
  · exact hP _ hs
  · exact hP _ hs.memLine

theorem Keeps.memWrite (hs : Keeps s₀ s) {pa n be v : Nat} {who : Who} : Keeps s₀ (s.memWrite pa n be v who).2 := by
  suffices h : ∀ P : Nat × State → Prop, (∀ r, Keeps s₀ r.2 → P r) → ∀ f, f = @State.memWrite →
      P (f s pa n be v who) from h _ (fun _ => id) _ rfl
  intro P hP f hf
  delta State.memWrite at hf
  subst hf
  beta_reduce
  split
  · exact hP _ hs
  · exact hP _ hs.memPut

theorem Keeps.dropContents (hs : Keeps s₀ s) {ch : Nat} {undef : Bool} : Keeps s₀ (s.dropContents ch undef) := by
  unfold State.dropContents
  exact .modMc (.edit hs (hm := by exact Tab.wf_drop _ _) (hc := by exact Tab.wf_drop _ _))

theorem execMcCfgWrite_answers (hs : Keeps s₀ s) {ch : Nat} {value : BitVec 32} : Answers s₀ (execMcCfgWrite ch value s) := by
  unfold execMcCfgWrite
  exact .next (.ite (.ite (.ite (.ite hs.wr.wr.wr.wr hs.wr.wr.wr.wr.wr) (.wr (.ite hs.wr.wr.wr.wr hs.wr.wr.wr.wr.wr))) hs.mcIgn)
    hs)

theorem Keeps.mcInit (hs : Keeps s₀ s) {ch : Nat} {byLoad : Bool} : Keeps s₀ (s.mcInit ch byLoad) := by
  unfold State.mcInit
  exact .ite hs.setMcState.modMc hs.mcIgn

theorem execMcInit_answers (hs : Keeps s₀ s) {ch : Nat} : Answers s₀ (execMcInit ch s) := by
  unfold execMcInit
  exact .next (.ite hs.mcInit hs)

theorem Keeps.mcFail (hs : Keeps s₀ s) {ch : Nat} : Keeps s₀ (s.mcFail ch) := by
  unfold State.mcFail
  exact .ite hs.setMcState.wr hs.setMcState

theorem execMcTrainingDone_answers (hs : Keeps s₀ s) {ch : Nat} {ok : Bool} : Answers s₀ (execMcTrainingDone ch ok s) := by
  unfold execMcTrainingDone
  exact .next (.ite (.ite (.ite hs.setMcState hs.dropContents.setMcState) hs.setFlag.mcFail) hs)

theorem execMcFill_answers (hs : Keeps s₀ s) {ch : Nat} : Answers s₀ (execMcFill ch s) := by
  unfold execMcFill
  exact .next (.ite (.ite hs.setMcState hs.mcIgn) hs)

theorem execMcFillDone_answers (hs : Keeps s₀ s) {ch : Nat} : Answers s₀ (execMcFillDone ch s) := by
  unfold execMcFillDone
  exact .next (.ite hs.dropContents.setMcState.setFlag hs)

theorem execMcOffline_answers (hs : Keeps s₀ s) {ch : Nat} : Answers s₀ (execMcOffline ch s) := by
  unfold execMcOffline
  exact .next (.ite (.ite hs.modMc hs.mcIgn) hs)

theorem execMcOfflineDone_answers (hs : Keeps s₀ s) {ch : Nat} : Answers s₀ (execMcOfflineDone ch s) := by
  unfold execMcOfflineDone
  exact .next (.ite hs.setMcState.modMc hs)

theorem execMcOnline_answers (hs : Keeps s₀ s) {ch : Nat} : Answers s₀ (execMcOnline ch s) := by
  unfold execMcOnline
  exact .next (.ite (.ite hs.setMcState hs.mcIgn) hs)

theorem execVddqLoss_answers (hs : Keeps s₀ s) {ch : Nat} : Answers s₀ (execVddqLoss ch s) := by
  unfold execVddqLoss
  exact .next (.ite hs.dropContents.modMc.mcFail hs)

theorem Keeps.mapWrite (hs : Keeps s₀ s) {f : Fld} {v : Nat} : Keeps s₀ (s.mapWrite f v) := by
  unfold State.mapWrite
  exact hs.foldl fun _ _ ht => ht.wr

theorem Keeps.ilCfgWrite (hs : Keeps s₀ s) {q i v : Nat} : Keeps s₀ (s.ilCfgWrite q i v) := by
  unfold State.ilCfgWrite
  exact .ite (.ite hs.mapWrite hs) (.ite (.ite hs.mapWrite.mapWrite.mapWrite hs.mapWrite.mapWrite.wr) hs.mapWrite.mapWrite)

theorem execInterleaveEnable_answers (hs : Keeps s₀ s) {q set : Nat} {value : BitVec 32} :
    Answers s₀ (execInterleaveEnable q set value s) := by
  unfold execInterleaveEnable
  exact .next (.ite hs.ilCfgWrite hs)

theorem Keeps.refreshes (hs : Keeps s₀ s) {ch bank n : Nat} : Keeps s₀ (s.refreshes ch bank n) := by
  induction n generalizing s with
  | zero => exact hs
  | succ n ih => exact ih hs.emit.modMc

theorem execRefreshDue_answers (hs : Keeps s₀ s) {ch bank : Nat} {busy : Bool} : Answers s₀ (execRefreshDue ch bank busy s) := by
  unfold execRefreshDue
  exact .next (.ite (.ite (.ite hs.modMc hs.refreshes) hs.modMc.refreshes) hs)

theorem execRefreshRatePoll_answers (hs : Keeps s₀ s) {ch : Nat} {hot0 hot1 : Bool} :
    Answers s₀ (execRefreshRatePoll ch hot0 hot1 s) := by
  unfold execRefreshRatePoll
  exact .next (.ite hs.modMc hs)

theorem execSelfRefreshEntry_answers (hs : Keeps s₀ s) {ch : Nat} : Answers s₀ (execSelfRefreshEntry ch s) := by
  unfold execSelfRefreshEntry
  exact .next (.ite hs.setMcState.modMc hs)

theorem execSelfRefreshExit_answers (hs : Keeps s₀ s) {ch : Nat} : Answers s₀ (execSelfRefreshExit ch s) := by
  unfold execSelfRefreshExit
  exact .next (.ite hs.mcWake hs)

theorem execTrackerClear_answers (hs : Keeps s₀ s) {ch : Nat} : Answers s₀ (execTrackerClear ch s) := by
  unfold execTrackerClear
  exact .next (.ite hs.modMc hs)

theorem Keeps.scrubAdvance (hs : Keeps s₀ s) {ch : Nat} : Keeps s₀ (s.scrubAdvance ch) := by
  unfold State.scrubAdvance
  exact .ite hs.wr.wr.setFlag hs.wr

theorem execScrubRead_answers (hs : Keeps s₀ s) {ch : Nat} : Answers s₀ (execScrubRead ch s) := by
  unfold execScrubRead
  exact .next (.ite (.ite hs.scrubAdvance (.scrubAdvance (.ite hs.lineRead.putLine hs.lineRead))) hs)

theorem Keeps.scrubCtlWrite (hs : Keeps s₀ s) {ch : Nat} {en : Bool} {period : Nat} :
    Keeps s₀ (s.scrubCtlWrite ch en period) := by
  unfold State.scrubCtlWrite
  exact hs.wr.wr.modMc.wr

theorem execScrubParityMismatch_answers (hs : Keeps s₀ s) {ch : Nat} : Answers s₀ (execScrubParityMismatch ch s) := by
  unfold execScrubParityMismatch
  exact .next (.ite hs.modMc.wr.setFlag hs)

theorem execScrubRestart_answers (hs : Keeps s₀ s) {ch : Nat} : Answers s₀ (execScrubRestart ch s) := by
  unfold execScrubRestart
  exact .next (.ite (.ite hs.modMc.wr (.ite hs.mcIgn hs)) hs)

theorem execLogClear_answers (hs : Keeps s₀ s) {q log : Nat} : Answers s₀ (execLogClear q log s) := by
  unfold execLogClear
  exact .next (.ite hs.wr.wr hs)

theorem execEccTestWrite_answers (hs : Keeps s₀ s) {ch : Nat} : Answers s₀ (execEccTestWrite ch s) := by
  unfold execEccTestWrite
  exact .next (.ite hs.mcWake.openFor.putLine.wr hs)

theorem execEccTestRead_answers (hs : Keeps s₀ s) {ch : Nat} : Answers s₀ (execEccTestRead ch s) := by
  unfold execEccTestRead
  exact .next (.ite (.wr (.foldl (.ite hs.mcWake.openFor.putLine.drawn.drawn hs.mcWake.openFor) fun _ _ ht => ht.wr)) hs)

theorem execEccTestDone_answers (hs : Keeps s₀ s) {ch : Nat} : Answers s₀ (execEccTestDone ch s) := by
  unfold execEccTestDone
  exact .next (.ite hs.wr hs)

theorem execSgTestWrite_answers (hs : Keeps s₀ s) {q : Nat} : Answers s₀ (execSgTestWrite q s) := by
  unfold execSgTestWrite
  refine .next ?_
  refine .ite (.ite ?_ hs.wr) hs
  extract_lets
  split
  · exact hs.wr.setDiff.setRow
  · exact hs.wr.setDiff.setRow
  · exact hs.wr.setDiff.setBytes.breakResv

theorem execSgTestRead_answers (hs : Keeps s₀ s) {q : Nat} : Answers s₀ (execSgTestRead q s) := by
  unfold execSgTestRead
  exact .next (.ite (.ite (.wr (.ite hs.wr.wr.wr hs.wr.wr)) hs.wr) hs)

theorem Keeps.holdEnds (hs : Keeps s₀ s) {n : Nat} {request : Bool} : Keeps s₀ (s.holdEnds n request) := by
  unfold State.holdEnds
  exact hs.bump.raise

theorem Keeps.probeDrop (hs : Keeps s₀ s) {q p : Nat} : Keeps s₀ (s.probeDrop q p) := by
  unfold State.probeDrop
  exact hs.setProbe.bump.raise

theorem Keeps.probeSees (hs : Keeps s₀ s) {q p hdr req flits : Nat} : Keeps s₀ (s.probeSees q p hdr req flits) := by
  unfold State.probeSees
  extract_lets _ _ _ _ _ _ s3
  have hs3 : Keeps s₀ s3 := .ite hs.drawn.bump.bump.bump.wr.setProbe.raise hs.drawn.bump.bump.bump.wr
  exact .ite (.ite hs3.probeDrop hs3.setProbe) hs3

theorem Keeps.probePort (hs : Keeps s₀ s) {n port hdr req pa flits : Nat} {request : Bool} :
    Keeps s₀ (s.probePort n port hdr req pa flits request) := by
  unfold State.probePort
  exact hs.foldl fun _ _ ht => .ite ht.probeSees ht

theorem Keeps.probeHops (hs : Keeps s₀ s) {route : List Nat} {hdr req pa flits : Nat} {request : Bool} :
    Keeps s₀ (s.probeHops route hdr req pa flits request) := by
  induction route generalizing s with
  | nil => exact hs
  | cons x route ih =>
    unfold State.probeHops
    split
    next x y t heq =>
      cases heq
      exact ih hs.probePort
    · exact hs

theorem Keeps.probeRoute (hs : Keeps s₀ s) {route : List Nat} {dport hdr req pa flits : Nat} {request : Bool} :
    Keeps s₀ (s.probeRoute route dport hdr req pa flits request) := by
  unfold State.probeRoute
  extract_lets
  split
  · exact hs.probeHops.probePort
  · exact hs.probeHops

theorem Keeps.seeRequest (hs : Keeps s₀ s) {r : Req} {h : Option Nat} : Keeps s₀ (s.seeRequest r h) := by
  unfold State.seeRequest
  refine .ite ?_ hs
  extract_lets
  split
  · exact hs.drawn.probeRoute
  · exact hs.drawn.probeHops

theorem Keeps.answer (hs : Keeps s₀ s) {r : Req} {x sport status : Nat} : Keeps s₀ (s.answer r x sport status).2 := by
  unfold State.answer
  extract_lets way h hdr s1
  have hs1 : Keeps s₀ s1 := by
    refine .ite ?_ hs
    clear_value h
    split
    · exact hs.drawn.probeRoute
    · exact hs.drawn.probeHops
  clear_value s1 h
  split
  · exact .snd hs1
  · exact .snd hs1.holdEnds.raise

theorem Keeps.passage (hs : Keeps s₀ s) {r : Req} {net : Net} : Keeps s₀ (s.passage r net).2 := by
  unfold State.passage
  split
  · exact hs.seeRequest.holdEnds.answer
  · exact .ite₂ (.snd hs.seeRequest) (.ite₂ (.snd hs.holdEnds) (.snd hs.raise))

theorem Keeps.newTag (hs : Keeps s₀ s) : Keeps s₀ (s.newTag).2 := by
  unfold State.newTag
  exact .ite₂ (.snd hs.drawn) (.snd hs)

theorem Keeps.farRead (hs : Keeps s₀ s) {pa n : Nat} {who : Who} : Keeps s₀ (s.farRead pa n who).2.2 := by
  suffices h : ∀ P : Nat × Nat × State → Prop, (∀ r, Keeps s₀ r.2.2 → P r) → ∀ f, f = @State.farRead →
      P (f s pa n who) from h _ (fun _ => id) _ rfl
  intro P hP f hf
  delta State.farRead at hf
  subst hf
  beta_reduce
  split
  · exact hP _ hs
  · exact hP _ (.ite₃ (.snd₂ hs.newTag.passage) (.snd₂ hs.newTag.passage.memRead.answer))

theorem Keeps.farWrite (hs : Keeps s₀ s) {pa n be v : Nat} {who : Who} : Keeps s₀ (s.farWrite pa n be v who).2 := by
  suffices h : ∀ P : Nat × State → Prop, (∀ r, Keeps s₀ r.2 → P r) → ∀ f, f = @State.farWrite →
      P (f s pa n be v who) from h _ (fun _ => id) _ rfl
  intro P hP f hf
  delta State.farWrite at hf
  subst hf
  beta_reduce
  split
  · exact hP _ hs
  · exact hP _ (.ite₂ hs.newTag.passage hs.newTag.passage.memWrite.answer)

theorem Keeps.setCtxState (hs : Keeps s₀ s) {b c st : Nat} : Keeps s₀ (s.setCtxState b c st) := by
  unfold State.setCtxState
  exact hs.wr

theorem Keeps.modCtx (hs : Keeps s₀ s) {b c : Nat} {f : CtxSt → CtxSt} : Keeps s₀ (s.modCtx b c f) := by
  unfold State.modCtx
  exact hs.setCtx

theorem Keeps.setEff (hs : Keeps s₀ s) {b c st : Nat} : Keeps s₀ (s.setEff b c st) := by
  unfold State.setEff
  exact .ite hs.modCtx hs.setCtxState

theorem Keeps.ctxIgn (hs : Keeps s₀ s) {b c : Nat} : Keeps s₀ (s.ctxIgn b c) := by
  unfold State.ctxIgn
  exact hs.wr

theorem Keeps.setPc (hs : Keeps s₀ s) {b c pc : Nat} : Keeps s₀ (s.setPc b c pc) := by
  unfold State.setPc
  exact hs.wr

theorem Keeps.stopRunning (hs : Keeps s₀ s) {b : Nat} : Keeps s₀ (s.stopRunning b) := by
  unfold State.stopRunning
  exact hs.wr

theorem Keeps.haltCtx (hs : Keeps s₀ s) {b c : Nat} : Keeps s₀ (s.haltCtx b c) := by
  unfold State.haltCtx
  split
  · exact hs
  · exact hs
  · exact hs
  · split
    · exact .ite hs.modCtx.setPc.setCtxState hs.modCtx.setCtxState
    · exact hs.modCtx.setCtxState

theorem Keeps.takeHalt (hs : Keeps s₀ s) {b reason c : Nat} : Keeps s₀ (s.takeHalt b reason c) := by
  unfold State.takeHalt
  extract_lets _ _ _ s3
  have hs3 : Keeps s₀ s3 := .foldl (hs.wr.wr.wr.foldl fun _ _ ht => ht.haltCtx) fun _ _ ht => .ite ht ht.modCtx
  exact .ite hs3.stopRunning.modDbg.raise.traceState (.withXsig hs3.stopRunning.modDbg.raise.traceState)

theorem Keeps.settleHalt (hs : Keeps s₀ s) {b : Nat} {stc : Bool} : Keeps s₀ (s.settleHalt b stc) := by
  unfold State.settleHalt
  split
  · exact hs
  · exact .ite hs.takeHalt hs

theorem Keeps.haltReq (hs : Keeps s₀ s) {b reason : Nat} : Keeps s₀ (s.haltReq b reason) := by
  unfold State.haltReq
  refine .ite ?_ hs
  split
  · exact .ite hs.modDbg hs.takeHalt
  · exact hs.takeHalt

theorem Keeps.faultCtx (hs : Keeps s₀ s) {b c cause info infoh : Nat} {write imprecise : Bool} :
    Keeps s₀ (s.faultCtx b c cause info infoh write imprecise) := by
  unfold State.faultCtx
  exact .settleHalt (.traceState (.raise (.modCtx (.wr (.wr (.wr (.wr (.wr (.wr (.setCtxState (.ite hs.stopRunning hs)))))))))))

theorem Keeps.postedErr (hs : Keeps s₀ s) {b c va : Nat} : Keeps s₀ (s.postedErr b c va) := by
  unfold State.postedErr
  exact .ite hs (.ite hs.wr (.ite hs.modCtx.wr hs.faultCtx))

theorem Keeps.yieldReady (hs : Keeps s₀ s) {b c : Nat} : Keeps s₀ (s.yieldReady b c) := by
  unfold State.yieldReady
  extract_lets
  split
  · exact hs.setCtxState.stopRunning.faultCtx
  · exact hs.setCtxState.stopRunning.settleHalt

theorem Keeps.makeReady (hs : Keeps s₀ s) {b c : Nat} : Keeps s₀ (s.makeReady b c) := by
  unfold State.makeReady
  extract_lets
  split
  · exact .ite hs.modCtx.setEff.yieldReady hs.modCtx.setEff
  · exact hs.modCtx.setEff

theorem Keeps.giveWay (hs : Keeps s₀ s) {b c : Nat} {w : Wait} : Keeps s₀ (s.giveWay b c w) := by
  unfold State.giveWay
  exact hs.modCtx.setCtxState.stopRunning.settleHalt

theorem Keeps.runCtx (hs : Keeps s₀ s) {b c : Nat} : Keeps s₀ (s.runCtx b c) := by
  unfold State.runCtx
  exact hs.setCtxState.modBay.wr.wr

theorem execContextSwitch_answers (hs : Keeps s₀ s) {b : Nat} : Answers s₀ (execContextSwitch b s) := by
  unfold execContextSwitch
  refine .next (.ite ?_ hs)
  split
  · exact hs
  · exact .ite hs.runCtx.tracePkt hs.runCtx

theorem execQuantumExpiry_answers (hs : Keeps s₀ s) {b : Nat} : Answers s₀ (execQuantumExpiry b s) := by
  unfold execQuantumExpiry
  refine .next (.ite ?_ hs)
  split
  · exact .ite hs.yieldReady hs
  · exact hs

theorem Keeps.ctxCfgWrite (hs : Keeps s₀ s) {b c v : Nat} : Keeps s₀ (s.ctxCfgWrite b c v) := by
  unfold State.ctxCfgWrite
  extract_lets _ _ s1
  have hs1 : Keeps s₀ s1 := .ite hs.wr hs.ctxIgn
  exact .ite (.ite hs1.wr (.ite hs1.wr.wr.setCtxState hs1.wr.ctxIgn)) (.ite hs1.wr.wr.setCtxState hs1.wr)

theorem execCtxCfgWrite_answers (hs : Keeps s₀ s) {b c : Nat} {value : BitVec 32} : Answers s₀ (execCtxCfgWrite b c value s) := by
  unfold execCtxCfgWrite
  exact .next (.ite hs.ctxCfgWrite hs)

theorem Keeps.ctxPcWrite (hs : Keeps s₀ s) {b c v : Nat} : Keeps s₀ (s.ctxPcWrite b c v) := by
  unfold State.ctxPcWrite
  exact .ite hs.setPc hs.ctxIgn

theorem execCtxPcWrite_answers (hs : Keeps s₀ s) {b c : Nat} {value : BitVec 32} : Answers s₀ (execCtxPcWrite b c value s) := by
  unfold execCtxPcWrite
  exact .next (.ite hs.ctxPcWrite hs)

theorem Keeps.ctxStart (hs : Keeps s₀ s) {b c : Nat} : Keeps s₀ (s.ctxStart b c) := by
  unfold State.ctxStart
  exact .ite hs.makeReady hs.ctxIgn

theorem Keeps.ctxResume (hs : Keeps s₀ s) {b c : Nat} : Keeps s₀ (s.ctxResume b c) := by
  unfold State.ctxResume
  exact .ite hs.makeReady hs.ctxIgn

theorem Keeps.ctxAbort (hs : Keeps s₀ s) {b c : Nat} : Keeps s₀ (s.ctxAbort b c) := by
  unfold State.ctxAbort
  exact .ite (.settleHalt (.wr (.modCtx (.setCtxState (.ite hs.stopRunning hs))))) hs.ctxIgn

theorem execCtxStart_answers (hs : Keeps s₀ s) {b c : Nat} : Answers s₀ (execCtxStart b c s) := by
  unfold execCtxStart
  exact .next (.ite hs.ctxStart hs)

theorem execCtxResume_answers (hs : Keeps s₀ s) {b c : Nat} : Answers s₀ (execCtxResume b c s) := by
  unfold execCtxResume
  exact .next (.ite hs.ctxResume hs)

theorem execCtxAbort_answers (hs : Keeps s₀ s) {b c : Nat} : Answers s₀ (execCtxAbort b c s) := by
  unfold execCtxAbort
  exact .next (.ite hs.ctxAbort hs)

theorem Keeps.levelDenied (hs : Keeps s₀ s) {q : Nat} : Keeps s₀ (s.levelDenied q) := by
  unfold State.levelDenied
  exact hs.setFlag

theorem Keeps.dbgIgn (hs : Keeps s₀ s) {b : Nat} : Keeps s₀ (s.dbgIgn b) := by
  unfold State.dbgIgn
  exact hs.wr

theorem Keeps.dbgHalt (hs : Keeps s₀ s) {b : Nat} : Keeps s₀ (s.dbgHalt b) := by
  unfold State.dbgHalt
  exact .ite hs.levelDenied hs.haltReq

theorem execEngineHalt_answers (hs : Keeps s₀ s) {b : Nat} : Answers s₀ (execEngineHalt b s) := by
  unfold execEngineHalt
  exact .next (.ite hs.dbgHalt hs)

theorem execDeferExpiry_answers (hs : Keeps s₀ s) {b : Nat} : Answers s₀ (execDeferExpiry b s) := by
  unfold execDeferExpiry
  refine .next ?_
  split
  · exact .ite hs.wr.takeHalt hs
  · exact hs

theorem Keeps.releaseCtx (hs : Keeps s₀ s) {b c : Nat} : Keeps s₀ (s.releaseCtx b c) := by
  unfold State.releaseCtx
  exact .ite (.ite hs.setCtxState.wr.wr hs.setCtxState) hs

theorem Keeps.releaseBay (hs : Keeps s₀ s) {b : Nat} : Keeps s₀ (s.releaseBay b) := by
  unfold State.releaseBay
  exact .ite hs.wr.wr.modBay.regrid.resyncPins.drivePins.reflex hs

theorem Keeps.releaseEngine (hs : Keeps s₀ s) {b : Nat} : Keeps s₀ (s.releaseEngine b) := by
  unfold State.releaseEngine
  extract_lets _ _ _ s3 s4
  have hs3 : Keeps s₀ s3 := hs.wr.wr.modDbg.foldl fun _ _ ht => ht.releaseCtx
  have hs4 : Keeps s₀ s4 := by
    unfold s4
    split
    · exact .ite hs3.yieldReady hs3
    · exact hs3
  exact hs4.traceState.releaseBay

theorem Keeps.dbgRelease (hs : Keeps s₀ s) {b : Nat} : Keeps s₀ (s.dbgRelease b) := by
  unfold State.dbgRelease
  exact .ite hs.levelDenied (.ite hs.releaseEngine (.ite hs.modDbg hs.dbgIgn))

theorem execEngineRelease_answers (hs : Keeps s₀ s) {b : Nat} : Answers s₀ (execEngineRelease b s) := by
  unfold execEngineRelease
  exact .next (.ite hs.dbgRelease hs)

theorem Keeps.xtSignal (hs : Keeps s₀ s) {g : Nat} : Keeps s₀ (s.xtSignal g) := by
  unfold State.xtSignal
  refine .ite ?_ hs
  extract_lets s1
  have hs1 : Keeps s₀ s1 := hs.foldl fun _ _ ht => ht.haltReq
  exact .raise (.ite (.stopGroups (.ite hs1.capture hs1)) (.ite hs1.capture hs1))

theorem Keeps.xtDeliver (hs : Keeps s₀ s) : Keeps s₀ (s.xtDeliver) := by
  unfold State.xtDeliver
  exact .foldl (.other hs) fun _ _ ht => ht.xtSignal

theorem Keeps.xtPulse (hs : Keeps s₀ s) {g : Nat} : Keeps s₀ (s.xtPulse g) := by
  unfold State.xtPulse
  exact .ite hs.levelDenied hs.xtSignal

theorem execXtPulse_answers (hs : Keeps s₀ s) {g : Nat} : Answers s₀ (execXtPulse g s) := by
  unfold execXtPulse
  exact .next (.ite hs.xtPulse hs)

theorem Keeps.xtRelease (hs : Keeps s₀ s) {g : Nat} : Keeps s₀ (s.xtRelease g) := by
  unfold State.xtRelease
  refine .ite hs.levelDenied ?_
  extract_lets s1
  have hs1 : Keeps s₀ s1 := hs.foldl fun _ _ ht => .ite ht.releaseEngine ht
  exact .ite hs1.goGroups hs1

theorem execXtRelease_answers (hs : Keeps s₀ s) {g : Nat} : Answers s₀ (execXtRelease g s) := by
  unfold execXtRelease
  exact .next (.ite hs.xtRelease hs)

theorem Keeps.setBrg (hs : Keeps s₀ s) {b : Nat} {f : Fld} {v : Nat} : Keeps s₀ (s.setBrg b f v) := by
  unfold State.setBrg
  exact hs.foldl fun _ _ ht => ht.wr

theorem Keeps.flagBrg (hs : Keeps s₀ s) {b : Nat} {f : Fld} : Keeps s₀ (s.flagBrg b f) := by
  unfold State.flagBrg
  exact hs.foldl fun _ _ ht => ht.setFlag

theorem Keeps.loseInFlight (hs : Keeps s₀ s) {b : Nat} : Keeps s₀ (s.loseInFlight b) := by
  unfold State.loseInFlight
  refine hs.foldl fun _ _ ht => ht.foldl fun _ _ ht => ?_
  split
  · exact ht
  · exact .ite (ht.foldl fun _ _ ht => .ite ht.setChan.lost ht) ht

theorem Keeps.brgBecomes (hs : Keeps s₀ s) {b st use : Nat} : Keeps s₀ (s.brgBecomes b st use) := by
  unfold State.brgBecomes
  exact .raiseIf (.setBrg (.setBrg (.ite hs.loseInFlight hs)))

theorem Keeps.adoptMask (hs : Keeps s₀ s) {b use : Nat} : Keeps s₀ (s.adoptMask b use) := by
  unfold State.adoptMask
  exact .brgBecomes (.ite (hs.flagBrg.foldl fun _ _ ht => ht.wr.wr.wr) hs)

theorem Keeps.trainBridge (hs : Keeps s₀ s) {b : Nat} : Keeps s₀ (s.trainBridge b) := by
  unfold State.trainBridge
  exact .ite (.brgBecomes (hs.foldl fun _ _ ht => ht.setBadFrames)) hs

theorem Keeps.retrain (hs : Keeps s₀ s) {q k : Nat} : Keeps s₀ (s.retrain q k) := by
  unfold State.retrain
  split
  · exact hs.trainBridge
  · exact hs

theorem execRetrain_answers (hs : Keeps s₀ s) {q k : Nat} : Answers s₀ (execRetrain q k s) := by
  unfold execRetrain
  exact .next hs.retrain

theorem execBridgeTrainingDone_answers (hs : Keeps s₀ s) {b : Nat} {codeOk : Bool} {good0 good1 spare0 spare1 : Nat} :
    Answers s₀ (execBridgeTrainingDone b codeOk good0 good1 spare0 spare1 s) := by
  unfold execBridgeTrainingDone
  refine .next ?_
  split
  · exact .ite (.ite hs.wr.wr.wr.wr.wr.wr.adoptMask hs.setDeadBrg.flagBrg.brgBecomes) hs
  · exact hs

theorem execBridgeBadFrame_answers (hs : Keeps s₀ s) {b side group : Nat} : Answers s₀ (execBridgeBadFrame b side group s) := by
  unfold execBridgeBadFrame
  refine .next ?_
  split
  · exact .ite (.ite hs.bump.setBadFrames.flagBrg.adoptMask hs.bump.setBadFrames) hs
  · exact hs

theorem Keeps.complete (hs : Keeps s₀ s) {b c : Nat} : Keeps s₀ (s.complete b c) := by
  unfold State.complete
  extract_lets
  split
  · exact hs.setPc
  · exact .ite (.ite hs.setCtx.setPc hs.setCtx.setPc) hs.setPc

theorem Keeps.finishWait (hs : Keeps s₀ s) {b c wd : Nat} {x : BitVec 32} : Keeps s₀ (s.finishWait b c wd x) := by
  unfold State.finishWait
  exact hs.modCtx.complete.makeReady

theorem Keeps.queueEvt (hs : Keeps s₀ s) {b q : Nat} : Keeps s₀ (s.queueEvt b q) := by
  unfold State.queueEvt
  exact .ite hs hs.wr.raise

theorem Keeps.ringRead (hs : Keeps s₀ s) {b pa : Nat} : Keeps s₀ (s.ringRead b pa).2.2 := by
  unfold State.ringRead
  exact .ite₃ (.snd₂ hs.sramRead) (.snd₂ hs.farRead)

theorem Keeps.ringWrite (hs : Keeps s₀ s) {b pa v : Nat} : Keeps s₀ (s.ringWrite b pa v).2 := by
  unfold State.ringWrite
  exact .ite₂ (.snd hs.sramWrite) (.snd hs.farWrite)

theorem Keeps.refuseWait (hs : Keeps s₀ s) {b c : Nat} : Keeps s₀ (s.refuseWait b c) := by
  unfold State.refuseWait
  split
  · exact hs.finishWait
  · exact hs.finishWait
  · exact hs

theorem Keeps.queueOff (hs : Keeps s₀ s) {b q : Nat} : Keeps s₀ (s.queueOff b q) := by
  unfold State.queueOff
  exact hs.wr.foldl fun _ _ ht => .ite ht.refuseWait ht

theorem Keeps.ringErr (hs : Keeps s₀ s) {b q : Nat} : Keeps s₀ (s.ringErr b q) := by
  unfold State.ringErr
  exact hs.wr.queueEvt.queueOff

theorem Keeps.produced (hs : Keeps s₀ s) {b q : Nat} {wasEmpty : Bool} : Keeps s₀ (s.produced b q wasEmpty) := by
  unfold State.produced
  split
  · exact .ite hs.queueEvt hs
  · exact hs.queueEvt
  · exact hs

theorem Keeps.produce (hs : Keeps s₀ s) {b q v : Nat} : Keeps s₀ (s.produce b q v).2 := by
  unfold State.produce
  exact .ite₂ (.snd hs.ringWrite.wr.produced) (.snd hs.ringWrite.ringErr)

theorem Keeps.advanceHead (hs : Keeps s₀ s) {b q : Nat} : Keeps s₀ (s.advanceHead b q) := by
  unfold State.advanceHead
  exact .ite hs.wr hs

theorem Keeps.oldest (hs : Keeps s₀ s) {b q : Nat} : Keeps s₀ (s.oldest b q).2.2 := by
  unfold State.oldest
  exact .ite₃ (.snd₂ hs.ringRead) (.snd₂ hs.ringRead.ringErr)

theorem Keeps.qCfgWrite (hs : Keeps s₀ s) {b q v : Nat} : Keeps s₀ (s.qCfgWrite b q v) := by
  unfold State.qCfgWrite
  extract_lets _ s1 s2 s3 s4
  have hs1 : Keeps s₀ s1 := .ite hs hs.wr
  have hs2 : Keeps s₀ s2 := .ite hs1 hs1.wr
  have hs3 : Keeps s₀ s3 := .ite hs2 hs2.wr
  have hs4 : Keeps s₀ s4 := hs3.wr
  exact .ite (.ite hs1.queueOff hs1) (.ite hs4 (.ite hs4.wr.wr.wr hs4.wr.queueEvt))

theorem execQueueEnable_answers (hs : Keeps s₀ s) {b q : Nat} {value : BitVec 32} : Answers s₀ (execQueueEnable b q value s) := by
  unfold execQueueEnable
  exact .next (.ite hs.qCfgWrite hs)

theorem Keeps.qTailWrite (hs : Keeps s₀ s) {b q v : Nat} : Keeps s₀ (s.qTailWrite b q v) := by
  unfold State.qTailWrite
  exact .ite (.ite hs.wr (.ite hs.wr.produced hs.wr)) hs

theorem execQTailWrite_answers (hs : Keeps s₀ s) {b q : Nat} {value : BitVec 32} : Answers s₀ (execQTailWrite b q value s) := by
  unfold execQTailWrite
  exact .next (.ite hs.qTailWrite hs)

theorem Keeps.qHeadWrite (hs : Keeps s₀ s) {b q v : Nat} : Keeps s₀ (s.qHeadWrite b q v) := by
  unfold State.qHeadWrite
  exact .ite (.ite hs.wr hs.wr) hs

theorem execQHeadWrite_answers (hs : Keeps s₀ s) {b q : Nat} {value : BitVec 32} : Answers s₀ (execQHeadWrite b q value s) := by
  unfold execQHeadWrite
  exact .next (.ite hs.qHeadWrite hs)

theorem Keeps.pushDesc (hs : Keeps s₀ s) {b q addr : Nat} : Keeps s₀ (s.pushDesc b q addr).2.2 := by
  unfold State.pushDesc
  exact .ite₃ (.ite₃ (.snd₂ hs) (.ite₃ (.snd₂ hs.sramRead) (.snd₂ hs.sramRead.produce))) (.snd₂ hs)

theorem Keeps.popDesc (hs : Keeps s₀ s) {b q addr : Nat} : Keeps s₀ (s.popDesc b q addr).2 := by
  suffices h : ∀ P : Nat × State → Prop, (∀ r, Keeps s₀ r.2 → P r) → ∀ f, f = @State.popDesc →
      P (f s b q addr) from h _ (fun _ => id) _ rfl
  intro P hP f hf
  delta State.popDesc at hf
  subst hf
  beta_reduce
  split
  · split
    · exact hP _ hs
    · exact iteInduction (motive := P) (fun _ => hP (0, _) (.snd hs.oldest.sramWrite.advanceHead)) fun _ =>
        hP (2, _) (.snd hs.oldest)
  · exact hP _ hs

theorem execQueueWaitDone_answers (hs : Keeps s₀ s) {b c : Nat} : Answers s₀ (execQueueWaitDone b c s) := by
  unfold execQueueWaitDone
  refine .next (.ite ?_ hs)
  split
  · exact .ite (.ite hs.pushDesc.faultCtx (.ite hs.pushDesc (.ite hs.pushDesc hs.pushDesc.finishWait))) hs
  · exact .ite (.ite hs.popDesc (.ite hs.popDesc hs.popDesc.finishWait)) hs
  · exact hs

theorem Keeps.setMvState (hs : Keeps s₀ s) {b n st : Nat} : Keeps s₀ (s.setMvState b n st) := by
  unfold State.setMvState
  exact hs.wr

theorem Keeps.mvIgn (hs : Keeps s₀ s) {b n : Nat} : Keeps s₀ (s.mvIgn b n) := by
  unfold State.mvIgn
  exact hs.wr

theorem Keeps.mvFinished (hs : Keeps s₀ s) {b n : Nat} : Keeps s₀ (s.mvFinished b n) := by
  unfold State.mvFinished
  exact hs.advanceHead.setMover.wr.setMvState

theorem Keeps.mvComplete (hs : Keeps s₀ s) {b n : Nat} {k : Compl} : Keeps s₀ (s.mvComplete b n k) := by
  unfold State.mvComplete
  exact .ite (.ite (.mvFinished (.ite hs.produce.queueEvt hs.produce)) hs.produce.setMover.wr) hs.setMover.wr

theorem Keeps.mvEnd (hs : Keeps s₀ s) {b n : Nat} {write : Bool} {k : Compl} : Keeps s₀ (s.mvEnd b n write k) := by
  unfold State.mvEnd
  exact .ite hs.mvComplete (.mvFinished (.ite hs.queueEvt hs))

theorem execMoverCompletionWrite_answers (hs : Keeps s₀ s) {b n : Nat} : Answers s₀ (execMoverCompletionWrite b n s) := by
  unfold execMoverCompletionWrite
  refine .next (.ite ?_ hs)
  split
  · exact hs.mvComplete
  · exact hs

theorem execMoverDescriptorStart_answers (hs : Keeps s₀ s) {b n : Nat} : Answers s₀ (execMoverDescriptorStart b n s) := by
  unfold execMoverDescriptorStart
  exact .next (.ite (.ite (.ite hs.oldest.setMvState.wr.setMover hs.oldest.setMvState.wr.setMover.mvEnd) hs.oldest) hs)

theorem Keeps.mvCfgWrite (hs : Keeps s₀ s) {b n v : Nat} : Keeps s₀ (s.mvCfgWrite b n v) := by
  unfold State.mvCfgWrite
  extract_lets _ _ s1
  have hs1 : Keeps s₀ s1 := .ite hs.wr hs
  exact .ite (.ite hs1.wr.wr.wr.setMvState hs1.wr.wr.wr) (.ite hs1.wr.wr.wr.setMvState hs1.wr.wr.wr)

theorem execMoverCfgWrite_answers (hs : Keeps s₀ s) {b n : Nat} {value : BitVec 32} :
    Answers s₀ (execMoverCfgWrite b n value s) := by
  unfold execMoverCfgWrite
  exact .next (.ite hs.mvCfgWrite hs)

theorem Keeps.mvResume (hs : Keeps s₀ s) {b n : Nat} : Keeps s₀ (s.mvResume b n) := by
  unfold State.mvResume
  exact .ite hs.setMvState hs.mvIgn

theorem Keeps.mvAbort (hs : Keeps s₀ s) {b n : Nat} : Keeps s₀ (s.mvAbort b n) := by
  unfold State.mvAbort
  exact .ite hs.setMvState.mvEnd hs.mvIgn

theorem execMoverResume_answers (hs : Keeps s₀ s) {b n : Nat} : Answers s₀ (execMoverResume b n s) := by
  unfold execMoverResume
  exact .next (.ite hs.mvResume hs)

theorem execMoverAbort_answers (hs : Keeps s₀ s) {b n : Nat} : Answers s₀ (execMoverAbort b n s) := by
  unfold execMoverAbort
  exact .next (.ite hs.mvAbort hs)

theorem Keeps.fetchCheck (hs : Keeps s₀ s) {b c : Nat} : Keeps s₀ (s.fetchCheck b c).2 := by
  unfold State.fetchCheck
  exact .ite₂ (.snd hs) (.snd hs.sramWord)

theorem Keeps.issue {f : State → State} (hs : Keeps s₀ s) {b c : Nat} {stc : Bool} (hf : ∀ s, Keeps s₀ s → Keeps s₀ (f s)) :
    Keeps s₀ (s.issue b c stc f) := by
  unfold State.issue
  refine .ite ?_ hs
  split
  · exact hs.faultCtx
  · exact .ite hs.faultCtx (.ite hs.fetchCheck.faultCtx (hf _ hs.fetchCheck).settleHalt)

theorem Keeps.result (hs : Keeps s₀ s) {b c wd : Nat} {x : BitVec 32} : Keeps s₀ (s.result b c wd x) := by
  unfold State.result
  exact hs.modCtx.complete

theorem Keeps.illegal (hs : Keeps s₀ s) {b c word : Nat} : Keeps s₀ (s.illegal b c word) := by
  unfold State.illegal
  exact hs.faultCtx

theorem Keeps.alu (hs : Keeps s₀ s) {b c wd wa wb : Nat} {f : BitVec 32 → BitVec 32 → BitVec 32} :
    Keeps s₀ (s.alu b c wd wa wb f) := by
  unfold State.alu
  exact hs.issue fun _ ht => ht.result

theorem Keeps.aluImm (hs : Keeps s₀ s) {b c wd wa : Nat} {f : BitVec 32 → BitVec 32} : Keeps s₀ (s.aluImm b c wd wa f) := by
  unfold State.aluImm
  exact hs.issue fun _ ht => ht.result

theorem Keeps.doLoads {b c : Nat} {ext : Option (State → Nat → Nat → (Nat × Nat) × State)} {l : List LoadAcc} (hs : Keeps s₀ s)
    (hext : ∀ g, ext = some g → ∀ s va n, Keeps s₀ s → Keeps s₀ (g s va n).2) : Keeps s₀ (State.doLoads b c ext l s).2 := by
  induction l generalizing s with
  | nil => exact hs
  | cons a l ih =>
    unfold State.doLoads
    refine .ite₂ hs (.ite₂ hs (.ite₂ (.ite₂ hs.sramRead ?_) ?_))
    · split
      · exact (ih hs.sramRead).of_pair ‹_›
      · exact ih hs.sramRead
    · split
      · exact hs
      · refine .ite₂ (hext _ rfl _ _ _ hs) ?_
        split
        · exact (ih (hext _ rfl _ _ _ hs)).of_pair ‹_›
        · exact ih (hext _ rfl _ _ _ hs)

theorem Keeps.loadInstr (hs : Keeps s₀ s) {b c : Nat} {i : Instr} : Keeps s₀ (s.loadInstr b c i) := by
  have hl : Keeps s₀ (State.doLoads b c none ((s.cx b c).loadPlan i) s).2 := hs.doLoads nofun
  unfold State.loadInstr
  split
  · exact (hl.of_pair ‹_›).modCtx.complete
  · exact (hl.of_pair ‹_›).faultCtx
  · exact (hl.of_pair ‹_›).giveWay

theorem Keeps.post (hs : Keeps s₀ s) {b c va pa size data : Nat} : Keeps s₀ (s.post b c va pa size data) := by
  unfold State.post
  exact hs.modCtx

theorem Keeps.issueStore (hs : Keeps s₀ s) {b c : Nat} {i : Instr} {a : StoreAcc} : Keeps s₀ (s.issueStore b c i a) := by
  unfold State.issueStore
  refine .ite hs.post.modCtx.complete ?_
  split
  · exact .ite hs.giveWay hs.faultCtx
  · exact .ite (.ite hs.drawn.post.modCtx.complete hs.drawn.faultCtx) (.ite hs.drawn.giveWay hs.drawn.faultCtx)

theorem Keeps.storeInstr (hs : Keeps s₀ s) {b c : Nat} {i : Instr} : Keeps s₀ (s.storeInstr b c i) := by
  unfold State.storeInstr
  split
  · exact hs
  · exact .ite hs.faultCtx (.ite hs.faultCtx (.ite (.ite hs.sramWrite.faultCtx hs.sramWrite.modCtx.complete) hs.issueStore))

theorem Keeps.branchTo (hs : Keeps s₀ s) {b c target : Nat} : Keeps s₀ (s.branchTo b c target) := by
  unfold State.branchTo
  exact hs.modCtx.setPc

theorem Keeps.branch (hs : Keeps s₀ s) {b c cond wa wb : Nat} {off : BitVec 13} : Keeps s₀ (s.branch b c cond wa wb off) := by
  unfold State.branch
  exact hs.issue fun _ ht => .ite ht.branchTo ht.complete

theorem execAdd_answers (hs : Keeps s₀ s) {b c wd wa wb : Nat} : Answers s₀ (execAdd b c wd wa wb s) := by
  unfold execAdd
  exact .next hs.alu

theorem execSub_answers (hs : Keeps s₀ s) {b c wd wa wb : Nat} : Answers s₀ (execSub b c wd wa wb s) := by
  unfold execSub
  exact .next hs.alu

theorem execAnd_answers (hs : Keeps s₀ s) {b c wd wa wb : Nat} : Answers s₀ (execAnd b c wd wa wb s) := by
  unfold execAnd
  exact .next hs.alu

theorem execOr_answers (hs : Keeps s₀ s) {b c wd wa wb : Nat} : Answers s₀ (execOr b c wd wa wb s) := by
  unfold execOr
  exact .next hs.alu

theorem execXor_answers (hs : Keeps s₀ s) {b c wd wa wb : Nat} : Answers s₀ (execXor b c wd wa wb s) := by
  unfold execXor
  exact .next hs.alu

theorem execShl_answers (hs : Keeps s₀ s) {b c wd wa wb : Nat} : Answers s₀ (execShl b c wd wa wb s) := by
  unfold execShl
  exact .next hs.alu

theorem execShr_answers (hs : Keeps s₀ s) {b c wd wa wb : Nat} : Answers s₀ (execShr b c wd wa wb s) := by
  unfold execShr
  exact .next hs.alu

theorem execSar_answers (hs : Keeps s₀ s) {b c wd wa wb : Nat} : Answers s₀ (execSar b c wd wa wb s) := by
  unfold execSar
  exact .next hs.alu

theorem execRor_answers (hs : Keeps s₀ s) {b c wd wa wb : Nat} : Answers s₀ (execRor b c wd wa wb s) := by
  unfold execRor
  exact .next hs.alu

theorem execSlt_answers (hs : Keeps s₀ s) {b c wd wa wb : Nat} : Answers s₀ (execSlt b c wd wa wb s) := by
  unfold execSlt
  exact .next hs.alu

theorem execSltu_answers (hs : Keeps s₀ s) {b c wd wa wb : Nat} : Answers s₀ (execSltu b c wd wa wb s) := by
  unfold execSltu
  exact .next hs.alu

theorem execMin_answers (hs : Keeps s₀ s) {b c wd wa wb : Nat} : Answers s₀ (execMin b c wd wa wb s) := by
  unfold execMin
  exact .next hs.alu

theorem execMax_answers (hs : Keeps s₀ s) {b c wd wa wb : Nat} : Answers s₀ (execMax b c wd wa wb s) := by
  unfold execMax
  exact .next hs.alu

theorem execMinu_answers (hs : Keeps s₀ s) {b c wd wa wb : Nat} : Answers s₀ (execMinu b c wd wa wb s) := by
  unfold execMinu
  exact .next hs.alu

theorem execMaxu_answers (hs : Keeps s₀ s) {b c wd wa wb : Nat} : Answers s₀ (execMaxu b c wd wa wb s) := by
  unfold execMaxu
  exact .next hs.alu

theorem execMul_answers (hs : Keeps s₀ s) {b c wd wa wb : Nat} : Answers s₀ (execMul b c wd wa wb s) := by
  unfold execMul
  exact .next hs.alu

theorem execMulh_answers (hs : Keeps s₀ s) {b c wd wa wb : Nat} : Answers s₀ (execMulh b c wd wa wb s) := by
  unfold execMulh
  exact .next hs.alu

theorem execMulhu_answers (hs : Keeps s₀ s) {b c wd wa wb : Nat} : Answers s₀ (execMulhu b c wd wa wb s) := by
  unfold execMulhu
  exact .next hs.alu

theorem execClz_answers (hs : Keeps s₀ s) {b c wd wa wb : Nat} : Answers s₀ (execClz b c wd wa wb s) := by
  unfold execClz
  exact .next (hs.issue fun _ ht => .ite ht.illegal ht.result)

theorem execAddi_answers (hs : Keeps s₀ s) {b c wd wa : Nat} {imm : BitVec 16} : Answers s₀ (execAddi b c wd wa imm s) := by
  unfold execAddi
  exact .next hs.aluImm

theorem execAndi_answers (hs : Keeps s₀ s) {b c wd wa : Nat} {imm : BitVec 16} : Answers s₀ (execAndi b c wd wa imm s) := by
  unfold execAndi
  exact .next hs.aluImm

theorem execOri_answers (hs : Keeps s₀ s) {b c wd wa : Nat} {imm : BitVec 16} : Answers s₀ (execOri b c wd wa imm s) := by
  unfold execOri
  exact .next hs.aluImm

theorem execXori_answers (hs : Keeps s₀ s) {b c wd wa : Nat} {imm : BitVec 16} : Answers s₀ (execXori b c wd wa imm s) := by
  unfold execXori
  exact .next hs.aluImm

theorem execSlti_answers (hs : Keeps s₀ s) {b c wd wa : Nat} {imm : BitVec 16} : Answers s₀ (execSlti b c wd wa imm s) := by
  unfold execSlti
  exact .next hs.aluImm

theorem execSltui_answers (hs : Keeps s₀ s) {b c wd wa : Nat} {imm : BitVec 16} : Answers s₀ (execSltui b c wd wa imm s) := by
  unfold execSltui
  exact .next hs.aluImm

theorem execMovhi_answers (hs : Keeps s₀ s) {b c wd wa : Nat} {imm : BitVec 16} : Answers s₀ (execMovhi b c wd wa imm s) := by
  unfold execMovhi
  exact .next (hs.issue fun _ ht => .ite ht.illegal ht.result)

theorem execShi_answers (hs : Keeps s₀ s) {b c wd wa : Nat} {imm : BitVec 16} : Answers s₀ (execShi b c wd wa imm s) := by
  unfold execShi
  exact .next (hs.issue fun _ ht => .ite ht.illegal ht.result)

theorem execBeq_answers (hs : Keeps s₀ s) {b c wa wb : Nat} {off : BitVec 13} : Answers s₀ (execBeq b c wa wb off s) := by
  unfold execBeq
  exact .next hs.branch

theorem execBne_answers (hs : Keeps s₀ s) {b c wa wb : Nat} {off : BitVec 13} : Answers s₀ (execBne b c wa wb off s) := by
  unfold execBne
  exact .next hs.branch

theorem execBlt_answers (hs : Keeps s₀ s) {b c wa wb : Nat} {off : BitVec 13} : Answers s₀ (execBlt b c wa wb off s) := by
  unfold execBlt
  exact .next hs.branch

theorem execBge_answers (hs : Keeps s₀ s) {b c wa wb : Nat} {off : BitVec 13} : Answers s₀ (execBge b c wa wb off s) := by
  unfold execBge
  exact .next hs.branch

theorem execBltu_answers (hs : Keeps s₀ s) {b c wa wb : Nat} {off : BitVec 13} : Answers s₀ (execBltu b c wa wb off s) := by
  unfold execBltu
  exact .next hs.branch

theorem execBgeu_answers (hs : Keeps s₀ s) {b c wa wb : Nat} {off : BitVec 13} : Answers s₀ (execBgeu b c wa wb off s) := by
  unfold execBgeu
  exact .next hs.branch

theorem execBdec_answers (hs : Keeps s₀ s) {b c wa : Nat} {rotb : Bool} {off : BitVec 20} :
    Answers s₀ (execBdec b c wa rotb off s) := by
  unfold execBdec
  exact .next (hs.issue fun _ ht => .ite ht.modCtx.branchTo ht.modCtx.complete)

theorem execJmp_answers (hs : Keeps s₀ s) {b c : Nat} {off : BitVec 26} : Answers s₀ (execJmp b c off s) := by
  unfold execJmp
  exact .next (hs.issue fun _ ht => ht.branchTo)

theorem execCall_answers (hs : Keeps s₀ s) {b c : Nat} {off : BitVec 26} : Answers s₀ (execCall b c off s) := by
  unfold execCall
  exact .next (hs.issue fun _ ht => ht.modCtx.branchTo)

theorem execJr_answers (hs : Keeps s₀ s) {b c wa : Nat} : Answers s₀ (execJr b c wa s) := by
  unfold execJr
  exact .next (hs.issue fun _ ht => .ite ht.branchTo.faultCtx ht.branchTo)

theorem execLoop_answers (hs : Keeps s₀ s) {b c wa len : Nat} {rotl : Bool} : Answers s₀ (execLoop b c wa len rotl s) := by
  unfold execLoop
  exact .next (hs.issue fun _ ht => .ite ht.illegal (.ite ht.setPc ht.modCtx.setPc))

theorem execRot_answers (hs : Keeps s₀ s) {b c k : Nat} : Answers s₀ (execRot b c k s) := by
  unfold execRot
  exact .next (hs.issue fun _ ht => ht.modCtx.complete)

theorem execRotZ_answers (hs : Keeps s₀ s) {b c : Nat} : Answers s₀ (execRotZ b c s) := by
  unfold execRotZ
  exact .next (hs.issue fun _ ht => ht.modCtx.complete)

theorem execQpush_answers (hs : Keeps s₀ s) {b c wd wq wa : Nat} {w : Bool} : Answers s₀ (execQpush b c wd wq wa w s) := by
  unfold execQpush
  exact .next (hs.issue fun _ ht => .ite ht.faultCtx
    (.ite ht.faultCtx (.ite (.ite (.ite ht.giveWay ht.result)
    (.ite (.ite ht.pushDesc.faultCtx ht.pushDesc.result) ht.giveWay)) ht.result)))

theorem execQpop_answers (hs : Keeps s₀ s) {b c wd wq wa : Nat} {w : Bool} : Answers s₀ (execQpop b c wd wq wa w s) := by
  unfold execQpop
  exact .next (hs.issue fun _ ht => .ite ht.faultCtx
    (.ite ht.faultCtx (.ite (.ite (.ite ht.giveWay ht.result) (.ite ht.popDesc.result ht.giveWay)) ht.result)))

theorem execTime_answers (hs : Keeps s₀ s) {b c wd : Nat} : Answers s₀ (execTime b c wd s) := by
  unfold execTime
  exact .next (hs.issue fun _ ht => ht.modCtx.complete)

theorem execFsync_answers (hs : Keeps s₀ s) {b c wd : Nat} : Answers s₀ (execFsync b c wd s) := by
  unfold execFsync
  exact .next (hs.issue fun _ ht => ht.giveWay)

theorem execFsyncWake_answers (hs : Keeps s₀ s) {b c : Nat} : Answers s₀ (execFsyncWake b c s) := by
  unfold execFsyncWake
  refine .next (.ite ?_ hs)
  split
  · exact .ite hs hs.finishWait
  · exact hs

theorem execWfe_answers (hs : Keeps s₀ s) {b c wd wa wb : Nat} : Answers s₀ (execWfe b c wd wa wb s) := by
  unfold execWfe
  exact .next (hs.issue fun _ ht => .ite ht.modCtx.result ht.giveWay)

theorem Keeps.wfeTake (hs : Keeps s₀ s) {b c wd : Nat} {mask : BitVec 32} : Keeps s₀ (s.wfeTake b c wd mask) := by
  unfold State.wfeTake
  exact hs.modCtx.finishWait

theorem execWfeEvent_answers (hs : Keeps s₀ s) {b c : Nat} : Answers s₀ (execWfeEvent b c s) := by
  unfold execWfeEvent
  refine .next (.ite ?_ hs)
  split
  · exact .ite hs hs.wfeTake
  · exact hs

theorem execWfeTimeout_answers (hs : Keeps s₀ s) {b c : Nat} : Answers s₀ (execWfeTimeout b c s) := by
  unfold execWfeTimeout
  refine .next (.ite ?_ hs)
  split
  · exact .ite hs (.ite hs.finishWait hs.wfeTake)
  · exact hs

theorem execStim_answers (hs : Keeps s₀ s) {b c port wa size : Nat} : Answers s₀ (execStim b c port wa size s) := by
  unfold execStim
  exact .next (hs.issue fun _ ht => .ite ht.illegal (.complete (.ite ht.tracePkt ht)))

theorem execBrk_answers (hs : Keeps s₀ s) {b c : Nat} {code : BitVec 16} : Answers s₀ (execBrk b c code s) := by
  unfold execBrk
  exact .next (hs.issue fun _ ht => .ite ht.takeHalt ht.faultCtx)

theorem execFence_answers (hs : Keeps s₀ s) {b c : Nat} : Answers s₀ (execFence b c s) := by
  unfold execFence
  exact .next (hs.issue fun _ ht => .ite ht.complete ht.giveWay)

theorem Keeps.goIdle (hs : Keeps s₀ s) {b c : Nat} : Keeps s₀ (s.goIdle b c) := by
  unfold State.goIdle
  exact .settleHalt (.setEff (.ite hs.complete.modCtx.stopRunning hs.complete.modCtx))

theorem execIdle_answers (hs : Keeps s₀ s) {b c : Nat} : Answers s₀ (execIdle b c s) := by
  unfold execIdle
  exact .next (hs.issue fun _ ht => .ite ht.goIdle ht.giveWay)

theorem execNop_answers (hs : Keeps s₀ s) {b c : Nat} : Answers s₀ (execNop b c s) := by
  unfold execNop
  exact .next (hs.issue fun _ ht => ht.complete)

theorem execMfs_answers (hs : Keeps s₀ s) {b c wd num : Nat} : Answers s₀ (execMfs b c wd num s) := by
  unfold execMfs
  refine .next ?_
  refine hs.issue fun _ ht => ?_
  split
  · exact ht.result
  · exact ht.illegal

theorem execMts_answers (hs : Keeps s₀ s) {b c wa num : Nat} : Answers s₀ (execMts b c wa num s) := by
  unfold execMts
  refine .next ?_
  refine hs.issue fun _ ht => ?_
  split
  · exact ht.modCtx.complete
  · exact ht.illegal

theorem execLdw_answers (hs : Keeps s₀ s) {b c wd wa : Nat} {imm : BitVec 16} : Answers s₀ (execLdw b c wd wa imm s) := by
  unfold execLdw
  exact .next (hs.issue fun _ ht => ht.loadInstr)

theorem execLdh_answers (hs : Keeps s₀ s) {b c wd wa : Nat} {imm : BitVec 16} : Answers s₀ (execLdh b c wd wa imm s) := by
  unfold execLdh
  exact .next (hs.issue fun _ ht => ht.loadInstr)

theorem execLdhu_answers (hs : Keeps s₀ s) {b c wd wa : Nat} {imm : BitVec 16} : Answers s₀ (execLdhu b c wd wa imm s) := by
  unfold execLdhu
  exact .next (hs.issue fun _ ht => ht.loadInstr)

theorem execLdb_answers (hs : Keeps s₀ s) {b c wd wa : Nat} {imm : BitVec 16} : Answers s₀ (execLdb b c wd wa imm s) := by
  unfold execLdb
  exact .next (hs.issue fun _ ht => ht.loadInstr)

theorem execLdbu_answers (hs : Keeps s₀ s) {b c wd wa : Nat} {imm : BitVec 16} : Answers s₀ (execLdbu b c wd wa imm s) := by
  unfold execLdbu
  exact .next (hs.issue fun _ ht => ht.loadInstr)

theorem execStw_answers (hs : Keeps s₀ s) {b c wd wa : Nat} {imm : BitVec 16} : Answers s₀ (execStw b c wd wa imm s) := by
  unfold execStw
  exact .next (hs.issue fun _ ht => ht.storeInstr)

theorem execSth_answers (hs : Keeps s₀ s) {b c wd wa : Nat} {imm : BitVec 16} : Answers s₀ (execSth b c wd wa imm s) := by
  unfold execSth
  exact .next (hs.issue fun _ ht => ht.storeInstr)

theorem execStb_answers (hs : Keeps s₀ s) {b c wd wa : Nat} {imm : BitVec 16} : Answers s₀ (execStb b c wd wa imm s) := by
  unfold execStb
  exact .next (hs.issue fun _ ht => ht.storeInstr)

theorem execLdp_answers (hs : Keeps s₀ s) {b c w p size : Nat} {x pm : Bool} {off : BitVec 14} :
    Answers s₀ (execLdp b c w p size x pm off s) := by
  unfold execLdp
  exact .next (hs.issue fun _ ht => .ite ht.illegal ht.loadInstr)

theorem execStp_answers (hs : Keeps s₀ s) {b c w p size : Nat} {x pm : Bool} {off : BitVec 14} :
    Answers s₀ (execStp b c w p size x pm off s) := by
  unfold execStp
  exact .next (hs.issue fun _ ht => .ite ht.illegal ht.storeInstr)

theorem execLdl_answers (hs : Keeps s₀ s) {b c wd wa : Nat} {imm : BitVec 16} : Answers s₀ (execLdl b c wd wa imm s) := by
  unfold execLdl
  exact .next (hs.issue fun _ ht => .ite ht.faultCtx (.ite ht.faultCtx (.ite ht.sramWord.faultCtx ht.sramWord.modCtx.result)))

theorem execStc_answers (hs : Keeps s₀ s) {b c wd wa wb : Nat} : Answers s₀ (execStc b c wd wa wb s) := by
  unfold execStc
  exact .next (hs.issue fun _ ht => .ite ht.faultCtx (.ite ht.faultCtx (.ite ht.sramPut.modCtx.result ht.modCtx.result)))

theorem execMovp_answers (hs : Keeps s₀ s) {b c p w : Nat} : Answers s₀ (execMovp b c p w s) := by
  unfold execMovp
  exact .next (hs.issue fun _ ht => ht.modCtx.complete)

theorem execMfp_answers (hs : Keeps s₀ s) {b c w p : Nat} : Answers s₀ (execMfp b c w p s) := by
  unfold execMfp
  exact .next (hs.issue fun _ ht => ht.result)

theorem execAddp_answers (hs : Keeps s₀ s) {b c p : Nat} {imm : BitVec 16} : Answers s₀ (execAddp b c p imm s) := by
  unfold execAddp
  exact .next (hs.issue fun _ ht => ht.modCtx.complete)

theorem execMac_answers (hs : Keeps s₀ s) {b c acc wa wb la pa lb pb : Nat} {ldA ldB : Bool} :
    Answers s₀ (execMac b c acc wa wb la pa lb pb ldA ldB s) := by
  unfold execMac
  exact .next (hs.issue fun _ ht => ht.loadInstr)

theorem execMsu_answers (hs : Keeps s₀ s) {b c acc wa wb la pa lb pb : Nat} {ldA ldB : Bool} :
    Answers s₀ (execMsu b c acc wa wb la pa lb pb ldA ldB s) := by
  unfold execMsu
  exact .next (hs.issue fun _ ht => ht.loadInstr)

theorem execClra_answers (hs : Keeps s₀ s) {b c acc : Nat} : Answers s₀ (execClra b c acc s) := by
  unfold execClra
  exact .next (hs.issue fun _ ht => ht.modCtx.complete)

theorem execSac_answers (hs : Keeps s₀ s) {b c w acc n : Nat} {rnd wide uns : Bool} :
    Answers s₀ (execSac b c w acc n rnd wide uns s) := by
  unfold execSac
  exact .next (hs.issue fun _ ht => ht.modCtx.complete)

theorem execMta_answers (hs : Keeps s₀ s) {b c acc w sh : Nat} : Answers s₀ (execMta b c acc w sh s) := by
  unfold execMta
  exact .next (hs.issue fun _ ht => .ite ht.illegal ht.modCtx.complete)

theorem execMfag_answers (hs : Keeps s₀ s) {b c w acc : Nat} : Answers s₀ (execMfag b c w acc s) := by
  unfold execMfag
  exact .next (hs.issue fun _ ht => ht.result)

theorem execMfal_answers (hs : Keeps s₀ s) {b c w acc : Nat} : Answers s₀ (execMfal b c w acc s) := by
  unfold execMfal
  exact .next (hs.issue fun _ ht => ht.result)

theorem execIllegalInstruction_answers (hs : Keeps s₀ s) {b c : Nat} {word : BitVec 32} :
    Answers s₀ (execIllegalInstruction b c word s) := by
  unfold execIllegalInstruction
  exact .next (hs.issue fun _ ht => .ite ht.illegal ht)

/-- The engine instructions. -/
theorem engineExec_answers (hs : Keeps s₀ s) (i : Instr) : Answers s₀ (engineExec i s) := by
  cases i with
  | add => exact execAdd_answers hs
  | sub => exact execSub_answers hs
  | and => exact execAnd_answers hs
  | or => exact execOr_answers hs
  | xor => exact execXor_answers hs
  | shl => exact execShl_answers hs
  | shr => exact execShr_answers hs
  | sar => exact execSar_answers hs
  | ror => exact execRor_answers hs
  | slt => exact execSlt_answers hs
  | sltu => exact execSltu_answers hs
  | min => exact execMin_answers hs
  | max => exact execMax_answers hs
  | minu => exact execMinu_answers hs
  | maxu => exact execMaxu_answers hs
  | mul => exact execMul_answers hs
  | mulh => exact execMulh_answers hs
  | mulhu => exact execMulhu_answers hs
  | clz => exact execClz_answers hs
  | addi => exact execAddi_answers hs
  | andi => exact execAndi_answers hs
  | ori => exact execOri_answers hs
  | xori => exact execXori_answers hs
  | slti => exact execSlti_answers hs
  | sltui => exact execSltui_answers hs
  | movhi => exact execMovhi_answers hs
  | shi => exact execShi_answers hs
  | ldw => exact execLdw_answers hs
  | ldh => exact execLdh_answers hs
  | ldhu => exact execLdhu_answers hs
  | ldb => exact execLdb_answers hs
  | ldbu => exact execLdbu_answers hs
  | stw => exact execStw_answers hs
  | sth => exact execSth_answers hs
  | stb => exact execStb_answers hs
  | ldp => exact execLdp_answers hs
  | stp => exact execStp_answers hs
  | ldl => exact execLdl_answers hs
  | stc => exact execStc_answers hs
  | movp => exact execMovp_answers hs
  | mfp => exact execMfp_answers hs
  | addp => exact execAddp_answers hs
  | mac => exact execMac_answers hs
  | msu => exact execMsu_answers hs
  | clra => exact execClra_answers hs
  | sac => exact execSac_answers hs
  | mta => exact execMta_answers hs
  | mfag => exact execMfag_answers hs
  | mfal => exact execMfal_answers hs
  | beq => exact execBeq_answers hs
  | bne => exact execBne_answers hs
  | blt => exact execBlt_answers hs
  | bge => exact execBge_answers hs
  | bltu => exact execBltu_answers hs
  | bgeu => exact execBgeu_answers hs
  | bdec => exact execBdec_answers hs
  | jmp => exact execJmp_answers hs
  | call => exact execCall_answers hs
  | jr => exact execJr_answers hs
  | loop => exact execLoop_answers hs
  | rot => exact execRot_answers hs
  | rotZ => exact execRotZ_answers hs
  | qpush => exact execQpush_answers hs
  | qpop => exact execQpop_answers hs
  | time => exact execTime_answers hs
  | fsync => exact execFsync_answers hs
  | wfe => exact execWfe_answers hs
  | stim => exact execStim_answers hs
  | brk => exact execBrk_answers hs
  | fence => exact execFence_answers hs
  | idle => exact execIdle_answers hs
  | nop => exact execNop_answers hs
  | mfs => exact execMfs_answers hs
  | mts => exact execMts_answers hs
  | _ => exact .next hs

theorem Keeps.stepCtx (hs : Keeps s₀ s) {b c : Nat} : Keeps s₀ (s.stepCtx b c) := by
  unfold State.stepCtx
  extract_lets s1 _ _ s3
  have hs1 : Keeps s₀ s1 := hs.foldl fun _ _ ht => .ite ht.modCtx ht
  have hs3 : Keeps s₀ s3 := by
    unfold s3
    split
    · exact Answers.outState (engineExec_answers hs1.runCtx.modDbg _)
    · exact hs1.runCtx.modDbg.issue fun _ ht => ht.illegal
  exact .ite (.ite hs3.modDbg hs3.takeHalt) hs3

theorem Keeps.dbgStep (hs : Keeps s₀ s) {b : Nat} : Keeps s₀ (s.dbgStep b) := by
  unfold State.dbgStep
  refine .ite hs.levelDenied (.ite (.ite hs ?_) hs.dbgIgn)
  split
  · exact hs.stepCtx
  · exact hs.modDbg

theorem execEngineStep_answers (hs : Keeps s₀ s) {b : Nat} : Answers s₀ (execEngineStep b s) := by
  unfold execEngineStep
  exact .next (.ite hs.dbgStep hs)

theorem Keeps.setCtxData (hs : Keeps s₀ s) {b c reg x : Nat} : Keeps s₀ (s.setCtxData b c reg x) := by
  unfold State.setCtxData
  refine .ite hs.modCtx (.ite hs.setPc (.ite hs.modCtx (.ite hs.modCtx (.ite hs.modCtx (.ite ?_ hs.dbgIgn)))))
  split
  · exact hs.modCtx
  · exact hs.dbgIgn

theorem Keeps.ctxDataRead (hs : Keeps s₀ s) {b : Nat} : Keeps s₀ (s.ctxDataRead b).2 := by
  unfold State.ctxDataRead
  exact .ite₂ (.snd hs.levelDenied) (.ite₂ (.snd hs) (.snd hs.dbgIgn))

theorem Keeps.ctxDataWrite (hs : Keeps s₀ s) {b x : Nat} : Keeps s₀ (s.ctxDataWrite b x) := by
  unfold State.ctxDataWrite
  exact .ite hs.levelDenied (.ite hs.setCtxData hs.dbgIgn)

theorem execCtxdataAccess_answers (hs : Keeps s₀ s) {b : Nat} {write : Bool} {value : BitVec 32} :
    Answers s₀ (execCtxdataAccess b write value s) := by
  unfold execCtxdataAccess
  exact .next (.ite (.ite hs.ctxDataWrite hs.ctxDataRead.emit) hs)

theorem Keeps.wrLevel (hs : Keeps s₀ s) {q need a : Nat} {f : Fld} {v : Nat} : Keeps s₀ (s.wrLevel q need a f v) := by
  unfold State.wrLevel
  exact .ite hs.wr (.ite hs hs.levelDenied)

theorem Keeps.engCtrlWrite (hs : Keeps s₀ s) {b v : Nat} : Keeps s₀ (s.engCtrlWrite b v) := by
  unfold State.engCtrlWrite
  exact .ite hs.wrLevel.wrLevel.wrLevel.wrLevel.wrLevel.wrLevel.dbgStep
    (.ite hs.wrLevel.wrLevel.wrLevel.wrLevel.wrLevel.wrLevel.dbgRelease
    (.ite hs.wrLevel.wrLevel.wrLevel.wrLevel.wrLevel.wrLevel.dbgHalt hs.wrLevel.wrLevel.wrLevel.wrLevel.wrLevel.wrLevel))

theorem Keeps.xtCfgWrite (hs : Keeps s₀ s) {g v : Nat} : Keeps s₀ (s.xtCfgWrite g v) := by
  unfold State.xtCfgWrite
  exact hs.wrLevel.wrLevel.wrLevel.wrLevel.wrLevel.wrLevel

theorem Keeps.xtCmdWrite (hs : Keeps s₀ s) {g v : Nat} : Keeps s₀ (s.xtCmdWrite g v) := by
  unfold State.xtCmdWrite
  exact .ite hs.xtRelease (.ite hs.xtPulse hs)

theorem Keeps.newNonce (hs : Keeps s₀ s) : Keeps s₀ (s.newNonce) :=
  .other hs

theorem Keeps.unlockEnds (hs : Keeps s₀ s) {ok : Bool} : Keeps s₀ (s.unlockEnds ok) := by
  unfold State.unlockEnds
  extract_lets a want _ s1 s2 s3
  have hs1 : Keeps s₀ s1 := .withUnlocks hs.wr.newNonce
  clear_value s1
  have hs3 : Keeps s₀ s3 := .ite hs1.bump.wr.wr hs1.bump.wr
  exact .ite (.ite hs1.wr.raise hs1) hs3.raise

theorem Keeps.unlockWrite (hs : Keeps s₀ s) {v : Nat} : Keeps s₀ (s.unlockWrite v) := by
  unfold State.unlockWrite
  exact .ite hs (.ite hs.wr.unlockEnds hs.wr.wr)

theorem execDebugUnlock_answers (hs : Keeps s₀ s) {value : BitVec 32} : Answers s₀ (execDebugUnlock value s) := by
  unfold execDebugUnlock
  exact .next hs.unlockWrite

theorem execUnlockCheckDone_answers (hs : Keeps s₀ s) {ok : Bool} : Answers s₀ (execUnlockCheckDone ok s) := by
  unfold execUnlockCheckDone
  exact .next (.ite hs.unlockEnds hs)

theorem Keeps.dbmEnd (hs : Keeps s₀ s) {p status : Nat} : Keeps s₀ (s.dbmEnd p status) := by
  unfold State.dbmEnd
  exact hs.wr.wr

theorem Keeps.dbmGo (hs : Keeps s₀ s) {p : Nat} : Keeps s₀ (s.dbmGo p) := by
  unfold State.dbmGo
  exact .ite hs (.ite hs.wr.dbmEnd (.ite hs.dbmEnd (.withOutst hs.wr)))

theorem execDbmGo_answers (hs : Keeps s₀ s) {p : Nat} : Answers s₀ (execDbmGo p s) := by
  unfold execDbmGo
  exact .next (.ite hs.dbmGo hs)

theorem Keeps.dbmDone (hs : Keeps s₀ s) {p status data : Nat} {o : Outst} : Keeps s₀ (s.dbmDone p status data o) := by
  unfold State.dbmDone
  exact .dbmEnd (.ite (hs.foldl fun _ _ ht => .ite ht.wr ht) hs)

theorem Keeps.dropTrace (hs : Keeps s₀ s) {q : Nat} : Keeps s₀ (s.dropTrace q) := by
  unfold State.dropTrace
  exact hs.bump.setSink.raise

theorem Keeps.sinkTake (hs : Keeps s₀ s) {q : Nat} {p : TrcPkt} {net : Net} : Keeps s₀ (s.sinkTake q p net) := by
  unfold State.sinkTake
  exact .ite (.ite hs.setSink hs.dropTrace) (.ite hs.dropTrace (.ite hs.farWrite.wr.setSink hs.farWrite.dropTrace))

theorem execTracePacket_answers (hs : Keeps s₀ s) {b : Nat} {net : Net} : Answers s₀ (execTracePacket b net s) := by
  unfold execTracePacket
  refine .next ?_
  split
  · exact .ite hs.modDbg.sinkTake hs
  · exact hs

theorem Keeps.trcPop (hs : Keeps s₀ s) {q : Nat} : Keeps s₀ (s.trcPop q).2 := by
  unfold State.trcPop
  exact .snd (hs.setSink.foldl fun _ _ ht => ht.wr)

theorem execTrcPop_answers (hs : Keeps s₀ s) {q : Nat} : Answers s₀ (execTrcPop q s) := by
  unfold execTrcPop
  exact .next (.ite (.ite hs.levelDenied.emit hs.trcPop.emit) hs)

theorem Keeps.trcCfgWrite (hs : Keeps s₀ s) {q v : Nat} : Keeps s₀ (s.trcCfgWrite q v) := by
  unfold State.trcCfgWrite
  exact .wrLevel (.ite hs hs.wrLevel.wrLevel.wrLevel)

theorem Keeps.trcBaseWrite (hs : Keeps s₀ s) {q v : Nat} : Keeps s₀ (s.trcBaseWrite q v) := by
  unfold State.trcBaseWrite
  exact .ite hs hs.wrLevel

theorem Keeps.tap (hs : Keeps s₀ s) {ir balls : Nat} {o : Output} : Keeps s₀ (s.tap ir balls o) := by
  unfold State.tap
  exact .emit (.other hs)

theorem Keeps.bypass (hs : Keeps s₀ s) : Keeps s₀ (s.bypass) := by
  unfold State.bypass
  exact hs.tap

theorem Keeps.boundary (hs : Keeps s₀ s) {ir balls : Nat} {o : Output} : Keeps s₀ (s.boundary ir balls o) := by
  unfold State.boundary
  exact .ite hs.tap hs.levelDenied.bypass

theorem execIdcode_answers (hs : Keeps s₀ s) : Answers s₀ (execIdcode s) := by
  unfold execIdcode
  exact .next hs.tap

theorem execSamplePreload_answers (hs : Keeps s₀ s) : Answers s₀ (execSamplePreload s) := by
  unfold execSamplePreload
  exact .next hs.boundary

theorem execExtest_answers (hs : Keeps s₀ s) : Answers s₀ (execExtest s) := by
  unfold execExtest
  exact .next hs.boundary

theorem execClamp_answers (hs : Keeps s₀ s) : Answers s₀ (execClamp s) := by
  unfold execClamp
  exact .next hs.boundary

theorem execHighz_answers (hs : Keeps s₀ s) : Answers s₀ (execHighz s) := by
  unfold execHighz
  exact .next hs.boundary

theorem execBypass_answers (hs : Keeps s₀ s) : Answers s₀ (execBypass s) := by
  unfold execBypass
  exact .next hs.bypass

theorem Keeps.modLane (hs : Keeps s₀ s) {l : Nat} {f : LaneSt → LaneSt} : Keeps s₀ (s.modLane l f) := by
  unfold State.modLane
  exact hs.setLane

theorem Keeps.modMac (hs : Keeps s₀ s) {e : Nat} {f : MacSt → MacSt} : Keeps s₀ (s.modMac e f) := by
  unfold State.modMac
  exact hs.setMac

theorem Keeps.modCan (hs : Keeps s₀ s) {n : Nat} {f : CanSt → CanSt} : Keeps s₀ (s.modCan n f) := by
  unfold State.modCan
  exact hs.setCan

theorem Keeps.macUpdate (hs : Keeps s₀ s) {e : Nat} : Keeps s₀ (s.macUpdate e) := by
  unfold State.macUpdate
  exact .ite hs.wr hs.wr.wr.setFlag

theorem Keeps.attn (hs : Keeps s₀ s) {l : Nat} : Keeps s₀ (s.attn l) := by
  unfold State.attn
  exact .ite hs (.ite hs.wr.raise hs.wr)

theorem Keeps.portSync (hs : Keeps s₀ s) {l : Nat} : Keeps s₀ (s.portSync l) := by
  unfold State.portSync
  split
  · exact hs
  · exact .ite hs (.ite (.withSlink hs.setPort.raiseIf) hs.setPort.raiseIf)

theorem Keeps.laneSync (hs : Keeps s₀ s) {l : Nat} : Keeps s₀ (s.laneSync l) := by
  unfold State.laneSync
  extract_lets
  split
  · exact .macUpdate (.ite hs.attn.portSync hs.attn.portSync.modMac)
  · exact hs.attn.portSync

theorem Keeps.rxRestart (hs : Keeps s₀ s) {l : Nat} : Keeps s₀ (s.rxRestart l) := by
  unfold State.rxRestart
  exact hs.wr.wr.wr.modLane

theorem Keeps.txRestart (hs : Keeps s₀ s) {l : Nat} : Keeps s₀ (s.txRestart l) := by
  unfold State.txRestart
  extract_lets
  split
  · exact hs.modLane.modMac
  · exact hs.modLane

theorem Keeps.laneSettle (hs : Keeps s₀ s) {l : Nat} : Keeps s₀ (s.laneSettle l) := by
  unfold State.laneSettle
  exact .laneSync (.ite hs.wr.wr hs.wr.wr.wr.wr.modLane)

theorem Keeps.lnCfgWrite (hs : Keeps s₀ s) {l v : Nat} : Keeps s₀ (s.lnCfgWrite l v) := by
  unfold State.lnCfgWrite
  extract_lets _ _ t1 _ _ t3 _ _ t6
  have ht1 : Keeps s₀ t1 := .ite hs.wr hs
  have ht3 : Keeps s₀ t3 := .ite (.ite ht1.wr ht1) (.wr (.ite ht1.wr ht1))
  have ht6 : Keeps s₀ t6 := .wr (.wr (.wr (.ite (.ite ht3.wr ht3) (.wr (.ite ht3.wr ht3)))))
  exact .laneSettle (.ite ht6.wr.rxRestart.txRestart (.ite ht6.wr.rxRestart ht6.wr))

theorem execLaneCfgWrite_answers (hs : Keeps s₀ s) {l : Nat} {value : BitVec 32} : Answers s₀ (execLaneCfgWrite l value s) := by
  unfold execLaneCfgWrite
  exact .next (.ite hs.lnCfgWrite hs)

theorem execLaneTxSleep_answers (hs : Keeps s₀ s) {l : Nat} {sleep : Bool} : Answers s₀ (execLaneTxSleep l sleep s) := by
  unfold execLaneTxSleep
  exact .next (.ite hs.wr.laneSettle hs)

theorem execLaneRxSleep_answers (hs : Keeps s₀ s) {l : Nat} {sleep inFrame : Bool} :
    Answers s₀ (execLaneRxSleep l sleep inFrame s) := by
  unfold execLaneRxSleep
  refine .next (.ite ?_ hs)
  extract_lets s1
  have hs1 : Keeps s₀ s1 := by
    unfold s1
    split
    · exact .ite hs.bump hs
    · exact hs
  exact hs1.wr.laneSettle

theorem Keeps.showRef (hs : Keeps s₀ s) {q : Nat} : Keeps s₀ (s.showRef q) := by
  unfold State.showRef
  exact hs.foldl fun _ _ ht => ht.wr

theorem execLrefclkLoss_answers (hs : Keeps s₀ s) {q : Nat} : Answers s₀ (execLrefclkLoss q s) := by
  unfold execLrefclkLoss
  exact .next (.ite hs.setNoLref.showRef hs)

theorem execLrefclkReturn_answers (hs : Keeps s₀ s) {q : Nat} : Answers s₀ (execLrefclkReturn q s) := by
  unfold execLrefclkReturn
  exact .next (.ite hs.setNoLref.showRef hs)

theorem execCdrLockAcquire_answers (hs : Keeps s₀ s) {l : Nat} : Answers s₀ (execCdrLockAcquire l s) := by
  unfold execCdrLockAcquire
  exact .next (.ite hs.wr.modLane.laneSync hs)

theorem execCdrLockLoss_answers (hs : Keeps s₀ s) {l : Nat} : Answers s₀ (execCdrLockLoss l s) := by
  unfold execCdrLockLoss
  exact .next (.ite hs.wr.wr.wr.modLane.laneSync hs)

theorem Keeps.rawDeliver (hs : Keeps s₀ s) {l hdr payload : Nat} : Keeps s₀ (s.rawDeliver l hdr payload) := by
  unfold State.rawDeliver
  exact .ite hs.setChan.setChan.bump hs.setChan.setChan.setChan.setChan

theorem Keeps.retime (hs : Keeps s₀ s) {l : Nat} {o : Output} : Keeps s₀ (s.retime l o) := by
  unfold State.retime
  exact .ite hs.emit hs

theorem execBlockReceive_answers (hs : Keeps s₀ s) {l hdr payload : Nat} : Answers s₀ (execBlockReceive l hdr payload s) := by
  unfold execBlockReceive
  refine .next ?_
  refine .ite (.ite ?_ (.ite (.ite hs.retime.modLane.wr.setLane.laneSync hs.retime.modLane.setLane)
    hs.retime.modLane.bump.setLane.laneSync)) hs
  extract_lets s3
  have hs3 : Keeps s₀ s3 := .ite hs.retime.modLane hs.retime.modLane.bump
  exact .ite hs3.wr.wr.setLane.laneSync (.laneSync (.ite hs3.setLane.rawDeliver hs3.setLane))

theorem Keeps.sendPattern (hs : Keeps s₀ s) {l : Nat} : Keeps s₀ (s.sendPattern l) := by
  unfold State.sendPattern
  extract_lets _ _ s1
  have hs1 : Keeps s₀ s1 := .ite hs hs.drawn
  exact .ite (.ite hs1.modLane.modLane.emit hs1.modLane.modLane) (.ite hs1.modLane.emit hs1.modLane)

theorem execBlockTransmit_answers (hs : Keeps s₀ s) {l : Nat} : Answers s₀ (execBlockTransmit l s) := by
  unfold execBlockTransmit
  refine .next ?_
  refine .ite (.ite hs.sendPattern (.ite ?_ hs)) hs
  extract_lets _ _ _ _ _ _ _ s2
  have hs2 : Keeps s₀ s2 := .ite hs.setChan.setChan.setChan.setChan hs.setChan.setChan.bump.attn
  exact .ite (.emit (.modLane (.ite hs2 hs2.drawn))) (.modLane (.ite hs2 hs2.drawn))

theorem Keeps.checkPrbs (hs : Keeps s₀ s) {l b : Nat} : Keeps s₀ (s.checkPrbs l b) := by
  unfold State.checkPrbs
  exact .ite hs.setLane (.ite (.ite (.setLane (.wr (.ite hs.bump hs))) (.setLane (.ite hs.bump hs)))
    (.ite hs.setLane (.ite hs.wr.setLane hs.setLane)))

theorem execPrbsChecker_answers (hs : Keeps s₀ s) {l : Nat} {syms : List Nat} : Answers s₀ (execPrbsChecker l syms s) := by
  unfold execPrbsChecker
  exact .next (.ite (.ite (.attn (.modLane (hs.retime.foldl fun _ _ ht => ht.checkPrbs)))
    (.attn (hs.retime.foldl fun _ _ ht => ht.checkPrbs))) hs)

theorem Keeps.macCfgWrite (hs : Keeps s₀ s) {e reg v : Nat} : Keeps s₀ (s.macCfgWrite e reg v) := by
  unfold State.macCfgWrite
  extract_lets a en s1 s2 old s3 s4 s5 s6 s7
  have hs4 : Keeps s₀ s4 := .ite (.ite hs.wr.wr.wr.wr hs.wr.wr.wr.wr.wr) (.wr (.ite hs.wr.wr.wr.wr hs.wr.wr.wr.wr.wr))
  have hs5 : Keeps s₀ s5 := .ite hs4 hs4.modMac
  have hs7 : Keeps s₀ s7 := .ite hs5.wr hs5.wr.modMac
  split
  · exact hs7.macUpdate
  · exact .ite hs hs.wr
  · exact .ite hs hs.wr
  · exact hs

theorem execMacCfgWrite_answers (hs : Keeps s₀ s) {e reg : Nat} {value : BitVec 32} :
    Answers s₀ (execMacCfgWrite e reg value s) := by
  unfold execMacCfgWrite
  exact .next (.ite hs.macCfgWrite hs)

theorem execMacLinkChange_answers (hs : Keeps s₀ s) {e : Nat} {report : MacReport} :
    Answers s₀ (execMacLinkChange e report s) := by
  unfold execMacLinkChange
  exact .next (.ite hs.modMac.wr.wr.wr.bump.bump.raiseIf.macUpdate hs)

theorem Keeps.pauseTaken (hs : Keeps s₀ s) {e quanta : Nat} : Keeps s₀ (s.pauseTaken e quanta) := by
  unfold State.pauseTaken
  exact hs.modMac

theorem Keeps.pauseSend (hs : Keeps s₀ s) {e : Nat} : Keeps s₀ (s.pauseSend e) := by
  unfold State.pauseSend
  exact .ite (.ite (.pauseTaken (.ite hs.emit hs)) (.ite hs.emit hs)) hs

theorem execMacPauseSend_answers (hs : Keeps s₀ s) {e : Nat} : Answers s₀ (execMacPauseSend e s) := by
  unfold execMacPauseSend
  exact .next (.ite hs.pauseSend hs)

theorem execPauseTimerExpiry_answers (hs : Keeps s₀ s) {e : Nat} : Answers s₀ (execPauseTimerExpiry e s) := by
  unfold execPauseTimerExpiry
  exact .next (.ite hs.modMac hs)

theorem Keeps.ringFail (hs : Keeps s₀ s) {r : Nat} : Keeps s₀ (s.ringFail r) := by
  unfold State.ringFail
  exact hs.wr.setFlag

theorem Keeps.ringFresh (hs : Keeps s₀ s) {r : Nat} : Keeps s₀ (s.ringFresh r) := by
  unfold State.ringFresh
  exact .ite hs (.ite hs.modMac hs.modCan)

theorem Keeps.ringCfgWrite (hs : Keeps s₀ s) {r v : Nat} : Keeps s₀ (s.ringCfgWrite r v) := by
  unfold State.ringCfgWrite
  extract_lets _ s1 s2 s3 s4
  have hs1 : Keeps s₀ s1 := .ite hs.wr hs
  have hs2 : Keeps s₀ s2 := .ite hs1.wr hs1
  have hs4 : Keeps s₀ s4 := .ite hs2.wr.wr.wr hs2.wr.wr
  exact .ite hs2.wr (.ite hs4 (.ite hs4.wr.wr.wr.ringFresh hs4.ringFail))

theorem Keeps.ringBaseWrite (hs : Keeps s₀ s) {r v : Nat} : Keeps s₀ (s.ringBaseWrite r v) := by
  unfold State.ringBaseWrite
  exact .ite hs hs.wr

theorem execRingEnable_answers (hs : Keeps s₀ s) {ring : Nat} {value : BitVec 32} : Answers s₀ (execRingEnable ring value s) := by
  unfold execRingEnable
  exact .next (.ite hs.ringCfgWrite hs)

theorem Keeps.txWrWrite (hs : Keeps s₀ s) {r v : Nat} : Keeps s₀ (s.txWrWrite r v) := by
  unfold State.txWrWrite
  exact .ite hs.setFlag hs.wr

theorem execTxRingWrWrite_answers (hs : Keeps s₀ s) {ring : Nat} {value : BitVec 32} :
    Answers s₀ (execTxRingWrWrite ring value s) := by
  unfold execTxRingWrWrite
  exact .next (.ite hs.txWrWrite hs)

theorem Keeps.canCfgWrite (hs : Keeps s₀ s) {n reg v : Nat} : Keeps s₀ (s.canCfgWrite n reg v) := by
  unfold State.canCfgWrite
  extract_lets
  split
  · exact .ite hs.wr.wr.wr hs.wr.wr.wr.wr
  · exact .ite hs hs.wr.wr.wr.wr
  · exact .ite hs hs.wr.wr.wr.wr
  · exact hs.wr.wr
  · exact hs

theorem execCanCfgWrite_answers (hs : Keeps s₀ s) {n reg : Nat} {value : BitVec 32} :
    Answers s₀ (execCanCfgWrite n reg value s) := by
  unfold execCanCfgWrite
  exact .next (.ite hs.canCfgWrite hs)

theorem Keeps.setCanState (hs : Keeps s₀ s) {n st : Nat} : Keeps s₀ (s.setCanState n st) := by
  unfold State.setCanState
  exact .ite hs hs.wr.setFlag

theorem Keeps.canRestart (hs : Keeps s₀ s) {n : Nat} : Keeps s₀ (s.canRestart n) := by
  unfold State.canRestart
  exact .ite hs.modCan hs

theorem execCanRestart_answers (hs : Keeps s₀ s) {n : Nat} : Answers s₀ (execCanRestart n s) := by
  unfold execCanRestart
  exact .next (.ite hs.canRestart hs)

theorem execCanBusOffRecovery_answers (hs : Keeps s₀ s) {n : Nat} : Answers s₀ (execCanBusOffRecovery n s) := by
  unfold execCanBusOffRecovery
  exact .next (.ite hs.wr.wr.modCan.setCanState hs)

theorem Keeps.force (hs : Keeps s₀ s) {ofs rate : Int} : Keeps s₀ (s.force ofs rate) := by
  unfold State.force
  exact .withOfsNowRateNow hs.wr.wr.wr.wr

theorem Keeps.setDOfs (hs : Keeps s₀ s) {d : Nat} {v : Int} : Keeps s₀ (s.setDOfs d v) := by
  unfold State.setDOfs
  exact hs.wr.wr.wr

theorem Keeps.modDom (hs : Keeps s₀ s) {d : Nat} {f : DomSt → DomSt} : Keeps s₀ (s.modDom d f) := by
  unfold State.modDom
  exact hs.setDom

theorem Keeps.setNextB (hs : Keeps s₀ s) {n : Option (Int × Nat)} : Keeps s₀ (s.setNextB n) := by
  unfold State.setNextB
  extract_lets
  split
  · exact .wr (.wr (.other hs))
  · exact .other hs

theorem Keeps.framesStep (hs : Keeps s₀ s) : Keeps s₀ (s.framesStep) := by
  unfold State.framesStep
  split
  · exact hs
  · exact .ite hs.bump.raiseN.setNextB hs

theorem Keeps.timeStep (hs : Keeps s₀ s) {ofs rate : Int} : Keeps s₀ (s.timeStep ofs rate) := by
  unfold State.timeStep
  exact hs.force.setFlag.framesStep

theorem Keeps.frCtrlWrite (hs : Keeps s₀ s) {v : Nat} : Keeps s₀ (s.frCtrlWrite v) := by
  unfold State.frCtrlWrite
  exact .ite (.withNextB hs.wr) (.ite hs.wr hs.wr.setNextB)

theorem execFrameEnable_answers (hs : Keeps s₀ s) {value : BitVec 32} : Answers s₀ (execFrameEnable value s) := by
  unfold execFrameEnable
  exact .next (.ite hs.frCtrlWrite hs)

theorem execFrPeriodWrite_answers (hs : Keeps s₀ s) {value : BitVec 32} : Answers s₀ (execFrPeriodWrite value s) := by
  unfold execFrPeriodWrite
  exact .next (.ite hs.wr hs)

theorem execFrameNotice_answers (hs : Keeps s₀ s) {q : Nat} : Answers s₀ (execFrameNotice q s) := by
  unfold execFrameNotice
  refine .next ?_
  split
  · split
    · exact .ite hs.setHeld hs
    · exact hs
  · split
    · exact .ite (.raise (.setNextB (.wr (.other hs)))) hs
    · exact hs

theorem Keeps.startSwitch (hs : Keeps s₀ s) : Keeps s₀ (s.startSwitch) := by
  unfold State.startSwitch
  exact .ite hs.wr.force.raise (.ite hs.wr.timeStep hs.wr.force)

theorem Keeps.actWrite (hs : Keeps s₀ s) {v : Nat} : Keeps s₀ (s.actWrite v) := by
  unfold State.actWrite
  exact .ite hs.wr.startSwitch hs.wr

theorem execDomainSwitch_answers (hs : Keeps s₀ s) {value : BitVec 32} : Answers s₀ (execDomainSwitch value s) := by
  unfold execDomainSwitch
  exact .next (.ite hs.actWrite hs)

theorem execSwitchComplete_answers (hs : Keeps s₀ s) : Answers s₀ (execSwitchComplete s) := by
  unfold execSwitchComplete
  exact .next (.ite hs.wr.force.raise hs)

theorem Keeps.follow (hs : Keeps s₀ s) : Keeps s₀ (s.follow) := by
  unfold State.follow
  exact .ite hs hs.force

theorem execTimeChangeApply_answers (hs : Keeps s₀ s) : Answers s₀ (execTimeChangeApply s) := by
  unfold execTimeChangeApply
  exact .next (.ite hs.follow hs)

theorem Keeps.setLocked (hs : Keeps s₀ s) {d : Nat} {v : Bool} : Keeps s₀ (s.setLocked d v) := by
  unfold State.setLocked
  exact .ite hs hs.wr.raise

theorem Keeps.domStep (hs : Keeps s₀ s) {d : Nat} {ofs : Int} : Keeps s₀ (s.domStep d ofs) := by
  unfold State.domStep
  exact .ite hs (.ite (.ite hs.setDOfs.wr.setLocked.modDom.startSwitch hs.setDOfs.wr.setLocked.modDom.timeStep)
    hs.setDOfs.wr.setLocked.modDom)

theorem Keeps.domRate (hs : Keeps s₀ s) {d : Nat} {rate : Int} : Keeps s₀ (s.domRate d rate) := by
  unfold State.domRate
  exact .ite hs (.ite (.ite hs.setDOfs.wr.startSwitch hs.setDOfs.wr.follow) hs.setDOfs.wr)

theorem Keeps.domOfsWrite (hs : Keeps s₀ s) {d w v : Nat} : Keeps s₀ (s.domOfsWrite d w v) := by
  unfold State.domOfsWrite
  split
  · exact hs.modDom
  · exact hs.modDom
  · exact hs.domStep

theorem execDomOfsLoad_answers (hs : Keeps s₀ s) {d : Nat} {value : BitVec 32} : Answers s₀ (execDomOfsLoad d value s) := by
  unfold execDomOfsLoad
  exact .next (.ite hs.domOfsWrite hs)

theorem Keeps.domAdj (hs : Keeps s₀ s) {d v : Nat} : Keeps s₀ (s.domAdj d v) := by
  unfold State.domAdj
  exact hs.wr.domStep

theorem execDomAdj_answers (hs : Keeps s₀ s) {d : Nat} {value : BitVec 32} : Answers s₀ (execDomAdj d value s) := by
  unfold execDomAdj
  exact .next (.ite hs.domAdj hs)

theorem Keeps.domRateWrite (hs : Keeps s₀ s) {d v : Nat} : Keeps s₀ (s.domRateWrite d v) := by
  unfold State.domRateWrite
  exact .ite hs hs.domRate

theorem execDomRateWrite_answers (hs : Keeps s₀ s) {d : Nat} {value : BitVec 32} : Answers s₀ (execDomRateWrite d value s) := by
  unfold execDomRateWrite
  exact .next (.ite hs.domRateWrite hs)

theorem Keeps.clamped (hs : Keeps s₀ s) {d : Nat} {v : Int} : Keeps s₀ (s.clamped d v).2 := by
  unfold State.clamped
  exact .ite₂ (.snd hs.setFlag) (.ite₂ (.snd hs.setFlag) (.snd hs))

theorem Keeps.sample (hs : Keeps s₀ s) {d : Nat} {theta : Int} : Keeps s₀ (s.sample d theta) := by
  unfold State.sample
  refine .ite ?_ hs
  extract_lets a last _ _ s2 _ _ _ s4
  have hs2 : Keeps s₀ s2 := hs.wr.wr.bump.wr.modDom
  have hs4 : Keeps s₀ s4 := .ite hs2.modDom.setLocked (.ite hs2.modDom.setLocked hs2.modDom)
  clear_value s4 last
  refine .ite hs4.domStep ?_
  split
  · exact hs4
  · exact .domRate (.clamped (.wr (.clamped (.ite hs4.drawn hs4))))

theorem Keeps.hostSample (hs : Keeps s₀ s) {d v : Nat} : Keeps s₀ (s.hostSample d v) := by
  unfold State.hostSample
  exact .ite hs.wr.sample hs.wr

theorem execHostSample_answers (hs : Keeps s₀ s) {d : Nat} {value : BitVec 32} : Answers s₀ (execHostSample d value s) := by
  unfold execHostSample
  exact .next (.ite hs.hostSample hs)

theorem Keeps.domCfgWrite (hs : Keeps s₀ s) {d v : Nat} : Keeps s₀ (s.domCfgWrite d v) := by
  unfold State.domCfgWrite
  exact .ite (.modDom (.wr (.wr (.wr (.wr (.wr (.wr (.wr (.wr (.wr (.ite hs hs.wr)))))))))))
    (.wr (.wr (.wr (.wr (.wr (.wr (.wr (.wr (.wr (.ite hs hs.wr))))))))))

theorem execDomainSampleTimeout_answers (hs : Keeps s₀ s) {d : Nat} : Answers s₀ (execDomainSampleTimeout d s) := by
  unfold execDomainSampleTimeout
  exact .next (.ite hs.wr.setLocked.modDom hs)

theorem execPtpMessageReceive_answers (hs : Keeps s₀ s) {d e : Nat} {theta : Option (BitVec 64)} :
    Answers s₀ (execPtpMessageReceive d e theta s) := by
  unfold execPtpMessageReceive
  refine .next (.ite ?_ hs)
  split
  · exact .ite hs.sample hs
  · exact hs

theorem execTdStreamLoss_answers (hs : Keeps s₀ s) {q : Nat} : Answers s₀ (execTdStreamLoss q s) := by
  unfold execTdStreamLoss
  exact .next (.ite (.ite hs.wr.setHeld hs.wr.setHeld.wr.raise) hs)

theorem execTdStreamReturn_answers (hs : Keeps s₀ s) {q : Nat} : Answers s₀ (execTdStreamReturn q s) := by
  unfold execTdStreamReturn
  exact .next (.ite hs.setHeld.wr hs)

theorem Keeps.timeSnap (hs : Keeps s₀ s) {q : Nat} : Keeps s₀ (s.timeSnap q) := by
  unfold State.timeSnap
  exact hs.wr.wr.wr.wr.wr.wr

theorem execTimeSnapshot_answers (hs : Keeps s₀ s) {q : Nat} : Answers s₀ (execTimeSnapshot q s) := by
  unfold execTimeSnapshot
  exact .next (.ite hs.timeSnap hs)

theorem Keeps.frCfgWrite (hs : Keeps s₀ s) {q n v : Nat} : Keeps s₀ (s.frCfgWrite q n v) := by
  unfold State.frCfgWrite
  exact .ite hs.wr hs.wr.wr

theorem execFrCfgWrite_answers (hs : Keeps s₀ s) {q n : Nat} {value : BitVec 32} : Answers s₀ (execFrCfgWrite q n value s) := by
  unfold execFrCfgWrite
  exact .next (.ite hs.frCfgWrite hs)

theorem execRailLock_answers (hs : Keeps s₀ s) {q n : Nat} : Answers s₀ (execRailLock q n s) := by
  unfold execRailLock
  exact .next (.ite (hs.wr.foldl fun _ _ ht => .ite ht.genUpdate ht) hs)

theorem execRailUnlock_answers (hs : Keeps s₀ s) {q n : Nat} : Answers s₀ (execRailUnlock q n s) := by
  unfold execRailUnlock
  exact .next (.ite (.ite (.raise (.wr (.ite hs.wr hs))) (.ite hs.wr hs)) hs)

theorem Keeps.nocClkWrite (hs : Keeps s₀ s) {q v : Nat} : Keeps s₀ (s.nocClkWrite q v) := by
  unfold State.nocClkWrite
  exact hs.wr.wr.wr

theorem execNocClkWrite_answers (hs : Keeps s₀ s) {q : Nat} {value : BitVec 32} : Answers s₀ (execNocClkWrite q value s) := by
  unfold execNocClkWrite
  exact .next (.ite hs.nocClkWrite hs)

theorem execNocClkDone_answers (hs : Keeps s₀ s) {q : Nat} : Answers s₀ (execNocClkDone q s) := by
  unfold execNocClkDone
  exact .next (.ite hs.wr hs)

theorem execSensorUpdate_answers (hs : Keeps s₀ s) {q : Nat} {sensors : Sensors} :
    Answers s₀ (execSensorUpdate q sensors s) := by
  unfold execSensorUpdate
  refine .next (.ite ?_ hs)
  extract_lets _ temps s1 _ s3 s4
  have hs1 : Keeps s₀ s1 := hs.foldl fun _ _ ht => ht.wr.wr
  have hs3 : Keeps s₀ s3 := .ite hs1.wr.wr.wr.wr hs1.wr
  have hs4 : Keeps s₀ s4 := .ite hs3.wr hs3
  clear_value s4 temps
  split
  · exact hs4
  · exact .ite hs4.wr.wr.setFlag hs4.wr.wr

theorem Keeps.setCap (hs : Keeps s₀ s) {q cap : Nat} {therm limit : Bool} : Keeps s₀ (s.setCap q cap therm limit) := by
  unfold State.setCap
  exact .raise (hs.wr.wr.wr.foldl fun _ _ ht => ht.genUpdate)

theorem execCapDrop_answers (hs : Keeps s₀ s) {q : Nat} : Answers s₀ (execCapDrop q s) := by
  unfold execCapDrop
  exact .next (.ite hs.setCap hs)

theorem execCapRise_answers (hs : Keeps s₀ s) {q : Nat} : Answers s₀ (execCapRise q s) := by
  unfold execCapRise
  exact .next (.ite hs.setCap hs)

theorem Keeps.pwrLogClear (hs : Keeps s₀ s) {q : Nat} : Keeps s₀ (s.pwrLogClear q) := by
  unfold State.pwrLogClear
  exact hs.wr.wr

theorem execPwrLogClear_answers (hs : Keeps s₀ s) {q : Nat} : Answers s₀ (execPwrLogClear q s) := by
  unfold execPwrLogClear
  exact .next (.ite hs.pwrLogClear hs)

theorem Keeps.refusalEntry (hs : Keeps s₀ s) {q target w1 : Nat} : Keeps s₀ (s.refusalEntry q target w1) := by
  unfold State.refusalEntry
  exact .wr (.wr (.wr (.wr (.wr (.wr (.ite hs.wr hs))))))

theorem execVinWarning_answers (hs : Keeps s₀ s) : Answers s₀ (execVinWarning s) := by
  unfold execVinWarning
  exact .next hs.wr.raise

theorem execVinWarningEnd_answers (hs : Keeps s₀ s) : Answers s₀ (execVinWarningEnd s) := by
  unfold execVinWarningEnd
  exact .next hs.wr.raise

theorem execInputCurrentLimit_answers (hs : Keeps s₀ s) : Answers s₀ (execInputCurrentLimit s) := by
  unfold execInputCurrentLimit
  exact .next (.ite hs hs.wr.raise)

theorem execInputLimitEnd_answers (hs : Keeps s₀ s) : Answers s₀ (execInputLimitEnd s) := by
  unfold execInputLimitEnd
  exact .next hs.wr

theorem Keeps.mbEvent (hs : Keeps s₀ s) {q k : Nat} {sideB : Bool} : Keeps s₀ (s.mbEvent q k sideB) := by
  unfold State.mbEvent
  exact .ite hs.raiseIf hs.raiseIf

theorem Keeps.mbFlag (hs : Keeps s₀ s) {q k : Nat} {sideB : Bool} {f : Fld} : Keeps s₀ (s.mbFlag q k sideB f) := by
  unfold State.mbFlag
  exact .ite hs hs.wr.mbEvent

theorem Keeps.mbTx (hs : Keeps s₀ s) {q k : Nat} {sideB : Bool} {v : Nat} : Keeps s₀ (s.mbTx q k sideB v) := by
  unfold State.mbTx
  exact .ite hs.mbFlag (.ite hs.setMbx.mbFlag hs.setMbx.mbEvent)

theorem Keeps.mbPop (hs : Keeps s₀ s) {q k : Nat} {sideB : Bool} : Keeps s₀ (s.mbPop q k sideB) := by
  unfold State.mbPop
  exact hs.setMbx

theorem Keeps.mbFlush (hs : Keeps s₀ s) {q k : Nat} : Keeps s₀ (s.mbFlush q k) := by
  unfold State.mbFlush
  exact .ite (.other hs) hs.setMbx

theorem execMailboxTimeout_answers (hs : Keeps s₀ s) {q k : Nat} {fromB : Bool} :
    Answers s₀ (execMailboxTimeout q k fromB s) := by
  unfold execMailboxTimeout
  refine .next (.ite ?_ hs)
  extract_lets
  split
  · exact hs.setMbx.mbFlag
  · exact hs

theorem Keeps.setCfgState (hs : Keeps s₀ s) {v : Nat} : Keeps s₀ (s.setCfgState v) := by
  unfold State.setCfgState
  exact hs.wr

theorem Keeps.modLoad (hs : Keeps s₀ s) {f : LoadSt → LoadSt} : Keeps s₀ (s.modLoad f) :=
  .other hs

theorem Keeps.errLine (hs : Keeps s₀ s) {low : Bool} : Keeps s₀ (s.errLine low) := by
  unfold State.errLine
  exact hs.modLoad.wr

theorem Keeps.holdTarget (hs : Keeps s₀ s) {t : Nat} : Keeps s₀ (s.holdTarget t) := by
  unfold State.holdTarget
  extract_lets
  split
  · exact .setIslState (.initFlops (.withCells hs.leaveSleep.clearEdges))
  · exact hs.leaveSleep.clearBay.wr.drivePins
  · exact hs.leaveSleep

theorem Keeps.loadError (hs : Keeps s₀ s) {code pos : Nat} : Keeps s₀ (s.loadError code pos) := by
  unfold State.loadError
  extract_lets _ _ s1
  have hs1 : Keeps s₀ s1 := hs.wr.wr.raise
  exact .ite hs1.modLoad.setCfgState (.ite (.setCfgState (.ite hs1.modLoad (hs1.modLoad.foldl fun _ _ ht => ht.holdTarget)))
    (.ite hs1.modLoad.setCfgState.errLine hs1.modLoad.setCfgState))

theorem Keeps.startLoad (hs : Keeps s₀ s) {mode : Nat} : Keeps s₀ (s.startLoad mode) := by
  unfold State.startLoad
  exact .ite hs.wr.raise (.ite hs.wr (.ite hs.errLine.wr.wr.modLoad.setCfgState.emit hs.errLine.wr.wr.modLoad.setCfgState))

theorem Keeps.endStream (hs : Keeps s₀ s) : Keeps s₀ (s.endStream) := by
  unfold State.endStream
  exact .ite hs hs.loadError

theorem Keeps.releaseNow (hs : Keeps s₀ s) : Keeps s₀ (s.releaseNow) := by
  unfold State.releaseNow
  exact .ite hs.modLoad hs.wr

theorem Keeps.takeBytes (hs : Keeps s₀ s) {n : Nat} : Keeps s₀ (s.takeBytes n) := by
  unfold State.takeBytes
  exact hs.wr

theorem Keeps.cfgData (hs : Keeps s₀ s) : Keeps s₀ (s.cfgData) := by
  unfold State.cfgData
  exact .ite hs.takeBytes hs

theorem Keeps.cfgCtrl (hs : Keeps s₀ s) {v : Nat} : Keeps s₀ (s.cfgCtrl v) := by
  unfold State.cfgCtrl
  exact .ite hs.releaseNow (.ite hs.endStream (.ite hs.startLoad (.ite hs.startLoad hs)))

theorem execStartPull_answers (hs : Keeps s₀ s) : Answers s₀ (execStartPull s) := by
  unfold execStartPull
  exact .next hs.startLoad

theorem execStartPush_answers (hs : Keeps s₀ s) : Answers s₀ (execStartPush s) := by
  unfold execStartPush
  exact .next hs.startLoad

theorem execCfgDataWrite_answers (hs : Keeps s₀ s) {_value : BitVec 32} : Answers s₀ (execCfgDataWrite _value s) := by
  unfold execCfgDataWrite
  exact .next hs.cfgData

theorem execFinish_answers (hs : Keeps s₀ s) : Answers s₀ (execFinish s) := by
  unfold execFinish
  exact .next hs.endStream

theorem execAbort_answers (hs : Keeps s₀ s) : Answers s₀ (execAbort s) := by
  unfold execAbort
  exact .next hs.endStream

theorem execWindowMissed_answers (hs : Keeps s₀ s) : Answers s₀ (execWindowMissed s) := by
  unfold execWindowMissed
  exact .next (.ite hs.modLoad.setFlag hs.modLoad)

theorem Keeps.clearRead (hs : Keeps s₀ s) {w : Nat} {g : RegGroup} {u base off : Nat} :
    Keeps s₀ (s.clearRead w g u base off) := by
  unfold State.clearRead
  extract_lets s1
  have hs1 : Keeps s₀ s1 := hs.foldl fun _ _ ht => .ite ht.wr ht
  split
  · exact .ite hs1.modMc hs1
  · exact .ite hs1.setSgf hs1
  · exact .ite hs1.setProbe hs1
  · exact hs1.attn
  · exact hs1.attn
  · exact hs1

theorem Keeps.regRead (hs : Keeps s₀ s) {dbg : Bool} {a : Nat} : Keeps s₀ (s.regRead dbg a).2 := by
  unfold State.regRead
  split
  · exact .snd hs
  · refine .ite₂ (.snd hs) (.ite₂ (.snd hs) (.ite₂ (.snd hs) (.ite₂ (.snd hs.levelDenied) ?_)))
    extract_lets
    split
    · exact .ite₂ (.snd (.ite hs hs.mbPop)) (.snd hs)
    · exact .ite₂ hs.ctxDataRead (.snd (.ite hs hs.clearRead))
    · exact .ite₂ (.ite₂ (.snd hs.setFlag) hs.trcPop) (.snd (.ite hs hs.clearRead))
    · exact .snd (.ite hs hs.clearRead)

theorem Keeps.putField (hs : Keeps s₀ s) {base off v : Nat} {r : RegField} : Keeps s₀ (s.putField base off v r) := by
  unfold State.putField
  extract_lets
  split
  · exact .ite hs.wr hs
  · exact .ite hs hs.wr
  · exact hs.wr
  · exact hs

theorem Keeps.putReg (hs : Keeps s₀ s) {g : RegGroup} {base off v : Nat} : Keeps s₀ (s.putReg g base off v) := by
  unfold State.putReg
  exact hs.foldl fun _ _ ht => ht.putField

theorem Keeps.tctxWrite (hs : Keeps s₀ s) {t off v : Nat} : Keeps s₀ (s.tctxWrite t off v) := by
  unfold State.tctxWrite
  exact .ite hs (hs.foldl fun _ _ ht => ht.putReg)

theorem execTctxWrite_answers (hs : Keeps s₀ s) {addr : Nat} {value : BitVec 32} : Answers s₀ (execTctxWrite addr value s) := by
  unfold execTctxWrite
  refine .next ?_
  split
  · exact .ite hs.tctxWrite hs
  · exact hs

theorem Keeps.invalidate (hs : Keeps s₀ s) {q v : Nat} : Keeps s₀ (s.invalidate q v) := by
  unfold State.invalidate
  exact .ite hs (.withInvWait hs.wr)

theorem execXuInvalidate_answers (hs : Keeps s₀ s) {q : Nat} {value : BitVec 32} : Answers s₀ (execXuInvalidate q value s) := by
  unfold execXuInvalidate
  exact .next (.ite hs.invalidate hs)

theorem Keeps.swSet (hs : Keeps s₀ s) {k v : Nat} : Keeps s₀ (s.swSet k v) := by
  unfold State.swSet
  exact hs.foldl fun _ _ ht => ht.raiseIf

theorem execEvtSwset_answers (hs : Keeps s₀ s) {k : Nat} {value : BitVec 32} : Answers s₀ (execEvtSwset k value s) := by
  unfold execEvtSwset
  exact .next (.ite hs.swSet hs)

theorem Keeps.rtFence (hs : Keeps s₀ s) {n : Nat} : Keeps s₀ (s.rtFence n) := by
  unfold State.rtFence
  exact .ite hs.setFlag (.ite hs.wr hs)

theorem Keeps.rtUnfence (hs : Keeps s₀ s) {n : Nat} : Keeps s₀ (s.rtUnfence n) := by
  unfold State.rtUnfence
  exact hs.wr

theorem Keeps.rtCfgWrite (hs : Keeps s₀ s) {n v : Nat} : Keeps s₀ (s.rtCfgWrite n v) := by
  unfold State.rtCfgWrite
  exact .ite hs.putReg hs.setFlag

theorem execRouterFence_answers (hs : Keeps s₀ s) {r : Nat} : Answers s₀ (execRouterFence r s) := by
  unfold execRouterFence
  exact .next (.ite hs.rtFence hs)

theorem execRouterUnfence_answers (hs : Keeps s₀ s) {r : Nat} : Answers s₀ (execRouterUnfence r s) := by
  unfold execRouterUnfence
  exact .next (.ite hs.rtUnfence hs)

theorem execRtCfgWrite_answers (hs : Keeps s₀ s) {r : Nat} {value : BitVec 32} : Answers s₀ (execRtCfgWrite r value s) := by
  unfold execRtCfgWrite
  exact .next (.ite hs.rtCfgWrite hs)

theorem execRouterFenced_answers (hs : Keeps s₀ s) {r : Nat} : Answers s₀ (execRouterFenced r s) := by
  unfold execRouterFenced
  exact .next (.ite hs.wr.raise hs)

theorem Keeps.probeClear (hs : Keeps s₀ s) {q p : Nat} : Keeps s₀ (s.probeClear q p) := by
  unfold State.probeClear
  exact hs.wr.wr.wr.wr

theorem execProbeClear_answers (hs : Keeps s₀ s) {q p : Nat} : Answers s₀ (execProbeClear q p s) := by
  unfold execProbeClear
  exact .next (.ite hs.probeClear hs)

theorem Keeps.probeWrite (hs : Keeps s₀ s) {q p off v : Nat} : Keeps s₀ (s.probeWrite q p off v) := by
  unfold State.probeWrite
  exact .ite (.ite (.probeClear (.ite hs.putReg.wr hs.putReg)) (.ite hs.putReg.wr hs.putReg)) (.ite hs hs.putReg)

theorem Keeps.napFlush (hs : Keeps s₀ s) {n : Nat} : Keeps s₀ (s.napFlush n) := by
  unfold State.napFlush
  refine hs.foldl fun _ _ ht => ?_
  split
  · exact ht
  · exact .ite ht.setNap.emit (.ite ht.setNap (.ite ht (ht.setNap.foldl fun _ _ ht => ht.setChan)))

theorem Keeps.napPush (hs : Keeps s₀ s) {n ch0 ch1 data be : Nat} : Keeps s₀ (s.napPush n ch0 ch1 data be) := by
  unfold State.napPush
  exact hs.setNap.napFlush

theorem Keeps.napAnswer (hs : Keeps s₀ s) {n tag status data be : Nat} {write : Bool} :
    Keeps s₀ (s.napAnswer n tag status data be write) := by
  unfold State.napAnswer
  exact hs.napPush

theorem Keeps.napAbort (hs : Keeps s₀ s) {n : Nat} : Keeps s₀ (s.napAbort n) := by
  unfold State.napAbort
  exact .wr (.setNap (hs.foldl fun _ _ ht => ht.napAnswer))

theorem Keeps.mapRegWrite (hs : Keeps s₀ s) {q off v : Nat} : Keeps s₀ (s.mapRegWrite q off v) := by
  unfold State.mapRegWrite
  exact .ite hs.mapWrite (.ite (.ite hs.ilCfgWrite (.ite hs (.ite hs.mapWrite (.ite hs.mapWrite hs.mapWrite)))) hs.putReg)

theorem Keeps.bayRegWrite (hs : Keeps s₀ s) {b off v : Nat} : Keeps s₀ (s.bayRegWrite b off v) := by
  unfold State.bayRegWrite
  extract_lets _ _ s1
  have hs1 : Keeps s₀ s1 := by
    unfold s1
    split
    · exact .ite (execBayReset_answers hs).outState
        (.ite (execBayOnline_answers hs).outState (.ite (execBayOffline_answers hs).outState hs))
    · exact (execIslClkWrite_answers hs).outState
    · exact (execPinNextWrite_answers hs).outState
    · exact (execStuckRearm_answers hs.putReg).outState
    · exact hs.adcCfgWrite
    · exact hs.wdogCfgWrite
    · exact (execWdogKick_answers hs).outState
    · exact hs.putReg
  exact hs1.reflex.drivePins

theorem Keeps.pinRegWrite (hs : Keeps s₀ s) {b k off v : Nat} : Keeps s₀ (s.pinRegWrite b k off v) := by
  unfold State.pinRegWrite
  extract_lets _ s1
  have hs1 : Keeps s₀ s1 := by
    unfold s1
    split
    · exact Answers.outState (execPinModeWrite_answers hs)
    · exact Answers.outState (execPinThrWrite_answers hs)
    · exact Answers.outState (execPinStkWrite_answers hs)
    · exact hs.putReg
  exact hs1.reflex.drivePins

theorem Keeps.mvRegWrite (hs : Keeps s₀ s) {b n off v : Nat} : Keeps s₀ (s.mvRegWrite b n off v) := by
  unfold State.mvRegWrite
  split
  · exact hs.mvCfgWrite
  · exact .ite hs.mvAbort (.ite hs.mvResume hs)
  · exact hs.putReg

theorem Keeps.ctxRegWrite (hs : Keeps s₀ s) {b c off v : Nat} : Keeps s₀ (s.ctxRegWrite b c off v) := by
  unfold State.ctxRegWrite
  split
  · exact hs.ctxCfgWrite
  · exact .ite hs.ctxAbort (.ite hs.ctxResume (.ite hs.ctxStart hs))
  · exact hs.ctxPcWrite
  · exact hs.putReg

theorem Keeps.queueRegWrite (hs : Keeps s₀ s) {b n off v : Nat} : Keeps s₀ (s.queueRegWrite b n off v) := by
  unfold State.queueRegWrite
  split
  · exact hs.qCfgWrite
  · exact .ite hs hs.putReg
  · exact .ite hs hs.putReg
  · exact hs.qTailWrite
  · exact hs.qHeadWrite
  · exact hs.putReg

theorem Keeps.bayWrite (hs : Keeps s₀ s) {b : Nat} {g : RegGroup} {u off v : Nat} : Keeps s₀ (s.bayWrite b g u off v) := by
  unfold State.bayWrite
  split
  · exact hs.bayRegWrite
  · exact hs.putReg.reflex.drivePins
  · exact hs.pinRegWrite
  · exact hs.mvRegWrite
  · exact hs.ctxRegWrite
  · exact hs.queueRegWrite
  · exact hs.putReg

theorem Keeps.islRegWrite (hs : Keeps s₀ s) {i off v : Nat} : Keeps s₀ (s.islRegWrite i off v) := by
  unfold State.islRegWrite
  split
  · exact Answers.outState (execIslClkWrite_answers hs)
  · exact .ite (execBistStart_answers hs.putReg).outState (.ite (execIslandReset_answers hs.putReg).outState
      (.ite (execIslandUnfence_answers hs.putReg).outState (.ite (execIslandFence_answers hs.putReg).outState hs.putReg)))
  · exact hs.putReg

theorem Keeps.clkRegWrite (hs : Keeps s₀ s) {q off v : Nat} : Keeps s₀ (s.clkRegWrite q off v) := by
  unfold State.clkRegWrite
  refine .ite ?_ (.ite hs.frCfgWrite (.ite hs.nocClkWrite hs.putReg))
  split
  · exact hs.capture
  · exact hs.stopGroups
  · exact hs.goGroups
  · exact hs

theorem Keeps.mcRegWrite (hs : Keeps s₀ s) {ch off v : Nat} : Keeps s₀ (s.mcRegWrite ch off v) := by
  unfold State.mcRegWrite
  split
  · exact Answers.outState (execMcCfgWrite_answers hs)
  · exact .ite (execMcOnline_answers hs).outState (.ite (execMcOffline_answers hs).outState
      (.ite (execMcFill_answers hs).outState (.ite (execMcInit_answers hs).outState hs)))
  · exact hs.putReg

theorem Keeps.eccRegWrite (hs : Keeps s₀ s) {ch off v : Nat} : Keeps s₀ (s.eccRegWrite ch off v) := by
  unfold State.eccRegWrite
  extract_lets
  split
  · exact .ite (execLogClear_answers hs.putReg).outState hs.putReg
  · exact .ite (execScrubRestart_answers hs.scrubCtlWrite).outState hs.scrubCtlWrite
  · exact .ite (execEccTestRead_answers hs.putReg).outState (.ite (execEccTestWrite_answers hs.putReg).outState hs.putReg)
  · exact hs.putReg

theorem Keeps.sgRegWrite (hs : Keeps s₀ s) {q off v : Nat} : Keeps s₀ (s.sgRegWrite q off v) := by
  unfold State.sgRegWrite
  extract_lets
  split
  · exact .ite (execLogClear_answers hs.putReg).outState hs.putReg
  · exact .ite (execSgTestRead_answers hs.putReg).outState (.ite (execSgTestWrite_answers hs.putReg).outState hs.putReg)
  · exact hs.putReg

theorem Keeps.laneRegWrite (hs : Keeps s₀ s) {l off v : Nat} : Keeps s₀ (s.laneRegWrite l off v) := by
  unfold State.laneRegWrite
  split
  · exact hs.lnCfgWrite
  · exact Answers.outState (execLaneRxSleep_answers (execLaneTxSleep_answers hs).outState)
  · exact hs.putReg.attn

theorem Keeps.ringRegWrite (hs : Keeps s₀ s) {g : RegGroup} {r off v : Nat} : Keeps s₀ (s.ringRegWrite g r off v) := by
  unfold State.ringRegWrite
  split
  · exact hs.ringBaseWrite
  · exact hs.ringCfgWrite
  · exact .ite hs.txWrWrite hs
  · exact hs.putReg

theorem Keeps.macRegWrite (hs : Keeps s₀ s) {e off v : Nat} : Keeps s₀ (s.macRegWrite e off v) := by
  unfold State.macRegWrite
  exact .ite hs.macCfgWrite (.ite hs.ringRegWrite (.ite hs.putReg.pauseSend hs.putReg))

theorem Keeps.canRegWrite (hs : Keeps s₀ s) {n off v : Nat} : Keeps s₀ (s.canRegWrite n off v) := by
  unfold State.canRegWrite
  exact .ite hs.canCfgWrite (.ite (.ite hs.canRestart hs) (.ite hs.ringRegWrite hs.putReg))

theorem Keeps.timeRegWrite (hs : Keeps s₀ s) {g : RegGroup} {d off v : Nat} : Keeps s₀ (s.timeRegWrite g d off v) := by
  unfold State.timeRegWrite
  split
  · exact .ite hs.actWrite hs.putReg
  · split
    · exact hs.domCfgWrite
    · exact hs.domOfsWrite
    · exact hs.domOfsWrite
    · exact hs.domOfsWrite
    · exact hs.domRateWrite
    · exact hs.wr
    · exact hs.domAdj
    · exact hs.wr
    · exact hs.hostSample
    · exact hs.putReg
  · exact .ite hs.frCtrlWrite (.ite hs hs.putReg)

theorem Keeps.dbgEngRegWrite (hs : Keeps s₀ s) {b off v : Nat} : Keeps s₀ (s.dbgEngRegWrite b off v) := by
  unfold State.dbgEngRegWrite
  extract_lets
  split
  · exact hs.engCtrlWrite
  · exact hs.wrLevel.wrLevel
  · exact hs.ctxDataWrite
  · exact .ite hs.wrLevel hs.putReg

theorem Keeps.dbgRegWrite_g0 (hs : Keeps s₀ s) {a off v : Nat} : Keeps s₀ (State.dbgRegWrite.g0 s a off v) := by
  unfold State.dbgRegWrite.g0
  exact hs.foldl fun _ _ ht => ht.wr

theorem Keeps.dbgRegWrite (hs : Keeps s₀ s) {q off v : Nat} : Keeps s₀ (s.dbgRegWrite q off v) := by
  unfold State.dbgRegWrite
  exact .ite hs.wr.wr (.ite hs.unlockWrite (.ite hs.dbgRegWrite_g0 (.ite (.ite hs.putReg.dbmGo hs.putReg) hs.putReg)))

theorem Keeps.trcRegWrite (hs : Keeps s₀ s) {q off v : Nat} : Keeps s₀ (s.trcRegWrite q off v) := by
  unfold State.trcRegWrite
  split
  · exact hs.trcCfgWrite
  · exact hs.trcBaseWrite
  · exact hs.wrLevel
  · exact hs

theorem Keeps.pwrRegWrite (hs : Keeps s₀ s) {q off v : Nat} : Keeps s₀ (s.pwrRegWrite q off v) := by
  unfold State.pwrRegWrite
  exact .ite hs.putReg.pwrLogClear (.ite (.withPower hs.putReg) hs.putReg)

theorem Keeps.cfgRegWrite (hs : Keeps s₀ s) {off v : Nat} : Keeps s₀ (s.cfgRegWrite off v) := by
  unfold State.cfgRegWrite
  split
  · exact hs.cfgCtrl
  · exact hs.cfgData
  · exact hs.putReg

theorem Keeps.mbRegWrite (hs : Keeps s₀ s) {q k off v : Nat} : Keeps s₀ (s.mbRegWrite q k off v) := by
  unfold State.mbRegWrite
  split
  · exact hs.mbTx
  · exact hs.mbTx
  · exact .ite hs.putReg.mbFlush hs.putReg
  · exact hs.putReg

theorem Keeps.napRegWrite (hs : Keeps s₀ s) {n off v : Nat} : Keeps s₀ (s.napRegWrite n off v) := by
  unfold State.napRegWrite
  exact .ite (.ite hs.napAbort hs) hs.putReg

theorem Keeps.rtRegWrite (hs : Keeps s₀ s) {n off v : Nat} : Keeps s₀ (s.rtRegWrite n off v) := by
  unfold State.rtRegWrite
  split
  · exact .ite hs.rtUnfence (.ite hs.rtFence hs)
  · exact hs.rtCfgWrite
  · exact hs.putReg

theorem Keeps.quadWrite (hs : Keeps s₀ s) {q : Nat} {g : RegGroup} {u off v : Nat} : Keeps s₀ (s.quadWrite q g u off v) := by
  unfold State.quadWrite
  split
  · exact .ite hs.timeSnap hs
  · exact hs.islRegWrite
  · exact .ite (execIslClkWrite_answers hs).outState hs
  · exact hs.clkRegWrite
  · exact hs.pwrRegWrite
  · exact hs.rtRegWrite
  · exact hs.probeWrite
  · exact hs.mcRegWrite
  · exact hs.mapRegWrite
  · exact hs.eccRegWrite
  · exact hs.sgRegWrite
  · exact hs.laneRegWrite
  · exact hs.laneRegWrite
  · exact hs.macRegWrite
  · exact hs.canRegWrite
  · exact hs.timeRegWrite
  · exact hs.timeRegWrite
  · exact hs.timeRegWrite
  · exact hs.dbgEngRegWrite
  · exact hs.dbgRegWrite
  · exact hs.trcRegWrite
  · exact .ite hs (.ite hs.xtCfgWrite hs.xtCmdWrite)
  · exact hs.cfgRegWrite
  · exact .ite hs hs.putReg
  · exact hs.mbRegWrite
  · exact .ite hs.swSet hs
  · exact hs.tctxWrite
  · exact .ite hs.invalidate hs.putReg
  · exact hs.napRegWrite
  · exact .ite hs.putReg.retrain hs.putReg
  · exact hs.putReg

theorem Keeps.regWrite (hs : Keeps s₀ s) {a v : Nat} : Keeps s₀ (s.regWrite a v) := by
  unfold State.regWrite
  split
  · exact hs
  · exact .ite hs (.ite hs (.ite hs (.ite hs.bayWrite hs.quadWrite)))

theorem Keeps.serveRead (hs : Keeps s₀ s) {pa n : Nat} {dbg : Bool} {who : Who} {net : Net} :
    Keeps s₀ (s.serveRead pa n dbg who net).2.2 := by
  unfold State.serveRead
  split
  · exact .snd₂ hs
  · exact .snd₂ hs
  · exact .ite₃ hs.memRead (.snd₂ hs)
  · exact .ite₃ (.snd₂ hs) (.snd₂ hs)
  · exact .ite₃ (.snd₂ hs) (.ite₃ (.ite₃ (.snd₂ hs.sramRead) (.snd₂ hs.sramRead)) (.snd₂ hs))
  · exact .ite₃ (.snd₂ hs) (.ite₃ (.snd₂ hs.regRead) (.ite₃ (.snd₂ hs.regRead.regRead) (.snd₂ hs)))

theorem Keeps.busRead (hs : Keeps s₀ s) {pa n : Nat} {dbg : Bool} {who : Who} {net : Net} :
    Keeps s₀ (s.busRead pa n dbg who net).2.2 := by
  unfold State.busRead
  split
  · exact .snd₂ hs
  · exact .snd₂ hs
  · exact .ite₃ (.snd₂ hs.newTag.passage) (.snd₂ hs.newTag.passage.serveRead.answer)

theorem Keeps.keepUpper (hs : Keeps s₀ s) {q t level idx e : Nat} : Keeps s₀ (s.keepUpper q t level idx e) := by
  unfold State.keepUpper
  exact hs.setXu

theorem Keeps.entry (hs : Keeps s₀ s) {q t level idx a : Nat} : Keeps s₀ (s.entry q t level idx a).2 := by
  unfold State.entry
  extract_lets
  split
  · exact .ite₂ (.snd hs.drawn) (.snd hs.drawn.busRead)
  · exact .snd hs.busRead

theorem Keeps.walk (hs : Keeps s₀ s) {q t va fuel lv a : Nat} : Keeps s₀ (s.walk q t va fuel lv a).2 := by
  induction fuel generalizing s lv a with
  | zero => exact hs
  | succ fuel ih =>
    unfold State.walk
    extract_lets
    split
    · exact hs.entry
    · split
      · exact hs.entry
      · exact hs.entry
      · extract_lets
        split
        · exact ih hs.entry
        · exact (ih hs.entry).keepUpper

theorem Keeps.translate (hs : Keeps s₀ s) {q t va : Nat} {write : Bool} : Keeps s₀ (s.translate q t va write).2.2 := by
  unfold State.translate
  refine .ite₃ (.snd₂ hs) ?_
  split
  · refine .ite₃ (.ite₃ (.snd₂ hs.drawn) (.snd₂ hs.drawn)) (.ite₃ ?_ (.snd₂ hs.drawn))
    extract_lets
    split
    · exact .snd₂ hs.drawn.walk
    · exact .ite₃ (.snd₂ (.setXu (.ite₃ (.snd₂ hs.drawn.walk) (.snd₂ hs.drawn.walk)))) (.ite₃ (.snd₂ hs.drawn.walk)
        (.snd₂ hs.drawn.walk))
  · refine .ite₃ ?_ (.snd₂ hs)
    extract_lets
    split
    · exact .snd₂ hs.walk
    · exact .ite₃ (.snd₂ (.setXu (.ite₃ (.snd₂ hs.walk) (.snd₂ hs.walk)))) (.ite₃ (.snd₂ hs.walk) (.snd₂ hs.walk))

theorem Keeps.napFault (hs : Keeps s₀ s) {n cause va : Nat} {write : Bool} : Keeps s₀ (s.napFault n cause va write) := by
  unfold State.napFault
  exact .raise (.ite hs.bump hs.wr.wr.wr.wr.wr)

theorem Keeps.napTranslate (hs : Keeps s₀ s) {n : Nat} {r : MasterReq} : Keeps s₀ (s.napTranslate n r).2.2 := by
  unfold State.napTranslate
  exact hs.translate

theorem Keeps.napInject (hs : Keeps s₀ s) {n pa : Nat} {r : MasterReq} : Keeps s₀ (s.napInject n pa r) := by
  unfold State.napInject
  split
  · exact hs.napAnswer
  · exact hs.napAnswer
  · exact .other hs

theorem Keeps.napMaster (hs : Keeps s₀ s) {n : Nat} {r : MasterReq} : Keeps s₀ (s.napMaster n r) := by
  unfold State.napMaster
  exact .ite hs.napAnswer (.ite hs.setFlag.napAnswer
    (.ite hs.setNap (.ite hs.napTranslate.napInject (.ite hs.napTranslate.napFault.setNap.wr
    hs.napTranslate.napFault.napAnswer))))

theorem Keeps.napResume (hs : Keeps s₀ s) {n : Nat} : Keeps s₀ (s.napResume n) := by
  unfold State.napResume
  exact .ite (hs.setNap.wr.foldl fun _ _ ht => ht.napMaster) hs

theorem Keeps.regStore (hs : Keeps s₀ s) {a v : Nat} : Keeps s₀ (s.regStore a v) := by
  unfold State.regStore
  extract_lets
  split
  · exact .ite hs.regWrite.napResume hs.regWrite
  · exact hs.regWrite

theorem Keeps.serveWrite (hs : Keeps s₀ s) {pa n be v : Nat} {who : Who} {net : Net} :
    Keeps s₀ (s.serveWrite pa n be v who net).2 := by
  unfold State.serveWrite
  split
  · exact .snd hs
  · exact .snd hs
  · exact .ite₂ hs.memWrite (.snd hs)
  · exact .ite₂ (.snd hs) (.snd hs)
  · exact .ite₂ (.snd hs) (.ite₂ (.snd hs.sramWrite) (.snd hs))
  · exact .ite₂ (.snd hs) (.ite₂ (.snd hs.regStore) (.ite₂ (.snd (.ite (.regStore (.ite hs.regStore hs)) (.ite hs.regStore hs)))
      (.snd hs)))

theorem Keeps.busWrite (hs : Keeps s₀ s) {pa n be v : Nat} {who : Who} {net : Net} :
    Keeps s₀ (s.busWrite pa n be v who net).2 := by
  unfold State.busWrite
  split
  · exact .snd hs
  · exact .snd hs
  · exact .ite₂ hs.newTag.passage hs.newTag.passage.serveWrite.answer

theorem execProbeTraceRecord_answers (hs : Keeps s₀ s) {q p : Nat} : Answers s₀ (execProbeTraceRecord q p s) := by
  unfold execProbeTraceRecord
  refine .next (.ite ?_ hs)
  split
  · exact hs
  · exact .ite hs.setProbe.probeDrop (.ite hs.setProbe.busWrite.setProbe.wr hs.setProbe.busWrite.probeDrop)

theorem Keeps.unhold (hs : Keeps s₀ s) {request : Bool} {port tag : Nat} {write : Bool} :
    Keeps s₀ (s.unhold request port tag write) :=
  .other hs

theorem Keeps.hold (hs : Keeps s₀ s) {n : Nat} {request : Bool} {port tag : Nat} {write : Bool} :
    Keeps s₀ (s.hold n request port tag write) :=
  .other hs

theorem Keeps.respond (hs : Keeps s₀ s) {src sport port tag : Nat} {write : Bool} {status data : Nat} :
    Keeps s₀ (s.respond src sport port tag write status data) :=
  .other hs

theorem Keeps.napPass (hs : Keeps s₀ s) {n : Nat} : Keeps s₀ (s.napPass n) := by
  unfold State.napPass
  refine hs.foldl fun _ _ ht => .ite ht ?_
  extract_lets
  split
  · exact ht
  · exact ht.drawn.setNap.napPush

theorem Keeps.request (hs : Keeps s₀ s) {p : Packet} {write : Bool} {be data : Nat} {net : Net} :
    Keeps s₀ (s.request p write be data net) := by
  unfold State.request
  refine .ite hs.unhold ?_
  split
  · exact hs.unhold.respond
  · exact hs.unhold.respond
  · extract_lets dest dport hdr word s2
    have hs2 : Keeps s₀ s2 := .ite hs.unhold.probeRoute hs.unhold
    clear_value s2
    split
    · exact hs.unhold.hold
    · split
      · exact .ite hs2.setNap.napPass hs2.respond
      · exact .ite hs2.serveWrite.respond hs2.serveRead.respond

theorem execRdReq_answers (hs : Keeps s₀ s) {p : Packet} {net : Net} : Answers s₀ (execRdReq p net s) := by
  unfold execRdReq
  exact .next hs.request

theorem execWrReq_answers (hs : Keeps s₀ s) {p : Packet} {be data : Nat} {net : Net} :
    Answers s₀ (execWrReq p be data net s) := by
  unfold execWrReq
  exact .next hs.request

theorem Keeps.finish (hs : Keeps s₀ s) {o : Outst} {status data : Nat} : Keeps s₀ (s.finish o status data) := by
  unfold State.finish
  split
  · exact hs.napAnswer
  · exact hs.dbmDone
  · exact hs.emit

theorem Keeps.landStore (hs : Keeps s₀ s) {b c : Nat} {net : Net} : Keeps s₀ (s.landStore b c net) := by
  unfold State.landStore
  split
  · exact hs
  · exact .ite hs.modCtx.busWrite hs.modCtx.busWrite.postedErr

theorem Keeps.arrive (hs : Keeps s₀ s) {port tag : Nat} {write : Bool} : Keeps s₀ (s.arrive port tag write) := by
  unfold State.arrive
  split
  · exact .ite hs.landStore hs
  · split
    · exact hs.hold
    · extract_lets
      split
      · exact .finish (.withOutst (.withFlight (.ite hs.unhold.drawn.probeRoute hs.unhold)))
      · exact .bump (.withFlight (.ite hs.unhold.drawn.probeRoute hs.unhold))

theorem execRdRsp_answers (hs : Keeps s₀ s) {port tag : Nat} : Answers s₀ (execRdRsp port tag s) := by
  unfold execRdRsp
  exact .next (.ite hs.arrive hs)

theorem execWrRsp_answers (hs : Keeps s₀ s) {port tag : Nat} : Answers s₀ (execWrRsp port tag s) := by
  unfold execWrRsp
  exact .next (.ite hs.arrive hs)

theorem execRspTimeoutExpiry_answers (hs : Keeps s₀ s) {port tag : Nat} : Answers s₀ (execRspTimeoutExpiry port tag s) := by
  unfold execRspTimeoutExpiry
  refine .next ?_
  split
  · exact .finish (.raise (.other hs))
  · exact hs

theorem execHoldLimitExpiry_answers (hs : Keeps s₀ s) {r : Nat} : Answers s₀ (execHoldLimitExpiry r s) := by
  unfold execHoldLimitExpiry
  refine .next ?_
  split
  · exact hs
  · exact .ite (.respond (.holdEnds (.other hs))) (.withFlight (.holdEnds (.other hs)))

theorem Keeps.throttle (hs : Keeps s₀ s) {port ch gap : Nat} : Keeps s₀ (s.throttle port ch gap) :=
  .other hs

theorem execMsg_answers (hs : Keeps s₀ s) {src dest dport payload : Nat} : Answers s₀ (execMsg src dest dport payload s) := by
  unfold execMsg
  refine .next (.ite ?_ hs)
  split
  · exact hs.hold
  · extract_lets _ s2
    have hs2 : Keeps s₀ s2 := .ite hs.unhold.drawn.drawn.probeRoute hs.unhold
    exact .ite hs2.throttle hs2

theorem execThrottle_answers (hs : Keeps s₀ s) {port ch gap _time : Nat} : Answers s₀ (execThrottle port ch gap _time s) := by
  unfold execThrottle
  exact .next (.ite hs.throttle hs)

theorem execThrottleExpiry_answers (hs : Keeps s₀ s) {port ch : Nat} : Answers s₀ (execThrottleExpiry port ch s) :=
  .next (.other hs)

theorem Keeps.napTake (hs : Keeps s₀ s) {n : Nat} : Keeps s₀ (s.napTake n).2 := by
  unfold State.napTake
  exact .ite₂ (.snd hs) (.snd (hs.foldl fun _ _ ht => ht.setChan))

theorem Keeps.napTgtRsp (hs : Keeps s₀ s) {n ttag status data : Nat} : Keeps s₀ (s.napTgtRsp n ttag status data) := by
  unfold State.napTgtRsp
  extract_lets
  split
  · exact hs.setFlag
  · exact hs.setNap.respond.napPass

theorem execNapMasterRequest_answers (hs : Keeps s₀ s) {r : Nat} {req : MasterReq} :
    Answers s₀ (execNapMasterRequest r req s) := by
  unfold execNapMasterRequest
  refine .next (.ite (.ite ?_ hs.napFlush.napMaster) hs)
  split
  · exact .ite (hs.napFlush.napTake.of_pair ‹_›).napTgtRsp (hs.napFlush.napTake.of_pair ‹_›).napMaster
  · exact hs.napFlush.napTake.of_pair ‹_›

theorem execNapTargetResponse_answers (hs : Keeps s₀ s) {r ttag status data : Nat} :
    Answers s₀ (execNapTargetResponse r ttag status data s) := by
  unfold execNapTargetResponse
  refine .next (.ite (.ite ?_ hs.napFlush.napTgtRsp) hs)
  split
  · exact .ite (hs.napFlush.napTake.of_pair ‹_›).napTgtRsp (hs.napFlush.napTake.of_pair ‹_›).napMaster
  · exact hs.napFlush.napTake.of_pair ‹_›

theorem execNapResume_answers (hs : Keeps s₀ s) {r : Nat} : Answers s₀ (execNapResume r s) := by
  unfold execNapResume
  exact .next (.ite hs.napResume hs)

theorem execNapAbort_answers (hs : Keeps s₀ s) {r : Nat} : Answers s₀ (execNapAbort r s) := by
  unfold execNapAbort
  exact .next (.ite hs.napAbort hs)

theorem execNapHoldExpiry_answers (hs : Keeps s₀ s) {r : Nat} : Answers s₀ (execNapHoldExpiry r s) := by
  unfold execNapHoldExpiry
  exact .next (.ite hs.napAbort.wr hs)

theorem execUserEventEdge_answers (hs : Keeps s₀ s) {r k : Nat} : Answers s₀ (execUserEventEdge r k s) := by
  unfold execUserEventEdge
  exact .next (.ite hs.raise hs)

theorem Keeps.msixOf (hs : Keeps s₀ s) {v : Nat} : Keeps s₀ (s.msixOf v) := by
  unfold State.msixOf
  split
  · exact hs.emit
  · exact hs

theorem Keeps.epend (hs : Keeps s₀ s) {e : Nat} : Keeps s₀ (s.epend e) := by
  unfold State.epend
  exact .ite hs.modCtx hs

theorem execEventDelivery_answers (hs : Keeps s₀ s) {e : Nat} : Answers s₀ (execEventDelivery e s) := by
  unfold execEventDelivery
  exact .next (.ite (.ite (.epend (.ite hs.setEvt.wr.msixOf hs.setEvt.wr)) (.ite hs.setEvt.wr.msixOf hs.setEvt.wr)) hs)

theorem execXuInvDone_answers (hs : Keeps s₀ s) : Answers s₀ (execXuInvDone s) := by
  unfold execXuInvDone
  refine .next ?_
  split
  · exact hs
  · exact .raise (.ite (.foldl (.other hs) fun _ _ ht => ht.setXu) (.wr (.foldl (.other hs) fun _ _ ht => ht.setXu)))

theorem Keeps.extLoad (hs : Keeps s₀ s) {b c : Nat} {net : Net} {va n : Nat} : Keeps s₀ (State.extLoad b c net s va n).2 := by
  unfold State.extLoad
  exact .ite₂ (.snd hs.translate) (.ite₂ (.snd hs.translate.busRead) (.snd hs.translate.busRead))

theorem Keeps.landStores (hs : Keeps s₀ s) {b c : Nat} {net : Net} : Keeps s₀ (s.landStores b c net) := by
  unfold State.landStores
  exact hs.foldl fun _ _ ht => ht.landStore

theorem execTranslatedLoadReturn_answers (hs : Keeps s₀ s) {b c : Nat} {net : Net} :
    Answers s₀ (execTranslatedLoadReturn b c net s) := by
  unfold execTranslatedLoadReturn
  refine .next (.ite ?_ hs)
  split
  next i _ =>
    refine .ite ?_ hs.landStores
    have hl : Keeps s₀ (State.doLoads b c (some (State.extLoad b c net)) (((s.landStores b c netOk).cx b c).loadPlan i)
        (s.landStores b c netOk)).2 := hs.landStores.doLoads fun g hg s va n ht => by cases hg; exact ht.extLoad
    split
    · exact (hl.of_pair ‹_›).modCtx.complete.makeReady
    · exact (hl.of_pair ‹_›).faultCtx
    · exact hl.of_pair ‹_›
  · exact hs

theorem execTranslatedStorePost_answers (hs : Keeps s₀ s) {b c : Nat} {net : Net} :
    Answers s₀ (execTranslatedStorePost b c net s) := by
  unfold execTranslatedStorePost
  refine .next (.ite ?_ hs)
  split
  · split
    · exact hs
    · exact .ite hs.translate.faultCtx hs.translate.post.modCtx.complete.makeReady
  · exact hs

theorem execPostedStoreError_answers (hs : Keeps s₀ s) {b c : Nat} : Answers s₀ (execPostedStoreError b c s) := by
  unfold execPostedStoreError
  refine .next (.ite ?_ hs)
  split
  · exact hs
  · exact hs.modCtx.postedErr

theorem execFenceComplete_answers (hs : Keeps s₀ s) {b c : Nat} {net : Net} : Answers s₀ (execFenceComplete b c net s) := by
  unfold execFenceComplete
  refine .next (.ite ?_ hs)
  split
  · exact .ite hs.landStores.complete.makeReady hs.landStores
  · exact .ite hs.landStores.goIdle hs.landStores
  · exact hs

theorem execAbortComplete_answers (hs : Keeps s₀ s) {b c : Nat} {net : Net} : Answers s₀ (execAbortComplete b c net s) := by
  unfold execAbortComplete
  exact .next (.ite hs.landStores.setCtxState hs)

theorem Keeps.spanRead (hs : Keeps s₀ s) {who : Who} {net : Net} {fuel pa n : Nat} :
    Keeps s₀ (s.spanRead who net fuel pa n).2.2 := by
  induction fuel generalizing s pa n with
  | zero => exact hs
  | succ fuel ih =>
    unfold State.spanRead
    exact .ite₃ hs (.ite₃ (.snd₂ hs.busRead) (.snd₂ (ih hs.busRead)))

theorem Keeps.spanWrite (hs : Keeps s₀ s) {who : Who} {net : Net} {fuel pa n be v : Nat} :
    Keeps s₀ (s.spanWrite who net fuel pa n be v).2 := by
  induction fuel generalizing s pa n be v with
  | zero => exact hs
  | succ fuel ih =>
    unfold State.spanWrite
    exact .ite₂ hs (.ite₂ hs.busWrite (ih hs.busWrite))

theorem Keeps.spanPages (hs : Keeps s₀ s) {q t va n : Nat} {write : Bool} : Keeps s₀ (s.spanPages q t va n write).2.2.2 := by
  unfold State.spanPages
  exact .ite₄ (.snd₃ hs.translate) (.ite₄ (.ite₄ (.snd₃ hs.translate.translate) (.snd₃ hs.translate.translate))
    (.snd₃ hs.translate))

theorem Keeps.moveChunk (hs : Keeps s₀ s) {b t : Nat} {d : Desc} {o m va : Nat} {src dst : Nat × Nat} {net : Net} :
    Keeps s₀ (s.moveChunk b t d o m va src dst net).2 := by
  unfold State.moveChunk
  extract_lets whoAt sv _ m1 r r2 data s1
  have hd : Keeps s₀ data.2 := .ite₂ (.snd hs) (.ite₂ (.snd hs.spanRead) (.snd hs.spanRead.spanRead))
  split
  · exact .snd hd
  · exact .snd (.ite₂ hd.drawn.spanWrite hd.spanWrite)

theorem Keeps.mvRun (hs : Keeps s₀ s) {b t : Nat} {d : Desc} {at_ : Option (Nat × Bool)} {net : Net} {failed : Option (Nat × Bool)}
    {fuel o later : Nat} : Keeps s₀ (s.mvRun b t d at_ net failed fuel o later).2 := by
  induction fuel generalizing s failed o later with
  | zero => exact hs
  | succ fuel ih =>
    unfold State.mvRun
    refine .ite₂ hs ?_
    extract_lets va n q sp dp s1 m stop srcFirst s2 s3 hit r
    have hsp : Keeps s₀ sp.2.2.2 := .ite₄ hs hs.spanPages
    have hs1 : Keeps s₀ s1 := hsp.spanPages
    have hs2 : Keeps s₀ s2 := .ite hs1.drawn hs1
    have hs3 : Keeps s₀ s3 := .ite hs2.drawn.moveChunk hs2.drawn
    have hr : Keeps s₀ r.2 := by
      unfold r
      clear_value hit
      split
      · exact hs2
      · exact hs2.moveChunk
    clear_value r s3 s2
    split
    · exact .ite₂ (.snd hs2) (ih hs3)
    · split
      · exact .ite₂ (.snd hr) (ih hr)
      · exact .ite₂ (.snd hr) (ih hr)

theorem Keeps.mvWork (hs : Keeps s₀ s) {b n : Nat} {at_ : Option (Nat × Bool)} {net : Net} : Keeps s₀ (s.mvWork b n at_ net) := by
  unfold State.mvWork
  extract_lets
  split
  · exact hs
  · extract_lets
    split
    · exact hs.mvRun.wr.mvEnd
    · exact hs.mvRun.wr.wr.wr.wr.wr.wr.setMvState.raise

theorem execMoverDescriptorDone_answers (hs : Keeps s₀ s) {b n : Nat} {net : Net} :
    Answers s₀ (execMoverDescriptorDone b n net s) := by
  unfold execMoverDescriptorDone
  exact .next (.ite hs.mvWork hs)

theorem execMoverFault_answers (hs : Keeps s₀ s) {b n : Nat} {at_ : Option (Nat × Bool)} {net : Net} :
    Answers s₀ (execMoverFault b n at_ net s) := by
  unfold execMoverFault
  exact .next (.ite hs.mvWork hs)

theorem Keeps.hostFault (hs : Keeps s₀ s) {f cause va : Nat} {write : Bool} : Keeps s₀ (s.hostFault f cause va write) := by
  unfold State.hostFault
  exact .raise (.ite hs.bump.wr hs.bump.wr.wr.wr.wr.wr)

theorem Keeps.hostPages (hs : Keeps s₀ s) {t : Nat} {write : Bool} {fuel va n : Nat} :
    Keeps s₀ (s.hostPages t write fuel va n).2.2 := by
  induction fuel generalizing s va n with
  | zero => exact hs
  | succ fuel ih =>
    unfold State.hostPages
    exact .ite₃ hs (.ite₃ (.snd₂ hs.translate) (.snd₂ (ih hs.translate)))

theorem Keeps.hostReads (hs : Keeps s₀ s) {net : Net} {pages : List (Nat × Nat)} : Keeps s₀ (s.hostReads net pages).2.2 := by
  induction pages generalizing s with
  | nil => exact hs
  | cons p pages ih =>
    unfold State.hostReads
    exact .ite₃ (.snd₂ hs.spanRead) (.snd₂ (ih hs.spanRead))

theorem Keeps.hostWrites (hs : Keeps s₀ s) {net : Net} {pages : List (Nat × Nat)} {be v : Nat} :
    Keeps s₀ (s.hostWrites net pages be v).2 := by
  induction pages generalizing s be v with
  | nil => exact hs
  | cons p pages ih => exact ih hs.spanWrite

theorem Keeps.hostRead (hs : Keeps s₀ s) {f bar addr len : Nat} {net : Net} : Keeps s₀ (s.hostRead f bar addr len net) := by
  unfold State.hostRead
  refine .ite (.ite hs.emit ?_) hs
  extract_lets
  split
  · exact hs.hostPages.hostFault.emit
  · exact .ite hs.hostPages.emit (.ite hs.hostPages.hostReads.emit hs.hostPages.hostReads.emit)

theorem Keeps.hostWrite (hs : Keeps s₀ s) {f bar addr len data be : Nat} {net : Net} :
    Keeps s₀ (s.hostWrite f bar addr len data be net) := by
  unfold State.hostWrite
  refine .ite (.ite hs ?_) hs
  extract_lets
  split
  · exact hs.hostPages.hostFault
  · exact .ite hs.hostPages.hostFault hs.hostPages.hostWrites

theorem Keeps.quadUp (hs : Keeps s₀ s) {q : Nat} : Keeps s₀ (s.quadUp q) := by
  unfold State.quadUp
  exact .showRef (hs.foldl fun _ _ ht => .ite ht.wr ht)

theorem Keeps.trainAll (hs : Keeps s₀ s) : Keeps s₀ (s.trainAll) := by
  unfold State.trainAll
  exact hs.foldl fun _ _ ht => ht.trainBridge

theorem Keeps.classHalt (hs : Keeps s₀ s) : Keeps s₀ (s.classHalt) := by
  unfold State.classHalt
  exact .ite hs hs.setCfgState.wr.errLine

theorem Keeps.powerOnReset (hs : Keeps s₀ s) : Keeps s₀ (s.powerOnReset) := by
  unfold State.powerOnReset
  exact .wr (.newNonce (.edit hs (hm := by exact fun _ => rfl) (hf := by exact Tab.wf_drop _ _) (hr := by exact fun _ => rfl)
    (hc := by exact fun _ => rfl)))

theorem Keeps.startUp (hs : Keeps s₀ s) : Keeps s₀ (s.startUp) := by
  unfold State.startUp
  exact hs.powerOnReset.trainAll

theorem Keeps.sticky (hs : Keeps s₀ s) {f : Fld} : Keeps s₀ (s.sticky f) := by
  unfold State.sticky
  exact hs.wr

theorem execVinStart_answers (hs : Keeps s₀ s) : Answers s₀ (execVinStart s) := by
  unfold execVinStart
  exact .next (.ite (.startUp (.other hs)) hs)

theorem execPowerOnStepsDone_answers (hs : Keeps s₀ s) : Answers s₀ (execPowerOnStepsDone s) := by
  unfold execPowerOnStepsDone
  exact .next (.ite (.classHalt (.foldl (.other hs) fun _ _ ht => ht.quadUp)) hs)

theorem execBrownout_answers (hs : Keeps s₀ s) : Answers s₀ (execBrownout s) := by
  unfold execBrownout
  exact .next (.ite (.withPower hs.powerOnReset.sticky) hs)

theorem execRecordLoss_answers (hs : Keeps s₀ s) : Answers s₀ (execRecordLoss s) := by
  unfold execRecordLoss
  exact .next (.edit hs (hf := by exact Tab.wf_drop _ _))

theorem execIbusUndervoltage_answers (hs : Keeps s₀ s) : Answers s₀ (execIbusUndervoltage s) := by
  unfold execIbusUndervoltage
  exact .next (.ite hs.startUp.sticky hs)

theorem execRegFault_answers (hs : Keeps s₀ s) : Answers s₀ (execRegFault s) := by
  unfold execRegFault
  exact .next (.ite hs.startUp.sticky hs)

theorem execSbOvercurrent_answers (hs : Keeps s₀ s) : Answers s₀ (execSbOvercurrent s) := by
  unfold execSbOvercurrent
  exact .next (.ite hs.startUp.sticky hs)

theorem Keeps.enterS4 (hs : Keeps s₀ s) {thermal : Bool} : Keeps s₀ (s.enterS4 thermal) := by
  unfold State.enterS4
  exact .withPower hs.powerOnReset

theorem execThermalShutdown_answers (hs : Keeps s₀ s) : Answers s₀ (execThermalShutdown s) := by
  unfold execThermalShutdown
  exact .next (.ite (.ite hs.enterS4.sticky.sticky hs.enterS4.sticky) hs)

theorem execThermalRestart_answers (hs : Keeps s₀ s) : Answers s₀ (execThermalRestart s) := by
  unfold execThermalRestart
  exact .next (.ite (.withPower hs.startUp) hs)

theorem Keeps.deviceClear (hs : Keeps s₀ s) : Keeps s₀ (s.deviceClear) := by
  unfold State.deviceClear
  exact .wr (.newNonce (.foldl (.edit hs (hm := by exact Tab.wf_drop _ _) (hf := by exact Tab.wf_drop _ _)
    (hc := by exact Tab.wf_drop _ _)) fun _ _ ht => ht.setPort))

theorem Keeps.recordReset (hs : Keeps s₀ s) {q cause : Nat} : Keeps s₀ (s.recordReset q cause) := by
  unfold State.recordReset
  exact hs.bump.wr

theorem Keeps.deviceReset (hs : Keeps s₀ s) {cause : Nat} : Keeps s₀ (s.deviceReset cause) := by
  unfold State.deviceReset
  exact .ite (.classHalt (hs.deviceClear.foldl fun _ _ ht => ht.recordReset.setQReset)) hs

theorem execDeviceResetDone_answers (hs : Keeps s₀ s) : Answers s₀ (execDeviceResetDone s) := by
  unfold execDeviceResetDone
  exact .next (.ite (.trainAll (.foldl (hs.deviceClear.classHalt.foldl fun _ _ ht => ht.setQReset) fun _ _ ht => ht.quadUp)) hs)

theorem execPerstAssert_answers (hs : Keeps s₀ s) : Answers s₀ (execPerstAssert s) := by
  unfold execPerstAssert
  exact .next (.ite (.ite (.raise (.other hs)) (.deviceReset (.raise (.other hs)))) (.other hs))

theorem execPerstRelease_answers (hs : Keeps s₀ s) : Answers s₀ (execPerstRelease s) :=
  .next (.other hs)

theorem execDeviceWdogExpiry_answers (hs : Keeps s₀ s) : Answers s₀ (execDeviceWdogExpiry s) := by
  unfold execDeviceWdogExpiry
  exact .next hs.deviceReset

theorem Keeps.quadPackets (hs : Keeps s₀ s) {q : Nat} : Keeps s₀ (s.quadPackets q) := by
  unfold State.quadPackets
  exact .foldl (.other hs) fun _ _ ht => .ite ht (.ite (.drawn (.ite (.other ht) ht)) (.other ht))

theorem Keeps.quadChannels (hs : Keeps s₀ s) {q : Nat} : Keeps s₀ (s.quadChannels q) := by
  unfold State.quadChannels
  extract_lets s1
  have hs1 : Keeps s₀ s1 := by
    unfold s1
    refine hs.foldl fun _ _ ht => ?_
    split
    · exact ht
    · exact .ite (ht.foldl fun _ _ ht => .ite ht ht.setChan) ht
  exact .other hs1

theorem Keeps.quadClear (hs : Keeps s₀ s) {q : Nat} : Keeps s₀ (s.quadClear q) := by
  unfold State.quadClear
  extract_lets s1 s2 s3 s4 per _ s5 s6
  have hs1 : Keeps s₀ s1 := hs.foldl fun _ _ ht => .ite ht.brgBecomes ht
  have hs3 : Keeps s₀ s3 := (hs1.foldl fun _ _ ht => ht.loseShadow).foldl fun _ _ ht => .ite ht ht.setSess
  have hs4 : Keeps s₀ s4 := hs3.quadPackets.quadChannels
  clear_value s4
  have hs5 : Keeps s₀ s5 := .edit hs4 (hf := by exact Tab.wf_drop _ _)
  refine .foldl (hs5.foldl fun _ _ ht => ht.dropContents.setMc) fun _ _ ht => ?_
  split
  · exact ht.setPort
  · exact ht

theorem Keeps.quadReset (hs : Keeps s₀ s) {q cause : Nat} : Keeps s₀ (s.quadReset q cause) := by
  unfold State.quadReset
  exact .ite hs.quadClear.recordReset.setQReset.modLoad hs

theorem Keeps.copyTables (hs : Keeps s₀ s) {q : Nat} : Keeps s₀ (s.copyTables q) := by
  unfold State.copyTables
  exact hs.foldl fun _ _ ht => .ite (.edit ht (hf := by exact Tab.wf_put _ _ _)) ht

theorem execQuadrantResetDone_answers (hs : Keeps s₀ s) {q : Nat} : Answers s₀ (execQuadrantResetDone q s) := by
  unfold execQuadrantResetDone
  exact .next (.ite (hs.setQReset.copyTables.loadImage.quadUp.foldl fun _ _ ht => .ite ht.trainBridge ht) hs)

theorem execTelemetrySend_answers (hs : Keeps s₀ s) {q : Nat} : Answers s₀ (execTelemetrySend q s) := by
  unfold execTelemetrySend
  refine .next (.ite ?_ hs)
  split
  · exact hs.hold
  · exact .ite hs.unhold.wr.raise hs.unhold

theorem execTelemetryLost_answers (hs : Keeps s₀ s) {q : Nat} : Answers s₀ (execTelemetryLost q s) := by
  unfold execTelemetryLost
  refine .next (.ite ?_ hs)
  extract_lets _ s1
  have hs1 : Keeps s₀ s1 := .ite hs hs.wr.raise
  exact .ite (.ite (.other hs1) hs1.quadReset) hs1

theorem Keeps.faultResets (hs : Keeps s₀ s) : Keeps s₀ (s.faultResets) := by
  unfold State.faultResets
  exact .ite hs (.foldl (.other hs) fun _ _ ht => ht.quadReset)

theorem execPcieLinkUp_answers (hs : Keeps s₀ s) : Answers s₀ (execPcieLinkUp s) := by
  unfold execPcieLinkUp
  exact .next (.ite hs.modLoad hs)

theorem execPcieConfigRequest_answers (hs : Keeps s₀ s) {f offset : Nat} {write : Bool} {value : Nat} :
    Answers s₀ (execPcieConfigRequest f offset write value s) := by
  unfold execPcieConfigRequest
  exact .next (.ite (.ite hs.emit (.ite hs.emit (.ite (.emit (.ite hs.setPfState hs)) hs.drawn.emit))) hs)

theorem execFlr_answers (hs : Keeps s₀ s) {f : Nat} : Answers s₀ (execFlr f s) := by
  unfold execFlr
  exact .next (.ite hs.setPfState hs)

theorem execDevreset_answers (hs : Keeps s₀ s) : Answers s₀ (execDevreset s) := by
  unfold execDevreset
  exact .next (.ite hs.tap.deviceReset hs.levelDenied.bypass)

theorem execDap_answers (hs : Keeps s₀ s) {op offset data : Nat} : Answers s₀ (execDap op offset data s) := by
  unfold execDap
  refine .next ?_
  extract_lets
  split
  · exact .ite (.emit (.withJtag hs.regRead)) (.emit (.withJtag hs.regRead))
  · exact .emit (.withJtag hs.regStore)
  · exact .other hs

theorem Keeps.modAgent (hs : Keeps s₀ s) {f : AgentSt → AgentSt} : Keeps s₀ (s.modAgent f) :=
  .other hs

theorem Keeps.mailOut (hs : Keeps s₀ s) {n : Nat} : Keeps s₀ (s.mailOut n) := by
  induction n generalizing s with
  | zero => exact hs
  | succ n ih =>
    unfold State.mailOut
    split
    · exact hs
    · exact .ite (ih hs.modAgent.mbTx) hs

theorem Keeps.mailAnswer (hs : Keeps s₀ s) {b : Bytes} : Keeps s₀ (s.mailAnswer b) := by
  unfold State.mailAnswer
  exact hs.modAgent.mailOut

theorem Keeps.canAnswer (hs : Keeps s₀ s) {n node : Nat} {b : Bytes} : Keeps s₀ (s.canAnswer n node b) := by
  unfold State.canAnswer
  exact hs.drawn.modCan

theorem Keeps.canSegment (hs : Keeps s₀ s) {n : Nat} {f : CanFrame} : Keeps s₀ (s.canSegment n f).2 := by
  unfold State.canSegment
  refine .ite₂ (.ite₂ (.ite₂ (.snd hs.modAgent) (.snd hs.modAgent)) (.snd hs.modAgent)) ?_
  split
  · exact .ite₂ (.ite₂ (.snd hs.modAgent) (.snd hs.modAgent)) (.snd hs.modAgent)
  · exact .snd hs

theorem execClanexSegmentTimeout_answers (hs : Keeps s₀ s) {n node : Nat} : Answers s₀ (execClanexSegmentTimeout n node s) := by
  unfold execClanexSegmentTimeout
  exact .next hs.modAgent

theorem Keeps.modLink (hs : Keeps s₀ s) {f : LinkSt → LinkSt} : Keeps s₀ (s.modLink f) :=
  .other hs

theorem Keeps.modPort (hs : Keeps s₀ s) {p : Nat} {f : PortSt → PortSt} : Keeps s₀ (s.modPort p f) := by
  unfold State.modPort
  exact hs.setPort

theorem Keeps.linkXmit (hs : Keeps s₀ s) {p : Nat} {k : LinkPkt} : Keeps s₀ (s.linkXmit p k) := by
  unfold State.linkXmit
  exact .ite hs.setPort.emit hs.setPort

theorem Keeps.linkFill (hs : Keeps s₀ s) {p n : Nat} : Keeps s₀ (s.linkFill p n) := by
  induction n generalizing s with
  | zero => exact hs
  | succ n ih =>
    unfold State.linkFill
    extract_lets
    split
    · exact .ite (ih hs.setPort.linkXmit.modPort) hs
    · exact hs

theorem Keeps.linkSend (hs : Keeps s₀ s) {k : LinkPkt} : Keeps s₀ (s.linkSend k) := by
  unfold State.linkSend
  split
  · exact hs.linkXmit
  · exact hs
  · refine .ite ?_ hs
    split
    · exact hs.linkXmit
    · exact hs

theorem Keeps.transmit (hs : Keeps s₀ s) {o : Origin} {b : Bytes} : Keeps s₀ (s.transmit o b) := by
  unfold State.transmit
  split
  · exact hs.mailAnswer
  · exact hs.drawn.modMac
  · exact hs.canAnswer
  · exact hs.linkSend

theorem Keeps.answerWith (hs : Keeps s₀ s) {o : Origin} {h : ClHead} {b : Bytes} : Keeps s₀ (s.answerWith o h b) := by
  unfold State.answerWith
  exact .ite hs hs.modAgent.transmit

theorem Keeps.clAnswer (hs : Keeps s₀ s) {o : Origin} {h : ClHead} {op status session : Nat} {arg : Bytes}
    {recs : List (ClRec × Nat)} : Keeps s₀ (s.clAnswer o h op status session arg recs) := by
  unfold State.clAnswer
  exact hs.answerWith

theorem Keeps.sbShow (hs : Keeps s₀ s) : Keeps s₀ (s.sbShow) := by
  unfold State.sbShow
  exact .wr (.ite hs hs.drawn)

theorem Keeps.bumpRef (hs : Keeps s₀ s) {k : Nat} : Keeps s₀ (s.bumpRef k) := by
  unfold State.bumpRef
  exact .ite hs hs.wr

theorem Keeps.refuseSleep (hs : Keeps s₀ s) {t st reason uid : Nat} {aborted : Bool} :
    Keeps s₀ (s.refuseSleep t st reason uid aborted) := by
  unfold State.refuseSleep
  extract_lets _ s1 s2
  have hs1 : Keeps s₀ s1 := .ite (hs.foldl fun _ _ ht => ht.bumpRef) hs
  have hs2 : Keeps s₀ s2 := by
    unfold s2
    split
    · exact hs1.bump
    · exact .ite hs1.bump hs1
    · exact hs1.bump
    · exact hs1
  exact .raise (.ite hs2.refusalEntry (.withPower hs2.refusalEntry))

theorem Keeps.answerGo (hs : Keeps s₀ s) {st : Nat} : Keeps s₀ (s.answerGo st) := by
  unfold State.answerGo
  split
  · exact hs
  · exact hs.modAgent.clAnswer

theorem Keeps.startExit (hs : Keeps s₀ s) {t : Nat} : Keeps s₀ (s.startExit t) := by
  unfold State.startExit
  exact .ite (.trainAll (.other hs)) (.other hs)

theorem Keeps.nextWake (hs : Keeps s₀ s) : Keeps s₀ (s.nextWake) := by
  unfold State.nextWake
  refine .ite ?_ ?_
  · split
    · exact .startExit (.other hs)
    · exact hs
  · split
    · exact .startExit (.other hs)
    · exact .other hs

theorem Keeps.wakeTarget (hs : Keeps s₀ s) {t : Nat} : Keeps s₀ (s.wakeTarget t) := by
  unfold State.wakeTarget
  exact .ite (.nextWake (.other hs)) (.other hs)

theorem Keeps.serveWake (hs : Keeps s₀ s) {e : Nat} : Keeps s₀ (s.serveWake e) := by
  unfold State.serveWake
  refine hs.foldl fun _ _ ht => ?_
  split
  · exact .ite ht.wakeTarget ht
  · exact ht

theorem Keeps.serveWakes (hs : Keeps s₀ s) : Keeps s₀ (s.serveWakes) := by
  unfold State.serveWakes
  exact .foldl (.other hs) fun _ _ ht => ht.serveWake

theorem Keeps.zeroSram (hs : Keeps s₀ s) {b : Nat} : Keeps s₀ (s.zeroSram b) := by
  unfold State.zeroSram
  exact .edit hs (hm := by exact Tab.wf_drop _ _) (hc := by exact Tab.wf_drop _ _)

theorem Keeps.zeroDeep (hs : Keeps s₀ s) {d : Nat} : Keeps s₀ (s.zeroDeep d) := by
  unfold State.zeroDeep
  exact .edit hs (hr := by exact Tab.wf_drop _ _) (hc := by exact Tab.wf_drop _ _)

theorem Keeps.bayFresh (hs : Keeps s₀ s) {b : Nat} : Keeps s₀ (s.bayFresh b) := by
  unfold State.bayFresh
  exact hs.clearBay.loadImage.startContexts.zeroSram.enterOffline.holdReset

theorem Keeps.wakeUnit (hs : Keeps s₀ s) {k : Nat} : Keeps s₀ (s.wakeUnit k) := by
  unfold State.wakeUnit
  extract_lets
  split
  · exact .ite hs.leaveSleep.setIslState hs.leaveSleep
  · exact .ite hs.leaveSleep.zeroStores.initFlops.setIslState (.ite hs.leaveSleep.bayFresh hs.leaveSleep.zeroDeep)
  · exact hs.leaveSleep

theorem Keeps.islandKept (hs : Keeps s₀ s) {i : Nat} : Keeps s₀ (s.islandKept i) := by
  have back : ∀ t : State, Keeps s₀ t →
      Keeps s₀ (match t.power.fenced.find? (fun x => decide (x.1 = i)) with
        | some x => t.setIslState i x.2
        | none => t) := by
    intro t ht
    split
    · exact ht.setIslState
    · exact ht
  unfold State.islandKept
  extract_lets
  split
  · exact back _ hs.zeroStores.initFlops
  · exact back _ hs.zeroStores
  · exact .setIslState (.initFlops (.other hs.zeroStores))

theorem Keeps.bayKept (hs : Keeps s₀ s) {b : Nat} : Keeps s₀ (s.bayKept b) := by
  unfold State.bayKept
  split
  · exact hs.bayFresh
  · exact .enterOffline (.foldl (.edit hs.clearBay.loadImage (hf := by exact fun h => Tab.wf_foldl_put _ (Tab.wf_drop _ _ h)))
      fun _ _ ht => .ite ht.setCtxState ht)
  · exact hs.clearBay.zeroSram.wr.drivePins

theorem Keeps.leaveS3 (hs : Keeps s₀ s) : Keeps s₀ (s.leaveS3) := by
  unfold State.leaveS3
  exact .framesStep (.wr (.withPower (.foldl (.other hs) fun _ _ ht => .foldl
    (.foldl (.foldl (.foldl (ht.foldl fun _ _ ht => ht.islandKept) fun _ _ ht => ht.bayKept) fun _ _ ht => ht.zeroDeep)
    fun _ _ ht => .ite ht.setMcState ht) fun _ _ ht => ht.laneSettle)))

theorem execSleepExitDone_answers (hs : Keeps s₀ s) : Answers s₀ (execSleepExitDone s) := by
  unfold execSleepExitDone
  refine .next (.ite ?_ hs)
  extract_lets _ s1
  have hs1 : Keeps s₀ s1 := .ite hs.leaveS3 (hs.foldl fun _ _ ht => ht.wakeUnit)
  exact .ite (.deviceReset (.raise (.other hs1))) (.nextWake (.raise (.other hs1)))

theorem Keeps.fenceFor (hs : Keeps s₀ s) {k : Nat} : Keeps s₀ (s.fenceFor k) := by
  unfold State.fenceFor
  exact .ite (.withPower hs.fence) hs

theorem Keeps.offlineFor (hs : Keeps s₀ s) {k : Nat} : Keeps s₀ (s.offlineFor k) := by
  unfold State.offlineFor
  exact .ite (.withPower hs.enterOffline) hs

theorem Keeps.startEntry (hs : Keeps s₀ s) {t st : Nat} : Keeps s₀ (s.startEntry t st) := by
  unfold State.startEntry
  exact .ite (.sticky (.other hs)) (.ite (.other hs) (.foldl (.ite (.foldl (.other hs) fun _ _ ht => ht.offlineFor) (.other hs))
    fun _ _ ht => ht.fenceFor))

theorem Keeps.sleepGo (hs : Keeps s₀ s) {t st : Nat} : Keeps s₀ (s.sleepGo t st).2 := by
  unfold State.sleepGo
  extract_lets _ s1 c early s2
  have hs1 : Keeps s₀ s1 := .other hs
  have hs2 : Keeps s₀ s2 := .ite hs1.sbShow hs1
  clear_value s2 early c
  refine .ite₂ (.ite₂ (.snd hs1.refuseSleep) (.ite₂ (.snd hs1.refuseSleep) (.snd hs1.wakeTarget))) ?_
  split
  · exact .snd hs2.refuseSleep
  · exact .snd hs2.startEntry

theorem execSleepExit_answers (hs : Keeps s₀ s) {target : BitVec 32} : Answers s₀ (execSleepExit target s) := by
  unfold execSleepExit
  exact .next (.ite hs.sleepGo hs)

theorem execSleepS1_answers (hs : Keeps s₀ s) {target : BitVec 32} : Answers s₀ (execSleepS1 target s) := by
  unfold execSleepS1
  exact .next (.ite hs.sleepGo hs)

theorem execSleepS2_answers (hs : Keeps s₀ s) {target : BitVec 32} : Answers s₀ (execSleepS2 target s) := by
  unfold execSleepS2
  exact .next (.ite hs.sleepGo hs)

theorem execSleepS3_answers (hs : Keeps s₀ s) {target : BitVec 32} : Answers s₀ (execSleepS3 target s) := by
  unfold execSleepS3
  exact .next (.ite hs.sleepGo hs)

theorem execSleepS4_answers (hs : Keeps s₀ s) {target : BitVec 32} : Answers s₀ (execSleepS4 target s) := by
  unfold execSleepS4
  exact .next (.ite hs.sleepGo hs)

theorem execSleepCommitPoint_answers (hs : Keeps s₀ s) : Answers s₀ (execSleepCommitPoint s) := by
  unfold execSleepCommitPoint
  exact .next (.ite (.answerGo (.other hs)) hs)

theorem Keeps.abortEntry (hs : Keeps s₀ s) {i : Nat} : Keeps s₀ (s.abortEntry i) := by
  unfold State.abortEntry
  exact .nextWake (.answerGo (.drawn (.refuseSleep (.withPower (hs.foldl fun _ _ ht => .ite ht.setIslState ht.enterOnline)))))

theorem execIslandFenceTimeout_answers (hs : Keeps s₀ s) {i : Nat} : Answers s₀ (execIslandFenceTimeout i s) := by
  unfold execIslandFenceTimeout
  exact .next (.ite (.ite hs.fenceTimeout.abortEntry hs.fenceTimeout) hs)

theorem Keeps.enterUnitS1 (hs : Keeps s₀ s) {k : Nat} : Keeps s₀ (s.enterUnitS1 k) := by
  unfold State.enterUnitS1
  exact .ite (.setIslState (.other hs)) (.other hs)

theorem Keeps.enterUnitS2 (hs : Keeps s₀ s) {k : Nat} : Keeps s₀ (s.enterUnitS2 k) := by
  unfold State.enterUnitS2
  exact .ite (.clearEdges (.setIslState (.other hs))) (.other hs)

theorem Keeps.enterS3 (hs : Keeps s₀ s) : Keeps s₀ (s.enterS3) := by
  unfold State.enterS3
  exact .withPower (.modLoad (.foldl (hs.foldl fun _ _ ht => .foldl (ht.foldl fun _ _ ht => .ite ht.setMcState ht)
    fun _ _ ht => ht.wr.wr.rxRestart.laneSync) fun _ _ ht => ht.brgBecomes))

theorem execSleepEntryDone_answers (hs : Keeps s₀ s) : Answers s₀ (execSleepEntryDone s) := by
  unfold execSleepEntryDone
  refine .next (.ite ?_ hs)
  extract_lets _ s1
  have hs1 : Keeps s₀ s1 := by
    unfold s1
    split
    · exact hs.foldl fun _ _ ht => ht.enterUnitS1
    · exact hs.foldl fun _ _ ht => ht.enterUnitS2
    · exact hs.enterS3
    · exact hs.enterS4
  exact .ite hs1 (.nextWake (.raise (.other hs1)))

theorem execWakeEvent_answers (hs : Keeps s₀ s) {e : Nat} : Answers s₀ (execWakeEvent e s) := by
  unfold execWakeEvent
  exact .next (.serveWake (.other hs))

theorem execWakeTimer_answers (hs : Keeps s₀ s) : Answers s₀ (execWakeTimer s) := by
  unfold execWakeTimer
  exact .next (.ite (.raise (.other hs)) hs)

theorem execWakePin_answers (hs : Keeps s₀ s) {k : Nat} : Answers s₀ (execWakePin k s) := by
  unfold execWakePin
  exact .next (.ite hs.raise hs)

theorem Keeps.globDown (hs : Keeps s₀ s) {gop gseq arg : Nat} : Keeps s₀ (s.globDown gop gseq arg) := by
  unfold State.globDown
  exact hs.foldl fun _ _ ht => ht.emit

theorem Keeps.globUp (hs : Keeps s₀ s) {gop gseq arg : Nat} : Keeps s₀ (s.globUp gop gseq arg) := by
  unfold State.globUp
  exact hs.foldl fun _ _ ht => ht.emit

theorem Keeps.assignRanges (hs : Keeps s₀ s) {depth : Nat} {ps : List Nat} {next : Nat} :
    Keeps s₀ (s.assignRanges depth ps next) := by
  induction ps generalizing s next with
  | nil => exact hs
  | cons p ps ih =>
    unfold State.assignRanges
    split
    · exact ih hs
    · exact ih (.ite (hs.foldl fun _ _ ht => ht.modPort).linkXmit hs)

theorem Keeps.takeRange (hs : Keeps s₀ s) {lo depth : Nat} : Keeps s₀ (s.takeRange lo depth) := by
  unfold State.takeRange
  exact .assignRanges (hs.modLink.foldl fun _ _ ht => ht.modPort)

theorem Keeps.takeAssign (hs : Keeps s₀ s) {b : Bytes} : Keeps s₀ (s.takeAssign b) := by
  unfold State.takeAssign
  exact .ite hs.takeRange hs

theorem Keeps.linkComplete (hs : Keeps s₀ s) {gop gseq : Nat} : Keeps s₀ (s.linkComplete gop gseq) := by
  unfold State.linkComplete
  extract_lets
  split
  · exact .ite hs.modLink.modLink.raise hs.modLink.globUp
  · exact .ite hs.modLink.modLink.drawn.takeRange.modLink.raise hs.modLink.modLink.drawn.globUp
  · exact .ite hs.modLink.modLink hs.modLink.globUp

theorem Keeps.linkAnswer (hs : Keeps s₀ s) : Keeps s₀ (s.linkAnswer) := by
  unfold State.linkAnswer
  split
  · exact .ite hs.linkComplete hs
  · exact hs

theorem Keeps.opBegins (hs : Keeps s₀ s) {gop gseq : Nat} {own : Bool} {late : Nat} :
    Keeps s₀ (s.opBegins gop gseq own late) := by
  unfold State.opBegins
  exact .modLink (hs.foldl fun _ _ ht => ht.modPort)

theorem Keeps.schedule (hs : Keeps s₀ s) {gop gseq arg : Nat} : Keeps s₀ (s.schedule gop gseq arg) := by
  unfold State.schedule
  exact .ite hs.opBegins.raise hs.opBegins.modLink

theorem Keeps.globAct (hs : Keeps s₀ s) {gop gseq arg : Nat} : Keeps s₀ (s.globAct gop gseq arg) := by
  unfold State.globAct
  extract_lets
  split
  · exact hs.globDown.opBegins.linkAnswer
  · exact hs.globDown.opBegins.modLink.linkAnswer
  · exact hs.globDown.schedule.linkAnswer

theorem Keeps.globOrigin (hs : Keeps s₀ s) {gop arg : Nat} : Keeps s₀ (s.globOrigin gop arg) := by
  unfold State.globOrigin
  exact hs.modLink.globAct

theorem Keeps.globIn (hs : Keeps s₀ s) {gop own : Nat} {g : GlobIn} : Keeps s₀ (s.globIn gop own g) := by
  unfold State.globIn
  split
  · exact .ite hs.globOrigin hs
  · exact .ite hs.modLink.globAct hs
  · exact .ite hs.modPort.linkAnswer hs

theorem execBarrier_answers (hs : Keeps s₀ s) {g : GlobIn} : Answers s₀ (execBarrier g s) := by
  unfold execBarrier
  exact .next hs.globIn

theorem execSnapshotAt_answers (hs : Keeps s₀ s) {g : GlobIn} : Answers s₀ (execSnapshotAt g s) := by
  unfold execSnapshotAt
  exact .next hs.globIn

theorem execResetAt_answers (hs : Keeps s₀ s) {g : GlobIn} : Answers s₀ (execResetAt g s) := by
  unfold execResetAt
  exact .next hs.globIn

theorem execEnum_answers (hs : Keeps s₀ s) {g : GlobIn} : Answers s₀ (execEnum g s) := by
  unfold execEnum
  exact .next hs.globIn

theorem Keeps.setFrames (hs : Keeps s₀ s) {ns sec period first : Nat} : Keeps s₀ (s.setFrames ns sec period first) := by
  unfold State.setFrames
  exact .ite hs.wr.wr.wr.wr.wr hs

theorem Keeps.frameOrigin (hs : Keeps s₀ s) : Keeps s₀ (s.frameOrigin) := by
  unfold State.frameOrigin
  exact hs.modLink.foldl fun _ _ ht => ht.emit

theorem execBroadcastFrame_answers (hs : Keeps s₀ s) {g : GlobIn} {ns sec period first : Nat} :
    Answers s₀ (execBroadcastFrame g ns sec period first s) := by
  unfold execBroadcastFrame
  refine .next ?_
  split
  · exact .ite hs.frameOrigin hs
  · exact .ite (.setFrames (hs.modLink.foldl fun _ _ ht => ht.emit)) hs
  · exact hs

theorem Keeps.originate (hs : Keeps s₀ s) {gop t : Nat} : Keeps s₀ (s.originate gop t).2 := by
  unfold State.originate
  refine .ite₂ (.snd hs) ?_
  extract_lets
  split
  · exact .snd hs.frameOrigin
  · exact .snd hs.globOrigin
  · exact .snd hs.globOrigin
  · exact .snd hs.globOrigin

theorem execBarrierTimeout_answers (hs : Keeps s₀ s) : Answers s₀ (execBarrierTimeout s) := by
  unfold execBarrierTimeout
  refine .next ?_
  split
  · exact .ite hs.modLink.raise hs
  · exact hs

theorem execGlobalInstant_answers (hs : Keeps s₀ s) : Answers s₀ (execGlobalInstant s) := by
  unfold execGlobalInstant
  refine .next ?_
  split
  · extract_lets _ s2
    have hs2 : Keeps s₀ s2 := .ite hs.modLink.capture hs.modLink
    exact .ite (.deviceReset (.ite hs2.modLink.linkAnswer hs2)) (.ite hs2.modLink.linkAnswer hs2)
  · exact hs

theorem execAck_answers (hs : Keeps s₀ s) {port seq : Nat} : Answers s₀ (execAck port seq s) := by
  unfold execAck
  exact .next (.ite hs.setPort.linkFill hs)

theorem Keeps.resend (hs : Keeps s₀ s) {port : Nat} : Keeps s₀ (s.resend port) := by
  unfold State.resend
  exact .ite (.raiseIf (hs.setPort.foldl fun _ _ ht => ht.emit)) hs

theorem execNak_answers (hs : Keeps s₀ s) {port _seq : Nat} : Answers s₀ (execNak port _seq s) := by
  unfold execNak
  exact .next hs.resend

theorem execSyslinkResendTimeout_answers (hs : Keeps s₀ s) {port : Nat} : Answers s₀ (execSyslinkResendTimeout port s) := by
  unfold execSyslinkResendTimeout
  exact .next hs.resend

theorem execUpPortFailover_answers (hs : Keeps s₀ s) : Answers s₀ (execUpPortFailover s) := by
  unfold execUpPortFailover
  exact .next (.ite (.raise (hs.setPort.modLink.foldl fun _ _ ht => ht.linkXmit)) hs)

theorem execTickSend_answers (hs : Keeps s₀ s) {port : Nat} : Answers s₀ (execTickSend port s) := by
  unfold execTickSend
  exact .next (.ite hs.emit hs)

theorem Keeps.tickSample (hs : Keeps s₀ s) {d c t3 t2 : Nat} : Keeps s₀ (s.tickSample d c t3 t2) := by
  unfold State.tickSample
  exact .ite hs.sample hs

theorem execTick_answers (hs : Keeps s₀ s) {port : Nat} {resp : Bool} {stamp : Nat} :
    Answers s₀ (execTick port resp stamp s) := by
  unfold execTick
  exact .next (.ite (.ite (.ite hs hs.emit) (.ite (hs.foldl fun _ _ ht => ht.tickSample) hs.modPort.emit)) hs)

theorem execLinkResetSend_answers (hs : Keeps s₀ s) {port : Nat} : Answers s₀ (execLinkResetSend port s) := by
  unfold execLinkResetSend
  exact .next (.ite hs.emit hs)

theorem execLinkReset_answers (hs : Keeps s₀ s) {port : Nat} : Answers s₀ (execLinkReset port s) := by
  unfold execLinkReset
  exact .next (.ite hs.deviceReset hs)

theorem Keeps.readParts (hs : Keeps s₀ s) {base : Nat} {parts : List (Fld × Nat)} : Keeps s₀ (s.readParts base parts).2 := by
  unfold State.readParts
  refine .snd (hs.foldl fun _ _ ht => ?_)
  split
  · exact .ite ht.wr ht
  · exact ht

theorem Keeps.objRead (hs : Keeps s₀ s) {e : Ent} : Keeps s₀ (s.objRead e).2.2 := by
  unfold State.objRead
  split
  · exact .snd₂ hs
  · exact .snd₂ hs.readParts
  · exact .snd₂ hs
  · exact .snd₂ hs.timeSnap
  · exact .snd₂ hs
  · exact .ite₃ (.snd₂ hs.spanRead) (.snd₂ hs.spanRead.drawn)

theorem Keeps.writeParts (hs : Keeps s₀ s) {base : Nat} {parts : List (Fld × Nat)} {v : Nat} :
    Keeps s₀ (s.writeParts base parts v) := by
  unfold State.writeParts
  exact hs.foldl fun _ _ ht => ht.regStore

theorem Keeps.quadCommand (hs : Keeps s₀ s) {q : Nat} : Keeps s₀ (s.quadCommand q).2 := by
  unfold State.quadCommand
  exact .ite₂ (.snd hs) (.ite₂ (.snd hs) (.ite₂ (.snd hs) (.snd hs.quadReset)))

theorem Keeps.agentWrite (hs : Keeps s₀ s) {o : AgentObj} {v : Nat} : Keeps s₀ (s.agentWrite o v).2 := by
  unfold State.agentWrite
  split
  · exact hs.quadCommand
  · exact .snd hs.modAgent
  · exact .snd hs.modAgent
  · exact .snd hs.modAgent
  · exact .snd hs.modAgent
  · exact .snd hs.modAgent
  · exact .snd hs.modAgent
  · exact .snd hs.modAgent
  · exact .snd hs.modAgent
  · exact .snd hs.modLink
  · exact .ite₂ hs.originate (.snd hs)
  · exact .snd (.ite hs.emit hs)
  · exact .snd hs.modLink
  · exact .snd hs.modLink
  · exact .ite₂ (.snd hs) (.ite₂ (.snd hs) hs.originate)
  · exact .snd hs.modLink.linkAnswer
  · exact .snd hs.modLink
  · exact .snd hs.modDom
  · exact .snd hs.modDom
  · exact .snd hs.modDom
  · exact .snd (.other hs)
  · exact .snd (.other hs)
  · exact .ite₂ (.ite₂ (.snd hs.sleepGo) (.ite₂ (.snd hs.sleepGo.drawn) (.snd hs.sleepGo))) (.snd hs)
  · exact .snd (.ite (hs.foldl fun _ _ ht => ht.pwrLogClear) hs)
  · exact .snd hs

theorem Keeps.objWrite (hs : Keeps s₀ s) {e : Ent} {len v : Nat} : Keeps s₀ (s.objWrite e len v).2 := by
  unfold State.objWrite
  split
  · exact .snd hs
  · exact .snd hs.writeParts
  · exact .snd hs.writeParts
  · exact hs.agentWrite
  · exact .ite₂ (.snd hs.spanWrite) (.snd hs.spanWrite.drawn)

theorem Keeps.readRec (hs : Keeps s₀ s) {n : Nat} {r : ClRec} : Keeps s₀ (s.readRec n r).2 := by
  unfold State.readRec
  split
  · refine .ite₂ (.snd hs) ?_
    split
    · exact .snd hs
    · exact .ite₂ (.snd hs.objRead) (.snd hs.objRead)
  · exact .snd hs

theorem Keeps.writeRec (hs : Keeps s₀ s) {n : Nat} {r : ClRec} : Keeps s₀ (s.writeRec n r).2 := by
  unfold State.writeRec
  split
  · exact .snd hs
  · exact .ite₂ (.snd hs)
      (.ite₂ (.snd hs) (.ite₂ (.snd hs) (.ite₂ (.snd hs) (.ite₂ (.ite₂ (.snd hs.drawn) hs.objWrite)
      (.ite₂ (.snd hs) (.ite₂ (.snd hs) (.snd hs.setSess)))))))

theorem Keeps.readRecs (hs : Keeps s₀ s) {n : Nat} {recs : List ClRec} : Keeps s₀ (s.readRecs n recs).2 := by
  induction recs generalizing s with
  | nil => exact hs
  | cons r recs ih => exact ih hs.readRec

theorem Keeps.writeRecs (hs : Keeps s₀ s) {n : Nat} {recs : List ClRec} : Keeps s₀ (s.writeRecs n recs).2 := by
  induction recs generalizing s with
  | nil => exact hs
  | cons r recs ih => exact ih hs.writeRec

theorem Keeps.closeSess (hs : Keeps s₀ s) {n st : Nat} : Keeps s₀ (s.closeSess n st) :=
  .other hs

theorem execSessionTimeout_answers (hs : Keeps s₀ s) {n : Nat} : Answers s₀ (execSessionTimeout n s) := by
  unfold execSessionTimeout
  exact .next (.ite hs.closeSess.raise hs)

theorem Keeps.writeStaged (hs : Keeps s₀ s) {recs : List ClRec} : Keeps s₀ (s.writeStaged recs).2 := by
  induction recs generalizing s with
  | nil => exact hs
  | cons r recs ih =>
    unfold State.writeStaged
    extract_lets x
    have hx : Keeps s₀ x.2 := by
      unfold x
      split
      · exact .ite₂ hs hs.objWrite
      · exact hs
    exact ih hx

theorem Keeps.commitDone (hs : Keeps s₀ s) {n mode frame : Nat} {lost : List ClRec} :
    Keeps s₀ (s.commitDone n mode frame lost) := by
  unfold State.commitDone
  extract_lets
  split
  · exact hs.closeSess.raise.clAnswer
  · exact hs.closeSess.raise

theorem Keeps.commit (hs : Keeps s₀ s) {n : Nat} {h : ClHead} {mode frame : Nat} : Keeps s₀ (s.commit n h mode frame).2 := by
  unfold State.commit
  refine .ite₂ (.snd hs) ?_
  split
  · exact .snd hs
  · refine .ite₂ (.snd hs.setSess.writeStaged.drawn.commitDone) (.ite₂ (.snd hs) ?_)
    split
    · exact .snd hs
    · exact .snd (.other hs)

theorem Keeps.applyRest (hs : Keeps s₀ s) {n : Nat} : Keeps s₀ (s.applyRest n) := by
  unfold State.applyRest
  refine .foldl (.other hs) fun _ _ ht => ?_
  extract_lets
  split
  · exact .ite (.drivePins (.reflex (ht.foldl fun _ _ ht => ht.bayField))) (.other ht)
  · exact ht

theorem execCommitApply_answers (hs : Keeps s₀ s) {n : Nat} : Answers s₀ (execCommitApply n s) := by
  unfold execCommitApply
  exact .next (.ite hs.setSess.applyRest.writeStaged.writeStaged.commitDone hs)

theorem Keeps.lastStatus (hs : Keeps s₀ s) {n st : Nat} : Keeps s₀ (s.lastStatus n st) := by
  unfold State.lastStatus
  exact .ite hs hs.setSess

theorem Keeps.reply (hs : Keeps s₀ s) {o : Origin} {h : ClHead} {op st : Nat} {arg : Bytes} {recs : List (ClRec × Nat)} :
    Keeps s₀ (s.reply o h op st arg recs) := by
  unfold State.reply
  exact hs.lastStatus.clAnswer

theorem Keeps.clDo (hs : Keeps s₀ s) {o : Origin} {h : ClHead} {op : ClOp} : Keeps s₀ (s.clDo o h op) := by
  unfold State.clDo
  split
  · exact hs.readRecs.reply
  · exact .ite hs.writeRecs.modAgent hs.writeRecs.reply
  · split
    · exact hs.setSess.clAnswer
    · exact hs.clAnswer
  · split
    · exact (hs.commit.of_pair ‹_›).drawn.reply
    · exact hs.commit.of_pair ‹_›
  · exact .ite hs.reply hs.closeSess.clAnswer
  · exact hs.reply
  · exact hs.originate.reply
  · exact hs.reply

theorem Keeps.clForward (hs : Keeps s₀ s) {o : Origin} {h : ClHead} {code : Nat} {raw : Bytes} :
    Keeps s₀ (s.clForward o h code raw) := by
  unfold State.clForward
  split
  · exact .linkXmit (.ite hs hs.modAgent)
  · exact hs.clAnswer

theorem Keeps.clRequest (hs : Keeps s₀ s) {o : Origin} {h : ClHead} {op : ClOp} {raw : Bytes} :
    Keeps s₀ (s.clRequest o h op raw) := by
  unfold State.clRequest
  refine .ite ?_ hs
  split
  · exact hs.transmit
  · refine .ite hs.clAnswer (.ite hs.clForward ?_)
    split
    · exact hs.clAnswer
    · exact .ite hs.clAnswer hs.clDo

theorem Keeps.clMessage (hs : Keeps s₀ s) {o : Origin} {b : Bytes} : Keeps s₀ (s.clMessage o b) := by
  unfold State.clMessage
  exact hs.clRequest

theorem Keeps.lastAnswers (hs : Keeps s₀ s) : Keeps s₀ (s.lastAnswers) := by
  unfold State.lastAnswers
  exact .foldl (hs.foldl fun _ _ ht => .ite (ht.foldl fun _ _ ht => ht.emit) ht) fun _ _ ht => .ite
    (ht.foldl fun _ _ ht => ht.emit) ht

theorem Keeps.resetDue (hs : Keeps s₀ s) : Keeps s₀ (s.resetDue) := by
  unfold State.resetDue
  exact .ite hs.lastAnswers.deviceReset hs

theorem execRead_answers (hs : Keeps s₀ s) {o : Origin} {h : ClHead} {recs : List ClRec} : Answers s₀ (execRead o h recs s) := by
  unfold execRead
  exact .next hs.clRequest

theorem execWrite_answers (hs : Keeps s₀ s) {o : Origin} {h : ClHead} {recs : List ClRec} :
    Answers s₀ (execWrite o h recs s) := by
  unfold execWrite
  exact .next hs.clRequest

theorem execBegin_answers (hs : Keeps s₀ s) {o : Origin} {h : ClHead} : Answers s₀ (execBegin o h s) := by
  unfold execBegin
  exact .next hs.clRequest

theorem execCommit_answers (hs : Keeps s₀ s) {o : Origin} {h : ClHead} {mode frame : Nat} :
    Answers s₀ (execCommit o h mode frame s) := by
  unfold execCommit
  exact .next hs.clRequest

theorem execRollback_answers (hs : Keeps s₀ s) {o : Origin} {h : ClHead} : Answers s₀ (execRollback o h s) := by
  unfold execRollback
  exact .next hs.clRequest

theorem execDescribe_answers (hs : Keeps s₀ s) {o : Origin} {h : ClHead} {recs : List ClRec} :
    Answers s₀ (execDescribe o h recs s) := by
  unfold execDescribe
  exact .next hs.clRequest

theorem execDeviceReset_answers (hs : Keeps s₀ s) {o : Origin} {h : ClHead} : Answers s₀ (execDeviceReset o h s) := by
  unfold execDeviceReset
  exact .next hs.clRequest.resetDue

theorem execQuadrantReset_answers (hs : Keeps s₀ s) {o : Origin} {h : ClHead} {q : Nat} :
    Answers s₀ (execQuadrantReset o h q s) := by
  unfold execQuadrantReset
  exact .next hs.clRequest

theorem Keeps.linkDeliver (hs : Keeps s₀ s) {p : LinkPkt} : Keeps s₀ (s.linkDeliver p) := by
  unfold State.linkDeliver
  refine .ite ?_ hs.clMessage
  split
  · exact hs.modAgent.answerWith
  · exact hs

theorem execSyslinkPacket_answers (hs : Keeps s₀ s) {port seq : Nat} {p : LinkPkt} {crcOk : Bool} :
    Answers s₀ (execSyslinkPacket port seq p crcOk s) := by
  unfold execSyslinkPacket
  refine .next ?_
  refine .ite (.ite (.ite (.ite hs.emit.takeAssign hs.emit) (.ite ?_ hs.emit)) hs.emit) hs
  split
  · exact hs.emit.linkDeliver
  · exact hs.emit.linkSend

theorem Keeps.ringStep (hs : Keeps s₀ s) {r : Nat} {f : Fld} : Keeps s₀ (s.ringStep r f) := by
  unfold State.ringStep
  exact hs.wr

theorem Keeps.txDone (hs : Keeps s₀ s) {r off n v : Nat} {evt : Bool} {net : Net} : Keeps s₀ (s.txDone r off n v evt net) := by
  unfold State.txDone
  exact .ite hs.spanWrite.ringFail hs.spanWrite.ringStep.raiseIf

theorem Keeps.rxPut (hs : Keeps s₀ s) {r n v : Nat} {net : Net} : Keeps s₀ (s.rxPut r n v net) := by
  unfold State.rxPut
  exact .ite hs (.ite hs.bump (.ite hs.spanWrite.ringFail hs.spanWrite.ringStep.raise))

theorem Keeps.macStamp (hs : Keeps s₀ s) {e : Nat} : Keeps s₀ (s.macStamp e).2 := by
  unfold State.macStamp
  exact .snd hs.drawn

theorem Keeps.macStore (hs : Keeps s₀ s) {e : Nat} {f : Bytes} {fcsOk : Bool} {net : Net} :
    Keeps s₀ (s.macStore e f fcsOk net) := by
  unfold State.macStore
  exact .ite hs.bump hs.macStamp.bump.modMac.rxPut

theorem Keeps.macReceive (hs : Keeps s₀ s) {e : Nat} {f : Bytes} {fcsOk : Bool} {net : Net} :
    Keeps s₀ (s.macReceive e f fcsOk net) := by
  unfold State.macReceive
  refine .ite hs ?_
  extract_lets s1
  have hs1 : Keeps s₀ s1 := .ite hs hs.bump
  refine .ite hs1 (.ite hs1.bump (.ite hs1.pauseTaken (.ite hs1 (.ite ?_ (.ite hs1.macStore hs1)))))
  split
  · exact hs1.clMessage
  · exact .ite hs1.macStore hs1

theorem execMacFrameReceive_answers (hs : Keeps s₀ s) {e : Nat} {frame : List (BitVec 8)} {fcsOk : Bool} {net : Net} :
    Answers s₀ (execMacFrameReceive e frame fcsOk net s) := by
  unfold execMacFrameReceive
  exact .next hs.macReceive

theorem Keeps.macFinish (hs : Keeps s₀ s) {e status cflags : Nat} {stamp : Option Int} {evt : Bool} {net : Net} :
    Keeps s₀ (s.macFinish e status cflags stamp evt net) := by
  unfold State.macFinish
  exact hs.drawn.modMac.txDone

theorem Keeps.macSend (hs : Keeps s₀ s) {e : Nat} {f : Bytes} {flags : Nat} {late ring : Bool} :
    Keeps s₀ (s.macSend e f flags late ring) := by
  unfold State.macSend
  extract_lets _ _ x2
  have hx2 : Keeps s₀ x2.2 := by
    unfold x2
    split
    · exact .snd hs.macStamp.bump
    · exact .snd hs.macStamp
  exact hx2.modMac

theorem Keeps.macHead (hs : Keeps s₀ s) {e : Nat} {net : Net} : Keeps s₀ (s.macHead e net) := by
  unfold State.macHead
  exact .ite hs.spanRead.macFinish.ringFail (.ite hs.spanRead.bump.macFinish (.ite hs.spanRead.macFinish
    (.ite hs.spanRead.modMac (.ite hs.spanRead (.ite hs.spanRead.spanRead.macFinish.ringFail hs.spanRead.spanRead.macSend)))))

theorem execMacTxEntry_answers (hs : Keeps s₀ s) {e : Nat} {net : Net} : Answers s₀ (execMacTxEntry e net s) := by
  unfold execMacTxEntry
  refine .next (.ite ?_ hs)
  split
  · exact .ite hs.modMac.macSend (.ite hs.macHead hs)
  · exact .ite hs.macHead hs

theorem execMacLaunch_answers (hs : Keeps s₀ s) {e : Nat} : Answers s₀ (execMacLaunch e s) := by
  unfold execMacLaunch
  exact .next (.ite hs.macHead hs)

theorem execMacTxComplete_answers (hs : Keeps s₀ s) {e : Nat} {net : Net} : Answers s₀ (execMacTxComplete e net s) := by
  unfold execMacTxComplete
  refine .next ?_
  split
  · exact hs
  · extract_lets _ s1 _ _ _ s4
    have hs1 : Keeps s₀ s1 := .ite hs.drawn hs
    have hs4 : Keeps s₀ s4 := .foldl (.modMac (.ite (.bump (.ite hs1.emit hs1)) (.ite hs1.emit hs1))) fun _ _ ht => ht.laneSettle
    exact .ite (.macReceive (.ite hs4.macFinish hs4)) (.ite hs4.macFinish hs4)

theorem Keeps.canCount (hs : Keeps s₀ s) {n tec rec : Nat} : Keeps s₀ (s.canCount n tec rec) := by
  unfold State.canCount
  exact hs.wr.wr.setCanState

theorem Keeps.canStamp (hs : Keeps s₀ s) {n : Nat} : Keeps s₀ (s.canStamp n).2 := by
  unfold State.canStamp
  exact .snd hs.drawn

theorem Keeps.canReceive (hs : Keeps s₀ s) {n : Nat} {f : CanFrame} {net : Net} : Keeps s₀ (s.canReceive n f net) := by
  unfold State.canReceive
  extract_lets _ _ s1
  have hs1 : Keeps s₀ s1 := .ite hs.drawn.canCount hs.canCount
  refine .ite ?_ ?_
  · extract_lets
    split
    · exact hs1.canSegment.clMessage
    · exact hs1.canSegment
  · split
    · exact hs1
    · exact hs1.canStamp.drawn.rxPut

theorem Keeps.canRxError (hs : Keeps s₀ s) {n : Nat} : Keeps s₀ (s.canRxError n) := by
  unfold State.canRxError
  exact hs.bump.canCount

theorem execCanFrameReceive_answers (hs : Keeps s₀ s) {n : Nat} {frame : CanFrame} {error : Bool} {net : Net} :
    Answers s₀ (execCanFrameReceive n frame error net s) := by
  unfold execCanFrameReceive
  exact .next (.ite (.ite hs.canRxError hs.canReceive) hs)

theorem Keeps.canFinish (hs : Keeps s₀ s) {n status : Nat} {late : Bool} {stamp : Option Int} {evt : Bool} {net : Net} :
    Keeps s₀ (s.canFinish n status late stamp evt net) := by
  unfold State.canFinish
  exact hs.drawn.modCan.txDone

theorem Keeps.canFlags (hs : Keeps s₀ s) {n : Nat} {net : Net} : Keeps s₀ (s.canFlags n net).2 := by
  unfold State.canFlags
  exact .snd hs.spanRead

theorem Keeps.canStart (hs : Keeps s₀ s) {n : Nat} {f : CanFrame} {late own : Bool} : Keeps s₀ (s.canStart n f late own) := by
  unfold State.canStart
  exact hs.canStamp.modCan

theorem Keeps.canHead (hs : Keeps s₀ s) {n : Nat} {net : Net} : Keeps s₀ (s.canHead n net) := by
  unfold State.canHead
  exact .ite hs.spanRead.canFinish.ringFail (.ite hs.spanRead.canFinish (.ite hs.spanRead.modCan hs.spanRead.canStart))

theorem execCanTxEntry_answers (hs : Keeps s₀ s) {n : Nat} {net : Net} : Answers s₀ (execCanTxEntry n net s) := by
  unfold execCanTxEntry
  refine .next (.ite ?_ hs)
  split
  · exact hs.canStart
  · split
    · exact hs.modCan.canStart
    · exact .ite hs.canHead hs

theorem execCanLaunch_answers (hs : Keeps s₀ s) {n : Nat} : Answers s₀ (execCanLaunch n s) := by
  unfold execCanLaunch
  exact .next (.ite hs.canHead hs)

theorem Keeps.canEnd (hs : Keeps s₀ s) {n status : Nat} {late : Bool} {stamp : Option Int} {net : Net} :
    Keeps s₀ (s.canEnd n status late stamp net) := by
  unfold State.canEnd
  refine .ite hs.modCan ?_
  extract_lets
  split
  · exact hs.modCan.canFlags.canFinish
  · exact hs.modCan.canFlags.ringFail

theorem Keeps.canOff (hs : Keeps s₀ s) {n : Nat} {net : Net} : Keeps s₀ (s.canOff n net) := by
  suffices h : ∀ f, f = @State.canOff → Keeps s₀ (f s n net) from h _ rfl
  intro f hf
  unfold State.canOff at hf
  subst hf
  beta_reduce
  extract_lets s1
  have hs1 : Keeps s₀ s1 := hs.wr.setCanState.modCan
  clear_value s1
  split
  · exact .ite hs1.modCan hs1.canEnd
  · exact .ite hs1.canEnd hs1

theorem execCanTxComplete_answers (hs : Keeps s₀ s) {n result : Nat} {net : Net} :
    Answers s₀ (execCanTxComplete n result net s) := by
  unfold execCanTxComplete
  refine .next ?_
  split
  · exact hs
  · extract_lets _ _ _ loop s1 s2 s3 f
    have hs1 : Keeps s₀ s1 := hs.canCount
    have hs2 : Keeps s₀ s2 := .canEnd (.ite hs1 hs1.emit)
    have hs3 : Keeps s₀ s3 := .ite hs.bump hs.bump.canCount
    have hf : Keeps s₀ f.2 := .ite₂ (.snd hs3) hs3.canFlags
    clear_value s2 f
    refine .ite (.ite hs2.canReceive hs2) (.ite hs3.canOff ?_)
    split
    · exact .ite hf.canEnd hf.modCan
    · exact hf.modCan.ringFail

theorem execCanBusOff_answers (hs : Keeps s₀ s) {n : Nat} {net : Net} : Answers s₀ (execCanBusOff n net s) := by
  unfold execCanBusOff
  exact .next (.ite hs.canOff hs)

theorem Keeps.storePut (hs : Keeps s₀ s) {i st row mask data : Nat} : Keeps s₀ (s.storePut i st row mask data) := by
  unfold State.storePut
  exact .ite hs (.ite hs.setRow.setDiff (.ite (.ite hs.storeError hs) (.setDiff (.setRow (.ite hs.storeError hs)))))

theorem Keeps.portRead (hs : Keeps s₀ s) {i st : Nat} {p : StorePortCfg} {x : PortAcc} {o : PortOut} :
    Keeps s₀ (s.portRead i st p x o).2 := by
  unfold State.portRead
  exact .ite₂ (.ite₂ (.snd hs) (.ite₂ (.snd hs) (.snd (.ite hs.storeError hs)))) (.snd hs)

theorem Keeps.storeEdge (hs : Keeps s₀ s) {c : Scene} {env : Env} {st : Nat} {g : StoreCfg} :
    Keeps s₀ (Scene.storeEdge c env st g s) := by
  unfold Scene.storeEdge
  exact .ite (.ite hs.portRead.portRead.setIsland.setIsland.storePut (.ite hs.portRead.portRead.setIsland.setIsland.storePut
    hs.portRead.portRead.setIsland.setIsland.storePut.storePut)) hs.portRead.portRead.setIsland.setIsland.storePut.storePut

theorem Keeps.chanEdge (hs : Keeps s₀ s) {c : Scene} {env : Env} {x : ChanCfg} : Keeps s₀ (Scene.chanEdge c env x s) := by
  unfold Scene.chanEdge
  exact .ite (.ite (.ite (.ite hs.setChan hs.setChan.setBitFlag) hs.setChan.setChan) hs.setChan)
    (.setChan (.ite (.ite hs.setChan (.ite hs hs.setBitFlag)) hs))

theorem Keeps.gpioEdge (hs : Keeps s₀ s) {c : Scene} {env : Env} : Keeps s₀ (Scene.gpioEdge c env s) := by
  unfold Scene.gpioEdge
  exact hs.setIsland

theorem Keeps.drive {c : Scene} (hs : Keeps s₀ c.s) : Keeps s₀ c.drive := by
  unfold Scene.drive
  exact hs.setIsland.syncLines

theorem Keeps.islDrive (hs : Keeps s₀ s) {i : Nat} : Keeps s₀ (s.islDrive i) := by
  unfold State.islDrive
  split
  · exact hs
  · exact .drive (.other hs)

theorem execIslandClockEdge_answers (hs : Keeps s₀ s) {i : Nat} {rising : Bool} {gpio : Nat} :
    Answers s₀ (execIslandClockEdge i rising gpio s) := by
  unfold execIslandClockEdge
  refine .next ?_
  split
  · exact hs
  · refine .ite (Keeps.drive (Keeps.other (.ite ?_ hs.setIsland))) hs
    exact ((hs.setIsland.foldl fun _ _ ht => ht.storeEdge).foldl fun _ _ ht => ht.chanEdge).gpioEdge

theorem Keeps.bistAbort (hs : Keeps s₀ s) {i : Nat} : Keeps s₀ (s.bistAbort i) := by
  unfold State.bistAbort
  exact .ite hs.wr.raise hs

theorem Keeps.enterHold (hs : Keeps s₀ s) {u : Nat} : Keeps s₀ (s.enterHold u) := by
  unfold State.enterHold
  extract_lets
  split
  · exact hs.leaveSleep.modLoad.bistAbort.clearEdges.zeroStores.setIsland.initFlops.setIslState
  · exact .drivePins (.wr (.modBay (.withImage hs.leaveSleep.modLoad.clearBay.zeroSram)))
  · exact hs.leaveSleep.modLoad.zeroDeep.setDeep

theorem Keeps.takeTarget (hs : Keeps s₀ s) {t : Nat} : Keeps s₀ (s.takeTarget t) := by
  unfold State.takeTarget
  exact .ite hs hs.modLoad.enterHold

theorem Keeps.initRows (hs : Keeps s₀ s) {i st r n : Nat} {l : Bytes} : Keeps s₀ (s.initRows i st r n l) := by
  induction n generalizing s r l with
  | zero => exact hs
  | succ n ih => exact ih hs.setRow.setDiff

theorem Keeps.initDeep (hs : Keeps s₀ s) {d w n : Nat} {l : Bytes} : Keeps s₀ (s.initDeep d w n l) := by
  induction n generalizing s w l with
  | zero => exact hs
  | succ n ih => exact ih hs.setRow.setDiff

theorem Keeps.initSram (hs : Keeps s₀ s) {b w n : Nat} {l : Bytes} : Keeps s₀ (s.initSram b w n l) := by
  induction n generalizing s w l with
  | zero => exact hs
  | succ n ih => exact ih hs.setSramWord

theorem Keeps.putInit (hs : Keeps s₀ s) {t first : Nat} {data : Bytes} : Keeps s₀ (s.putInit t first data) := by
  unfold State.putInit
  extract_lets
  split
  · exact hs.initSram
  · exact hs.initDeep
  · exact hs.initRows

theorem Keeps.fillAll (hs : Keeps s₀ s) : Keeps s₀ (s.fillAll) := by
  unfold State.fillAll
  exact .modLoad (.foldl (.foldl (.edit hs (hm := by exact Tab.wf_drop _ _) (hr := by exact fun _ => rfl)
    (hc := by exact Tab.wf_drop _ _)) fun _ _ ht => ht.setIsland) fun _ _ ht => ht.setDeep)

theorem execStoreFillDone_answers (hs : Keeps s₀ s) : Answers s₀ (execStoreFillDone s) := by
  unfold execStoreFillDone
  exact .next (.foldl (.modLoad (.foldl (hs.foldl fun _ _ ht => .ite ht.setIsland ht) fun _ _ ht => .ite ht.setDeep ht))
    fun _ _ ht => ht.putInit)

theorem Keeps.headerTaken (hs : Keeps s₀ s) {h : ImgHeader} : Keeps s₀ (s.headerTaken h) := by
  unfold State.headerTaken
  extract_lets
  split
  · exact .fillAll (.withImage hs.wr.modLoad)
  · exact hs.wr.modLoad
  · exact hs.wr.modLoad.modLoad.foldl fun _ _ ht => ht.enterHold

theorem execImageHeader_answers (hs : Keeps s₀ s) {h : ImgHeader} : Answers s₀ (execImageHeader h s) := by
  unfold execImageHeader
  refine .next ?_
  refine .ite hs ?_
  split
  · exact hs.headerTaken
  · exact hs.loadError
  · exact hs.modLoad.loadError

theorem Keeps.imageRecord {act : State → State} (hs : Keeps s₀ s) {len : Nat} {ok : Bool}
    (hact : ∀ s, Keeps s₀ s → Keeps s₀ (act s)) : Keeps s₀ (s.imageRecord len ok act) := by
  unfold State.imageRecord
  exact .ite hs (.ite hs.loadError (.ite hs (.ite hs.loadError (hact _ hs.modLoad))))

theorem execCells_answers (hs : Keeps s₀ s) {tgt len : Nat} {cfg : Option IslandCfg} : Answers s₀ (execCells tgt len cfg s) := by
  unfold execCells
  exact .next (hs.imageRecord fun _ ht => .ite ht.takeTarget.modLoad.setCfgOf.initFlops.syncLines ht.takeTarget.modLoad)

theorem execStoreInit_answers (hs : Keeps s₀ s) {tgt first : Nat} {data : List (BitVec 8)} :
    Answers s₀ (execStoreInit tgt first data s) := by
  unfold execStoreInit
  exact .next (hs.imageRecord fun _ ht => .ite ht.takeTarget.modLoad ht.takeTarget.putInit)

theorem Keeps.imageReg (hs : Keeps s₀ s) {a v : Nat} : Keeps s₀ (s.imageReg a v) := by
  unfold State.imageReg
  extract_lets s1
  have hs1 : Keeps s₀ s1 := by
    unfold s1
    split
    · exact .ite (.ite hs.putReg.wr hs.putReg) hs
    · exact hs.regStore
  split
  · exact hs1.foldl fun _ _ ht => .ite (.other ht) ht
  · exact hs1

theorem execReg_answers (hs : Keeps s₀ s) {entries : List (Nat × Nat)} : Answers s₀ (execReg entries s) := by
  unfold execReg
  exact .next (hs.imageRecord fun _ ht => ht.foldl fun _ _ ht => .ite ht.modLoad ht.imageReg)

theorem execMem_answers (hs : Keeps s₀ s) {ch value : Nat} : Answers s₀ (execMem ch value s) := by
  unfold execMem
  exact .next (hs.imageRecord fun _ ht => ht.imageReg.modLoad)

theorem execMemmap_answers (hs : Keeps s₀ s) {top : Nat} {sets : List MapSet} : Answers s₀ (execMemmap top sets s) := by
  unfold execMemmap
  refine .next ?_
  refine hs.imageRecord fun _ ht => ht.mapRegWrite.foldl fun _ _ ht => ?_
  split
  · exact ht
  · exact ht.mapRegWrite.mapRegWrite.mapRegWrite.mapRegWrite.mapRegWrite

theorem execReleaseRecord_answers (hs : Keeps s₀ s) {value : Nat} : Answers s₀ (execReleaseRecord value s) := by
  unfold execReleaseRecord
  exact .next (hs.imageRecord fun _ ht => .ite ht.modLoad.wr.wr.wr ht.modLoad)

theorem execObjects_answers (hs : Keeps s₀ s) {entries : List UserObj} : Answers s₀ (execObjects entries s) := by
  unfold execObjects
  exact .next (hs.imageRecord fun _ ht => ht.modLoad)

theorem execKey_answers (hs : Keeps s₀ s) : Answers s₀ (execKey s) := by
  unfold execKey
  exact .next (hs.imageRecord fun _ ht => ht.modLoad)

theorem execEndImage_answers (hs : Keeps s₀ s) {count : Nat} : Answers s₀ (execEndImage count s) := by
  unfold execEndImage
  exact .next (hs.imageRecord fun _ ht => ht.modLoad)

theorem Keeps.segmentGood (hs : Keeps s₀ s) : Keeps s₀ (s.segmentGood) := by
  unfold State.segmentGood
  extract_lets s1
  have hs1 : Keeps s₀ s1 := .ite (hs.foldl fun _ _ ht => ht.mcInit) hs
  exact .ite (.ite hs1.modLoad.modLoad.setCfgState hs1.modLoad.modLoad) hs1.modLoad

theorem execSegmentTag_answers (hs : Keeps s₀ s) {ok : Bool} : Answers s₀ (execSegmentTag ok s) := by
  unfold execSegmentTag
  exact .next (.ite hs (.ite hs.loadError (.ite hs (.ite hs.loadError (.ite hs.segmentGood hs.loadError)))))

theorem execPullReadCompletion_answers (hs : Keeps s₀ s) {ok : Bool} {n : Nat} : Answers s₀ (execPullReadCompletion ok n s) := by
  unfold execPullReadCompletion
  exact .next (.ite hs (.ite hs.loadError (.ite hs.endStream hs.takeBytes)))

theorem execClearingDone_answers (hs : Keeps s₀ s) : Answers s₀ (execClearingDone s) := by
  unfold execClearingDone
  exact .next (.ite (.errLine
    (.setCfgState (.trainAll
    (.foldl (.modLoad (hs.deviceClear.setPfState.foldl fun _ _ ht => .edit ht (hf := by exact Tab.wf_put _ _ _)))
    fun _ _ ht => ht.quadUp)))) hs)

theorem execDeviceLoaded_answers (hs : Keeps s₀ s) : Answers s₀ (execDeviceLoaded s) := by
  unfold execDeviceLoaded
  exact .next (.ite hs.modLoad.setCfgState hs)

theorem Keeps.lateRegs (hs : Keeps s₀ s) : Keeps s₀ (s.lateRegs) := by
  unfold State.lateRegs
  exact hs.modLoad.foldl fun _ _ ht => ht.imageReg

theorem Keeps.islIo (hs : Keeps s₀ s) {i : Nat} : Keeps s₀ (s.islIo i) := by
  unfold State.islIo
  exact hs.setIsland.islDrive

theorem Keeps.islRun (hs : Keeps s₀ s) {i : Nat} : Keeps s₀ (s.islRun i) := by
  unfold State.islRun
  exact .ite hs.setIsland.initFlops.setIslState hs

theorem Keeps.bayPins (hs : Keeps s₀ s) {b : Nat} : Keeps s₀ (s.bayPins b) := by
  unfold State.bayPins
  exact .ite hs.modBay.drivePins hs

theorem Keeps.bayOpen (hs : Keeps s₀ s) {b : Nat} : Keeps s₀ (s.bayOpen b) := by
  unfold State.bayOpen
  exact hs.modBay

theorem Keeps.bayRun (hs : Keeps s₀ s) {b : Nat} : Keeps s₀ (s.bayRun b) := by
  unfold State.bayRun
  exact .ite hs.enterRun hs

theorem Keeps.islOpen (hs : Keeps s₀ s) {i : Nat} : Keeps s₀ (s.islOpen i) := by
  unfold State.islOpen
  exact hs.setIsland

theorem Keeps.deepOpen (hs : Keeps s₀ s) {d : Nat} : Keeps s₀ (s.deepOpen d) := by
  unfold State.deepOpen
  exact hs.setDeep

theorem Keeps.stage1 (hs : Keeps s₀ s) : Keeps s₀ (s.stage1) := by
  unfold State.stage1
  extract_lets _ _ _ _ s4
  have hs4 : Keeps s₀ s4 := .ite (.foldl (.foldl (hs.lateRegs.foldl fun _ _ ht => ht.islIo) fun _ _ ht => ht.bayPins)
    fun _ _ ht => ht.islRun) (.foldl (hs.lateRegs.foldl fun _ _ ht => ht.islIo) fun _ _ ht => ht.bayPins)
  exact .setCfgState (.modLoad (.ite (hs4.foldl fun _ _ ht => ht.bayOpen.bayRun) hs4))

theorem Keeps.stageDue (hs : Keeps s₀ s) : Keeps s₀ (s.stageDue) := by
  unfold State.stageDue
  exact .ite hs.stage1 hs

theorem execCfgDoneHigh_answers (hs : Keeps s₀ s) : Answers s₀ (execCfgDoneHigh s) := by
  unfold execCfgDoneHigh
  exact .next (.ite hs (.ite hs.wr.stage1 hs.wr))

theorem execReleaseNow_answers (hs : Keeps s₀ s) : Answers s₀ (execReleaseNow s) := by
  unfold execReleaseNow
  exact .next hs.releaseNow.stageDue

theorem execStage2Issue_answers (hs : Keeps s₀ s) : Answers s₀ (execStage2Issue s) := by
  unfold execStage2Issue
  exact .next (.ite (.modLoad (.foldl (.foldl (hs.foldl fun _ _ ht => ht.islOpen) fun _ _ ht => ht.deepOpen)
    fun _ _ ht => ht.bayOpen)) hs)

theorem Keeps.publish (hs : Keeps s₀ s) {l : List UserObj} : Keeps s₀ (s.publish l) :=
  .other hs

theorem execStage3Issue_answers (hs : Keeps s₀ s) : Answers s₀ (execStage3Issue s) := by
  unfold execStage3Issue
  exact .next (.ite (.raise
    (.setCfgState (.wr (.wr
    (.modLoad (.publish (.withUserObjs (.foldl (hs.foldl fun _ _ ht => ht.islRun) fun _ _ ht => ht.bayRun)))))))) hs)

theorem Keeps.releaseUnit (hs : Keeps s₀ s) {u : Nat} : Keeps s₀ (s.releaseUnit u) := by
  unfold State.releaseUnit
  extract_lets
  split
  · exact hs.islIo.islOpen.islRun
  · exact hs.bayPins.bayOpen.bayRun
  · exact hs.deepOpen

theorem execPartialRelease_answers (hs : Keeps s₀ s) : Answers s₀ (execPartialRelease s) := by
  unfold execPartialRelease
  exact .next (.ite (.raise (.setCfgState (.wr (.modLoad (.publish (hs.lateRegs.foldl fun _ _ ht => ht.releaseUnit)))))) hs)

theorem Keeps.agentWord (hs : Keeps s₀ s) {w : Nat} : Keeps s₀ (s.agentWord w) := by
  unfold State.agentWord
  refine .ite hs ?_
  split
  · exact .ite hs.modAgent hs.modAgent
  · exact .ite hs.modAgent hs.modAgent.clMessage

theorem Keeps.agentTake (hs : Keeps s₀ s) {n : Nat} : Keeps s₀ (s.agentTake n) := by
  induction n generalizing s with
  | zero => exact hs
  | succ n ih =>
    unfold State.agentTake
    exact .ite (ih hs.mbPop.agentWord) hs

theorem Keeps.settle (hs : Keeps s₀ s) : Keeps s₀ (s.settle) := by
  unfold State.settle
  exact hs.agentTake.mailOut.stageDue.serveWakes.faultResets.resetDue

theorem execRegisterWrite_answers (hs : Keeps s₀ s) {addr : Nat} {value : BitVec 32} :
    Answers s₀ (execRegisterWrite addr value s) := by
  unfold execRegisterWrite
  exact .next (.ite hs.regStore.settle hs)

theorem execReadClear_answers (hs : Keeps s₀ s) {addr : Nat} : Answers s₀ (execReadClear addr s) := by
  unfold execReadClear
  exact .next (.ite hs.regRead.emit.settle hs)

theorem execDebugPeek_answers (hs : Keeps s₀ s) {addr : Nat} : Answers s₀ (execDebugPeek addr s) := by
  unfold execDebugPeek
  exact .next (.ite hs.regRead.emit hs)

theorem execHostRead_answers (hs : Keeps s₀ s) {f bar addr len : Nat} {net : Net} :
    Answers s₀ (execHostRead f bar addr len net s) := by
  unfold execHostRead
  exact .next hs.hostRead.settle

theorem execHostWrite_answers (hs : Keeps s₀ s) {f bar addr len data be : Nat} {net : Net} :
    Answers s₀ (execHostWrite f bar addr len data be net s) := by
  unfold execHostWrite
  exact .next hs.hostWrite.settle

theorem execMailboxTx_answers (hs : Keeps s₀ s) {q k : Nat} {sideB : Bool} {value : BitVec 32} :
    Answers s₀ (execMailboxTx q k sideB value s) := by
  unfold execMailboxTx
  exact .next (.ite hs.mbTx.settle hs)

theorem execMailboxRx_answers (hs : Keeps s₀ s) {q k : Nat} {sideB : Bool} : Answers s₀ (execMailboxRx q k sideB s) := by
  unfold execMailboxRx
  exact .next (.ite hs.mbPop.emit.settle hs)

theorem execMailboxFlush_answers (hs : Keeps s₀ s) {q k : Nat} : Answers s₀ (execMailboxFlush q k s) := by
  unfold execMailboxFlush
  exact .next (.ite hs.mbFlush.settle hs)

theorem Keeps.tickTime (hs : Keeps s₀ s) : Keeps s₀ (s.tickTime) := by
  unfold State.tickTime
  exact .ite (.other hs) hs

theorem Keeps.tickWdogs (hs : Keeps s₀ s) : Keeps s₀ (s.tickWdogs) := by
  unfold State.tickWdogs
  exact .ite (hs.foldl fun _ _ ht => .ite ht.wr ht) hs

theorem Keeps.tickSteps (hs : Keeps s₀ s) : Keeps s₀ (s.tickSteps) := by
  unfold State.tickSteps
  refine hs.foldl fun _ _ ht => .ite ?_ ht
  split
  · exact ht.stepCtx
  · exact ht

theorem Keeps.tickNaps (hs : Keeps s₀ s) : Keeps s₀ (s.tickNaps) := by
  unfold State.tickNaps
  exact hs.foldl fun _ _ ht => .ite ht ht.napFlush

theorem Keeps.tick (hs : Keeps s₀ s) : Keeps s₀ (s.tick) := by
  unfold State.tick
  exact hs.tickTime.tickWdogs.xtDeliver.tickSteps.tickNaps.settle

/-- Every command answers a next state, and keeps the tables. -/
theorem exec_answers (hs : Keeps s₀ s) (i : Instr) : Answers s₀ (exec i s) := by
  cases i with
  | registerWrite => exact execRegisterWrite_answers hs
  | readClear => exact execReadClear_answers hs
  | debugPeek => exact execDebugPeek_answers hs
  | rdReq => exact execRdReq_answers hs
  | wrReq => exact execWrReq_answers hs
  | rdRsp => exact execRdRsp_answers hs
  | wrRsp => exact execWrRsp_answers hs
  | msg => exact execMsg_answers hs
  | hostRead => exact execHostRead_answers hs
  | hostWrite => exact execHostWrite_answers hs
  | pcieConfigRequest => exact execPcieConfigRequest_answers hs
  | pcieLinkUp => exact execPcieLinkUp_answers hs
  | flr => exact execFlr_answers hs
  | vinStart => exact execVinStart_answers hs
  | powerOnStepsDone => exact execPowerOnStepsDone_answers hs
  | vinWarning => exact execVinWarning_answers hs
  | vinWarningEnd => exact execVinWarningEnd_answers hs
  | brownout => exact execBrownout_answers hs
  | recordLoss => exact execRecordLoss_answers hs
  | ibusUndervoltage => exact execIbusUndervoltage_answers hs
  | regFault => exact execRegFault_answers hs
  | inputCurrentLimit => exact execInputCurrentLimit_answers hs
  | sbOvercurrent => exact execSbOvercurrent_answers hs
  | perstAssert => exact execPerstAssert_answers hs
  | perstRelease => exact execPerstRelease_answers hs
  | deviceReset => exact execDeviceReset_answers hs
  | deviceResetDone => exact execDeviceResetDone_answers hs
  | quadrantReset => exact execQuadrantReset_answers hs
  | quadrantResetDone => exact execQuadrantResetDone_answers hs
  | deepStoreRead => exact execDeepStoreRead_answers hs
  | deepStoreRead4 => exact execDeepStoreRead4_answers hs
  | deepStoreWrite => exact execDeepStoreWrite_answers hs
  | deepStoreWrite4 => exact execDeepStoreWrite4_answers hs
  | storeFillDone => exact execStoreFillDone_answers hs
  | islClkWrite => exact execIslClkWrite_answers hs
  | dividerRampStep => exact execDividerRampStep_answers hs
  | levelVoltageDone => exact execLevelVoltageDone_answers hs
  | islandFence => exact execIslandFence_answers hs
  | islandFenceDrained => exact execIslandFenceDrained_answers hs
  | islandFenceTimeout => exact execIslandFenceTimeout_answers hs
  | islandUnfence => exact execIslandUnfence_answers hs
  | islandReset => exact execIslandReset_answers hs
  | islandResetDone => exact execIslandResetDone_answers hs
  | bistStart => exact execBistStart_answers hs
  | bistDone => exact execBistDone_answers hs
  | bcastCapture => exact execBcastCapture_answers hs
  | bcastStop => exact execBcastStop_answers hs
  | bcastGo => exact execBcastGo_answers hs
  | bayReset => exact execBayReset_answers hs
  | bayResetDone => exact execBayResetDone_answers hs
  | bayOffline => exact execBayOffline_answers hs
  | bayOnline => exact execBayOnline_answers hs
  | pinModeWrite => exact execPinModeWrite_answers hs
  | pinThrWrite => exact execPinThrWrite_answers hs
  | pinStkWrite => exact execPinStkWrite_answers hs
  | pinNextWrite => exact execPinNextWrite_answers hs
  | stuckRearm => exact execStuckRearm_answers hs
  | thresholdCrossing => exact execThresholdCrossing_answers hs
  | deglitchAccept => exact execDeglitchAccept_answers hs
  | deadTimeEnd => exact execDeadTimeEnd_answers hs
  | captureRecordStore => exact execCaptureRecordStore_answers hs
  | stuckTimeout => exact execStuckTimeout_answers hs
  | adcSample => exact execAdcSample_answers hs
  | adcBlockClose => exact execAdcBlockClose_answers hs
  | adcBlockStore => exact execAdcBlockStore_answers hs
  | wdogKick => exact execWdogKick_answers hs
  | wdogExpiry => exact execWdogExpiry_answers hs
  | bayFrameBoundary => exact execBayFrameBoundary_answers hs
  | vccioLoss => exact execVccioLoss_answers hs
  | vccioRestore => exact execVccioRestore_answers hs
  | add => exact execAdd_answers hs
  | sub => exact execSub_answers hs
  | and => exact execAnd_answers hs
  | or => exact execOr_answers hs
  | xor => exact execXor_answers hs
  | shl => exact execShl_answers hs
  | shr => exact execShr_answers hs
  | sar => exact execSar_answers hs
  | ror => exact execRor_answers hs
  | slt => exact execSlt_answers hs
  | sltu => exact execSltu_answers hs
  | min => exact execMin_answers hs
  | max => exact execMax_answers hs
  | minu => exact execMinu_answers hs
  | maxu => exact execMaxu_answers hs
  | mul => exact execMul_answers hs
  | mulh => exact execMulh_answers hs
  | mulhu => exact execMulhu_answers hs
  | clz => exact execClz_answers hs
  | addi => exact execAddi_answers hs
  | andi => exact execAndi_answers hs
  | ori => exact execOri_answers hs
  | xori => exact execXori_answers hs
  | slti => exact execSlti_answers hs
  | sltui => exact execSltui_answers hs
  | movhi => exact execMovhi_answers hs
  | shi => exact execShi_answers hs
  | ldw => exact execLdw_answers hs
  | ldh => exact execLdh_answers hs
  | ldhu => exact execLdhu_answers hs
  | ldb => exact execLdb_answers hs
  | ldbu => exact execLdbu_answers hs
  | stw => exact execStw_answers hs
  | sth => exact execSth_answers hs
  | stb => exact execStb_answers hs
  | ldp => exact execLdp_answers hs
  | stp => exact execStp_answers hs
  | ldl => exact execLdl_answers hs
  | stc => exact execStc_answers hs
  | movp => exact execMovp_answers hs
  | mfp => exact execMfp_answers hs
  | addp => exact execAddp_answers hs
  | mac => exact execMac_answers hs
  | msu => exact execMsu_answers hs
  | clra => exact execClra_answers hs
  | sac => exact execSac_answers hs
  | mta => exact execMta_answers hs
  | mfag => exact execMfag_answers hs
  | mfal => exact execMfal_answers hs
  | beq => exact execBeq_answers hs
  | bne => exact execBne_answers hs
  | blt => exact execBlt_answers hs
  | bge => exact execBge_answers hs
  | bltu => exact execBltu_answers hs
  | bgeu => exact execBgeu_answers hs
  | bdec => exact execBdec_answers hs
  | jmp => exact execJmp_answers hs
  | call => exact execCall_answers hs
  | jr => exact execJr_answers hs
  | loop => exact execLoop_answers hs
  | rot => exact execRot_answers hs
  | rotZ => exact execRotZ_answers hs
  | qpush => exact execQpush_answers hs
  | qpop => exact execQpop_answers hs
  | queueWaitDone => exact execQueueWaitDone_answers hs
  | time => exact execTime_answers hs
  | fsync => exact execFsync_answers hs
  | fsyncWake => exact execFsyncWake_answers hs
  | wfe => exact execWfe_answers hs
  | wfeEvent => exact execWfeEvent_answers hs
  | wfeTimeout => exact execWfeTimeout_answers hs
  | stim => exact execStim_answers hs
  | brk => exact execBrk_answers hs
  | fence => exact execFence_answers hs
  | idle => exact execIdle_answers hs
  | nop => exact execNop_answers hs
  | mfs => exact execMfs_answers hs
  | mts => exact execMts_answers hs
  | translatedLoadReturn => exact execTranslatedLoadReturn_answers hs
  | translatedStorePost => exact execTranslatedStorePost_answers hs
  | postedStoreError => exact execPostedStoreError_answers hs
  | fenceComplete => exact execFenceComplete_answers hs
  | contextSwitch => exact execContextSwitch_answers hs
  | quantumExpiry => exact execQuantumExpiry_answers hs
  | ctxCfgWrite => exact execCtxCfgWrite_answers hs
  | ctxPcWrite => exact execCtxPcWrite_answers hs
  | ctxStart => exact execCtxStart_answers hs
  | ctxResume => exact execCtxResume_answers hs
  | ctxAbort => exact execCtxAbort_answers hs
  | abortComplete => exact execAbortComplete_answers hs
  | queueEnable => exact execQueueEnable_answers hs
  | qTailWrite => exact execQTailWrite_answers hs
  | qHeadWrite => exact execQHeadWrite_answers hs
  | moverDescriptorStart => exact execMoverDescriptorStart_answers hs
  | moverDescriptorDone => exact execMoverDescriptorDone_answers hs
  | moverCompletionWrite => exact execMoverCompletionWrite_answers hs
  | moverFault => exact execMoverFault_answers hs
  | moverResume => exact execMoverResume_answers hs
  | moverAbort => exact execMoverAbort_answers hs
  | moverCfgWrite => exact execMoverCfgWrite_answers hs
  | tctxWrite => exact execTctxWrite_answers hs
  | xuInvalidate => exact execXuInvalidate_answers hs
  | xuInvDone => exact execXuInvDone_answers hs
  | napMasterRequest => exact execNapMasterRequest_answers hs
  | napTargetResponse => exact execNapTargetResponse_answers hs
  | napResume => exact execNapResume_answers hs
  | napAbort => exact execNapAbort_answers hs
  | napHoldExpiry => exact execNapHoldExpiry_answers hs
  | userEventEdge => exact execUserEventEdge_answers hs
  | evtSwset => exact execEvtSwset_answers hs
  | eventDelivery => exact execEventDelivery_answers hs
  | routerFence => exact execRouterFence_answers hs
  | routerFenced => exact execRouterFenced_answers hs
  | routerUnfence => exact execRouterUnfence_answers hs
  | rtCfgWrite => exact execRtCfgWrite_answers hs
  | holdLimitExpiry => exact execHoldLimitExpiry_answers hs
  | rspTimeoutExpiry => exact execRspTimeoutExpiry_answers hs
  | throttle port ch gap time => exact execThrottle_answers (_time := time) hs
  | throttleExpiry => exact execThrottleExpiry_answers hs
  | probeClear => exact execProbeClear_answers hs
  | probeTraceRecord => exact execProbeTraceRecord_answers hs
  | mcCfgWrite => exact execMcCfgWrite_answers hs
  | mcInit => exact execMcInit_answers hs
  | mcTrainingDone => exact execMcTrainingDone_answers hs
  | mcFill => exact execMcFill_answers hs
  | mcFillDone => exact execMcFillDone_answers hs
  | mcOffline => exact execMcOffline_answers hs
  | mcOfflineDone => exact execMcOfflineDone_answers hs
  | mcOnline => exact execMcOnline_answers hs
  | interleaveEnable => exact execInterleaveEnable_answers hs
  | refreshDue => exact execRefreshDue_answers hs
  | refreshRatePoll => exact execRefreshRatePoll_answers hs
  | selfRefreshEntry => exact execSelfRefreshEntry_answers hs
  | selfRefreshExit => exact execSelfRefreshExit_answers hs
  | trackerClear => exact execTrackerClear_answers hs
  | scrubRead => exact execScrubRead_answers hs
  | scrubParityMismatch => exact execScrubParityMismatch_answers hs
  | scrubRestart => exact execScrubRestart_answers hs
  | logClear => exact execLogClear_answers hs
  | eccTestWrite => exact execEccTestWrite_answers hs
  | eccTestRead => exact execEccTestRead_answers hs
  | eccTestDone => exact execEccTestDone_answers hs
  | sgTestWrite => exact execSgTestWrite_answers hs
  | sgTestRead => exact execSgTestRead_answers hs
  | vddqLoss => exact execVddqLoss_answers hs
  | laneCfgWrite => exact execLaneCfgWrite_answers hs
  | laneTxSleep => exact execLaneTxSleep_answers hs
  | laneRxSleep => exact execLaneRxSleep_answers hs
  | lrefclkLoss => exact execLrefclkLoss_answers hs
  | cdrLockAcquire => exact execCdrLockAcquire_answers hs
  | cdrLockLoss => exact execCdrLockLoss_answers hs
  | blockReceive => exact execBlockReceive_answers hs
  | blockTransmit => exact execBlockTransmit_answers hs
  | macCfgWrite => exact execMacCfgWrite_answers hs
  | macLinkChange => exact execMacLinkChange_answers hs
  | macFrameReceive => exact execMacFrameReceive_answers hs
  | macTxEntry => exact execMacTxEntry_answers hs
  | macLaunch => exact execMacLaunch_answers hs
  | macTxComplete => exact execMacTxComplete_answers hs
  | macPauseSend => exact execMacPauseSend_answers hs
  | ringEnable => exact execRingEnable_answers hs
  | txRingWrWrite => exact execTxRingWrWrite_answers hs
  | canCfgWrite => exact execCanCfgWrite_answers hs
  | canFrameReceive => exact execCanFrameReceive_answers hs
  | canTxEntry => exact execCanTxEntry_answers hs
  | canTxComplete => exact execCanTxComplete_answers hs
  | canBusOff => exact execCanBusOff_answers hs
  | canRestart => exact execCanRestart_answers hs
  | canBusOffRecovery => exact execCanBusOffRecovery_answers hs
  | domOfsLoad => exact execDomOfsLoad_answers hs
  | domAdj => exact execDomAdj_answers hs
  | domRateWrite => exact execDomRateWrite_answers hs
  | hostSample => exact execHostSample_answers hs
  | domainSampleTimeout => exact execDomainSampleTimeout_answers hs
  | timeChangeApply => exact execTimeChangeApply_answers hs
  | domainSwitch => exact execDomainSwitch_answers hs
  | switchComplete => exact execSwitchComplete_answers hs
  | ptpMessageReceive => exact execPtpMessageReceive_answers hs
  | tdStreamLoss => exact execTdStreamLoss_answers hs
  | tdStreamReturn => exact execTdStreamReturn_answers hs
  | frameEnable => exact execFrameEnable_answers hs
  | frPeriodWrite => exact execFrPeriodWrite_answers hs
  | frameNotice => exact execFrameNotice_answers hs
  | timeSnapshot => exact execTimeSnapshot_answers hs
  | read => exact execRead_answers hs
  | write => exact execWrite_answers hs
  | begin => exact execBegin_answers hs
  | commit => exact execCommit_answers hs
  | commitApply => exact execCommitApply_answers hs
  | rollback => exact execRollback_answers hs
  | describe => exact execDescribe_answers hs
  | sessionTimeout => exact execSessionTimeout_answers hs
  | clanexSegmentTimeout => exact execClanexSegmentTimeout_answers hs
  | broadcastFrame => exact execBroadcastFrame_answers hs
  | barrier => exact execBarrier_answers hs
  | barrierTimeout => exact execBarrierTimeout_answers hs
  | snapshotAt => exact execSnapshotAt_answers hs
  | resetAt => exact execResetAt_answers hs
  | globalInstant => exact execGlobalInstant_answers hs
  | enum => exact execEnum_answers hs
  | syslinkPacket => exact execSyslinkPacket_answers hs
  | ack => exact execAck_answers hs
  | nak port seq => exact execNak_answers (_seq := seq) hs
  | syslinkResendTimeout => exact execSyslinkResendTimeout_answers hs
  | tickSend => exact execTickSend_answers hs
  | tick => exact execTick_answers hs
  | upPortFailover => exact execUpPortFailover_answers hs
  | linkResetSend => exact execLinkResetSend_answers hs
  | linkReset => exact execLinkReset_answers hs
  | imageHeader => exact execImageHeader_answers hs
  | segmentTag => exact execSegmentTag_answers hs
  | cells => exact execCells_answers hs
  | storeInit => exact execStoreInit_answers hs
  | reg => exact execReg_answers hs
  | mem => exact execMem_answers hs
  | memmap => exact execMemmap_answers hs
  | releaseRecord => exact execReleaseRecord_answers hs
  | objects => exact execObjects_answers hs
  | key => exact execKey_answers hs
  | endImage => exact execEndImage_answers hs
  | startPull => exact execStartPull_answers hs
  | pullReadCompletion => exact execPullReadCompletion_answers hs
  | startPush => exact execStartPush_answers hs
  | cfgDataWrite value => exact execCfgDataWrite_answers (_value := value) hs
  | finish => exact execFinish_answers hs
  | abort => exact execAbort_answers hs
  | clearingDone => exact execClearingDone_answers hs
  | deviceLoaded => exact execDeviceLoaded_answers hs
  | windowMissed => exact execWindowMissed_answers hs
  | cfgDoneHigh => exact execCfgDoneHigh_answers hs
  | releaseNow => exact execReleaseNow_answers hs
  | stage2Issue => exact execStage2Issue_answers hs
  | stage3Issue => exact execStage3Issue_answers hs
  | partialRelease => exact execPartialRelease_answers hs
  | mailboxTx => exact execMailboxTx_answers hs
  | mailboxRx => exact execMailboxRx_answers hs
  | mailboxTimeout => exact execMailboxTimeout_answers hs
  | mailboxFlush => exact execMailboxFlush_answers hs
  | sleepExit => exact execSleepExit_answers hs
  | sleepS1 => exact execSleepS1_answers hs
  | sleepS2 => exact execSleepS2_answers hs
  | sleepS3 => exact execSleepS3_answers hs
  | sleepS4 => exact execSleepS4_answers hs
  | sleepCommitPoint => exact execSleepCommitPoint_answers hs
  | sleepEntryDone => exact execSleepEntryDone_answers hs
  | wakeEvent => exact execWakeEvent_answers hs
  | wakeTimer => exact execWakeTimer_answers hs
  | wakePin => exact execWakePin_answers hs
  | sleepExitDone => exact execSleepExitDone_answers hs
  | frCfgWrite => exact execFrCfgWrite_answers hs
  | railLock => exact execRailLock_answers hs
  | railUnlock => exact execRailUnlock_answers hs
  | nocClkWrite => exact execNocClkWrite_answers hs
  | nocClkDone => exact execNocClkDone_answers hs
  | sensorUpdate => exact execSensorUpdate_answers hs
  | capDrop => exact execCapDrop_answers hs
  | capRise => exact execCapRise_answers hs
  | thermalShutdown => exact execThermalShutdown_answers hs
  | thermalRestart => exact execThermalRestart_answers hs
  | pwrLogClear => exact execPwrLogClear_answers hs
  | deviceWdogExpiry => exact execDeviceWdogExpiry_answers hs
  | engineHalt => exact execEngineHalt_answers hs
  | deferExpiry => exact execDeferExpiry_answers hs
  | engineRelease => exact execEngineRelease_answers hs
  | engineStep => exact execEngineStep_answers hs
  | ctxdataAccess => exact execCtxdataAccess_answers hs
  | debugUnlock => exact execDebugUnlock_answers hs
  | unlockCheckDone => exact execUnlockCheckDone_answers hs
  | dbmGo => exact execDbmGo_answers hs
  | idcode => exact execIdcode_answers hs
  | samplePreload => exact execSamplePreload_answers hs
  | extest => exact execExtest_answers hs
  | clamp => exact execClamp_answers hs
  | highz => exact execHighz_answers hs
  | dap => exact execDap_answers hs
  | devreset => exact execDevreset_answers hs
  | bypass => exact execBypass_answers hs
  | xtPulse => exact execXtPulse_answers hs
  | xtRelease => exact execXtRelease_answers hs
  | tracePacket => exact execTracePacket_answers hs
  | trcPop => exact execTrcPop_answers hs
  | retrain => exact execRetrain_answers hs
  | bridgeTrainingDone => exact execBridgeTrainingDone_answers hs
  | bridgeBadFrame => exact execBridgeBadFrame_answers hs
  | telemetrySend => exact execTelemetrySend_answers hs
  | telemetryLost => exact execTelemetryLost_answers hs
  | islandClockEdge => exact execIslandClockEdge_answers hs
  | illegalInstruction => exact execIllegalInstruction_answers hs
  | lrefclkReturn => exact execLrefclkReturn_answers hs
  | inputLimitEnd => exact execInputLimitEnd_answers hs
  | canLaunch => exact execCanLaunch_answers hs
  | pauseTimerExpiry => exact execPauseTimerExpiry_answers hs
  | prbsChecker => exact execPrbsChecker_answers hs

/-- Every step answers a next state, and keeps the tables. -/
theorem step_answers : Answers s (step s) := by
  unfold step
  split
  · exact .next Keeps.refl.tick
  · exact exec_answers (.other .refl) _
end

end Sys2Proof.Machine

namespace Sys2Proof
open Machine

/-- Settles O57: the step lemma of `Keeps` at the state before the step. -/
theorem stepsKeepTheTablesCanonical : Obligations.StepsKeepTheTablesCanonical := by
  unfold Obligations.StepsKeepTheTablesCanonical
  intro s t hs ht
  obtain ⟨u, hu, hc, hf⟩ := step_answers (s := s)
  obtain rfl : u = t := by simpa [hu] using ht
  exact ⟨hc hs, hf⟩

/-- Settles O56: one lemma per command and per tick names the next state. -/
theorem everyCommandAnswers : Obligations.EveryCommandAnswers := by
  unfold Obligations.EveryCommandAnswers
  exact ⟨fun i s => (exec_answers .refl i).imp fun _ h => h.1, fun s => step_answers.imp fun _ h => h.1⟩

/-- Settles O55. -/
theorem stepRunsTheFrontCommand : Obligations.StepRunsTheFrontCommand := by
  unfold Obligations.StepRunsTheFrontCommand
  exact ⟨fun _ _ _ => rfl, by intro s h; simp [step, h]⟩
end Sys2Proof

/-! # Accesses to the reserved range and to register space (R9, R16) -/

namespace Sys2Proof.Machine
open Sys2Proof

theorem State.target?_of_reserved {s : State} {pa : Nat} (h : 0xE000000000 ≤ pa) : s.target? pa = .hole := by
  unfold State.target?
  rw [if_neg (by omega), if_neg (by omega), if_neg (by omega), if_neg (by omega)]

section
variable {s : State} {pa n be v r : Nat} {dbg : Bool} {who : Who} {net : Net}

theorem State.busRead_of_hole (h : s.target? pa = .hole) : s.busRead pa n dbg who net = (2, 0, s) := by
  unfold State.busRead
  rw [h]

theorem State.busWrite_of_hole (h : s.target? pa = .hole) : s.busWrite pa n be v who net = (2, s) := by
  unfold State.busWrite
  rw [h]

theorem State.serveRead_of_regs (h : s.target? pa = .regs r) :
    s.serveRead pa n dbg who net =
      if s.bayHeld pa then (1, 0, s)
      else if n = 4 ∧ pa % 4 = 0 then (0, s.regRead dbg pa)
      else if n = 8 ∧ pa % 4 = 0 then
        (0, (s.regRead dbg pa).1 + 2 ^ 32 * ((s.regRead dbg pa).2.regRead dbg (pa + 4)).1,
          ((s.regRead dbg pa).2.regRead dbg (pa + 4)).2)
      else (1, 0, s) := by
  unfold State.serveRead
  rw [h]

theorem State.serveWrite_of_regs (h : s.target? pa = .regs r) :
    s.serveWrite pa n be v who net =
      let be := be % 2 ^ n
      if s.bayHeld pa then (1, s)
      else if n = 4 ∧ pa % 4 = 0 ∧ be = 15 then (0, s.regStore pa (v % 2 ^ 32))
      else if n = 8 ∧ pa % 4 = 0 ∧ (be % 16 = 15 ∨ be % 16 = 0) ∧ (be / 16 = 15 ∨ be / 16 = 0) then
        let s := if be % 16 = 15 then s.regStore pa (v % 2 ^ 32) else s
        (0, if be / 16 = 15 then s.regStore (pa + 4) (v / 2 ^ 32 % 2 ^ 32) else s)
      else (1, s) := by
  unfold State.serveWrite
  rw [h]

theorem State.serveRead_of_ill_formed (h : s.target? pa = .regs r) (hn : n < 4 ∨ pa % 4 ≠ 0) :
    s.serveRead pa n dbg who net = (1, 0, s) := by
  rw [State.serveRead_of_regs h, if_neg (c := n = 4 ∧ _) (by omega), if_neg (c := n = 8 ∧ _) (by omega), ite_self]

theorem State.serveWrite_of_ill_formed (h : s.target? pa = .regs r) (hn : n < 4 ∨ pa % 4 ≠ 0) :
    s.serveWrite pa n be v who net = (1, s) := by
  rw [State.serveWrite_of_regs h]
  dsimp only
  rw [if_neg (c := n = 4 ∧ _) (by omega), if_neg (c := n = 8 ∧ _) (by omega), ite_self]
end
end Sys2Proof.Machine

namespace Sys2Proof
open Machine

/-- Settles O59: a reserved address is a hole, and an access to a hole answers DECODE at once. -/
theorem reservedRangeErrors : Obligations.ReservedRangeErrors := by
  unfold Obligations.ReservedRangeErrors
  intro s pa n be v dbg who net hpa
  have h := State.target?_of_reserved (s := s) hpa
  exact ⟨⟨2, by decide, State.busRead_of_hole h⟩, 2, by decide, State.busWrite_of_hole h⟩

/-- Settles O60. -/
theorem registerAccessWidths : Obligations.RegisterAccessWidths := by
  unfold Obligations.RegisterAccessWidths
  intro s pa n be v r dbg who net h
  refine ⟨fun hn => ⟨⟨1, by decide, State.serveRead_of_ill_formed h hn⟩, 1, by decide, State.serveWrite_of_ill_formed h hn⟩,
    fun hpa hheld hv => ⟨?_, ?_, ?_, ?_⟩⟩
  · simp [State.serveRead_of_regs h, hheld, hpa]
  · simp [State.serveWrite_of_regs h, hheld, hpa]
  · rintro lo hi rfl rfl
    simp [State.serveRead_of_regs h, hheld, hpa]
  · have hhi : v / 4294967296 < 4294967296 := by omega
    simp [State.serveWrite_of_regs h, hheld, hpa, Nat.mod_eq_of_lt hhi]
end Sys2Proof

/-! # Where the registers of a unit lie, and the state at reset (R17, R32 to R34, R220, R251) -/

namespace Sys2Proof.Machine
open Sys2Proof

/-- The register groups of a window lie one beside the other. -/
def apart (g h : RegGroup) : Prop :=
  g.base + g.count * g.stride ≤ h.base ∨ h.base + h.count * h.stride ≤ g.base

theorem quadGroups_apart : quadGroups.Pairwise apart := by unfold apart; decide

theorem bayGroups_apart : bayGroups.Pairwise apart := by unfold apart; decide

theorem quadGroups_fit : ∀ g ∈ quadGroups, g.base + g.count * g.stride ≤ 0x10000000 := by decide

theorem bayGroups_fit : ∀ g ∈ bayGroups, g.base + g.count * g.stride ≤ 0x1000000 := by decide

section
variable {g : RegGroup} {u o : Nat}

theorem unit_lt (hu : u < g.count) (ho : o < g.stride) : u * g.stride + o < g.count * g.stride :=
  calc u * g.stride + o < (u + 1) * g.stride := by rw [Nat.succ_mul]; omega
    _ ≤ g.count * g.stride := Nat.mul_le_mul_right _ hu

theorem locateIn_unit {gs : List RegGroup} (hgs : gs.Pairwise apart) (hg : g ∈ gs) (hu : u < g.count) (ho : o < g.stride) :
    locateIn gs (g.base + (u * g.stride + o)) = some (g, u, o) := by
  have hlt := unit_lt hu ho
  induction gs with
  | nil => cases hg
  | cons h gs ih =>
    obtain ⟨hh, hgs⟩ := List.pairwise_cons.mp hgs
    unfold locateIn
    obtain rfl | hg := List.mem_cons.mp hg
    · rw [if_pos ⟨by omega, by omega⟩, Nat.add_sub_cancel_left, Nat.add_comm (u * g.stride),
        Nat.add_mul_div_right _ _ (by omega), Nat.add_mul_mod_self_right, Nat.div_eq_of_lt ho, Nat.mod_eq_of_lt ho, Nat.zero_add]
    · rw [if_neg, ih hgs hg]
      have := hh g hg
      unfold apart at this
      omega

theorem locate_quad {q : Nat} (hq : q < 4) (hg : g ∈ quadGroups) (hu : u < g.count) (ho : o < g.stride) :
    locate (quadA q + g.base + u * g.stride + o) = some (q, g, u, o) := by
  have ha : g.base + (u * g.stride + o) < 0x10000000 := by
    have := unit_lt hu ho
    have := quadGroups_fit g hg
    omega
  have hin := locateIn_unit quadGroups_apart hg hu ho
  rw [Nat.add_assoc, Nat.add_assoc]
  generalize g.base + (u * g.stride + o) = a at ha hin
  have hoff : (quadA q + a - 0xD000000000) % 0x10000000 = a := by unfold quadA; omega
  have hwin : (quadA q + a - 0xD000000000) / 0x10000000 = q := by unfold quadA; omega
  unfold locate
  rw [if_pos (by unfold quadA; omega), hoff, hwin, hin, Option.map_some]

theorem locate_bay {b : Nat} (hb : b < 128) (hg : g ∈ bayGroups) (hu : u < g.count) (ho : o < g.stride) :
    locate (winA b + g.base + u * g.stride + o) = some (b, g, u, o) := by
  have ha : g.base + (u * g.stride + o) < 0x1000000 := by
    have := unit_lt hu ho
    have := bayGroups_fit g hg
    omega
  have hin := locateIn_unit bayGroups_apart hg hu ho
  rw [Nat.add_assoc, Nat.add_assoc]
  generalize g.base + (u * g.stride + o) = a at ha hin
  have hoff : (winA b + a - 0xC000000000) % 0x1000000 = a := by unfold winA; omega
  have hwin : (winA b + a - 0xC000000000) / 0x1000000 = b := by unfold winA; omega
  unfold locate
  rw [if_neg (by unfold winA; omega), if_pos (by unfold winA; omega), hoff, hwin, hin, Option.map_some]
end

theorem locate_ctx {b c : Nat} (hb : b < 128) (hc : c < 32) {o : Nat} (ho : o < 0x20) :
    locate (ctxA b c + o) = some (b, .ctx, c, o) :=
  locate_bay (g := .ctx) hb (by decide) hc ho

theorem locate_evt {e : Nat} (he : e < 1024) {o : Nat} (ho : o < 0x10) : locate (evtA e + o) = some (0, .evt, e, o) :=
  locate_quad (g := .evt) (q := 0) (by decide) (by decide) he ho

theorem locate_cfg {q : Nat} (hq : q < 4) {o : Nat} (ho : o < 0x1000) : locate (cfgA q + o) = some (q, .cfg, 0, o) :=
  locate_quad (g := .cfg) (u := 0) (o := o) hq (by decide) (by decide) ho

/-- The reset value of a field of the register at offset `off` in unit `u` of a group. -/
def resetOf (g : RegGroup) (u off lo : Nat) : Nat :=
  if g = .ctx ∧ u = 0 ∧ off = 0 ∧ lo = 31 then 1
  else if g = .ctx ∧ u = 0 ∧ off = 4 ∧ lo = 0 then 2
  else if g = .tctx ∧ u = 0 ∧ off = 0 ∧ lo = 0 then 1
  else ((g.table.find? fun r => r.covers off lo).map (·.reset)).getD 0

theorem regReset_key {a w g u o} {f : Fld} (hf : f.lo < 32) (h : locate (a + f.off) = some (w, g, u, o)) :
    regReset (key a f) = resetOf g u o f.lo := by
  have hk : key a f / 32 = a + f.off := by unfold key; omega
  have hlo : key a f % 32 = f.lo := by unfold key; omega
  unfold regReset resetOf
  rw [hk, hlo, h]
  dsimp only
  congr 3
  cases g.table.find? fun r => r.covers o f.lo <;> rfl

theorem reset_rd {a w g u o} {f : Fld} (hf : f.lo < 32) (h : locate (a + f.off) = some (w, g, u, o)) :
    State.reset.rd a f = resetOf g u o f.lo :=
  regReset_key hf h

theorem resetOf_ctx_unit {c o lo : Nat} (hc : c ≠ 0) :
    resetOf .ctx c o lo = ((tblCtx.find? fun r => r.covers o lo).map (·.reset)).getD 0 := by
  simp [resetOf, hc, RegGroup.table]

theorem reset_baysFresh : State.reset.baysFresh := fun _ _ _ => rfl

end Sys2Proof.Machine

namespace Sys2Proof
open Machine

/-- Settles O58: each field named lies in its unit's registers, and has the reset value of its table. -/
theorem resetState : Obligations.ResetState := by
  unfold Obligations.ResetState
  refine ⟨⟨rfl, rfl, rfl, rfl⟩, rfl, rfl, rfl, reset_rd (by decide) (locate_cfg (by decide) (by decide)), reset_baysFresh, ?_, ?_⟩
  · intro b hb
    refine ⟨reset_rd (by decide) (locate_ctx hb (by decide) (by decide)),
      reset_rd (by decide) (locate_ctx hb (by decide) (by decide)), fun c h1 hc => ?_⟩
    have hne : c ≠ 0 := by omega
    exact ⟨(reset_rd (by decide) (locate_ctx hb hc (by decide))).trans (resetOf_ctx_unit hne),
      (reset_rd (by decide) (locate_ctx hb hc (by decide))).trans (resetOf_ctx_unit hne)⟩
  · intro e he
    exact ⟨reset_rd (by decide) (locate_evt he (by decide)), reset_rd (by decide) (locate_evt he (by decide)),
      reset_rd (by decide) (locate_evt he (by decide))⟩
end Sys2Proof

/-! # GO of a debug bus master (R494) -/

namespace Sys2Proof.Machine
open Sys2Proof

section
variable {s : State} {p v : Nat} {f g : Fld}

theorem State.dbm_wr_same : (s.wr (dbgA 0) (dbmF p f) v).dbm p f = v % 2 ^ f.width :=
  State.rd_wr_same ..

theorem State.dbm_wr_ne (h : key 0 g ≠ key 0 f) : (s.wr (dbgA 0) (dbmF p f) v).dbm p g = s.dbm p g := by
  refine State.rd_wr_ne _ _ ?_
  simp only [key, dbmF, Fld.shift] at h ⊢
  omega

theorem State.dbmEnd_busy : (s.dbmEnd p 1).dbm p R.DBM_STAT.BUSY = 0 :=
  (State.dbm_wr_ne (by decide)).trans State.dbm_wr_same

theorem State.dbmEnd_status : (s.dbmEnd p 1).dbm p R.DBM_STAT.STATUS = 1 :=
  State.dbm_wr_same

theorem State.dbmEnd_denied : (s.dbmEnd p v).dbm p R.DBM_STAT.LEVEL_DENIED = s.dbm p R.DBM_STAT.LEVEL_DENIED :=
  (State.dbm_wr_ne (by decide)).trans (State.dbm_wr_ne (by decide))

/-- What GO does to a port that is not BUSY. -/
theorem execDbmGo_idle (hp : p < 2) (hb : s.dbm p R.DBM_STAT.BUSY ≠ 1) :
    exec (.dbmGo p) s = .next (
      if s.level < (if s.dbm p R.DBM_CTRL.WR = 1 then 2 else 1) then
        (s.wr (dbgA 0) (dbmF p R.DBM_STAT.LEVEL_DENIED) 1).dbmEnd p 1
      else if accessAllowed (s.dbmAddr p) (2 ^ s.dbm p R.DBM_CTRL.SIZE) = false then s.dbmEnd p 1
      else
        { s.wr (dbgA 0) (dbmF p R.DBM_STAT.BUSY) 1 with
          outst := s.outst ++ [⟨portOf (controlRouter 0) 1, 0x2000 + p, decide (s.dbm p R.DBM_CTRL.WR = 1), s.dbmAddr p,
            2 ^ s.dbm p R.DBM_CTRL.SIZE, .dbm p⟩] }) := by
  show execDbmGo p s = _
  unfold execDbmGo State.dbmGo
  simp only [hp, hb, if_true, if_false, decide_eq_true_eq, Bool.not_eq_true']
end
end Sys2Proof.Machine

namespace Sys2Proof
open Machine

/-- Settles O16, by the four cases of GO. -/
theorem debugBusMasterGo : Obligations.DebugBusMasterGo := by
  unfold Obligations.DebugBusMasterGo
  intro s p hp
  refine ⟨fun hb => ?_, fun hb hl => ?_, fun hb hl ha => ?_, fun hb hl ha => ?_⟩
  · show execDbmGo p s = _
    unfold execDbmGo State.dbmGo
    simp only [hp, hb, if_true]
  · rw [execDbmGo_idle hp hb, if_pos hl]
    exact ⟨_, rfl, State.dbmEnd_busy, State.dbmEnd_status, State.dbmEnd_denied.trans State.dbm_wr_same, rfl⟩
  · rw [execDbmGo_idle hp hb, if_neg (by omega), if_pos ha]
    exact ⟨_, rfl, State.dbmEnd_busy, State.dbmEnd_status, rfl⟩
  · rw [execDbmGo_idle hp hb, if_neg (by omega), if_neg (by simp [ha])]
    exact ⟨_, _, rfl, State.dbm_wr_same (s := s), rfl, rfl, rfl, by simp, rfl, rfl⟩
end Sys2Proof

/-! # Register and host accesses (R11, R13, R245, R247, R251, R425, R454) -/

namespace Sys2Proof.Machine
open Sys2Proof

/-! ## What follows a command, and which registers can be reached -/

section
variable {s : State} {q a : Nat}

/-- What follows a command on its own does nothing while the device manager has nothing to do. -/
theorem State.settle_of_calm (h : s.calm) : s.settle = s := by
  obtain ⟨hab, hout, hreset, hstage, hfault, hwake, -⟩ := h
  have htake : s.agentTake 4 = s := by
    unfold State.agentTake
    simp [hab]
  have hmail : s.mailOut 4 = s := by
    unfold State.mailOut
    simp [hout]
  have hstage' : s.stageDue = s := by
    unfold State.stageDue
    simp [hstage]
  have hwakes : s.serveWakes = s := by
    unfold State.serveWakes
    rw [hwake, List.foldl_nil, ← hwake]
  have hfaults : s.faultResets = s := by
    unfold State.faultResets
    simp [hfault]
  have hdue : s.resetDue = s := by
    unfold State.resetDue
    simp [hreset]
  unfold State.settle
  rw [htake, hmail, hstage', hwakes, hfaults, hdue]

theorem State.quadOk_of_live (h : s.quadLive q = true) : s.quadOk q = true := by
  unfold State.quadLive at h
  simp_all

theorem addrQuad_of_quad (hq : q < 4) (hlo : quadA q ≤ a) (hhi : a < quadA (q + 1)) : addrQuad a = q := by
  unfold quadA at hlo hhi
  unfold addrQuad
  rw [if_neg (by omega), if_pos (by omega)]
  omega

theorem State.bayHeld_of_quad (hlo : quadA q ≤ a) : s.bayHeld a = false := by
  unfold quadA at hlo
  unfold State.bayHeld
  rw [decide_eq_false (by omega), Bool.false_and]

theorem State.regReachable_of_quad (hq : q < 4) (hlo : quadA q ≤ a) (hhi : a < quadA (q + 1)) (ha : a % 4 = 0) :
    s.regReachable a = (s.quadLive q || !s.quadOk q) := by
  unfold State.regReachable
  rw [State.bayHeld_of_quad hlo, addrQuad_of_quad hq hlo hhi, decide_eq_true ha, Bool.not_false, Bool.true_and, Bool.true_and]

theorem State.not_reachable_of_unaligned (h : a % 4 ≠ 0) : s.regReachable a = false := by
  unfold State.regReachable
  rw [decide_eq_false h, Bool.false_and, Bool.false_and]

theorem State.not_reachable_of_bayReset {b : Nat} (hb : b < 128) (hlo : winA b ≤ a) (hhi : a < winA (b + 1))
    (hr : s.bayState b = 2) : s.regReachable a = false := by
  unfold winA at hlo hhi
  have hbay : (a - 0xC000000000) / 0x1000000 = b := by omega
  have hheld : s.bayHeld a = true := by
    unfold State.bayHeld
    rw [hbay, decide_eq_true hr, decide_eq_true (by omega), Bool.true_and]
  unfold State.regReachable
  rw [hheld, Bool.not_true, Bool.and_false, Bool.false_and]

theorem State.not_reachable_of_qReset (hq : q < 4) (hlo : quadA q ≤ a) (hhi : a < quadA (q + 1)) (hok : s.quadOk q = true)
    (hr : s.qReset q = true) : s.regReachable a = false := by
  have hlive : s.quadLive q = false := by
    unfold State.quadLive
    rw [hr, Bool.not_true, Bool.and_false, Bool.false_and]
  unfold State.regReachable
  rw [addrQuad_of_quad hq hlo hhi, hlive, hok, Bool.not_true, Bool.or_false, Bool.and_false]

theorem exec_of_not_reachable {v : BitVec 32} (h : s.regReachable a = false) :
    exec (.registerWrite a v) s = .next s ∧ exec (.readClear a) s = .next s ∧ exec (.debugPeek a) s = .next s := by
  refine ⟨?_, ?_, ?_⟩
  · show execRegisterWrite a v s = _
    unfold execRegisterWrite
    rw [h, if_neg Bool.false_ne_true]
  · show execReadClear a s = _
    unfold execReadClear
    rw [h, if_neg Bool.false_ne_true]
  · show execDebugPeek a s = _
    unfold execDebugPeek
    rw [h, if_neg Bool.false_ne_true]

theorem execRegisterWrite_of_reachable {v : BitVec 32} (h : s.regReachable a = true) :
    exec (.registerWrite a v) s = .next (s.regStore a v.toNat).settle := by
  show execRegisterWrite a v s = _
  unfold execRegisterWrite
  rw [h, if_pos rfl]

theorem execReadClear_of_reachable (h : s.regReachable a = true) :
    exec (.readClear a) s = .next (((s.regRead false a).2.emit (.regValue a (s.regRead false a).1)).settle) := by
  show execReadClear a s = _
  unfold execReadClear
  rw [h, if_pos rfl]

theorem execDebugPeek_of_reachable (h : s.regReachable a = true) :
    exec (.debugPeek a) s = .next ((s.regRead true a).2.emit (.regValue a (s.regRead true a).1)) := by
  show execDebugPeek a s = _
  unfold execDebugPeek
  rw [h, if_pos rfl]
end

/-! ## The registers of an event -/

section
variable {s : State} {e v : Nat}

/-- The state after a write of EVT_CFG. -/
def State.putEvtCfg (s : State) (e v : Nat) : State :=
  ((s.wr (evtA e) R.EVT_CFG.HOST_EN (bits v 31 31)).wr (evtA e) R.EVT_CFG.ENG_EN (bits v 30 30)).wr (evtA e) R.EVT_CFG.VECTOR
    (bits v 10 0)

/-- What EVT_CFG reads as. -/
def State.evtCfg (s : State) (e : Nat) : Nat :=
  s.rd (evtA e) R.EVT_CFG.HOST_EN * 2 ^ 31 + s.rd (evtA e) R.EVT_CFG.ENG_EN * 2 ^ 30 + s.rd (evtA e) R.EVT_CFG.VECTOR

theorem evt_fields_cfg : RegGroup.fields .evt 0 =
    [⟨R.EVT_CFG.HOST_EN, 1, 4, .rw, 0x0, .quadrant, .any⟩, ⟨R.EVT_CFG.ENG_EN, 1, 4, .rw, 0x0, .quadrant, .any⟩,
      ⟨R.EVT_CFG.VECTOR, 1, 4, .rw, 0x0, .quadrant, .any⟩] := by decide

theorem evt_fields_stat : RegGroup.fields .evt 0xC =
    [⟨R.EVT_STAT.PENDING, 1, 4, .ro, 0x0, .quadrant, .any⟩, ⟨R.EVT_STAT.OCC, 1, 4, .rc, 0x0, .quadrant, .any⟩] := by decide

theorem State.putReg_evtCfg : s.putReg .evt (evtA e) 0 v = s.putEvtCfg e v := by
  unfold State.putReg
  rw [evt_fields_cfg]
  rfl

theorem State.regWrite_evtCfg (he : e < 1024) (hq : s.quadOk 0 = true) : s.regWrite (evtA e) v = s.putEvtCfg e v := by
  unfold State.regWrite
  rw [show locate (evtA e) = some (0, .evt, e, 0) from locate_evt he (o := 0) (by decide)]
  simp only [State.unitOk, hq, leaderOnly, leaderShown, adcReg, RegGroup.inBay]
  exact State.putReg_evtCfg

theorem State.regStore_evtCfg (he : e < 1024) (hq : s.quadOk 0 = true) : s.regStore (evtA e) v = s.putEvtCfg e v := by
  unfold State.regStore
  rw [State.regWrite_evtCfg he hq, show locate (evtA e) = some (0, .evt, e, 0) from locate_evt he (o := 0) (by decide)]

theorem State.putEvtCfg_get {k : Nat}
    (hk : k ∉ [key (evtA e) R.EVT_CFG.HOST_EN, key (evtA e) R.EVT_CFG.ENG_EN, key (evtA e) R.EVT_CFG.VECTOR]) :
    Tab.get regReset (s.putEvtCfg e v).flds k = Tab.get regReset s.flds k := by
  simp only [List.mem_cons, List.not_mem_nil, or_false, not_or] at hk
  obtain ⟨hhost, heng, hvec⟩ := hk
  exact (Tab.get_put_ne _ _ _ hvec).trans ((Tab.get_put_ne _ _ _ heng).trans (Tab.get_put_ne _ _ _ hhost))

/-- A field that lies in another register keeps its value. -/
theorem State.putEvtCfg_rd {a : Nat} {f : Fld} (hf : f.lo < 32) (h : a + f.off ≠ evtA e) :
    (s.putEvtCfg e v).rd a f = s.rd a f := by
  refine State.putEvtCfg_get ?_
  simp only [key, List.mem_cons, List.not_mem_nil, or_false]
  omega

theorem State.putEvtCfg_host : (s.putEvtCfg e v).rd (evtA e) R.EVT_CFG.HOST_EN = bits v 31 31 := by
  unfold State.putEvtCfg
  rw [State.rd_wr_ne _ _ (by simp only [key]; omega), State.rd_wr_ne _ _ (by simp only [key]; omega), State.rd_wr_same]
  exact Nat.mod_mod _ _

theorem State.putEvtCfg_eng : (s.putEvtCfg e v).rd (evtA e) R.EVT_CFG.ENG_EN = bits v 30 30 := by
  unfold State.putEvtCfg
  rw [State.rd_wr_ne _ _ (by simp only [key]; omega), State.rd_wr_same]
  exact Nat.mod_mod _ _

theorem State.putEvtCfg_vector : (s.putEvtCfg e v).rd (evtA e) R.EVT_CFG.VECTOR = bits v 10 0 := by
  unfold State.putEvtCfg
  rw [State.rd_wr_same]
  exact Nat.mod_mod _ _

/-- A read of a register of an event, which clears its RC fields, or as a debugger reads it, which clears none. -/
theorem State.regRead_evt {o : Nat} {dbg : Bool} (he : e < 1024) (ho : o < 0x10) (hq : s.quadOk 0 = true) :
    s.regRead dbg (evtA e + o) =
      (s.plainReg .evt (evtA e) o, if dbg then s else s.clearRead 0 .evt e (evtA e) o) := by
  unfold State.regRead
  rw [locate_evt he ho]
  simp only [State.unitOk, hq, leaderOnly, leaderShown, adcReg, readLevel, RegGroup.inBay, Nat.add_sub_cancel]
  rfl

theorem State.plainReg_evtStat :
    s.plainReg .evt (evtA e) 0xC = s.rd (evtA e) R.EVT_STAT.PENDING * 2 ^ 31 + s.rd (evtA e) R.EVT_STAT.OCC := by
  unfold State.plainReg
  rw [evt_fields_stat]
  show 0 + s.rd (evtA e) R.EVT_STAT.PENDING * 2 ^ 31 + s.rd (evtA e) R.EVT_STAT.OCC * 2 ^ 0 = _
  omega

theorem State.clearRead_evtStat : s.clearRead 0 .evt e (evtA e) 0xC = s.wr (evtA e) R.EVT_STAT.OCC 0 := by
  unfold State.clearRead
  rw [evt_fields_stat]
  rfl

theorem State.plainReg_evtCfg : s.plainReg .evt (evtA e) 0 = s.evtCfg e := by
  unfold State.plainReg
  rw [evt_fields_cfg]
  show 0 + s.rd (evtA e) R.EVT_CFG.HOST_EN * 2 ^ 31 + s.rd (evtA e) R.EVT_CFG.ENG_EN * 2 ^ 30 +
    s.rd (evtA e) R.EVT_CFG.VECTOR * 2 ^ 0 = s.evtCfg e
  unfold State.evtCfg
  omega

theorem State.regRead_evtCfg (he : e < 1024) (hq : s.quadOk 0 = true) : s.regRead false (evtA e) = (s.evtCfg e, s) := by
  have h := State.regRead_evt (s := s) (dbg := false) he (o := 0) (by decide) hq
  rw [State.plainReg_evtCfg] at h
  refine h.trans (congrArg (Prod.mk _) ?_)
  show s.clearRead 0 .evt e (evtA e) 0 = s
  unfold State.clearRead
  rw [evt_fields_cfg]
  rfl

/-! ## The copies of a follower quadrant -/

theorem locate_follower_evt {q : Nat} (hq : q < 4) (he : e < 1024) :
    locate (quadA q + 0xC00000 + e * 0x10) = some (q, .evt, e, 0) :=
  locate_quad (g := .evt) (o := 0) hq (by decide) he (by decide)

theorem State.regStore_follower {q a u o : Nat} (h1 : 1 ≤ q) (h : locate a = some (q, .evt, u, o)) : s.regStore a v = s := by
  have hne : decide (q ≠ 0) = true := decide_eq_true (by omega)
  have hwrite : s.regWrite a v = s := by
    unfold State.regWrite
    simp only [h, leaderOnly, leaderShown, RegGroup.inBay, hne]
    exact ite_self _
  unfold State.regStore
  rw [hwrite, h]

theorem State.regRead_follower {q a u o : Nat} {dbg : Bool} (h1 : 1 ≤ q) (h : locate a = some (q, .evt, u, o)) :
    s.regRead dbg a = (0, s) := by
  have hne : decide (q ≠ 0) = true := decide_eq_true (by omega)
  unfold State.regRead
  simp only [h, leaderOnly, hne]
  exact ite_self _
end
end Sys2Proof.Machine

/-! ## The sticky power record -/

namespace Sys2Proof.Machine
open Sys2Proof

section
variable {s : State} {a v : Nat} {f g : Fld} {l : List Fld}

/-- Write fields of the unit at `a` as W1C fields. -/
def State.clearFields (s : State) (a v : Nat) (l : List Fld) : State :=
  l.foldl (fun s f => s.wr a f (clearBits (s.rd a f) (bits v f.hi f.lo))) s

theorem key_ne (a : Nat) (h : key 0 g ≠ key 0 f) : key a g ≠ key a f := by
  unfold key at *
  omega

theorem State.clearFields_eq : s.clearFields a v l = { s with flds := (s.clearFields a v l).flds } := by
  induction l generalizing s with
  | nil => rfl
  | cons f l ih => exact ih

theorem State.clearFields_rd_ne (h : ∀ f ∈ l, key 0 g ≠ key 0 f) : (s.clearFields a v l).rd a g = s.rd a g := by
  induction l generalizing s with
  | nil => rfl
  | cons f l ih =>
    exact (ih fun x hx => h x (.tail _ hx)).trans (State.rd_wr_ne _ _ (key_ne a (h f (.head _))))

theorem State.clearFields_rd (hl : l.Pairwise fun f g => key 0 f ≠ key 0 g) (hg : g ∈ l) :
    (s.clearFields a v l).rd a g = clearBits (s.rd a g) (bits v g.hi g.lo) % 2 ^ g.width := by
  induction l generalizing s with
  | nil => cases hg
  | cons f l ih =>
    obtain ⟨hf, hl⟩ := List.pairwise_cons.mp hl
    obtain rfl | hg := List.mem_cons.mp hg
    · exact (State.clearFields_rd_ne hf).trans (State.rd_wr_same ..)
    · refine (ih hl hg).trans ?_
      rw [State.rd_wr_ne _ _ (key_ne a (hf g hg).symm)]

theorem stickies_apart : stickies.Pairwise fun f g => key 0 f ≠ key 0 g := by decide

theorem stickies_bit : ∀ g ∈ stickies, g.hi = g.lo := by decide

theorem power_fields_sticky : RegGroup.fields .power 0 =
    stickies.map fun f => ⟨f, 1, 4, .w1c, if f = R.PWR_STICKY.VIN_FRESH then 1 else 0, .vin, .any⟩ := by decide

theorem State.putReg_sticky : s.putReg .power (pwrA 0) 0 v = s.clearFields (pwrA 0) v stickies := by
  unfold State.putReg
  rw [power_fields_sticky]
  rfl

theorem clearBits_bit {n m : Nat} (hn : n < 2) (hm : m < 2) : clearBits n m % 2 = if m = 1 then 0 else n := by
  have h : ∀ n < 2, ∀ m < 2, clearBits n m % 2 = if m = 1 then 0 else n := by decide
  exact h n hn m hm

theorem State.clearFields_sticky (hg : g ∈ stickies) (h : s.rd a g < 2) :
    (s.clearFields a v stickies).rd a g = if bits v g.hi g.lo = 1 then 0 else s.rd a g := by
  have hw : g.width = 1 := by
    unfold Fld.width
    rw [stickies_bit g hg]
    omega
  have hb : bits v g.hi g.lo < 2 := by
    unfold bits
    rw [show g.hi + 1 - g.lo = 1 from hw]
    exact Nat.mod_lt _ (by decide)
  rw [State.clearFields_rd stickies_apart hg, hw]
  exact clearBits_bit h hb

theorem State.regStore_sticky (hq : s.quadOk 0 = true) : s.regStore (pwrA 0) v = s.clearFields (pwrA 0) v stickies := by
  have hloc : locate (pwrA 0) = some (0, .power, 0, 0) :=
    locate_quad (g := .power) (u := 0) (o := 0) (by decide) (by decide) (by decide) (by decide)
  have hunit : s.unitOk 0 .power 0 = true := by simp [State.unitOk, RegGroup.inBay, hq]
  have hput : s.quadWrite 0 .power 0 0 v = s.putReg .power (pwrA 0) 0 v := by
    unfold State.quadWrite
    dsimp only
    unfold State.pwrRegWrite
    rw [if_neg (by simp), if_neg (by simp), if_neg (by simp)]
  have hwrite : s.regWrite (pwrA 0) v = s.clearFields (pwrA 0) v stickies := by
    unfold State.regWrite
    simp only [hloc, hunit, adcReg, RegGroup.inBay, ne_eq, not_true_eq_false, decide_false, Bool.and_false, Bool.false_and, Bool.not_true, Bool.false_eq_true,
      if_false, reduceCtorEq]
    rw [hput, State.putReg_sticky]
  unfold State.regStore
  rw [hwrite, hloc]
end

/-! ## An access of the host to a word of the control window of Q0 -/

section
variable {s : State} {pa n be v : Nat} {dbg : Bool}

/-- Nothing holds or observes a packet between the host's port and the control registers of Q0, which one router serves. -/
def State.nearOpen (s : State) : Prop := s.rtState (controlRouter 0) = 0 ∧ s.probing = false

theorem State.target?_quad {q : Nat} (hq : q < 4) (hlo : quadA q ≤ pa) (hhi : pa < quadA q + 0xF00000) (hok : s.quadOk q = true) :
    s.target? pa = .regs (controlRouter q) := by
  unfold quadA at hlo hhi
  have hq' : (pa - 0xD000000000) / 0x10000000 = q := by omega
  unfold State.target?
  rw [if_neg (by omega), if_neg (by omega), if_neg (by omega), if_pos (by omega)]
  dsimp only
  rw [hq', hok, if_neg (by decide), if_neg (by omega)]

theorem State.heldOn_near (h : s.nearOpen) : s.heldOn (s.route (controlRouter 0) (controlRouter 0)) = none := by
  have hroute : ∀ short, xyRoute short (controlRouter 0) (controlRouter 0) = [controlRouter 0] := by decide
  unfold State.route
  rw [hroute]
  unfold State.heldOn
  rw [if_neg (not_not_intro h.1)]

theorem State.newTag_near (h : s.nearOpen) : s.newTag = (0, s) := by
  unfold State.newTag
  rw [h.2, if_neg Bool.false_ne_true]

theorem State.passage_near {r : Req} (h : s.nearOpen) (hsrc : r.who.src = controlRouter 0) (hdst : r.dst = controlRouter 0) :
    s.passage r netOk = (0, s) := by
  unfold State.passage State.seeRequest
  rw [hsrc, hdst, State.heldOn_near h, h.2]
  rfl

theorem State.answer_near {r : Req} {sport st : Nat} (h : s.nearOpen) (hsrc : r.who.src = controlRouter 0) :
    s.answer r (controlRouter 0) sport st = (st, s) := by
  unfold State.answer
  dsimp only
  rw [hsrc, State.heldOn_near h, h.2]
  rfl

theorem State.busRead_near (ht : s.target? pa = .regs (controlRouter 0)) (h : s.nearOpen)
    (hr : (s.serveRead pa n dbg hostWho netOk).1 = 0) (h' : (s.serveRead pa n dbg hostWho netOk).2.2.nearOpen) :
    s.busRead pa n dbg hostWho netOk = s.serveRead pa n dbg hostWho netOk := by
  unfold State.busRead
  rw [ht]
  dsimp only
  rw [State.newTag_near h, State.passage_near h rfl rfl, if_neg (not_not_intro rfl)]
  dsimp only
  generalize s.serveRead pa n dbg hostWho netOk = r at hr h'
  obtain ⟨st, data, t⟩ := r
  obtain rfl : st = 0 := hr
  simp only [Target.router, State.answer_near (s := t) h' (r := ⟨hostWho, _, _, _, _, _, _, _⟩) rfl, if_true]

theorem State.busWrite_near (ht : s.target? pa = .regs (controlRouter 0)) (h : s.nearOpen)
    (h' : (s.serveWrite pa n be v hostWho netOk).2.nearOpen) :
    s.busWrite pa n be v hostWho netOk = s.serveWrite pa n be v hostWho netOk := by
  unfold State.busWrite
  rw [ht]
  dsimp only
  rw [State.newTag_near h, State.passage_near h rfl rfl, if_neg (not_not_intro rfl)]
  exact State.answer_near h' rfl

theorem State.hostPages_word {write : Bool} (hpa : pa < 2 ^ 48) (hal : pa % 4 = 0) :
    s.hostPages 0 write 5 pa 4 = (none, [(pa, 4)], s) := by
  have hm : min 4 (4096 - pa % 4096) = 4 := by omega
  have htr : s.translate 0 0 (pa % 2 ^ 48) write = (0, pa, s) := by
    unfold State.translate
    rw [Nat.mod_eq_of_lt hpa]
    rfl
  unfold State.hostPages
  simp only [hm, htr]
  rfl
end
end Sys2Proof.Machine

namespace Sys2Proof.Machine
open Sys2Proof

section
variable {s t : State} {pa off d v : Nat}

theorem pieceSize_word (hal : pa % 4 = 0) : pieceSize pa 4 = 4 := by
  simp [pieceSize, hal]

theorem State.spanRead_word (hal : pa % 4 = 0) (h : s.busRead pa 4 false hostWho netOk = (0, d, s)) :
    s.spanRead hostWho netOk 5 pa 4 = (0, d, s) := by
  unfold State.spanRead
  simp only [pieceSize_word hal, h]
  rfl

theorem State.spanWrite_word (hal : pa % 4 = 0) (hv : v < 2 ^ 32) (h : s.busWrite pa 4 15 v hostWho netOk = (0, t)) :
    s.spanWrite hostWho netOk 5 pa 4 15 v = (0, t) := by
  have hv' : v % 2 ^ (8 * 4) = v := Nat.mod_eq_of_lt hv
  unfold State.spanWrite
  simp only [pieceSize_word hal, hv', show 15 % 2 ^ 4 = 15 from rfl, h]
  rfl

theorem widthRefused_word (hal : pa % 4 = 0) : widthRefused [(pa, 4)] 4 = false := by
  simp [widthRefused, hal]

/-- The link serves the physical function 0. -/
theorem State.hostServed_zero (hlink : s.load.link = true) (hdev : s.power.dev = 0) : s.hostServed 0 = true := by
  simp [State.hostServed, State.pfOk, hlink, hdev]

theorem State.not_hostServed {f : Nat} (h : s.load.link = false ∨ s.power.dev ≠ 0) : s.hostServed f = false := by
  obtain h | h := h <;> simp [State.hostServed, h]

theorem State.hostRead_word (hserved : s.hostServed 0 = true) (hoff : off + 4 ≤ 2 ^ 30) (hal : off % 4 = 0)
    (h : s.busRead (0xD000000000 + off) 4 false hostWho netOk = (0, d, s)) :
    s.hostRead 0 2 off 4 netOk = s.emit (.completion 0 0 d) := by
  have hal' : (0xD000000000 + off) % 4 = 0 := by omega
  have hbar : s.bar 0 (2 / 2) = (0xD000000000, true, 0) := rfl
  have hlog : s.barLog 0 (2 / 2) = 30 := rfl
  have hreads : s.hostReads netOk [(0xD000000000 + off, 4)] = (0, d, s) := by
    unfold State.hostReads
    rw [State.spanRead_word hal' h]
    rfl
  unfold State.hostRead
  rw [hserved, if_pos rfl, hbar, hlog]
  dsimp only
  rw [if_neg (by simp only [Bool.true_eq_false, false_or]; omega), State.hostPages_word (by omega) hal']
  dsimp only
  rw [widthRefused_word hal', if_neg Bool.false_ne_true, hreads, if_pos rfl]

theorem State.hostWrite_word (hserved : s.hostServed 0 = true) (hoff : off + 4 ≤ 2 ^ 30) (hal : off % 4 = 0) (hv : v < 2 ^ 32)
    (h : s.busWrite (0xD000000000 + off) 4 15 v hostWho netOk = (0, t)) :
    s.hostWrite 0 2 off 4 v 15 netOk = t := by
  have hal' : (0xD000000000 + off) % 4 = 0 := by omega
  have hbar : s.bar 0 (2 / 2) = (0xD000000000, true, 0) := rfl
  have hlog : s.barLog 0 (2 / 2) = 30 := rfl
  have hwrites : (s.hostWrites netOk [(0xD000000000 + off, 4)] 15 v).2 = t := by
    unfold State.hostWrites
    dsimp only
    rw [Nat.mod_eq_of_lt (show v < 2 ^ (8 * 4) from hv), show 15 % 2 ^ 4 = 15 from rfl, State.spanWrite_word hal' hv h]
    rfl
  unfold State.hostWrite
  rw [hserved, if_pos rfl, hbar, hlog]
  dsimp only
  rw [if_neg (by simp only [Bool.true_eq_false, false_or]; omega), State.hostPages_word (by omega) hal']
  dsimp only
  rw [widthRefused_word hal', if_neg Bool.false_ne_true, hwrites]

theorem exec_host_of_not_served {f a len data be : Nat} {net : Net} (hcalm : s.calm) (h : s.load.link = false ∨ s.power.dev ≠ 0) :
    exec (.hostRead f 2 a len net) s = .next s ∧ exec (.hostWrite f 2 a len data be net) s = .next s := by
  constructor
  · show execHostRead f 2 a len net s = _
    unfold execHostRead State.hostRead
    rw [State.not_hostServed h, if_neg Bool.false_ne_true, State.settle_of_calm hcalm]
  · show execHostWrite f 2 a len data be net s = _
    unfold execHostWrite State.hostWrite
    rw [State.not_hostServed h, if_neg Bool.false_ne_true, State.settle_of_calm hcalm]

/-! ## Accesses to EVT_CFG -/

variable {e : Nat} {w : BitVec 32}

theorem State.putEvtCfg_eq : s.putEvtCfg e v = { s with flds := (s.putEvtCfg e v).flds } := rfl

theorem evtA_eq : evtA e = 0xD000000000 + (0xC00000 + e * 0x10) := by
  unfold evtA quadA
  omega

theorem State.regReachable_evt {o : Nat} (he : e < 1024) (ho : o < 0x10) (hal : o % 4 = 0) (hq : s.quadLive 0 = true) :
    s.regReachable (evtA e + o) = true := by
  rw [State.regReachable_of_quad (q := 0) (by decide) (by unfold evtA; omega) (by unfold evtA quadA; omega)
    (by unfold evtA quadA; omega), hq, Bool.true_or]

theorem State.probing_eq_false : s.probing = false ↔ ∀ q < 4, ∀ p < 8, s.rd (prbA q p) R.PRB_CTRL.EN = 0 := by
  simp [State.probing, State.bit]

theorem State.nearOpen_putEvtCfg (he : e < 1024) (h : s.nearOpen) : (s.putEvtCfg e v).nearOpen := by
  obtain ⟨hrt, hprb⟩ := h
  rw [State.probing_eq_false] at hprb
  refine ⟨(State.putEvtCfg_rd (by decide) ?_).trans hrt, State.probing_eq_false.mpr fun q hq p hp =>
    (State.putEvtCfg_rd (by decide) ?_).trans (hprb q hq p hp)⟩
  · show 0xD0003008C0 + 4 ≠ evtA e
    rw [evtA_eq]
    omega
  · show prbA q p + 0 ≠ evtA e
    unfold prbA evtA quadA
    omega

theorem State.busRead_evtCfg (he : e < 1024) (hq : s.quadOk 0 = true) (h : s.nearOpen) :
    s.busRead (evtA e) 4 false hostWho netOk = (0, s.evtCfg e, s) := by
  have htgt : s.target? (evtA e) = .regs (controlRouter 0) :=
    State.target?_quad (by decide) (by unfold evtA; omega) (by unfold evtA; omega) hq
  have hserve : s.serveRead (evtA e) 4 false hostWho netOk = (0, s.evtCfg e, s) := by
    rw [State.serveRead_of_regs htgt, State.bayHeld_of_quad (q := 0) (by unfold evtA; omega), if_neg Bool.false_ne_true,
      if_pos ⟨rfl, by unfold evtA quadA; omega⟩, State.regRead_evtCfg he hq]
  rw [State.busRead_near htgt h (by rw [hserve]) (by rw [hserve]; exact h), hserve]

theorem State.busWrite_evtCfg (he : e < 1024) (hq : s.quadOk 0 = true) (h : s.nearOpen) (hv : v < 2 ^ 32) :
    s.busWrite (evtA e) 4 15 v hostWho netOk = (0, s.putEvtCfg e v) := by
  have htgt : s.target? (evtA e) = .regs (controlRouter 0) :=
    State.target?_quad (by decide) (by unfold evtA; omega) (by unfold evtA; omega) hq
  have hserve : s.serveWrite (evtA e) 4 15 v hostWho netOk = (0, s.putEvtCfg e v) := by
    rw [State.serveWrite_of_regs htgt, State.bayHeld_of_quad (q := 0) (by unfold evtA; omega)]
    dsimp only
    rw [if_neg Bool.false_ne_true, if_pos ⟨rfl, by unfold evtA quadA; omega, rfl⟩, Nat.mod_eq_of_lt hv, State.regStore_evtCfg he hq]
  rw [State.busWrite_near htgt h (by rw [hserve]; exact State.nearOpen_putEvtCfg he h), hserve]
end

/-! ## The statement, part by part -/

section
variable {s : State} {e : Nat} {v : BitVec 32}

/-- A write of an event's EVT_CFG. -/
theorem exec_registerWrite_evtCfg (hcalm : s.calm) (he : e < 1024) (hq : s.quadLive 0 = true) :
    exec (.registerWrite (evtA e) v) s = .next (s.putEvtCfg e v.toNat) := by
  rw [execRegisterWrite_of_reachable (a := evtA e) (State.regReachable_evt (o := 0) he (by decide) (by decide) hq),
    State.regStore_evtCfg he (State.quadOk_of_live hq)]
  exact congrArg _ (State.settle_of_calm hcalm)

theorem exec_readClear_evtStat (hcalm : s.calm) (he : e < 1024) (hq : s.quadLive 0 = true) :
    exec (.readClear (evtA e + 0xC)) s = .next ((s.wr (evtA e) R.EVT_STAT.OCC 0).emit (.regValue (evtA e + 0xC)
      (s.rd (evtA e) R.EVT_STAT.PENDING * 2 ^ 31 + s.rd (evtA e) R.EVT_STAT.OCC))) := by
  rw [execReadClear_of_reachable (State.regReachable_evt he (by decide) (by decide) hq),
    State.regRead_evt he (by decide) (State.quadOk_of_live hq), State.plainReg_evtStat, State.clearRead_evtStat]
  exact congrArg _ (State.settle_of_calm hcalm)

theorem exec_debugPeek_evtStat (he : e < 1024) (hq : s.quadLive 0 = true) :
    exec (.debugPeek (evtA e + 0xC)) s = .next (s.emit (.regValue (evtA e + 0xC)
      (s.rd (evtA e) R.EVT_STAT.PENDING * 2 ^ 31 + s.rd (evtA e) R.EVT_STAT.OCC))) := by
  rw [execDebugPeek_of_reachable (State.regReachable_evt he (by decide) (by decide) hq),
    State.regRead_evt he (by decide) (State.quadOk_of_live hq), State.plainReg_evtStat]
  rfl

theorem exec_registerWrite_follower {q : Nat} (hcalm : s.calm) (he : e < 1024) (h1 : 1 ≤ q) (hq : q < 4) :
    exec (.registerWrite (quadA q + 0xC00000 + e * 0x10) v) s = .next s := by
  have hloc := locate_follower_evt hq he
  generalize quadA q + 0xC00000 + e * 0x10 = a at hloc
  cases hr : s.regReachable a with
  | false => exact (exec_of_not_reachable hr).1
  | true => rw [execRegisterWrite_of_reachable hr, State.regStore_follower h1 hloc, State.settle_of_calm hcalm]

theorem exec_readClear_follower {q : Nat} (hcalm : s.calm) (he : e < 1024) (h1 : 1 ≤ q) (hq : q < 4)
    (h : s.quadLive q = true ∨ s.quadOk q = false) :
    exec (.readClear (quadA q + 0xC00000 + e * 0x10)) s = .next (s.emit (.regValue (quadA q + 0xC00000 + e * 0x10) 0)) := by
  have hloc := locate_follower_evt hq he
  have hr : s.regReachable (quadA q + 0xC00000 + e * 0x10) = true := by
    rw [State.regReachable_of_quad hq (by omega) (by unfold quadA; omega) (by unfold quadA; omega)]
    obtain h | h := h <;> simp [h]
  generalize quadA q + 0xC00000 + e * 0x10 = a at hloc hr
  rw [execReadClear_of_reachable hr, State.regRead_follower h1 hloc]
  exact congrArg _ (State.settle_of_calm hcalm)

theorem exec_host_evtCfg (hcalm : s.calm) (he : e < 1024) (hq : s.quadLive 0 = true) (hlink : s.load.link = true)
    (hdev : s.power.dev = 0) (h : s.nearOpen) :
    exec (.hostWrite 0 2 (0xC00000 + e * 0x10) 4 v.toNat 15 netOk) s = .next (s.putEvtCfg e v.toNat) ∧
      exec (.hostRead 0 2 (0xC00000 + e * 0x10) 4 netOk) s = .next (s.emit (.completion 0 0 (s.evtCfg e))) := by
  have hserved := State.hostServed_zero hlink hdev
  have hok := State.quadOk_of_live hq
  constructor
  · show execHostWrite 0 2 (0xC00000 + e * 0x10) 4 v.toNat 15 netOk s = _
    unfold execHostWrite
    rw [State.hostWrite_word hserved (by omega) (by omega) v.isLt (evtA_eq ▸ State.busWrite_evtCfg he hok h v.isLt)]
    exact congrArg _ (State.settle_of_calm hcalm)
  · show execHostRead 0 2 (0xC00000 + e * 0x10) 4 netOk s = _
    unfold execHostRead
    rw [State.hostRead_word hserved (by omega) (by omega) (evtA_eq ▸ State.busRead_evtCfg he hok h)]
    exact congrArg _ (State.settle_of_calm hcalm)

theorem exec_registerWrite_sticky (hcalm : s.calm) (hq : s.quadLive 0 = true) :
    exec (.registerWrite (pwrA 0) v) s = .next (s.clearFields (pwrA 0) v.toNat stickies) := by
  have hr : s.regReachable (pwrA 0) = true := by
    rw [State.regReachable_of_quad (q := 0) (by decide) (by decide) (by decide) (by decide), hq, Bool.true_or]
  have hcalm' : (s.clearFields (pwrA 0) v.toNat stickies).calm := by
    rw [State.clearFields_eq]
    exact hcalm
  rw [execRegisterWrite_of_reachable hr, State.regStore_sticky (State.quadOk_of_live hq), State.settle_of_calm hcalm']
end
end Sys2Proof.Machine

namespace Sys2Proof
open Machine

/-- Settles O52. -/
theorem registerAndHostAccesses : Obligations.RegisterAndHostAccesses := by
  unfold Obligations.RegisterAndHostAccesses
  intro s v hcalm
  refine ⟨fun e he hq => ⟨?_, ?_, ?_, ?_⟩, fun f len a be net h => exec_host_of_not_served hcalm h, fun hq => ?_, ?_⟩
  · exact ⟨_, exec_registerWrite_evtCfg hcalm he hq, rfl, State.putEvtCfg_host, State.putEvtCfg_eng, State.putEvtCfg_vector,
      fun _ => State.putEvtCfg_get⟩
  · rintro x rfl
    exact ⟨exec_readClear_evtStat hcalm he hq, exec_debugPeek_evtStat he hq⟩
  · exact fun q h1 hq4 => ⟨exec_registerWrite_follower hcalm he h1 hq4, exec_readClear_follower hcalm he h1 hq4⟩
  · intro hlink hdev hrt hprb
    obtain ⟨hwrite, hread⟩ := exec_host_evtCfg (v := v) hcalm he hq hlink hdev ⟨hrt, hprb⟩
    exact ⟨hwrite.trans (exec_registerWrite_evtCfg hcalm he hq).symm, hread⟩
  · exact ⟨_, exec_registerWrite_sticky hcalm hq, State.clearFields_eq, fun g hg h => State.clearFields_sticky hg h⟩
  · rintro a (ha | ⟨b, hb, hlo, hhi, hr⟩ | ⟨q, hq, hlo, hhi, hok, hr⟩)
    · exact exec_of_not_reachable (State.not_reachable_of_unaligned ha)
    · exact exec_of_not_reachable (State.not_reachable_of_bayReset hb hlo hhi hr)
    · exact exec_of_not_reachable (State.not_reachable_of_qReset hq hlo hhi hok hr)
end Sys2Proof

/-! # Supplies and start-up (R17, R43, R131, R419, R421, R451 to R454, R472, R476, R477, R479) -/

namespace Sys2Proof.Machine
open Sys2Proof

/-! ## Domains of register fields -/

section
variable {α : Type}

theorem Tab.get_drop (d : Nat → α) (p : Nat → Bool) (t : Tab α) (k : Nat) :
    Tab.get d (Tab.drop p t) k = if p k then d k else Tab.get d t k := by
  induction t with
  | nil => simp [Tab.drop]
  | cons x t ih =>
    obtain ⟨k', v⟩ := x
    by_cases hk : k' = k
    · subst hk
      cases hp : p k' <;> simp [Tab.drop, Tab.get, hp, ih]
    · cases hp : p k' <;> simp [Tab.drop, Tab.get, hp, ih, hk]
end

/-- The reset domain of a field of the register at offset `off` of a unit of a group. -/
def domOf (g : RegGroup) (off lo : Nat) : Dom :=
  ((g.table.find? fun r => r.covers off lo).map (·.dom)).getD .quadrant

theorem keyDom_of_locate {k w g u o} (h : locate (k / 32) = some (w, g, u, o)) : keyDom k = domOf g o (k % 32) := by
  unfold keyDom domOf
  rw [h]
  dsimp only
  cases g.table.find? fun r => r.covers o (k % 32) <;> rfl

theorem keyDom_key {a w g u o} {f : Fld} (hf : f.lo < 32) (h : locate (a + f.off) = some (w, g, u, o)) :
    keyDom (key a f) = domOf g o f.lo := by
  have hk : key a f / 32 = a + f.off := by unfold key; omega
  have hlo : key a f % 32 = f.lo := by unfold key; omega
  rw [keyDom_of_locate (hk ▸ h), hlo]

theorem mem_of_locateIn {gs : List RegGroup} {a g u o} (h : locateIn gs a = some (g, u, o)) : g ∈ gs := by
  induction gs with
  | nil => cases h
  | cons x gs ih =>
    unfold locateIn at h
    split at h
    · cases h
      exact .head _
    · exact .tail _ (ih h)

theorem bay_tables_not_vin : ∀ g ∈ bayGroups, ∀ r ∈ g.table, r.dom ≠ .vin := by decide

/-- No field of a bay's registers belongs to the domain of the supply. -/
theorem keyDom_bay {k : Nat} (hlo : winA 0 * 32 ≤ k) (hhi : k < winA 128 * 32) : keyDom k ≠ .vin := by
  unfold winA at hlo hhi
  cases h : locate (k / 32) with
  | none =>
    unfold keyDom
    rw [h]
    exact nofun
  | some x =>
    obtain ⟨w, g, u, o⟩ := x
    have hg : g ∈ bayGroups := by
      unfold locate at h
      rw [if_neg (by omega), if_pos (by omega)] at h
      obtain ⟨y, hy, hxy⟩ := Option.map_eq_some_iff.mp h
      cases hxy
      exact mem_of_locateIn hy
    rw [keyDom_of_locate h]
    unfold domOf
    cases hr : g.table.find? fun r => r.covers o (k % 32) with
    | none => exact nofun
    | some r => exact bay_tables_not_vin g hg r (List.mem_of_find?_eq_some hr)

theorem locate_pwr : locate (pwrA 0) = some (0, .power, 0, 0) :=
  locate_quad (g := .power) (u := 0) (o := 0) (by decide) (by decide) (by decide) (by decide)

theorem locate_brg {q k o : Nat} (hq : q < 4) (hk : k < 2) (ho : o < 0x100) : locate (brgA q k + o) = some (q, .brg, k, o) :=
  locate_quad (g := .brg) hq (by decide) hk ho

theorem stickies_vin : ∀ g ∈ stickies, domOf .power g.off g.lo = .vin := by decide

theorem stickies_place : ∀ g ∈ stickies, g.off = 0 ∧ g.lo < 32 ∧ g.width = 1 := by decide

theorem keyDom_sticky {g : Fld} (hg : g ∈ stickies) : keyDom (key (pwrA 0) g) = .vin := by
  obtain ⟨hoff, hlo, -⟩ := stickies_place g hg
  rw [keyDom_key hlo (by rw [hoff]; exact locate_pwr), ← hoff, stickies_vin g hg]

/-! ## What an operation leaves as it was -/

/-- What the statements about resets say of a state beside its registers. -/
def State.core (s : State) : List Instr × Fuses × List Host.Cell × Tab Nat × Nat × Bool × Bool × Nat × Tab Bool × Tab Bool :=
  (s.pending, s.fuses, s.mem, s.rows, s.counter, s.power.on, s.power.stepsDone, s.power.dev, s.inReset, s.brgDead)

/-- `t` has the core of `s`, and each register field whose key is in `K` as in `s`. -/
def State.agrees (K : Nat → Prop) (s t : State) : Prop :=
  t.core = s.core ∧ ∀ k, K k → Tab.get regReset t.flds k = Tab.get regReset s.flds k

section
variable {K K' : Nat → Prop} {s t u : State}

theorem State.agrees.refl : s.agrees K s := ⟨rfl, fun _ _ => rfl⟩

theorem State.agrees.trans (h : s.agrees K t) (h' : t.agrees K u) : s.agrees K u :=
  ⟨h'.1.trans h.1, fun k hk => (h'.2 k hk).trans (h.2 k hk)⟩

theorem State.agrees.mono (h : s.agrees K t) (hK : ∀ k, K' k → K k) : s.agrees K' t :=
  ⟨h.1, fun k hk => h.2 k (hK k hk)⟩

theorem State.agrees.rd {a : Nat} {f : Fld} (h : s.agrees K t) (hk : K (key a f)) : t.rd a f = s.rd a f := h.2 _ hk

/-- An update of neither the core nor a register. -/
theorem State.agrees.other (h : s.agrees K t) (hc : u.core = t.core := by rfl) (hf : u.flds = t.flds := by rfl) : s.agrees K u :=
  ⟨hc.trans h.1, fun k hk => by rw [hf, h.2 k hk]⟩

theorem State.agrees.wr {a : Nat} {f : Fld} {v : Nat} (h : s.agrees K t) (hk : ¬ K (key a f)) : s.agrees K (t.wr a f v) :=
  ⟨h.1, fun _ hk' => (Tab.get_put_ne _ _ _ (by rintro rfl; exact hk hk')).trans (h.2 _ hk')⟩

theorem State.agrees.foldl {β : Type} {f : State → β → State} {l : List β} (h : s.agrees K t)
    (hf : ∀ u, ∀ x ∈ l, s.agrees K u → s.agrees K (f u x)) : s.agrees K (l.foldl f t) := by
  induction l generalizing t with
  | nil => exact h
  | cons x l ih => exact ih (hf t x (.head _) h) fun u y hy => hf u y (.tail _ hy)

theorem State.agrees.raise {e : Nat} (h : s.agrees K t) (hocc : ¬ K (key (evtA e) R.EVT_STAT.OCC))
    (hpend : ¬ K (key (evtA e) R.EVT_STAT.PENDING)) : s.agrees K (t.raise e) := by
  have hnote : s.agrees K ((t.xtEvent e).wakeNote e) := by
    unfold State.wakeNote
    split
    · exact h.other
    · exact h.other
  have hbump : s.agrees K (((t.xtEvent e).wakeNote e).bump (evtA e) R.EVT_STAT.OCC 1) := hnote.wr hocc
  unfold State.raise
  split
  · extract_lets
    split
    · exact .wr hbump.other hpend
    · exact hbump
  · exact h
end
end Sys2Proof.Machine

/-! ## Training of the bridges (R512, R517) -/

namespace Sys2Proof.Machine
open Sys2Proof

/-- The keys that the training of bridge `b` may write. -/
def State.trainKeys (s : State) (b k : Nat) : Prop :=
  s.bridgeOk b = true ∧ ((∃ p ∈ s.brgSides b, k = key (brgA p.1 p.2) R.BRG_STAT.STATE ∨ k = key (brgA p.1 p.2) R.BRG_STAT.IN_USE) ∨
    k = key (evtA (760 + b)) R.EVT_STAT.OCC ∨ k = key (evtA (760 + b)) R.EVT_STAT.PENDING)

/-- Bridge `b` can begin its training. -/
def State.trainReady (s : State) (b : Nat) : Prop :=
  s.deadBrg b = false ∧ ∀ p ∈ s.brgSides b, s.qReset p.1 = false ∧ s.brg p R.BRG_STAT.STATE ≠ 1

section
variable {s t : State} {b c : Nat} {K : Nat → Prop}

theorem State.agrees.brgSides (h : s.agrees K t) : t.brgSides b = s.brgSides b := by
  obtain ⟨hc, -⟩ := h
  simp only [State.core, Prod.mk.injEq] at hc
  unfold State.brgSides
  rw [hc.2.1]

theorem State.agrees.bridgeOk (h : s.agrees K t) : t.bridgeOk b = s.bridgeOk b := by
  obtain ⟨hc, -⟩ := h
  simp only [State.core, Prod.mk.injEq] at hc
  unfold State.bridgeOk
  rw [hc.2.1]

theorem State.agrees.setBrg {f : Fld} {v : Nat} (h : s.agrees K t) (hk : ∀ p ∈ s.brgSides b, ¬ K (key (brgA p.1 p.2) f)) :
    s.agrees K (t.setBrg b f v) := by
  unfold State.setBrg
  rw [h.brgSides]
  exact h.foldl fun u p hp hu => hu.wr (hk p hp)

theorem State.setBrg_rd_same {f : Fld} {v : Nat} {p : Nat × Nat} (hp : p ∈ s.brgSides b) :
    (s.setBrg b f v).brg p f = v % 2 ^ f.width := by
  have h : ∀ (l : List (Nat × Nat)) (t : State), p ∈ l ∨ t.brg p f = v % 2 ^ f.width →
      (l.foldl (fun s p => s.wr (brgA p.1 p.2) f v) t).brg p f = v % 2 ^ f.width := by
    intro l
    induction l with
    | nil => exact fun t ht => ht.resolve_left (List.not_mem_nil)
    | cons x l ih =>
      intro t ht
      refine ih _ ?_
      have hwr : (t.wr (brgA x.1 x.2) f v).brg p f = if key (brgA p.1 p.2) f = key (brgA x.1 x.2) f then v % 2 ^ f.width else t.brg p f :=
        State.rd_wr ..
      rw [hwr]
      obtain ht | ht := ht
      · obtain rfl | ht := List.mem_cons.mp ht
        · exact .inr (if_pos rfl)
        · exact .inl ht
      · exact .inr (by rw [ht, ite_self])
  exact h _ s (.inl hp)

theorem State.trainBridge_agrees : s.agrees (fun k => ¬ s.trainKeys b k) (s.trainBridge b) := by
  unfold State.trainBridge
  split
  case isFalse => exact .refl
  case isTrue h =>
    simp only [Bool.and_eq_true] at h
    obtain ⟨⟨hok, -⟩, -⟩ := h
    extract_lets use t
    have ht : s.agrees (fun k => ¬ s.trainKeys b k) t := State.agrees.refl.foldl fun u g _ hu => hu.other
    have hstate : s.agrees (fun k => ¬ s.trainKeys b k) ((t.setBrg b R.BRG_STAT.STATE 1).setBrg b R.BRG_STAT.IN_USE use) :=
      (ht.setBrg fun p hp hn => hn ⟨hok, .inl ⟨p, hp, .inl rfl⟩⟩).setBrg fun p hp hn => hn ⟨hok, .inl ⟨p, hp, .inr rfl⟩⟩
    unfold State.brgBecomes State.raiseIf
    extract_lets changed u
    have hu : u = t := if_neg (by rintro ⟨h | h, -⟩ <;> cases h)
    rw [hu]
    split
    · exact hstate.raise (fun hn => hn ⟨hok, .inr (.inl rfl)⟩) fun hn => hn ⟨hok, .inr (.inr rfl)⟩
    · exact hstate
end
end Sys2Proof.Machine

namespace Sys2Proof.Machine
open Sys2Proof

section
variable {s t : State} {b c : Nat} {p p' : Nat × Nat}

theorem State.brgSides_lt (hb : b < 4) (hp : p ∈ s.brgSides b) : p.1 < 4 ∧ p.2 < 2 := by
  unfold State.brgSides at hp
  split at hp
  · obtain rfl | rfl : p = (b, 0) ∨ p = ((b + 1) % 4, 1) := by simpa using hp
    · exact ⟨hb, Nat.two_pos⟩
    · exact ⟨Nat.mod_lt _ (by decide), Nat.one_lt_two⟩
  · obtain rfl | rfl : p = (0, 0) ∨ p = (2, 0) := by simpa using hp
    · decide
    · decide
  · cases hp

/-- No two bridges share a side. -/
theorem State.brgSides_ne (hb : b < 4) (hc : c < 4) (hbc : b ≠ c) (hokb : s.bridgeOk b = true) (hokc : s.bridgeOk c = true)
    (hp : p ∈ s.brgSides b) (hp' : p' ∈ s.brgSides c) : p ≠ p' := by
  unfold State.bridgeOk at hokb hokc
  unfold State.brgSides at hp hp'
  cases hpart : s.fuses.part with
  | abn9640 =>
    rw [hpart] at hp hp'
    rintro rfl
    simp only [List.mem_cons, List.not_mem_nil, or_false] at hp hp'
    obtain rfl | rfl := hp <;> simp at hp' <;> omega
  | abn9620 =>
    rw [hpart] at hokb hokc
    simp only [decide_eq_true_eq] at hokb hokc
    omega
  | abn9610 =>
    rw [hpart] at hokb
    cases hokb

theorem brgA_ne {f g : Fld} (hf : f.off < 0x100) (hg : g.off < 0x100) (hp : p.1 < 4 ∧ p.2 < 2) (hp' : p'.1 < 4 ∧ p'.2 < 2)
    (hfl : f.lo < 32) (hgl : g.lo < 32) (h : p ≠ p') : key (brgA p.1 p.2) f ≠ key (brgA p'.1 p'.2) g := by
  obtain ⟨q, k⟩ := p
  obtain ⟨q', k'⟩ := p'
  have hne : q ≠ q' ∨ k ≠ k' := by
    by_contra hn
    obtain ⟨hq, hk⟩ := not_or.mp hn
    exact h (Prod.ext (not_not.mp hq) (not_not.mp hk))
  unfold key brgA quadA
  dsimp only at hp hp' ⊢
  omega

theorem brgA_ne_evtA {e : Nat} {f g : Fld} (hf : f.lo < 32) (hg : g.lo < 32) (hgo : g.off < 0x10) (he : e < 1024) {q k : Nat} :
    key (brgA q k) f ≠ key (evtA e) g := by
  unfold key brgA evtA quadA
  omega

/-- The key of STATE on a side of a bridge is no key that the training of another one writes. -/
theorem State.state_not_trainKey (hb : b < 4) (hc : c < 4) (hbc : b ≠ c) (hok : s.bridgeOk b = true) (hp : p ∈ s.brgSides b) :
    ¬ s.trainKeys c (key (brgA p.1 p.2) R.BRG_STAT.STATE) := by
  rintro ⟨hokc, ⟨p', hp', h | h⟩ | h | h⟩
  · exact brgA_ne (by decide) (by decide) (s.brgSides_lt hb hp) (s.brgSides_lt hc hp') (by decide) (by decide)
      (s.brgSides_ne hb hc hbc hok hokc hp hp') h
  · exact brgA_ne (by decide) (by decide) (s.brgSides_lt hb hp) (s.brgSides_lt hc hp') (by decide) (by decide)
      (s.brgSides_ne hb hc hbc hok hokc hp hp') h
  · exact brgA_ne_evtA (by decide) (by decide) (by decide) (by omega) h
  · exact brgA_ne_evtA (by decide) (by decide) (by decide) (by omega) h

theorem State.trainBridge_state (hb : b < 4) (hok : s.bridgeOk b = true) (hr : s.trainReady b) (hp : p ∈ s.brgSides b) :
    (s.trainBridge b).brg p R.BRG_STAT.STATE = 1 := by
  obtain ⟨hdead, hside⟩ := hr
  have hcond : (s.bridgeOk b && !s.deadBrg b &&
      (s.brgSides b).all fun p => !s.qReset p.1 && decide (s.brg p R.BRG_STAT.STATE ≠ 1)) = true := by
    simp only [hok, hdead, Bool.not_false, Bool.and_self, Bool.true_and, List.all_eq_true, Bool.and_eq_true, Bool.not_eq_true',
      decide_eq_true_eq]
    exact hside
  unfold State.trainBridge
  rw [if_pos hcond]
  extract_lets use t
  have hsides : t.brgSides b = s.brgSides b :=
    State.agrees.brgSides (K := fun _ => False) (State.agrees.refl.foldl fun u g _ hu => hu.other)
  clear_value t
  unfold State.brgBecomes State.raiseIf
  extract_lets changed u
  have hu : u = t := if_neg (by rintro ⟨h | h, -⟩ <;> cases h)
  rw [hu]
  have hset : (t.setBrg b R.BRG_STAT.STATE 1).brg p R.BRG_STAT.STATE = 1 := State.setBrg_rd_same (hsides ▸ hp)
  have hkeep : ∀ v, (t.setBrg b R.BRG_STAT.STATE 1).agrees (fun k => k = key (brgA p.1 p.2) R.BRG_STAT.STATE)
      ((t.setBrg b R.BRG_STAT.STATE 1).setBrg b R.BRG_STAT.IN_USE v) := fun v =>
    State.agrees.refl.setBrg fun p' hp' h => by unfold key at h; dsimp only at h; omega
  split
  · exact (((hkeep use).raise (brgA_ne_evtA (by decide) (by decide) (by decide) (by omega)).symm
      (brgA_ne_evtA (by decide) (by decide) (by decide) (by omega)).symm).rd rfl).trans hset
  · exact ((hkeep use).rd rfl).trans hset
end
end Sys2Proof.Machine

namespace Sys2Proof.Machine
open Sys2Proof

section
variable {s t : State} {b c : Nat} {K : Nat → Prop} {l : List Nat}

theorem State.trainKeys_of_agrees (h : s.agrees K t) {k : Nat} : t.trainKeys b k ↔ s.trainKeys b k := by
  unfold State.trainKeys
  rw [h.bridgeOk, h.brgSides]

theorem State.trainBridges_agrees :
    s.agrees (fun k => ∀ b ∈ l, ¬ s.trainKeys b k) (l.foldl (fun s b => s.trainBridge b) s) :=
  State.agrees.refl.foldl fun _ c hc hu =>
    hu.trans (State.trainBridge_agrees.mono fun _ hk => (State.trainKeys_of_agrees hu).not.mpr (hk c hc))

/-- The training of another bridge leaves a bridge ready. -/
theorem State.trainReady_trainBridge (hb : b < 4) (hc : c < 4) (hbc : b ≠ c) (hok : s.bridgeOk b = true) (h : s.trainReady b) :
    (s.trainBridge c).trainReady b := by
  have ha : s.agrees (fun k => ¬ s.trainKeys c k) (s.trainBridge c) := State.trainBridge_agrees
  have hcore := ha.1
  simp only [State.core, Prod.mk.injEq] at hcore
  obtain ⟨-, -, -, -, -, -, -, -, hreset, hdead⟩ := hcore
  obtain ⟨hd, hside⟩ := h
  refine ⟨?_, fun p hp => ?_⟩
  · unfold State.deadBrg at hd ⊢
    rw [hdead, hd]
  · rw [ha.brgSides] at hp
    obtain ⟨hr, hs⟩ := hside p hp
    refine ⟨?_, ?_⟩
    · unfold State.qReset at hr ⊢
      rw [hreset, hr]
    · exact fun h1 => hs ((ha.rd (State.state_not_trainKey hb hc hbc hok hp)).symm.trans h1)

theorem State.trainBridges_state (hl : l.Nodup) (hlt : ∀ b ∈ l, b < 4) (hr : ∀ b ∈ l, s.bridgeOk b = true → s.trainReady b)
    (hb : b ∈ l) (hok : s.bridgeOk b = true) {p : Nat × Nat} (hp : p ∈ s.brgSides b) :
    (l.foldl (fun s b => s.trainBridge b) s).brg p R.BRG_STAT.STATE = 1 := by
  induction l generalizing s with
  | nil => cases hb
  | cons c l ih =>
    obtain ⟨hcl, hl⟩ := List.nodup_cons.mp hl
    have ha : s.agrees (fun k => ¬ s.trainKeys c k) (s.trainBridge c) := State.trainBridge_agrees
    rw [List.foldl_cons]
    obtain rfl | hb' := List.mem_cons.mp hb
    · refine (State.trainBridges_agrees.rd fun c' hc' => ?_).trans (State.trainBridge_state (hlt b hb) hok (hr b hb hok) hp)
      have hne : b ≠ c' := by
        rintro rfl
        exact hcl hc'
      exact State.state_not_trainKey (hlt b hb) (hlt c' (.tail _ hc')) hne (ha.bridgeOk.trans hok) (ha.brgSides ▸ hp)
    · refine ih hl (fun x hx => hlt x (.tail _ hx)) (fun x hx hokx => ?_) hb' (ha.bridgeOk.trans hok) (ha.brgSides ▸ hp)
      have hne : x ≠ c := by
        rintro rfl
        exact hcl hx
      have hokx' := ha.bridgeOk.symm.trans hokx
      exact State.trainReady_trainBridge (hlt x (.tail _ hx)) (hlt c (.head _)) hne hokx' (hr x (.tail _ hx) hokx')

/-- Keys that no training writes: registers of the bays, and of Q0 other than its events and bridges. -/
theorem State.not_trainKey_of_lt {k : Nat} (hb : b < 4) (hk : k < evtA 0 * 32) : ¬ s.trainKeys b k := by
  unfold evtA quadA at hk
  rintro ⟨-, ⟨p, -, rfl | rfl⟩ | rfl | rfl⟩
  all_goals
    simp only [key, brgA, evtA, quadA] at hk
    omega

theorem State.trainAll_agrees : s.agrees (fun k => k < evtA 0 * 32) s.trainAll :=
  State.trainBridges_agrees.mono fun _ hk _ hb => State.not_trainKey_of_lt (List.mem_range.mp hb) hk

theorem State.trainAll_state (hr : ∀ b < 4, s.bridgeOk b = true → s.trainReady b) (hb : b < 4) (hok : s.bridgeOk b = true)
    {p : Nat × Nat} (hp : p ∈ s.brgSides b) : s.trainAll.brg p R.BRG_STAT.STATE = 1 :=
  State.trainBridges_state List.nodup_range (fun _ h => List.mem_range.mp h) (fun c hc => hr c (List.mem_range.mp hc))
    (List.mem_range.mpr hb) hok hp
end
end Sys2Proof.Machine

/-! ## The power-on reset and what follows it (R17, R43, R419, R454) -/

namespace Sys2Proof.Machine
open Sys2Proof

section
variable {s t u : State} {k : Nat} {K : Nat → Prop}

theorem State.powerOnReset_core :
    s.powerOnReset.core = (s.pending, s.fuses, [], [], 0, s.power.on, false, 0, [], []) := rfl

/-- A field of the supply's domain stands, any other reads its reset value; LEVEL of the debug block follows the fuses. -/
theorem State.powerOnReset_get (hk : k ≠ key (dbgA 0) R.DBG_LEVEL.LEVEL) :
    Tab.get regReset s.powerOnReset.flds k = if keyDom k = .vin then Tab.get regReset s.flds k else regReset k := by
  have hdrop : Tab.get regReset (Tab.drop (fun k => decide (keyDom k ≠ Dom.vin)) s.flds) k =
      if keyDom k = .vin then Tab.get regReset s.flds k else regReset k := by
    rw [Tab.get_drop]
    by_cases h : keyDom k = .vin <;> simp [h]
  exact (Tab.get_put_ne _ _ _ hk).trans hdrop

theorem key_dbgLevel_lo : winA 128 * 32 ≤ key (dbgA 0) R.DBG_LEVEL.LEVEL := by decide

theorem State.powerOnReset_baysFresh : s.powerOnReset.baysFresh := fun k hlo hhi => by
  have := key_dbgLevel_lo
  rw [State.powerOnReset_get (by omega), if_neg (keyDom_bay hlo hhi)]

theorem State.powerOnReset_cfgState : s.powerOnReset.cfgState = 0 := by
  have hdom : keyDom (key (cfgA 0) R.CFG_STAT.STATE) = .device :=
    keyDom_key (by decide) (locate_cfg (q := 0) (by decide) (by decide))
  refine (State.powerOnReset_get (by decide)).trans ?_
  rw [if_neg (by rw [hdom]; exact nofun)]
  exact regReset_key (f := R.CFG_STAT.STATE) (by decide) (locate_cfg (q := 0) (by decide) (by decide))

theorem State.powerOnReset_brg {q i : Nat} (hq : q < 4) (hi : i < 2) : s.powerOnReset.brg (q, i) R.BRG_STAT.STATE = 0 := by
  have hloc : locate (brgA q i + R.BRG_STAT.STATE.off) = some (q, .brg, i, 4) := locate_brg hq hi (by decide)
  have hdom : keyDom (key (brgA q i) R.BRG_STAT.STATE) = .quadrant := keyDom_key (by decide) hloc
  have hne : key (brgA q i) R.BRG_STAT.STATE ≠ key (dbgA 0) R.DBG_LEVEL.LEVEL := by
    simp only [key, brgA, dbgA, quadA]
    omega
  refine (State.powerOnReset_get hne).trans ?_
  rw [if_neg (by rw [hdom]; exact nofun)]
  exact regReset_key (by decide) hloc

theorem key_sticky_lt {g : Fld} (hg : g ∈ stickies) : key (pwrA 0) g < evtA 0 * 32 := by
  revert g
  decide

theorem State.powerOnReset_sticky {g : Fld} (hg : g ∈ stickies) : s.powerOnReset.rd (pwrA 0) g = s.rd (pwrA 0) g := by
  have hne : key (pwrA 0) g ≠ key (dbgA 0) R.DBG_LEVEL.LEVEL := by
    revert g
    decide
  refine (State.powerOnReset_get hne).trans ?_
  rw [keyDom_sticky hg, if_pos rfl]
  rfl

theorem State.powerOnReset_ready {b : Nat} (hb : b < 4) : s.powerOnReset.trainReady b :=
  ⟨rfl, fun p hp => ⟨rfl, by
    obtain ⟨hq, hk⟩ := State.brgSides_lt hb hp
    rw [State.powerOnReset_brg hq hk]
    decide⟩⟩

/-- The keys of the registers that show that the power-on steps have begun. -/
def startKey (k : Nat) : Prop :=
  k < winA 128 * 32 ∨ k = key (cfgA 0) R.CFG_STAT.STATE ∨ ∃ q i, k = key (brgA q i) R.BRG_STAT.STATE

/-- A state that differs from the one at the beginning of the power-on steps in other registers only stands there too. -/
theorem State.restarts_of_agrees (hon : s.power.on = true) (h : s.startUp.agrees startKey t) : s.restarts t := by
  have htrain : s.powerOnReset.agrees (fun k => k < evtA 0 * 32) s.startUp := State.trainAll_agrees
  have hcore : t.core = s.powerOnReset.core := h.1.trans htrain.1
  rw [State.powerOnReset_core] at hcore
  simp only [State.core, Prod.mk.injEq] at hcore
  obtain ⟨hpend, hfuse, hmem, hrows, hcount, hpow, hsteps, hdev, -, -⟩ := hcore
  refine ⟨hpend, hfuse, hpow.trans hon, hsteps, hdev, hmem, hrows, hcount, ?_, fun k hlo hhi => ?_, fun b hb hok p hp => ?_⟩
  · exact (h.rd (.inr (.inl rfl))).trans ((htrain.rd (by decide)).trans State.powerOnReset_cfgState)
  · exact (h.2 k (.inl hhi)).trans ((htrain.2 k (hhi.trans (by decide))).trans (State.powerOnReset_baysFresh k hlo hhi))
  · exact (h.rd (.inr (.inr ⟨p.1, p.2, rfl⟩))).trans
      (State.trainAll_state (fun c hc _ => State.powerOnReset_ready hc) hb hok hp)

/-! ## The sticky power record -/

theorem stickies_key_inj : ∀ f ∈ stickies, ∀ g ∈ stickies, key 0 f = key 0 g → f = g := by decide

theorem State.sticky_rd {f g : Fld} (hf : f ∈ stickies) (hg : g ∈ stickies) :
    (s.sticky f).rd (pwrA 0) g = if g = f then 1 else s.rd (pwrA 0) g := by
  obtain ⟨-, -, hw⟩ := stickies_place f hf
  unfold State.sticky
  by_cases h : g = f
  · rw [h, if_pos rfl, State.rd_wr_same, hw]
    rfl
  · rw [if_neg h, State.rd_wr_ne _ _ (key_ne _ fun he => h (stickies_key_inj g hg f hf he))]

theorem sticky_not_startKey {f : Fld} (hf : f ∈ stickies) : ¬ startKey (key (pwrA 0) f) := by
  obtain ⟨hoff, hlo, -⟩ := stickies_place f hf
  rintro (h | h | ⟨q, i, h⟩)
  · simp only [key, pwrA, quadA, winA] at h
    omega
  · simp only [key, pwrA, cfgA] at h
    omega
  · simp only [key, pwrA, brgA, quadA] at h
    omega

theorem State.keepsRecord_of_rd (h : ∀ g ∈ stickies, t.rd (pwrA 0) g = s.rd (pwrA 0) g) : s.keepsRecord t [] :=
  fun g hg => (h g hg).trans (if_neg (List.not_mem_nil)).symm

theorem State.keepsRecord_sticky {f : Fld} {fs : List Fld} (hf : f ∈ stickies) (h : s.keepsRecord t fs) :
    s.keepsRecord (t.sticky f) (fs ++ [f]) := by
  intro g hg
  rw [State.sticky_rd hf hg, h g hg]
  by_cases hgf : g = f <;> simp [hgf]

theorem State.powerOnReset_keepsRecord : s.keepsRecord s.powerOnReset [] :=
  State.keepsRecord_of_rd fun _ => State.powerOnReset_sticky

theorem State.startUp_keepsRecord : s.keepsRecord s.startUp [] :=
  State.keepsRecord_of_rd fun _ hg =>
    ((State.trainAll_agrees (s := s.powerOnReset)).rd (key_sticky_lt hg)).trans (State.powerOnReset_sticky hg)

/-- The power-on steps begin, and the record gains a bit. -/
theorem State.startUp_sticky {f : Fld} (hf : f ∈ stickies) (hon : s.power.on = true) :
    s.restarts (s.startUp.sticky f) ∧ s.keepsRecord (s.startUp.sticky f) [f] :=
  ⟨State.restarts_of_agrees hon (State.agrees.refl.wr (sticky_not_startKey hf)),
    State.keepsRecord_sticky hf State.startUp_keepsRecord⟩
end
end Sys2Proof.Machine

/-! ## The end of the power-on steps (R131, R421) -/

namespace Sys2Proof.Machine
open Sys2Proof

section
variable {s t : State} {b c q l : Nat}

/-- A bay in RESET goes to HOLD. -/
def State.holdBay (s : State) (c : Nat) : State :=
  if s.bayState c = 2 then s.wr (bayA c) R.BAY_STATE.STATE 3 else s

theorem State.quadUp_eq : s.quadUp q = ((List.range 32).foldl (fun s k => s.holdBay (32 * q + k)) s).showRef q := rfl

theorem bayA_ne {f g : Fld} (hf : f.lo < 32) (hg : g.lo < 32) (hfo : f.off = g.off) (h : c ≠ b) : key (bayA b) f ≠ key (bayA c) g := by
  unfold key bayA winA
  omega

theorem bayA_ne_cfg {f g : Fld} (hf : f.lo < 32) (hg : g.lo < 32) (hfo : f.off < 0x100) (hgo : g.off < 0x100) :
    key (bayA b) f ≠ key (cfgA 0) g := by
  unfold key bayA winA cfgA quadA
  omega

theorem State.holdBay_bayState : (s.holdBay c).bayState b = if c = b ∧ s.bayState b = 2 then 3 else s.bayState b := by
  unfold State.holdBay
  by_cases hcb : c = b
  · subst hcb
    simp only [true_and]
    split
    · exact State.rd_wr_same ..
    · rfl
  · simp only [hcb, false_and, if_false]
    split
    · exact State.rd_wr_ne _ _ (bayA_ne (by decide) (by decide) rfl hcb)
    · rfl

/-- Steps each of which brings certain bays from RESET to HOLD, taken one after another. -/
theorem foldl_bayState {β : Type} {f : State → β → State} {hit : β → Prop} [DecidablePred hit] {xs : List β}
    (hf : ∀ t x, (f t x).bayState b = if hit x ∧ t.bayState b = 2 then 3 else t.bayState b) :
    (xs.foldl f s).bayState b = if (∃ x ∈ xs, hit x) ∧ s.bayState b = 2 then 3 else s.bayState b := by
  induction xs generalizing s with
  | nil => simp
  | cons x xs ih =>
    rw [List.foldl_cons, ih, hf]
    by_cases hx : hit x <;> by_cases h2 : s.bayState b = 2 <;> simp [hx, h2]

theorem lnA_low : 0xD000700000 ≤ lnA l := by
  unfold lnA
  split
  · unfold pamA quadA
    omega
  · unfold nrzA quadA
    omega

theorem bayA_ne_lane {f g : Fld} (hb : b < 128) (hf : f.lo < 32) (hg : g.lo < 32) (hfo : f.off < 0x100) :
    key (bayA b) f ≠ key (lnA l) g := by
  have := lnA_low (l := l)
  unfold key bayA winA
  omega

theorem lnA_ne_cfg : lnA l + 8 ≠ cfgA 0 + 0x10 := by
  unfold lnA
  split
  · unfold pamA cfgA quadA
    omega
  · unfold nrzA cfgA quadA
    omega

theorem State.showRef_bayState (hb : b < 128) : (s.showRef q).bayState b = s.bayState b := by
  unfold State.showRef
  refine List.foldlRecOn (motive := fun t : State => t.bayState b = s.bayState b) _ _ rfl fun t ht l _ => ?_
  exact (State.rd_wr_ne _ _ (bayA_ne_lane hb (by decide) (by decide) (by decide))).trans ht

theorem State.quadUp_bayState (hb : b < 128) :
    (s.quadUp q).bayState b = if b / 32 = q ∧ s.bayState b = 2 then 3 else s.bayState b := by
  have hq : (∃ k ∈ List.range 32, 32 * q + k = b) ↔ b / 32 = q := by
    simp only [List.mem_range]
    constructor
    · rintro ⟨k, hk, rfl⟩
      omega
    · rintro rfl
      exact ⟨b % 32, by omega, by omega⟩
  rw [State.quadUp_eq, State.showRef_bayState hb,
    foldl_bayState (hit := fun k => 32 * q + k = b) fun t k => State.holdBay_bayState]
  simp only [hq]

theorem State.quadsUp_bayState (hb : b < 128) {qs : List Nat} (hq : b / 32 ∈ qs) :
    (qs.foldl (fun s q => s.quadUp q) s).bayState b = if s.bayState b = 2 then 3 else s.bayState b := by
  rw [foldl_bayState (hit := fun q => b / 32 = q) fun t q => State.quadUp_bayState hb]
  have hmem : ∃ q ∈ qs, b / 32 = q := ⟨_, hq, rfl⟩
  simp only [hmem, true_and]

/-- The release of quadrants changes registers of bays and lanes alone. -/
def State.keptUp (s t : State) : Prop := t.power = s.power ∧ t.mem = s.mem ∧ t.fuses = s.fuses ∧ t.cfgState = s.cfgState

theorem State.keptUp.wr {a v : Nat} {f : Fld} (hne : key (cfgA 0) R.CFG_STAT.STATE ≠ key a f) (h : s.keptUp t) : s.keptUp (t.wr a f v) := by
  obtain ⟨hp, hm, hf, hc⟩ := h
  exact ⟨hp, hm, hf, (State.rd_wr_ne _ _ hne).trans hc⟩

theorem State.keptUp.holdBay (h : s.keptUp t) : s.keptUp (t.holdBay c) := by
  unfold State.holdBay
  split
  · exact h.wr (bayA_ne_cfg (by decide) (by decide) (by decide) (by decide)).symm
  · exact h

theorem State.keptUp.showRef (h : s.keptUp t) : s.keptUp (t.showRef q) := by
  unfold State.showRef
  refine List.foldlRecOn (motive := s.keptUp) _ _ h fun u hu l _ => hu.wr ?_
  have := lnA_ne_cfg (l := l)
  simp only [key]
  omega

theorem State.keptUp.quadUp (h : s.keptUp t) : s.keptUp (t.quadUp q) :=
  (List.foldlRecOn (motive := s.keptUp) _ _ h fun _ hu _ _ => hu.holdBay).showRef

theorem State.keptUp_quadsUp {qs : List Nat} : s.keptUp (qs.foldl (fun s q => s.quadUp q) s) :=
  List.foldlRecOn (motive := s.keptUp) _ _ ⟨rfl, rfl, rfl, rfl⟩ fun _ hu _ _ => hu.quadUp

theorem State.oneClass_congr (h : t.fuses = s.fuses) : t.oneClass = s.oneClass := by
  unfold State.oneClass State.quads State.quadOk
  rw [h]

theorem State.classHalt_of_oneClass (h : s.oneClass = true) : s.classHalt = s := by
  unfold State.classHalt
  rw [if_pos h]

theorem State.classHalt_mixed (h : s.oneClass = false) : s.classHalt = ((s.setCfgState 9).wr (cfgA 0) R.CFG_STAT.ERR 6).errLine true := by
  unfold State.classHalt
  rw [h, if_neg Bool.false_ne_true]

theorem State.classHalt_power : s.classHalt.power = s.power := by
  unfold State.classHalt
  split <;> rfl

theorem State.classHalt_mem : s.classHalt.mem = s.mem := by
  unfold State.classHalt
  split <;> rfl

theorem State.errLine_rd_ne {a : Nat} {f : Fld} {low : Bool} (h : key a f ≠ key (cfgA 0) R.CFG_STAT.ERR_IN) :
    (s.errLine low).rd a f = s.rd a f :=
  State.rd_wr_ne (s.modLoad fun v => { v with errLow := low }) _ h

theorem State.classHalt_bayState : s.classHalt.bayState b = s.bayState b := by
  have hne : ∀ f : Fld, f.lo < 32 → f.off < 0x100 → key (bayA b) R.BAY_STATE.STATE ≠ key (cfgA 0) f := fun f hf ho =>
    bayA_ne_cfg (by decide) hf (by decide) ho
  unfold State.classHalt
  split
  · rfl
  · exact (State.errLine_rd_ne (hne _ (by decide) (by decide))).trans
      ((State.rd_wr_ne _ _ (hne R.CFG_STAT.ERR (by decide) (by decide))).trans
        (State.rd_wr_ne _ _ (hne R.CFG_STAT.STATE (by decide) (by decide))))

theorem State.classHalt_cfg (h : s.oneClass = false) :
    s.classHalt.cfgState = 9 ∧ s.classHalt.rd (cfgA 0) R.CFG_STAT.ERR = 6 := by
  rw [State.classHalt_mixed h]
  have herr : key (cfgA 0) R.CFG_STAT.STATE ≠ key (cfgA 0) R.CFG_STAT.ERR := by decide
  exact ⟨(State.errLine_rd_ne (by decide)).trans ((State.rd_wr_ne _ _ herr).trans (State.rd_wr_same ..)),
    (State.errLine_rd_ne (by decide)).trans (State.rd_wr_same ..)⟩
end
end Sys2Proof.Machine

/-! ## The supply events -/

namespace Sys2Proof.Machine
open Sys2Proof

section
variable {s : State}

theorem vinStart_starts (hdev : s.power.dev ≠ 4) (h : s.power.on = false ∨ s.power.stepsDone = false) :
    ∃ t, exec .vinStart s = .next t ∧ s.restarts t ∧ s.keepsRecord t [] := by
  refine ⟨_, congrArg Host.Outcome.next (if_pos ⟨hdev, h⟩), ?_, ?_⟩
  · exact State.restarts_of_agrees (s := { s with power := { s.power with on := true } }) rfl .refl
  · exact State.startUp_keepsRecord (s := { s with power := { s.power with on := true } })

theorem vinStart_ignored (h : s.power.dev = 4 ∨ (s.power.on = true ∧ s.power.stepsDone = true)) : exec .vinStart s = .next s := by
  refine congrArg Host.Outcome.next (if_neg ?_)
  rintro ⟨hdev, hstart⟩
  obtain h | ⟨hon, hdone⟩ := h
  · exact hdev h
  · simp [hon, hdone] at hstart

/-- The supplies' faults begin the power-on steps of a running device. -/
theorem supplyFault_starts {i : Instr} {f : Fld}
    (hi : (i, f) ∈ [(Instr.ibusUndervoltage, R.PWR_STICKY.IBUS_UV), (.regFault, R.PWR_STICKY.REG_FAULT), (.sbOvercurrent, R.PWR_STICKY.SB_OVERCURRENT)])
    (hon : s.power.on = true) (hdev : s.power.dev = 0) : ∃ t, exec i s = .next t ∧ s.restarts t ∧ s.keepsRecord t [f] := by
  have hrun : (s.power.on && decide (s.power.dev = 0)) = true := by simp [hon, hdev]
  have hbus : (s.power.on && decide (s.power.dev ≠ 4)) = true := by simp [hon, hdev]
  simp only [List.mem_cons, Prod.mk.injEq, List.not_mem_nil, or_false] at hi
  obtain ⟨rfl, rfl⟩ | ⟨rfl, rfl⟩ | ⟨rfl, rfl⟩ := hi
  · exact ⟨_, congrArg Host.Outcome.next (if_pos hrun), State.startUp_sticky (by decide) hon⟩
  · exact ⟨_, congrArg Host.Outcome.next (if_pos hbus), State.startUp_sticky (by decide) hon⟩
  · exact ⟨_, congrArg Host.Outcome.next (if_pos hbus), State.startUp_sticky (by decide) hon⟩

theorem brownout_ends (hon : s.power.on = true) :
    ∃ t, exec .brownout s = .next t ∧ t.power.on = false ∧ t.mem = [] ∧ t.rows = [] ∧ t.counter = 0 ∧
      t.fuses = s.fuses ∧ t.pending = s.pending ∧ s.keepsRecord t [R.PWR_STICKY.BROWNOUT] :=
  ⟨_, congrArg Host.Outcome.next (if_pos hon), rfl, rfl, rfl, rfl, rfl, rfl,
    State.keepsRecord_sticky (f := R.PWR_STICKY.BROWNOUT) (fs := []) (by decide) State.powerOnReset_keepsRecord⟩

theorem supply_ignored (hoff : s.power.on = false) {i : Instr}
    (hi : i ∈ [Instr.brownout, .ibusUndervoltage, .regFault, .sbOvercurrent, .thermalShutdown, .powerOnStepsDone]) : exec i s = .next s := by
  have hand : ∀ b : Bool, ¬ ((s.power.on && b) = true) := by simp [hoff]
  simp only [List.mem_cons, List.not_mem_nil, or_false] at hi
  obtain rfl | rfl | rfl | rfl | rfl | rfl := hi
  · exact congrArg Host.Outcome.next (if_neg (by simp [hoff]))
  · exact congrArg Host.Outcome.next (if_neg (hand _))
  · exact congrArg Host.Outcome.next (if_neg (hand _))
  · exact congrArg Host.Outcome.next (if_neg (hand _))
  · exact congrArg Host.Outcome.next (if_neg (hand _))
  · exact congrArg Host.Outcome.next (if_neg (by simp [hoff]))

theorem stickies_reset : ∀ g ∈ stickies, resetOf .power 0 0 g.lo = if g = R.PWR_STICKY.VIN_FRESH then 1 else 0 := by decide

theorem regReset_sticky {g : Fld} (hg : g ∈ stickies) : regReset (key (pwrA 0) g) = if g = R.PWR_STICKY.VIN_FRESH then 1 else 0 := by
  obtain ⟨hoff, hlo, -⟩ := stickies_place g hg
  rw [regReset_key hlo (by rw [hoff]; exact locate_pwr), stickies_reset g hg]

theorem recordLoss_keeps : ∃ t, exec .recordLoss s = .next t ∧ t = { s with flds := t.flds } ∧
    (∀ k, keyDom k ≠ .vin → Tab.get regReset t.flds k = Tab.get regReset s.flds k) ∧
    ∀ g, g ∈ stickies → t.rd (pwrA 0) g = if g = R.PWR_STICKY.VIN_FRESH then 1 else 0 := by
  have hget : ∀ k, Tab.get regReset (Tab.drop (fun k => decide (keyDom k = Dom.vin)) s.flds) k =
      if keyDom k = .vin then regReset k else Tab.get regReset s.flds k := fun k => by
    rw [Tab.get_drop]
    simp only [decide_eq_true_eq]
  refine ⟨{ s with flds := Tab.drop (fun k => decide (keyDom k = Dom.vin)) s.flds }, rfl, rfl, fun k hk => ?_, fun g hg => ?_⟩
  · rw [hget, if_neg hk]
  · refine (hget (key (pwrA 0) g)).trans ?_
    rw [if_pos (keyDom_sticky hg), regReset_sticky hg]

theorem State.enterS4_keepsRecord {thermal : Bool} : s.keepsRecord (s.enterS4 thermal) [] := State.powerOnReset_keepsRecord

theorem thermalShutdown_enters {again : Bool} (hagain : again = (s.power.thermal && decide (s.counter < 60000000000))) (hon : s.power.on = true)
    (hdev : s.power.dev ≠ 4) : ∃ t, exec .thermalShutdown s = .next t ∧ t.power.dev = 4 ∧ t.power.on = true ∧ t.power.thermal = !again ∧
      t.mem = [] ∧ t.rows = [] ∧
      s.keepsRecord t (if again then [R.PWR_STICKY.THERM_SHUTDOWN, R.PWR_STICKY.THERM_REPEAT] else [R.PWR_STICKY.THERM_SHUTDOWN]) := by
  have hrun : (s.power.on && decide (s.power.dev ≠ 4)) = true := by simp [hon, hdev]
  have hone : s.keepsRecord ((s.enterS4 (!again)).sticky R.PWR_STICKY.THERM_SHUTDOWN) [R.PWR_STICKY.THERM_SHUTDOWN] :=
    State.keepsRecord_sticky (fs := []) (by decide) State.enterS4_keepsRecord
  have hexec : exec .thermalShutdown s = .next (if again then
      ((s.enterS4 (!again)).sticky R.PWR_STICKY.THERM_SHUTDOWN).sticky R.PWR_STICKY.THERM_REPEAT
      else (s.enterS4 (!again)).sticky R.PWR_STICKY.THERM_SHUTDOWN) := by
    rw [hagain]
    exact congrArg Host.Outcome.next (if_pos hrun)
  refine ⟨_, hexec, ?_⟩
  cases again with
  | false => exact ⟨rfl, hon, rfl, rfl, rfl, hone⟩
  | true => exact ⟨rfl, hon, rfl, rfl, rfl, State.keepsRecord_sticky (by decide) hone⟩

theorem thermalRestart_starts (hon : s.power.on = true) (hdev : s.power.dev = 4) (hcool : s.power.thermal = true) :
    ∃ t, exec .thermalRestart s = .next t ∧ s.restarts t ∧ s.keepsRecord t [] ∧ t.power.thermal = true := by
  have hcold : (s.power.on && decide (s.power.dev = 4) && s.power.thermal) = true := by simp [hon, hdev, hcool]
  refine ⟨{ s.startUp with power := { s.startUp.power with thermal := true } }, congrArg Host.Outcome.next (if_pos hcold), ?_, ?_, rfl⟩
  · exact State.restarts_of_agrees hon State.agrees.refl.other
  · exact State.startUp_keepsRecord

theorem thermalRestart_ignored (h : s.power.dev ≠ 4 ∨ s.power.thermal = false) : exec .thermalRestart s = .next s := by
  refine congrArg Host.Outcome.next (if_neg ?_)
  obtain h | h := h <;> simp [h]

theorem powerOnSteps_training (h : ∃ b p, b < 4 ∧ p ∈ s.brgSides b ∧ s.brg p R.BRG_STAT.STATE = 1) : exec .powerOnStepsDone s = .next s := by
  obtain ⟨b, p, hb, hp, htrain⟩ := h
  refine congrArg Host.Outcome.next (if_neg fun hall => ?_)
  simp only [Bool.and_eq_true, List.all_eq_true, List.mem_range, decide_eq_true_eq] at hall
  obtain ⟨-, hleft⟩ := hall
  exact hleft b hb p hp htrain

theorem State.mem_quads_of_bayHere {b : Nat} (h : s.bayHere b = true) : b < 128 ∧ b / 32 ∈ s.quads := by
  simp only [State.bayHere, Bool.and_eq_true, decide_eq_true_eq] at h
  obtain ⟨hb, hq⟩ := h
  have hmem : b / 32 ∈ [0, 1, 2, 3] := by
    simp only [List.mem_cons, List.not_mem_nil, or_false]
    omega
  exact ⟨hb, List.mem_filter.mpr ⟨hmem, hq⟩⟩

/-- The state in which the power-on steps end. -/
def State.stepsEnd (s : State) : State :=
  let s := { s with power := { s.power with stepsDone := true } }
  (s.quads.foldl (fun s q => s.quadUp q) s).classHalt

theorem powerOnStepsDone_exec (hon : s.power.on = true) (hsteps : s.power.stepsDone = false)
    (h : ∀ b, b < 4 → ∀ p, p ∈ s.brgSides b → s.brg p R.BRG_STAT.STATE ≠ 1) : exec .powerOnStepsDone s = .next s.stepsEnd := by
  refine congrArg Host.Outcome.next (if_pos ?_)
  simp only [Bool.and_eq_true, List.all_eq_true, List.mem_range, decide_eq_true_eq, Bool.not_eq_true']
  exact ⟨⟨hon, hsteps⟩, h⟩

theorem State.stepsEnd_eq : s.stepsEnd.mem = s.mem ∧ s.stepsEnd.power = { s.power with stepsDone := true } ∧
    (∀ b, s.bayHere b = true → s.stepsEnd.bayState b = if s.bayState b = 2 then 3 else s.bayState b) ∧
    (s.oneClass = true → s.stepsEnd.cfgState = s.cfgState) ∧
    (s.oneClass = false → s.stepsEnd.cfgState = 9 ∧ s.stepsEnd.rd (cfgA 0) R.CFG_STAT.ERR = 6) := by
  obtain ⟨hpower, hmem, hfuses, hcfg⟩ : State.keptUp { s with power := { s.power with stepsDone := true } } _ := State.keptUp_quadsUp (qs := s.quads)
  have hclass := (State.oneClass_congr hfuses).trans (State.oneClass_congr (s := s) rfl)
  refine ⟨State.classHalt_mem.trans hmem, State.classHalt_power.trans hpower, fun b hb => ?_, fun h => ?_, fun h => ?_⟩
  · obtain ⟨hlt, hq⟩ := State.mem_quads_of_bayHere hb
    exact State.classHalt_bayState.trans (State.quadsUp_bayState hlt hq)
  · exact (congrArg State.cfgState (State.classHalt_of_oneClass (hclass.trans h))).trans hcfg
  · exact State.classHalt_cfg (hclass.trans h)
end
end Sys2Proof.Machine

namespace Sys2Proof
open Machine

/-- Settles O49, event by event: what begins the power-on steps is a power-on reset and the training of the bridges, and the sticky record is of
the only domain that the reset leaves standing. -/
theorem suppliesAndStartUp : Obligations.SuppliesAndStartUp := by
  unfold Obligations.SuppliesAndStartUp
  intro s
  refine ⟨fun _ _ => supplyFault_starts, vinStart_starts, vinStart_ignored, brownout_ends, fun hoff _ => supply_ignored hoff, recordLoss_keeps,
    fun _ => thermalShutdown_enters, thermalRestart_starts, thermalRestart_ignored, fun hon hsteps => ⟨powerOnSteps_training, fun h => ?_⟩⟩
  exact ⟨_, powerOnStepsDone_exec hon hsteps h, State.stepsEnd_eq⟩

end Sys2Proof

/-! # Resets of the device and of a quadrant: a repeated SEQ (R42, R44, R388, R405) -/

namespace Sys2Proof.Machine
open Sys2Proof

section
variable {s : State} {o : Origin} {h : ClHead} {op : ClOp} {raw : Bytes} {k : Kept}

/-- Whether a kept answer is sent again for a request of origin `o` with header `h` (R405): the Ethernet address of a UDP client is no part of its
origin there. -/
def State.repeats (s : State) (o : Origin) (h : ClHead) (k : Kept) : Bool :=
  decide (originKey k.origin = originKey o ∧ k.seq = h.seq ∧ s.counter ≤ k.at_ + 1000000000)

/-- A request whose SEQ its client has just used is not carried out: its kept answer is sent again. -/
theorem State.clRequest_of_repeated (hserved : s.served o h = true) (hdst : h.dst ≠ 0xFFFF)
    (hk : s.agent.kept.find? (s.repeats o h) = some k) : s.clRequest o h op raw = s.transmit o k.bytes := by
  have hfind : (if h.dst = 0xFFFF then none else s.agent.kept.find? (s.repeats o h)) = some k := by rw [if_neg hdst, hk]
  unfold State.repeats at hfind
  unfold State.clRequest
  rw [if_pos hserved, hfind]

/-- The device runs, and its agent has at counter 0 answered SEQ 0 of the UDP client at port 0 of address 0 on MAC 0, whose Ethernet address was 0. -/
def answered : State :=
  { State.reset with
    power := { PowerSt.init with stepsDone := true }
    agent := { AgentSt.init with udpMac := 0, kept := [⟨.udp 0 0 0 0, 0, 0, []⟩] } }

/-- The header of a request with SEQ 0 outside every session. -/
def seqZero : ClHead := ⟨0, 0, 0, 0, false, 0⟩

/-- The same client, now at Ethernet address 1. -/
def movedClient : Origin := .udp 0 0 0 1

theorem answered_hears : answered.hears movedClient seqZero := by
  refine ⟨by decide, by decide, rfl, by decide, fun k hk horigin => ?_⟩
  obtain rfl : k = ⟨.udp 0 0 0 0, 0, 0, []⟩ := by simpa [answered] using hk
  exact absurd horigin (by decide)

/-- The agent takes the request of the moved client for a repetition: it sends the kept answer and does nothing else. -/
theorem answered_clRequest : answered.clRequest movedClient seqZero op raw = answered.transmit movedClient [] :=
  State.clRequest_of_repeated (k := ⟨.udp 0 0 0 0, 0, 0, []⟩) (by decide) (by decide) (by decide)

theorem answered_quadrantReset {q : Nat} : exec (.quadrantReset movedClient seqZero q) answered = .next (answered.transmit movedClient []) :=
  congrArg Host.Outcome.next answered_clRequest

theorem answered_deviceReset : exec (.deviceReset movedClient seqZero) answered = .next (answered.transmit movedClient []) := by
  show Host.Outcome.next (State.resetDue (answered.clRequest ..)) = _
  rw [answered_clRequest]
  rfl

theorem answered_not_reset {q : Nat} : (answered.transmit movedClient []).qReset q = false := rfl
end
end Sys2Proof.Machine

namespace Sys2Proof
open Machine

/-- Refutes O50: `State.hears` compares origins whole, but the agent looks a repeated SEQ up without the Ethernet address of a UDP client (R405): a
DEVICE_RESET of the client that was answered under another address within the second is taken for a repetition, and resets nothing. -/
theorem not_deviceResets : ¬ Obligations.DeviceResets := by
  unfold Obligations.DeviceResets
  intro h
  obtain ⟨hbegin, -⟩ := h answered
  obtain ⟨-, -, -, hcommand⟩ := hbegin rfl rfl rfl rfl
  obtain ⟨t, ht, hquads, -⟩ := hcommand movedClient seqZero answered_hears rfl (by decide)
  obtain rfl : _ = t := Host.Outcome.next.inj (answered_deviceReset.symm.trans ht)
  obtain ⟨hreset, -⟩ := hquads 0 (by decide)
  exact absurd (answered_not_reset.symm.trans hreset) (by decide)

/-- Refutes O51, as O50 is: a QUADRANT_RESET of a UDP client that was answered under another Ethernet address within the second is taken for a
repetition, and resets nothing. -/
theorem not_quadrantResetsAndTelemetry : ¬ Obligations.QuadrantResetsAndTelemetry := by
  unfold Obligations.QuadrantResetsAndTelemetry
  intro h
  obtain ⟨hcommand, -⟩ := h answered 1 (by decide)
  obtain ⟨-, haccepted⟩ := hcommand movedClient seqZero answered_hears rfl (by decide)
  obtain ⟨t, ht, hreset, -⟩ := haccepted (by decide) (by decide) (by decide) rfl
  obtain rfl : _ = t := Host.Outcome.next.inj (answered_quadrantReset.symm.trans ht)
  exact absurd (answered_not_reset.symm.trans hreset) (by decide)

end Sys2Proof

/-! # Bridges: RETRAIN, the end of training and bad frames (R48, R512 to R518, R526) -/

namespace Sys2Proof.Machine
open Sys2Proof

/-! ## One occurrence of an event -/

section
variable {s : State} {e a : Nat} {f : Fld}

theorem State.raise_rd (hocc : key a f ≠ key (evtA e) R.EVT_STAT.OCC) (hpend : key a f ≠ key (evtA e) R.EVT_STAT.PENDING) :
    (s.raise e).rd a f = s.rd a f :=
  (State.agrees.refl.raise (K := fun k => k = key a f) hocc.symm hpend.symm).rd rfl

theorem State.noted_eq : ∃ x w, (s.xtEvent e).wakeNote e = { s with xsig := x, power := { s.power with wakeQ := w } } := by
  unfold State.wakeNote
  split
  · exact ⟨_, _, rfl⟩
  · exact ⟨_, _, rfl⟩

/-- An occurrence changes registers and what waits for it. -/
theorem State.raise_regsOnly : s.regsOnly (s.raise e) := by
  obtain ⟨x, w, hnote⟩ := State.noted_eq (s := s) (e := e)
  unfold State.regsOnly State.raise
  split
  · rw [hnote]
    dsimp only
    split
    · rfl
    · rfl
  · rfl

/-- An event whose source is present counts its occurrence. -/
theorem State.occurred_raise (h : s.evtOk e = true) : s.occurred (s.raise e) e 1 := by
  have hbump : (((s.xtEvent e).wakeNote e).bump (evtA e) R.EVT_STAT.OCC 1).rd (evtA e) R.EVT_STAT.OCC =
      min (s.rd (evtA e) R.EVT_STAT.OCC + 1) (2 ^ R.EVT_STAT.OCC.width - 1) := by
    obtain ⟨x, w, hnote⟩ := State.noted_eq (s := s) (e := e)
    unfold State.bump
    rw [hnote, State.rd_wr_same]
    exact Nat.mod_eq_of_lt (by have := Nat.two_pow_pos R.EVT_STAT.OCC.width; omega)
  unfold State.occurred State.raise
  rw [if_pos h]
  dsimp only
  split
  · exact (State.rd_wr_ne _ _ (key_ne _ (by decide))).trans hbump
  · exact hbump

/-- What `occurred` says of an event depends on its OCC alone. -/
theorem State.occurred.congr {t u v : State} {n : Nat} (h : t.occurred u e n)
    (hs : t.rd (evtA e) R.EVT_STAT.OCC = s.rd (evtA e) R.EVT_STAT.OCC) (ht : v.rd (evtA e) R.EVT_STAT.OCC = u.rd (evtA e) R.EVT_STAT.OCC) :
    s.occurred v e n := by
  unfold State.occurred at h ⊢
  rw [ht, h, hs]
end
end Sys2Proof.Machine

/-! ## What the operations on a bridge leave as it was -/

namespace Sys2Proof.Machine
open Sys2Proof

/-- The keys of one field of the bridges' registers. -/
def brgKey (g : Fld) (k : Nat) : Prop := ∃ q i, i < 2 ∧ k = key (brgA q i) g

/-- `t` agrees with `s` beside other registers than field `g` of the bridges, and has the same bad frames on record. -/
def State.brgSame (g : Fld) (s t : State) : Prop := s.agrees (brgKey g) t ∧ t.badFr = s.badFr

/-- A field that lies within the registers of a bridge. -/
abbrev brgFits (g : Fld) : Prop := g.off < 0x100 ∧ g.lo < 32

section
variable {s t : State} {b n q i : Nat} {f g : Fld} {p : Nat × Nat}

theorem brgKey_event {e : Nat} (hg : brgFits g) (hf : f.lo < 32) (hoff : f.off < 0x10) (he : e < 1024) : ¬ brgKey g (key (evtA e) f) := by
  obtain ⟨-, hlo⟩ := hg
  rintro ⟨q, i, hi, h⟩
  unfold key brgA evtA quadA at h
  omega

theorem brgKey_island (hg : brgFits g) (hf : f.lo < 32) (hoff : f.off < 0x40) : ¬ brgKey g (key (islA n) f) := by
  obtain ⟨hoff', hlo⟩ := hg
  rintro ⟨q, i, hi, h⟩
  unfold key brgA islA quadA at h
  omega

/-- The keys of two fields of bridges differ, whatever the bridges. -/
theorem brgA_field_ne {q' i' : Nat} (hg : brgFits g) (hf : brgFits f) (hne : key 0 g ≠ key 0 f) : key (brgA q' i') g ≠ key (brgA q i) f := by
  obtain ⟨hoff, hlo⟩ := hg
  obtain ⟨hoff', hlo'⟩ := hf
  unfold key brgA quadA at *
  omega

theorem brgKey_field (hg : brgFits g) (hf : brgFits f) (hne : key 0 g ≠ key 0 f) : ¬ brgKey g (key (brgA q i) f) := by
  rintro ⟨q', i', -, h⟩
  exact brgA_field_ne hg hf hne h.symm

theorem State.brgSame.refl : s.brgSame g s := ⟨.refl, rfl⟩

theorem State.brgSame.trans {u : State} (h : s.brgSame g t) (h' : t.brgSame g u) : s.brgSame g u :=
  ⟨h.1.trans h'.1, h'.2.trans h.2⟩

theorem State.brgSame.foldl {β : Type} {l : List β} {f : State → β → State} (h : s.brgSame g t)
    (hf : ∀ u, ∀ x ∈ l, s.brgSame g u → s.brgSame g (f u x)) : s.brgSame g (l.foldl f t) := by
  induction l generalizing t with
  | nil => exact h
  | cons x l ih => exact ih (hf t x (.head _) h) fun u y hy => hf u y (.tail _ hy)

theorem State.brgSame.wr {a v : Nat} (h : s.brgSame g t) (hk : ¬ brgKey g (key a f)) : s.brgSame g (t.wr a f v) :=
  ⟨h.1.wr hk, h.2⟩

theorem State.brgSame.raise {e : Nat} (hg : brgFits g) (he : e < 1024) (h : s.brgSame g t) : s.brgSame g (t.raise e) :=
  ⟨h.1.raise (brgKey_event hg (by decide) (by decide) he) (brgKey_event hg (by decide) (by decide) he), (congrArg State.badFr State.raise_regsOnly).trans h.2⟩

theorem State.brgSame.raiseIf {e : Nat} {c : Bool} (hg : brgFits g) (he : e < 1024) (h : s.brgSame g t) : s.brgSame g (t.raiseIf c e) := by
  unfold State.raiseIf
  split
  · exact h.raise hg he
  · exact h

theorem State.brgSame.lost {e : Nat} (hg : brgFits g) (h : s.brgSame g t) : s.brgSame g (t.lost i e n) := by
  unfold State.lost
  split
  · exact h
  · extract_lets f old u
    have hf : f.lo < 32 ∧ f.off < 0x40 := by
      unfold f
      split <;> decide
    have hu : s.brgSame g u := h.wr (brgKey_island hg hf.1 hf.2)
    exact hu.raiseIf hg (by decide)

/-- Words lost on a bridge show in the registers of islands alone. -/
theorem State.brgSame.loseInFlight (hg : brgFits g) (h : s.brgSame g t) : s.brgSame g (t.loseInFlight b) := by
  refine h.foldl fun u p _ hu => hu.foldl fun u kv _ hu => ?_
  split
  · exact hu
  · split
    · refine hu.foldl fun u x _ hu => ?_
      split
      · exact State.brgSame.lost hg ⟨hu.1.other, hu.2⟩
      · exact hu
    · exact hu

theorem State.brgSame.setBrg {v : Nat} (hg : brgFits g) (hf : brgFits f) (hne : key 0 g ≠ key 0 f) (h : s.brgSame g t) :
    s.brgSame g (t.setBrg b f v) :=
  h.foldl fun _ _ _ hu => hu.wr (brgKey_field hg hf hne)

theorem State.brgSame.setFlag {e : Nat} (hg : brgFits g) (hf : brgFits f) (hne : key 0 g ≠ key 0 f) (he : e < 1024) (h : s.brgSame g t) :
    s.brgSame g (t.setFlag (brgA q i) f e) := by
  unfold State.setFlag
  split
  · exact h
  · exact (h.wr (brgKey_field hg hf hne)).raise hg he

theorem State.brgSame.flagBrg (hg : brgFits g) (hf : brgFits f) (hne : key 0 g ≠ key 0 f) (hb : b < 4) (h : s.brgSame g t) :
    s.brgSame g (t.flagBrg b f) :=
  h.foldl fun _ _ _ hu => hu.setFlag hg hf hne (by omega)

theorem State.brgSame.brgBecomes {st use : Nat} (hg : brgFits g) (hb : b < 4) (hstate : key 0 g ≠ key 0 R.BRG_STAT.STATE)
    (huse : key 0 g ≠ key 0 R.BRG_STAT.IN_USE) (h : s.brgSame g t) : s.brgSame g (t.brgBecomes b st use) := by
  unfold State.brgBecomes
  extract_lets changed u
  have hu : s.brgSame g u := by
    unfold u
    split
    · exact h.loseInFlight hg
    · exact h
  exact ((hu.setBrg hg (by decide) hstate).setBrg hg (by decide) huse).raiseIf hg (by omega)

/-- The fields that `adoptMask` may write. -/
def adoptFields : List Fld :=
  [R.BRG_STAT.STATE, R.BRG_STAT.IN_USE, R.BRG_STAT.WIDTH_MISMATCH, R.BRG_LAST.OWN, R.BRG_LAST.PARTNER, R.BRG_LAST_NS.NS]

/-- BRG_LAST of one side records its masks and the time (R514). -/
def State.noteMasks (s : State) (p : Nat × Nat) : State :=
  ((s.wr (brgA p.1 p.2) R.BRG_LAST.OWN (s.brg p R.BRG_STAT.OWN)).wr (brgA p.1 p.2) R.BRG_LAST.PARTNER (s.brg p R.BRG_STAT.PARTNER)).wr
    (brgA p.1 p.2) R.BRG_LAST_NS.NS (nsOf (s.nowQ p.1))

/-- What `adoptMask` records of masks that differ. -/
def State.recordMasks (s : State) (b : Nat) : State :=
  if (s.brgSides b).any fun p => decide (s.brg p R.BRG_STAT.OWN ≠ s.brg p R.BRG_STAT.PARTNER) then
    (s.brgSides b).foldl (fun s p => s.noteMasks p) (s.flagBrg b R.BRG_STAT.WIDTH_MISMATCH)
  else s

theorem State.adoptMask_eq {use : Nat} :
    s.adoptMask b use = (s.recordMasks b).brgBecomes b (if 4 ≤ groupCount use then 2 else 3) use := rfl

theorem State.brgSame.noteMasks (hg : brgFits g) (hne : ∀ f ∈ adoptFields, key 0 g ≠ key 0 f) (h : s.brgSame g t) : s.brgSame g (t.noteMasks p) :=
  ((h.wr (brgKey_field hg (by decide) (hne _ (by decide)))).wr (brgKey_field hg (by decide) (hne _ (by decide)))).wr
    (brgKey_field hg (by decide) (hne _ (by decide)))

theorem State.brgSame.recordMasks (hg : brgFits g) (hb : b < 4) (hne : ∀ f ∈ adoptFields, key 0 g ≠ key 0 f) (h : s.brgSame g t) :
    s.brgSame g (t.recordMasks b) := by
  unfold State.recordMasks
  split
  · exact (h.flagBrg hg (by decide) (hne _ (by decide)) hb).foldl fun _ _ _ hu => hu.noteMasks hg hne
  · exact h

theorem State.brgSame.adoptMask {use : Nat} (hg : brgFits g) (hb : b < 4) (hne : ∀ f ∈ adoptFields, key 0 g ≠ key 0 f) (h : s.brgSame g t) :
    s.brgSame g (t.adoptMask b use) :=
  (h.recordMasks hg hb hne).brgBecomes hg hb (hne _ (by decide)) (hne _ (by decide))

theorem State.brgSame.rd (h : s.brgSame g t) (hp : p.2 < 2) : t.brg p g = s.brg p g :=
  h.1.rd ⟨p.1, p.2, hp, rfl⟩

theorem State.brgSame.bit (h : s.brgSame g t) (hp : p.2 < 2) : t.bit (brgA p.1 p.2) g = s.bit (brgA p.1 p.2) g :=
  congrArg (fun n => decide (n ≠ 0)) (h.rd hp)

theorem State.brgSame.brgSides (h : s.brgSame g t) : t.brgSides b = s.brgSides b := h.1.brgSides

theorem State.brgSame.mem (h : s.brgSame g t) : t.mem = s.mem :=
  congrArg (fun c => c.2.2.1) h.1.1
end
end Sys2Proof.Machine

/-! ## What the operations on a bridge make of it -/

namespace Sys2Proof.Machine
open Sys2Proof

/-- What a step for one entry of a list brings about, and every other step keeps, holds after all of them. `R` is what the steps rely on. -/
theorem foldl_reaches {β : Type} {f : State → β → State} {P R : State → Prop} {l : List β} {x : β} {s : State} (hx : x ∈ l)
    (hR : ∀ u y, R u → R (f u y)) (hdo : ∀ u, R u → P (f u x)) (hkeep : ∀ u y, R u → P u → P (f u y)) (hs : R s) : P (l.foldl f s) := by
  have hafter : ∀ (l : List β) (u : State), R u → P u → P (l.foldl f u) := fun l => by
    induction l with
    | nil => exact fun _ _ hu => hu
    | cons y l ih => exact fun u hu hP => ih _ (hR u y hu) (hkeep u y hu hP)
  induction l generalizing s with
  | nil => cases hx
  | cons y l ih =>
    obtain rfl | hx := List.mem_cons.mp hx
    · exact hafter l _ (hR s x hs) (hdo s hs)
    · exact ih hx (hR s y hs)

section
variable {s : State} {b st use : Nat} {f : Fld} {p : Nat × Nat}

theorem State.flagBrg_bit (hf : brgFits f) (hw : f.width = 1) (hb : b < 4) (hp : p ∈ s.brgSides b) :
    (s.flagBrg b f).bit (brgA p.1 p.2) f = true := by
  have hset : ∀ (u : State) (y : Nat × Nat), ((u.wr (brgA y.1 y.2) f 1).raise (760 + b)).rd (brgA p.1 p.2) f =
      if key (brgA p.1 p.2) f = key (brgA y.1 y.2) f then 1 else u.rd (brgA p.1 p.2) f := fun u y => by
    obtain ⟨-, hlo⟩ := hf
    rw [State.raise_rd (brgA_ne_evtA hlo (by decide) (by decide) (by omega)) (brgA_ne_evtA hlo (by decide) (by decide) (by omega)),
      State.rd_wr, hw]
    rfl
  refine foldl_reaches (P := fun u => u.bit (brgA p.1 p.2) f = true) (R := fun _ => True) hp (fun _ _ _ => trivial)
    (fun u _ => ?_) (fun u y _ hu => ?_) trivial
  · unfold State.setFlag
    split
    case isTrue h => exact h
    case isFalse => simp [State.bit, hset]
  · unfold State.setFlag
    split
    · exact hu
    · simp only [State.bit, hset, decide_eq_true_eq] at hu ⊢
      split
      · exact Nat.one_ne_zero
      · exact hu

/-- STATE and IN_USE of both sides are the ones given. -/
theorem State.brgBecomes_brg (hb : b < 4) (hp : p ∈ s.brgSides b) :
    (s.brgBecomes b st use).brg p R.BRG_STAT.STATE = st % 2 ^ R.BRG_STAT.STATE.width ∧
      (s.brgBecomes b st use).brg p R.BRG_STAT.IN_USE = use % 2 ^ R.BRG_STAT.IN_USE.width := by
  obtain ⟨-, hi⟩ := s.brgSides_lt hb hp
  unfold State.brgBecomes
  extract_lets changed u
  have hu : s.brgSame R.BRG_CTRL.GRP_DIS u := by
    unfold u
    split
    · exact State.brgSame.refl.loseInFlight (by decide)
    · exact .refl
  have hup : p ∈ u.brgSides b := hu.brgSides.symm ▸ hp
  have hset : (u.setBrg b R.BRG_STAT.STATE st).brgSame R.BRG_STAT.STATE ((u.setBrg b R.BRG_STAT.STATE st).setBrg b R.BRG_STAT.IN_USE use) :=
    State.brgSame.refl.setBrg (by decide) (by decide) (by decide)
  have hsides : p ∈ (u.setBrg b R.BRG_STAT.STATE st).brgSides b :=
    (State.brgSame.refl.setBrg (f := R.BRG_STAT.STATE) (g := R.BRG_CTRL.GRP_DIS) (by decide) (by decide) (by decide)).brgSides.symm ▸ hup
  constructor
  · exact ((hset.raiseIf (by decide) (by omega)).rd hi).trans (State.setBrg_rd_same hup)
  · exact ((State.brgSame.refl.raiseIf (by decide) (by omega)).rd hi).trans (State.setBrg_rd_same hsides)

/-- Both sides adopt the mask; the bridge is UP with four groups or more, and FENCED below. -/
theorem State.adoptMask_brg (hb : b < 4) (hp : p ∈ s.brgSides b) (huse : use < 256) :
    (s.adoptMask b use).brg p R.BRG_STAT.IN_USE = use ∧
      (s.adoptMask b use).brg p R.BRG_STAT.STATE = if 4 ≤ groupCount use then 2 else 3 := by
  have hrec : s.brgSame R.BRG_CTRL.GRP_DIS (s.recordMasks b) := State.brgSame.refl.recordMasks (by decide) hb (by decide)
  obtain ⟨hstate, hmask⟩ := State.brgBecomes_brg (st := if 4 ≤ groupCount use then 2 else 3) (use := use) hb (hrec.brgSides.symm ▸ hp)
  rw [State.adoptMask_eq]
  refine ⟨hmask.trans (Nat.mod_eq_of_lt huse), hstate.trans ?_⟩
  split
  · rfl
  · rfl

theorem brgA_field_inj {y : Nat × Nat} (hf : brgFits f) : key (brgA p.1 p.2) f = key (brgA y.1 y.2) f ↔ brgA p.1 p.2 = brgA y.1 y.2 := by
  obtain ⟨-, hlo⟩ := hf
  unfold key
  omega

theorem State.noteMasks_last {y : Nat × Nat} : (s.noteMasks y).brg p R.BRG_LAST.OWN =
    if brgA p.1 p.2 = brgA y.1 y.2 then s.brg p R.BRG_STAT.OWN % 2 ^ R.BRG_LAST.OWN.width else s.brg p R.BRG_LAST.OWN := by
  have hlast : (s.noteMasks y).brg p R.BRG_LAST.OWN =
      (s.wr (brgA y.1 y.2) R.BRG_LAST.OWN (s.brg y R.BRG_STAT.OWN)).rd (brgA p.1 p.2) R.BRG_LAST.OWN :=
    (State.rd_wr_ne _ _ (brgA_field_ne (by decide) (by decide) (by decide))).trans
      (State.rd_wr_ne _ _ (brgA_field_ne (by decide) (by decide) (by decide)))
  rw [hlast, State.rd_wr]
  simp only [brgA_field_inj (f := R.BRG_LAST.OWN) (by decide)]
  split
  case isTrue h =>
    rw [State.brg, ← h]
    rfl
  case isFalse => rfl

/-- Masks that differ are recorded on both sides. -/
theorem State.adoptMask_mismatch (hb : b < 4) (hp : p ∈ s.brgSides b) (hown : s.brg p R.BRG_STAT.OWN < 2 ^ R.BRG_LAST.OWN.width)
    (hne : s.brg p R.BRG_STAT.OWN ≠ s.brg p R.BRG_STAT.PARTNER) :
    (s.adoptMask b use).bit (brgA p.1 p.2) R.BRG_STAT.WIDTH_MISMATCH = true ∧
      (s.adoptMask b use).brg p R.BRG_LAST.OWN = s.brg p R.BRG_STAT.OWN := by
  obtain ⟨-, hi⟩ := s.brgSides_lt hb hp
  have hany : ((s.brgSides b).any fun p => decide (s.brg p R.BRG_STAT.OWN ≠ s.brg p R.BRG_STAT.PARTNER)) = true :=
    List.any_eq_true.mpr ⟨p, hp, decide_eq_true hne⟩
  have hflag : ((s.flagBrg b R.BRG_STAT.WIDTH_MISMATCH).brgSame R.BRG_STAT.WIDTH_MISMATCH (s.recordMasks b)) := by
    unfold State.recordMasks
    rw [if_pos hany]
    exact State.brgSame.refl.foldl fun u y _ hu => ((hu.wr (brgKey_field (by decide) (by decide) (by decide))).wr
      (brgKey_field (by decide) (by decide) (by decide))).wr (brgKey_field (by decide) (by decide) (by decide))
  have hlast : (s.recordMasks b).brg p R.BRG_LAST.OWN = s.brg p R.BRG_STAT.OWN := by
    unfold State.recordMasks
    rw [if_pos hany]
    refine foldl_reaches (P := fun u => u.brg p R.BRG_LAST.OWN = s.brg p R.BRG_STAT.OWN) (R := s.brgSame R.BRG_STAT.OWN) hp
      (fun u y hu => hu.noteMasks (by decide) (by decide)) (fun u hu => ?_) (fun u y hu hP => ?_)
      (State.brgSame.refl.flagBrg (by decide) (by decide) (by decide) hb)
    · rw [State.noteMasks_last, if_pos rfl, hu.rd hi]
      exact Nat.mod_eq_of_lt hown
    · rw [State.noteMasks_last, hP, hu.rd hi, Nat.mod_eq_of_lt hown, ite_self]
  rw [State.adoptMask_eq]
  constructor
  · rw [(hflag.brgBecomes (by decide) hb (by decide) (by decide)).bit hi]
    exact State.flagBrg_bit (by decide) rfl hb hp
  · exact ((State.brgSame.refl.brgBecomes (by decide) hb (by decide) (by decide)).rd hi).trans hlast
end
end Sys2Proof.Machine

/-! ## RETRAIN (R518) -/

namespace Sys2Proof.Machine
open Sys2Proof

section
variable {s : State} {b q k g : Nat} {p p0 p1 : Nat × Nat}

theorem State.bridgeOk_lt (hok : s.bridgeOk b = true) : b < 4 := by
  unfold State.bridgeOk at hok
  cases hpart : s.fuses.part <;> simp [hpart] at hok <;> omega

/-- The event of a bridge that is present can occur (R19). -/
theorem State.evtOk_bridge (hok : s.bridgeOk b = true) : s.evtOk (760 + b) = true := by
  have hb := State.bridgeOk_lt hok
  unfold State.evtOk
  repeat rw [if_neg (by omega)]
  rw [if_pos (by omega), Nat.add_sub_cancel_left, hok]

/-- The sides of a bridge are two, at places of their own. -/
theorem State.brgSides_pair (hsides : s.brgSides b = [p0, p1]) (hok : s.bridgeOk b = true) : brgA p0.1 p0.2 ≠ brgA p1.1 p1.2 := by
  have hb := State.bridgeOk_lt hok
  unfold State.brgSides at hsides
  split at hsides
  · obtain ⟨rfl, rfl⟩ : (b, 0) = p0 ∧ ((b + 1) % 4, 1) = p1 := by simpa using hsides
    unfold brgA quadA
    omega
  · obtain ⟨rfl, rfl⟩ : (0, 0) = p0 ∧ (2, 0) = p1 := by simpa using hsides
    decide
  · cases hsides

/-- The bad frames of a bridge that trains are forgotten. -/
def State.forgetBad (s : State) (b : Nat) : State := (List.range 8).foldl (fun s g => s.setBadFrames (b * 8 + g) []) s

theorem State.forgetBad_same {f : Fld} : s.agrees (brgKey f) (s.forgetBad b) := State.agrees.refl.foldl fun _ _ _ hu => hu.other

theorem State.forgetBad_flds : (s.forgetBad b).flds = s.flds := by
  unfold State.forgetBad
  exact List.foldlRecOn (motive := fun t : State => t.flds = s.flds) _ _ rfl fun _ ht _ _ => ht

theorem State.forgetBad_badFrames (hg : g < 8) : (s.forgetBad b).badFrames (b * 8 + g) = [] := by
  refine foldl_reaches (P := fun u => u.badFrames (b * 8 + g) = []) (R := fun _ => True) (List.mem_range.mpr hg) (fun _ _ _ => trivial)
    (fun u _ => State.badFrames_setBadFrames_same ..) (fun u y _ hu => ?_) trivial
  by_cases h : b * 8 + g = b * 8 + y
  · rw [h, State.badFrames_setBadFrames_same]
  · rw [State.badFrames_setBadFrames_ne _ _ h, hu]

theorem State.trainBridge_of_ready (hok : s.bridgeOk b = true) (hr : s.trainReady b) :
    ∃ use, s.trainBridge b = (s.forgetBad b).brgBecomes b 1 use := by
  obtain ⟨hdead, hside⟩ := hr
  unfold State.trainBridge
  rw [if_pos (by simpa [hok, hdead] using fun q i hp => hside (q, i) hp)]
  exact ⟨_, rfl⟩

theorem State.trainBridge_absorbed (h : s.deadBrg b = true ∨ ∃ p ∈ s.brgSides b, s.brg p R.BRG_STAT.STATE = 1) : s.trainBridge b = s := by
  unfold State.trainBridge
  refine if_neg ?_
  obtain h | ⟨⟨q, i⟩, hp, h⟩ := h
  · simp [h]
  · simp only [Bool.and_eq_true, List.all_eq_true, decide_eq_true_eq, not_and]
    exact fun _ hall => (hall _ hp).2 h

/-- A bridge that begins to train, or becomes another one without leaving UP, raises its event once. -/
theorem State.brgBecomes_occurred {use : Nat} (hok : s.bridgeOk b = true) (hp : p ∈ s.brgSides b) (hstate : s.brg p R.BRG_STAT.STATE ≠ 1) :
    s.occurred (s.brgBecomes b 1 use) (760 + b) 1 := by
  have hb := State.bridgeOk_lt hok
  have hchanged : ((s.brgSides b).any fun p => decide (s.brg p R.BRG_STAT.STATE ≠ 1 ∨ s.brg p R.BRG_STAT.IN_USE ≠ use)) = true :=
    List.any_eq_true.mpr ⟨p, hp, decide_eq_true (.inl hstate)⟩
  unfold State.brgBecomes State.raiseIf
  extract_lets changed u
  have hu : u = s := if_neg (by rintro ⟨h | h, -⟩ <;> cases h)
  rw [hu, show changed = true from hchanged, if_pos rfl]
  have hkey : ∀ f : Fld, f.lo < 32 → ∀ {q i}, key (brgA q i) f ≠ key (evtA (760 + b)) R.EVT_STAT.OCC := fun f hf _ _ =>
    brgA_ne_evtA hf (by decide) (by decide) (by omega)
  have hset : s.agrees (fun k => k = key (evtA (760 + b)) R.EVT_STAT.OCC)
      ((s.setBrg b R.BRG_STAT.STATE 1).setBrg b R.BRG_STAT.IN_USE use) :=
    (State.agrees.refl.setBrg fun _ _ => hkey _ (by decide)).setBrg fun _ _ => hkey _ (by decide)
  have hev : State.evtOk ((s.setBrg b R.BRG_STAT.STATE 1).setBrg b R.BRG_STAT.IN_USE use) (760 + b) = true :=
    State.evtOk_bridge (hset.bridgeOk.trans hok)
  exact (State.occurred_raise hev).congr (hset.rd rfl) rfl

theorem retrain_none (h : s.brgOf q k = none) : exec (.retrain q k) s = .next s := by
  show Host.Outcome.next (s.retrain q k) = _
  unfold State.retrain
  rw [h]

theorem retrain_some (h : s.brgOf q k = some b) : exec (.retrain q k) s = .next (s.trainBridge b) := by
  show Host.Outcome.next (s.retrain q k) = _
  unfold State.retrain
  rw [h]

/-- A ready bridge begins to train. -/
theorem State.trainBridge_begins (hok : s.bridgeOk b = true) (hsides : s.brgSides b = [p0, p1]) (hr : s.trainReady b) :
    (s.trainBridge b).mem = s.mem ∧ (∀ p, p ∈ [p0, p1] → (s.trainBridge b).brg p R.BRG_STAT.STATE = 1) ∧
      (∀ g, g < 8 → (s.trainBridge b).badFrames (b * 8 + g) = []) ∧ s.occurred (s.trainBridge b) (760 + b) 1 := by
  have hb := State.bridgeOk_lt hok
  have hp0 : p0 ∈ s.brgSides b := hsides ▸ .head _
  have hforget : s.agrees (fun _ => False) (s.forgetBad b) := State.agrees.refl.foldl fun _ _ _ hu => hu.other
  refine ⟨congrArg (fun c => c.2.2.1) State.trainBridge_agrees.1, fun p hp => State.trainBridge_state hb hok hr (hsides ▸ hp), ?_⟩
  obtain ⟨use, htrain⟩ := State.trainBridge_of_ready hok hr
  rw [htrain]
  constructor
  · intro g hg
    have hsame : (s.forgetBad b).brgSame R.BRG_CTRL.GRP_DIS ((s.forgetBad b).brgBecomes b 1 use) :=
      State.brgSame.refl.brgBecomes (by decide) hb (by decide) (by decide)
    unfold State.badFrames
    rw [hsame.2]
    exact State.forgetBad_badFrames hg
  · refine (State.brgBecomes_occurred (hforget.bridgeOk.trans hok) (hforget.brgSides.symm ▸ hp0) ?_).congr
      (State.rd_congr State.forgetBad_flds _ _) rfl
    rw [State.brg, State.rd_congr State.forgetBad_flds]
    exact (hr.2 p0 hp0).2
end
end Sys2Proof.Machine

/-! ## The end of training (R512 to R514, R517) -/

namespace Sys2Proof.Machine
open Sys2Proof

/-- Each side shows its own mask and its partner's, and which groups use their spare wire. -/
def State.exchange (s : State) (p0 p1 : Nat × Nat) (own0 own1 spare0 spare1 : Nat) : State :=
  let s := (s.wr (brgA p0.1 p0.2) R.BRG_STAT.OWN own0).wr (brgA p0.1 p0.2) R.BRG_STAT.PARTNER own1
  let s := (s.wr (brgA p1.1 p1.2) R.BRG_STAT.OWN own1).wr (brgA p1.1 p1.2) R.BRG_STAT.PARTNER own0
  (s.wr (brgA p0.1 p0.2) R.BRG_SPARE.SPARE spare0).wr (brgA p1.1 p1.2) R.BRG_SPARE.SPARE spare1

section
variable {s : State} {b own0 own1 spare0 spare1 good0 good1 : Nat} {code : Bool} {p p0 p1 : Nat × Nat}

theorem key_brgA_eq_iff {f g : Fld} (hf : brgFits f) (hg : brgFits g) {y : Nat × Nat} :
    key (brgA p.1 p.2) f = key (brgA y.1 y.2) g ↔ brgA p.1 p.2 = brgA y.1 y.2 ∧ key 0 f = key 0 g := by
  obtain ⟨hoff, hlo⟩ := hf
  obtain ⟨hoff', hlo'⟩ := hg
  unfold key brgA quadA
  omega

theorem State.exchange_brg (hne : brgA p0.1 p0.2 ≠ brgA p1.1 p1.2) (h0 : own0 < 256) (h1 : own1 < 256) :
    let t := s.exchange p0 p1 own0 own1 spare0 spare1
    t.brg p0 R.BRG_STAT.OWN = own0 ∧ t.brg p0 R.BRG_STAT.PARTNER = own1 ∧ t.brg p1 R.BRG_STAT.OWN = own1 ∧ t.brg p1 R.BRG_STAT.PARTNER = own0 ∧
      t.brg p0 R.BRG_SPARE.SPARE = spare0 % 256 ∧ t.brg p1 R.BRG_SPARE.SPARE = spare1 % 256 := by
  simp (disch := decide) only [State.exchange, State.brg, State.rd_wr, key_brgA_eq_iff, hne, hne.symm]
  simp [key, Fld.width, h0, h1]
end
end Sys2Proof.Machine

namespace Sys2Proof.Machine
open Sys2Proof

section
variable {s : State} {b own0 own1 spare0 spare1 good0 good1 : Nat} {code : Bool} {p p0 p1 : Nat × Nat}

theorem clearBits_lt {n m w : Nat} (h : n < 2 ^ w) : clearBits n m < 2 ^ w :=
  Nat.xor_lt_two_pow h (Nat.lt_of_le_of_lt Nat.and_le_left h)

/-- The bridge trains between two quadrants that are out of reset, and has seen no wrong code. -/
def State.trains (s : State) (b : Nat) (p0 p1 : Nat × Nat) : Prop :=
  s.bridgeOk b = true ∧ s.deadBrg b = false ∧ s.qReset p0.1 = false ∧ s.qReset p1.1 = false ∧ s.brg p0 R.BRG_STAT.STATE = 1

theorem bridgeTrainingDone_good (hsides : s.brgSides b = [p0, p1]) (h : s.trains b p0 p1) :
    exec (.bridgeTrainingDone b true good0 good1 spare0 spare1) s =
      let own0 := clearBits (good0 % 256) (s.brg p0 R.BRG_CTRL.GRP_DIS)
      let own1 := clearBits (good1 % 256) (s.brg p1 R.BRG_CTRL.GRP_DIS)
      .next ((s.exchange p0 p1 own0 own1 spare0 spare1).adoptMask b (own0 &&& own1)) := by
  show execBridgeTrainingDone b true good0 good1 spare0 spare1 s = _
  unfold State.trains at h
  unfold execBridgeTrainingDone
  rw [hsides]
  exact congrArg Host.Outcome.next ((if_pos h).trans (if_pos rfl))

theorem bridgeTrainingDone_badCode (hsides : s.brgSides b = [p0, p1]) (h : s.trains b p0 p1) :
    exec (.bridgeTrainingDone b false good0 good1 spare0 spare1) s =
      .next (((s.setDeadBrg b true).flagBrg b R.BRG_STAT.CODE_ERR).brgBecomes b 0 0) := by
  show execBridgeTrainingDone b false good0 good1 spare0 spare1 s = _
  unfold State.trains at h
  unfold execBridgeTrainingDone
  rw [hsides]
  exact congrArg Host.Outcome.next ((if_pos h).trans (if_neg Bool.false_ne_true))

theorem bridgeTrainingDone_absorbed (hsides : s.brgSides b = [p0, p1]) (h : s.deadBrg b = true ∨ s.brg p0 R.BRG_STAT.STATE ≠ 1) :
    exec (.bridgeTrainingDone b code good0 good1 spare0 spare1) s = .next s := by
  show execBridgeTrainingDone b code good0 good1 spare0 spare1 s = _
  unfold execBridgeTrainingDone
  rw [hsides]
  refine congrArg Host.Outcome.next (if_neg ?_)
  rintro ⟨-, hdead, -, -, hstate⟩
  obtain h | h := h
  · simp [h] at hdead
  · exact h hstate

/-- After a training without a wrong code both sides hold the masks, and the mask in use is what both have. -/
theorem State.adopted (hsides : s.brgSides b = [p0, p1]) (hok : s.bridgeOk b = true) (h0 : own0 < 256) (h1 : own1 < 256) :
    let t := (s.exchange p0 p1 own0 own1 spare0 spare1).adoptMask b (own0 &&& own1)
    t.mem = s.mem ∧
      t.brg p0 R.BRG_STAT.OWN = own0 ∧ t.brg p0 R.BRG_STAT.PARTNER = own1 ∧ t.brg p1 R.BRG_STAT.OWN = own1 ∧ t.brg p1 R.BRG_STAT.PARTNER = own0 ∧
      t.brg p0 R.BRG_SPARE.SPARE = spare0 % 256 ∧ t.brg p1 R.BRG_SPARE.SPARE = spare1 % 256 ∧
      (∀ p, p ∈ [p0, p1] → t.brg p R.BRG_STAT.IN_USE = own0 &&& own1 ∧
        t.brg p R.BRG_STAT.STATE = (if 4 ≤ groupCount (own0 &&& own1) then 2 else 3)) ∧
      (own0 ≠ own1 → ∀ p, p ∈ [p0, p1] → t.brg p R.BRG_LAST.OWN = t.brg p R.BRG_STAT.OWN ∧
        t.bit (brgA p.1 p.2) R.BRG_STAT.WIDTH_MISMATCH = true) := by
  have hb := State.bridgeOk_lt hok
  obtain ⟨hown0, hpart0, hown1, hpart1, hspare0, hspare1⟩ :=
    State.exchange_brg (s := s) (spare0 := spare0) (spare1 := spare1) (s.brgSides_pair hsides hok) h0 h1
  have hxs : (s.exchange p0 p1 own0 own1 spare0 spare1).brgSides b = [p0, p1] := hsides
  have hxm : (s.exchange p0 p1 own0 own1 spare0 spare1).mem = s.mem := rfl
  generalize s.exchange p0 p1 own0 own1 spare0 spare1 = x at *
  have hlt : ∀ p ∈ [p0, p1], p.2 < 2 := fun p hp => (s.brgSides_lt hb (hsides.symm ▸ hp)).2
  have hkeep : ∀ g : Fld, brgFits g → (∀ f ∈ adoptFields, key 0 g ≠ key 0 f) → ∀ p ∈ [p0, p1],
      (x.adoptMask b (own0 &&& own1)).brg p g = x.brg p g := fun g hg hne p hp => (State.brgSame.refl.adoptMask hg hb hne).rd (hlt p hp)
  have hp0 : p0 ∈ [p0, p1] := .head _
  have hp1 : p1 ∈ [p0, p1] := .tail _ (.head _)
  have hmask : own0 &&& own1 < 256 := Nat.lt_of_le_of_lt Nat.and_le_left h0
  refine ⟨?_, ?_, ?_, ?_, ?_, ?_, ?_, fun p hp => State.adoptMask_brg hb (hxs.symm ▸ hp) hmask, fun hne p hp => ?_⟩
  · exact (State.brgSame.refl.adoptMask (g := R.BRG_CTRL.GRP_DIS) (by decide) hb (by decide)).mem.trans hxm
  · exact (hkeep _ (by decide) (by decide) p0 hp0).trans hown0
  · exact (hkeep _ (by decide) (by decide) p0 hp0).trans hpart0
  · exact (hkeep _ (by decide) (by decide) p1 hp1).trans hown1
  · exact (hkeep _ (by decide) (by decide) p1 hp1).trans hpart1
  · exact (hkeep _ (by decide) (by decide) p0 hp0).trans hspare0
  · exact (hkeep _ (by decide) (by decide) p1 hp1).trans hspare1
  · have hside : x.brg p R.BRG_STAT.OWN < 256 ∧ x.brg p R.BRG_STAT.OWN ≠ x.brg p R.BRG_STAT.PARTNER := by
      simp only [List.mem_cons, List.not_mem_nil, or_false] at hp
      obtain rfl | rfl := hp
      · rw [hown0, hpart0]
        exact ⟨h0, hne⟩
      · rw [hown1, hpart1]
        exact ⟨h1, hne.symm⟩
    obtain ⟨hflag, hlast⟩ := State.adoptMask_mismatch (use := own0 &&& own1) hb (hxs.symm ▸ hp) hside.1 hside.2
    exact ⟨hlast.trans (hkeep _ (by decide) (by decide) p hp).symm, hflag⟩

/-- A wrong rotation code leaves the bridge DOWN for good. -/
theorem State.badCode (hsides : s.brgSides b = [p0, p1]) (hok : s.bridgeOk b = true) :
    let t := ((s.setDeadBrg b true).flagBrg b R.BRG_STAT.CODE_ERR).brgBecomes b 0 0
    t.mem = s.mem ∧ t.deadBrg b = true ∧ ∀ p, p ∈ [p0, p1] → t.brg p R.BRG_STAT.STATE = 0 ∧ t.bit (brgA p.1 p.2) R.BRG_STAT.CODE_ERR = true := by
  have hb := State.bridgeOk_lt hok
  have hflag : (s.setDeadBrg b true).brgSame R.BRG_CTRL.GRP_DIS ((s.setDeadBrg b true).flagBrg b R.BRG_STAT.CODE_ERR) :=
    State.brgSame.refl.flagBrg (by decide) (by decide) (by decide) hb
  have hdown := hflag.brgBecomes (st := 0) (use := 0) (by decide) hb (by decide) (by decide)
  have hdead : (((s.setDeadBrg b true).flagBrg b R.BRG_STAT.CODE_ERR).brgBecomes b 0 0).brgDead = (s.setDeadBrg b true).brgDead :=
    congrArg (fun c => c.2.2.2.2.2.2.2.2.2) hdown.1.1
  refine ⟨hdown.mem, ?_, fun p hp => ⟨?_, ?_⟩⟩
  · unfold State.deadBrg
    rw [hdead]
    exact State.deadBrg_setDeadBrg_same ..
  · exact (State.brgBecomes_brg hb (hflag.brgSides.symm ▸ hsides.symm ▸ hp)).1
  · have hp' : p ∈ (s.setDeadBrg b true).brgSides b := hsides.symm ▸ hp
    rw [(State.brgSame.refl.brgBecomes (by decide) hb (by decide) (by decide)).bit (s.brgSides_lt hb (hsides.symm ▸ hp)).2]
    exact State.flagBrg_bit (by decide) rfl hb hp'
end
end Sys2Proof.Machine

/-! ## Bad frames (R516) -/

namespace Sys2Proof.Machine
open Sys2Proof

/-- One bit less is one power of two less. -/
theorem putBit_false {n i : Nat} (h : n.testBit i = true) : putBit n i false = n - 2 ^ i := by
  have hxor : ∀ {n i : Nat}, n.testBit i = true → n ^^^ 2 ^ i = n - 2 ^ i := by
    intro n i
    induction i generalizing n with
    | zero =>
      intro h
      rw [Nat.testBit_zero, decide_eq_true_eq] at h
      exact Nat.xor_one_of_odd (Nat.odd_iff.mpr h)
    | succ i ih =>
      intro h
      rw [Nat.testBit_succ] at h
      have hge := Nat.ge_two_pow_of_testBit h
      have hdiv : (n ^^^ 2 ^ (i + 1)) / 2 = n / 2 - 2 ^ i := by
        rw [Nat.xor_div_two, Nat.pow_succ, Nat.mul_div_cancel _ Nat.two_pos, ih h]
      have hmod : (n ^^^ 2 ^ (i + 1)) % 2 = n % 2 := by
        rw [Nat.xor_mod_two_eq, Nat.pow_succ]
        omega
      omega
  unfold putBit
  rw [h, if_neg (by decide), hxor h]

section
variable {s : State} {b side g use : Nat} {p p0 p1 : Nat × Nat}

/-- The instants of the bad frames of a group that count when one more comes now: those of the last 1 ms. -/
def State.recentBad (s : State) (b g : Nat) : List Nat :=
  s.counter :: (s.badFrames (b * 8 + g)).filter (fun t => decide (s.counter < t + 1000000))

/-- The state in which a frame that is sent again counts. -/
def State.replayed (s : State) (p : Nat × Nat) : State := s.bump (brgA p.1 p.2) R.BRG_REPLAY.REPLAY 1

theorem bridgeBadFrame_ignored (hside : (s.brgSides b)[side]? = some p)
    (h : (s.brg p R.BRG_STAT.IN_USE).testBit g = false ∨ s.brg p R.BRG_STAT.STATE < 2) : exec (.bridgeBadFrame b side g) s = .next s := by
  show execBridgeBadFrame b side g s = _
  unfold execBridgeBadFrame
  rw [hside]
  refine congrArg Host.Outcome.next (if_neg ?_)
  simp only [Bool.and_eq_true, decide_eq_true_eq]
  rintro ⟨⟨⟨-, hstate⟩, -⟩, hbit⟩
  obtain h | h := h
  · simp [h] at hbit
  · omega

theorem bridgeBadFrame_counted (hside : (s.brgSides b)[side]? = some p) (hok : s.bridgeOk b = true) (hg : g < 8)
    (hbit : (s.brg p R.BRG_STAT.IN_USE).testBit g = true) (hstate : 2 ≤ s.brg p R.BRG_STAT.STATE) :
    exec (.bridgeBadFrame b side g) s = .next (
      if 16 ≤ (s.recentBad b g).length then
        (((s.replayed p).setBadFrames (b * 8 + g) []).flagBrg b R.BRG_STAT.DEGRADED).adoptMask b (putBit (s.brg p R.BRG_STAT.IN_USE) g false)
      else (s.replayed p).setBadFrames (b * 8 + g) (s.recentBad b g)) := by
  show execBridgeBadFrame b side g s = _
  unfold execBridgeBadFrame
  rw [hside]
  exact congrArg Host.Outcome.next (if_pos (by simp [hok, hg, hbit, hstate]))

theorem State.replayed_replay : (s.replayed p).brg p R.BRG_REPLAY.REPLAY = min (s.brg p R.BRG_REPLAY.REPLAY + 1) (2 ^ 32 - 1) :=
  (State.rd_wr_same ..).trans (Nat.mod_eq_of_lt (by have : 2 ^ R.BRG_REPLAY.REPLAY.width = 2 ^ 32 := rfl; omega))

/-- The sixteenth bad frame of a group within 1 ms takes the group out of use on both sides. -/
theorem State.groupRemoved (hsides : s.brgSides b = [p0, p1]) (hok : s.bridgeOk b = true) (hp : p ∈ [p0, p1]) (huse : use < 256)
    (hbit : use.testBit g = true) :
    let t := (((s.replayed p).setBadFrames (b * 8 + g) []).flagBrg b R.BRG_STAT.DEGRADED).adoptMask b (putBit use g false)
    t.mem = s.mem ∧ t.brg p R.BRG_REPLAY.REPLAY = min (s.brg p R.BRG_REPLAY.REPLAY + 1) (2 ^ 32 - 1) ∧ t.badFrames (b * 8 + g) = [] ∧
      ∀ r, r ∈ [p0, p1] → t.bit (brgA r.1 r.2) R.BRG_STAT.DEGRADED = true ∧ t.brg r R.BRG_STAT.IN_USE = use - 2 ^ g ∧
        t.brg r R.BRG_STAT.STATE = (if 4 ≤ groupCount (use - 2 ^ g) then 2 else 3) := by
  have hb := State.bridgeOk_lt hok
  have hlt : ∀ p ∈ [p0, p1], p.2 < 2 := fun p hp => (s.brgSides_lt hb (hsides.symm ▸ hp)).2
  have hus : ((s.replayed p).setBadFrames (b * 8 + g) []).brgSides b = [p0, p1] := hsides
  have hum : ((s.replayed p).setBadFrames (b * 8 + g) []).mem = s.mem := rfl
  have hub : ((s.replayed p).setBadFrames (b * 8 + g) []).badFrames (b * 8 + g) = [] := State.badFrames_setBadFrames_same ..
  have hur : ((s.replayed p).setBadFrames (b * 8 + g) []).brg p R.BRG_REPLAY.REPLAY = min (s.brg p R.BRG_REPLAY.REPLAY + 1) (2 ^ 32 - 1) :=
    State.replayed_replay
  rw [putBit_false hbit]
  generalize (s.replayed p).setBadFrames (b * 8 + g) [] = u at *
  have hflag : u.brgSame R.BRG_REPLAY.REPLAY (u.flagBrg b R.BRG_STAT.DEGRADED) :=
    State.brgSame.refl.flagBrg (by decide) (by decide) (by decide) hb
  have hsame := hflag.adoptMask (use := use - 2 ^ g) (by decide) hb (by decide)
  refine ⟨hsame.mem.trans hum, (hsame.rd (hlt p hp)).trans hur, ?_, fun r hr => ?_⟩
  · unfold State.badFrames at hub ⊢
    rw [hsame.2, hub]
  · have hr' : r ∈ u.brgSides b := hus.symm ▸ hr
    refine ⟨?_, State.adoptMask_brg hb (hflag.brgSides.symm ▸ hr') (Nat.lt_of_le_of_lt (Nat.sub_le ..) huse)⟩
    rw [(State.brgSame.refl.adoptMask (by decide) hb (by decide)).bit (hlt r hr)]
    exact State.flagBrg_bit (by decide) rfl hb hr'
end
end Sys2Proof.Machine

namespace Sys2Proof
open Machine

/-- Settles O54, command by command: each command is one equation, and each operation on both sides of a bridge writes its own fields alone. -/
theorem bridgeTrainingAndFrames : Obligations.BridgeTrainingAndFrames := by
  unfold Obligations.BridgeTrainingAndFrames
  intro s b p0 p1 hsides hok
  refine ⟨fun q k hq => ⟨fun hdead hready => ?_, fun h => ?_⟩, fun q k hq => retrain_none hq, fun code good0 good1 spare0 spare1 => ⟨?_, ?_⟩, ?_⟩
  · exact ⟨_, retrain_some hq, State.trainBridge_begins hok hsides ⟨hdead, hsides.symm ▸ hready⟩⟩
  · rw [retrain_some hq, State.trainBridge_absorbed (hsides.symm ▸ h)]
  · intro hdead hr0 hr1 hstate
    have htrains : s.trains b p0 p1 := ⟨hok, hdead, hr0, hr1, hstate⟩
    constructor
    · rintro rfl own0 own1 rfl rfl
      exact ⟨_, bridgeTrainingDone_good hsides htrains, State.adopted hsides hok (clearBits_lt (w := 8) (by omega)) (clearBits_lt (w := 8) (by omega))⟩
    · rintro rfl
      exact ⟨_, bridgeTrainingDone_badCode hsides htrains, State.badCode hsides hok⟩
  · exact bridgeTrainingDone_absorbed hsides
  · rintro side g use p recent hside rfl huse hg rfl
    have hp : p ∈ [p0, p1] := List.mem_of_getElem? hside
    rw [← hsides] at hside
    refine ⟨bridgeBadFrame_ignored hside, fun hbit hstate => ⟨_, bridgeBadFrame_counted hside hok hg hbit hstate, ?_⟩⟩
    by_cases hfull : 16 ≤ (s.recentBad b g).length
    · rw [if_pos hfull]
      obtain ⟨hmem, hreplay, hbad, hboth⟩ := State.groupRemoved hsides hok hp huse hbit
      exact ⟨hmem, hreplay, fun h => absurd hfull (Nat.not_le.mpr h), fun _ => ⟨hbad, hboth⟩⟩
    · rw [if_neg hfull]
      refine ⟨rfl, State.replayed_replay, fun _ => ⟨State.badFrames_setBadFrames_same .., ?_⟩, fun h => absurd h hfull⟩
      exact State.rd_wr_ne _ _ (key_ne _ (by decide))

end Sys2Proof

/-! # Bay states and the watchdog (R43, R131, R132, R161, R165) -/

namespace Sys2Proof.Machine
open Sys2Proof

/-! ## What stays in one bay -/

section
variable {s t u : State} {b e v : Nat} {f : Fld}

theorem State.bayOnly.refl : s.bayOnly s b := ⟨rfl, fun _ _ => rfl, fun _ _ _ => rfl⟩

theorem State.bayOnly.trans (h : s.bayOnly t b) (h' : t.bayOnly u b) : s.bayOnly u b := by
  obtain ⟨hrest, hbay, hreg⟩ := h
  obtain ⟨hrest', hbay', hreg'⟩ := h'
  refine ⟨hrest'.trans ?_, fun k hk => (hbay' k hk).trans (hbay k hk), fun k hk hk' => (hreg' k hk hk').trans (hreg k hk hk')⟩
  rw [hrest]

theorem State.bayOnly.mem (h : s.bayOnly t b) : t.mem = s.mem := by
  obtain ⟨hrest, -⟩ := h
  rw [hrest]

theorem State.bayOnly.ctx {k : Nat} (h : s.bayOnly t b) : t.ctx k = s.ctx k := by
  obtain ⟨hrest, -⟩ := h
  rw [hrest]
  rfl

theorem State.bayOnly.wr (hf : f.off < 0x100 ∧ f.lo < 32) : s.bayOnly (s.wr (bayA b) f v) b := by
  obtain ⟨hoff, hlo⟩ := hf
  refine ⟨rfl, fun _ _ => rfl, fun k hk _ => Tab.get_put_ne _ _ _ ?_⟩
  rintro rfl
  unfold key bayA winA at hk
  omega

theorem State.bayOnly.modBay {g : BaySt → BaySt} : s.bayOnly (s.modBay b g) b :=
  ⟨rfl, fun _ hk => State.bay_setBay_ne _ _ hk, fun _ _ _ => rfl⟩

theorem State.raise_bay {k : Nat} : (s.raise e).bay k = s.bay k := by
  have hraise := State.raise_regsOnly (s := s) (e := e)
  unfold State.regsOnly at hraise
  unfold State.bay
  rw [hraise]

theorem State.modBay_flds {g : BaySt → BaySt} : (s.modBay b g).flds = s.flds := rfl

theorem State.regrid_flds : (s.regrid b).flds = s.flds := rfl

theorem State.bayOnly.regrid : s.bayOnly (s.regrid b) b := by
  unfold State.regrid
  exact .modBay

theorem State.bayOnly.raise (he : e < 1024) : s.bayOnly (s.raise e) b := by
  have hraise := State.raise_regsOnly (s := s) (e := e)
  unfold State.regsOnly at hraise
  refine ⟨?_, fun k _ => State.raise_bay, fun k _ hk => ?_⟩
  · rw [hraise]
  · have hevt : ∀ f : Fld, f.lo < 32 → f.off < 0x10 → ¬ k = key (evtA e) f := by
      rintro f hlo hoff rfl
      unfold key evtA quadA at hk
      omega
    exact (State.agrees.refl.raise (K := fun k' => k' = k) (fun h => hevt _ (by decide) (by decide) h.symm)
      (fun h => hevt _ (by decide) (by decide) h.symm)).2 k rfl
end

/-! ## What the front end does at its work -/

/-- `t` differs from `s` in the front end and the registers of bay `b`, but neither in the bay's state, nor in what its pins obey, nor in what its
watchdog has left. -/
def State.frontEnd (b : Nat) (s t : State) : Prop :=
  s.bayOnly t b ∧ (t.bay b).pinsLive = (s.bay b).pinsLive ∧ t.bayState b = s.bayState b ∧
    t.rd (bayA b) R.WDOG_STAT.REMAIN = s.rd (bayA b) R.WDOG_STAT.REMAIN

/-- A field of the bay's registers that the front end may write at its work. -/
abbrev frontField (f : Fld) : Prop :=
  (f.off < 0x100 ∧ f.lo < 32) ∧ key 0 R.BAY_STATE.STATE ≠ key 0 f ∧ key 0 R.WDOG_STAT.REMAIN ≠ key 0 f

section
variable {s t : State} {b v : Nat} {f : Fld}

theorem State.frontEnd.refl : s.frontEnd b s := ⟨.refl, rfl, rfl, rfl⟩

theorem State.frontEnd.wr (h : s.frontEnd b t) (hf : frontField f) : s.frontEnd b (t.wr (bayA b) f v) := by
  obtain ⟨honly, hlive, hstate, hremain⟩ := h
  obtain ⟨hplace, hne, hne'⟩ := hf
  exact ⟨honly.trans (.wr hplace), hlive, (State.rd_wr_ne _ _ (key_ne _ hne)).trans hstate, (State.rd_wr_ne _ _ (key_ne _ hne')).trans hremain⟩

theorem State.frontEnd.modBay {g : BaySt → BaySt} (h : s.frontEnd b t) (hg : (g (t.bay b)).pinsLive = (t.bay b).pinsLive := by rfl) :
    s.frontEnd b (t.modBay b g) := by
  obtain ⟨honly, hlive, hstate, hremain⟩ := h
  refine ⟨honly.trans .modBay, Eq.trans ?_ hlive, hstate, hremain⟩
  exact (congrArg BaySt.pinsLive (State.bay_setBay_same ..)).trans hg

theorem State.frontEnd.setPin {k : Nat} {p : PinSt} (h : s.frontEnd b t) : s.frontEnd b (t.setPin b k p) := h.modBay

theorem State.frontEnd.foldl {β : Type} {l : List β} {f : State → β → State} (h : s.frontEnd b t)
    (hf : ∀ u x, s.frontEnd b u → s.frontEnd b (f u x)) : s.frontEnd b (l.foldl f t) := by
  induction l generalizing t with
  | nil => exact h
  | cons x l ih => exact ih (hf t x h)

theorem State.frontEnd.setZone {k : Nat} {hi val : Bool} (h : s.frontEnd b t) : s.frontEnd b (t.setZone b k hi val) := by
  unfold State.setZone
  split
  · exact h.wr (by decide)
  · exact h.wr (by decide)

theorem State.frontEnd.pinTakes {k : Nat} (h : s.frontEnd b t) : s.frontEnd b (t.pinTakes b k) := h.setZone.setZone

theorem State.frontEnd.drivePins (h : s.frontEnd b t) : s.frontEnd b (t.drivePins b) := by
  unfold State.drivePins
  split
  · exact h
  · exact h.foldl fun _ _ hu => hu.setPin

theorem State.frontEnd.stuckRestart {k : Nat} (h : s.frontEnd b t) : s.frontEnd b (t.stuckRestart b k) := h.setPin

theorem bayA_ne_evtA {e : Nat} {f g : Fld} (hb : b < 128) (hf : f.off < 0x100 ∧ f.lo < 32) : key (bayA b) f ≠ key (evtA e) g := by
  obtain ⟨hoff, hlo⟩ := hf
  unfold key bayA winA evtA quadA
  omega

section
variable (hb : b < 128)
include hb

theorem State.frontEnd.raise {e : Nat} (he : e < 1024) (h : s.frontEnd b t) : s.frontEnd b (t.raise e) := by
  obtain ⟨honly, hlive, hstate, hremain⟩ := h
  refine ⟨honly.trans (.raise he), (congrArg BaySt.pinsLive State.raise_bay).trans hlive, (State.raise_rd ?_ ?_).trans hstate,
    (State.raise_rd ?_ ?_).trans hremain⟩
  all_goals exact bayA_ne_evtA hb (by decide)

theorem State.frontEnd.alert {i : Nat} (h : s.frontEnd b t) : s.frontEnd b (t.alert b i) := by
  unfold State.alert State.raiseIf
  extract_lets w
  split
  · exact h
  · split
    · exact .raise hb (by omega) (h.wr (by decide))
    · exact h.wr (by decide)

theorem State.frontEnd.stageRecord {r : CapRecord} (h : s.frontEnd b t) : s.frontEnd b (t.stageRecord b r) := by
  unfold State.stageRecord
  split
  · exact h
  · split
    · exact .alert hb (.modBay (h.wr (by decide)))
    · exact h.modBay

theorem State.frontEnd.record {kind pin edge zone ovr glitch : Nat} {stamp : Int} {settle once : Bool} (h : s.frontEnd b t) :
    s.frontEnd b (t.record b kind pin edge zone stamp settle ovr glitch once) :=
  State.frontEnd.foldl h.modBay fun _ _ hu => hu.stageRecord hb

theorem State.frontEnd.pinRecord {k kind edge : Nat} {stamp : Int} {settle : Bool} (h : s.frontEnd b t) :
    s.frontEnd b (t.pinRecord b k kind edge stamp settle) :=
  State.frontEnd.setPin (h.record hb)

theorem State.frontEnd.resyncPins (h : s.frontEnd b t) : s.frontEnd b (t.resyncPins b) := by
  refine h.foldl fun u k hu => ?_
  split
  · exact hu
  · exact hu.pinRecord hb

theorem State.frontEnd.ruleBegins {r : Nat} (h : s.frontEnd b t) : s.frontEnd b (t.ruleBegins b r) := by
  unfold State.ruleBegins
  extract_lets a target zone u
  have hu : s.frontEnd b u := by
    unfold u
    split
    · exact h.record hb
    · exact h
  split
  · exact hu.alert hb
  · exact hu

theorem State.frontEnd.evalRule {frame : Bool} {r : Nat} (h : s.frontEnd b t) : s.frontEnd b (t.evalRule b frame r) := by
  unfold State.evalRule
  extract_lets c conds latched latch rise latched' acts begins u₁ u₂ u₃
  have hwritten : s.frontEnd b u₂ := (h.wr (by decide)).wr (by decide)
  clear_value u₂
  have hu : s.frontEnd b u₃ := hwritten.modBay
  split
  · exact hu.ruleBegins hb
  · exact hu

theorem State.frontEnd.reflex {frame : Bool} (h : s.frontEnd b t) : s.frontEnd b (t.reflex b frame) := by
  unfold State.reflex
  split
  · have hrules : s.frontEnd b ((List.range 16).foldl (fun u r => u.evalRule b frame r) t) := h.foldl fun _ _ hu => hu.evalRule hb
    generalize (List.range 16).foldl (fun u r => u.evalRule b frame r) t = u at hrules ⊢
    exact hrules.modBay.drivePins
  · exact h
end
end
end Sys2Proof.Machine

/-! ## OFFLINE, ONLINE and RESET (R131, R165) -/

namespace Sys2Proof.Machine
open Sys2Proof

section
variable {s t u : State} {b k v : Nat} {f : Fld}

theorem State.drivePins_flds : (s.drivePins b).flds = s.flds := by
  unfold State.drivePins
  split
  · rfl
  · exact List.foldlRecOn (motive := fun t : State => t.flds = s.flds) _ _ rfl fun _ ht _ _ => ht

/-- OFFLINE writes STATE and no other register. -/
theorem State.enterOffline_flds : (s.enterOffline b).flds = (s.wr (bayA b) R.BAY_STATE.STATE 1).flds := by
  unfold State.enterOffline
  exact State.drivePins_flds.trans
    (List.foldlRecOn (motive := fun t : State => t.flds = (s.wr (bayA b) R.BAY_STATE.STATE 1).flds) _ _ rfl fun _ ht _ _ => ht)

theorem State.enterOffline_state : (s.enterOffline b).bayState b = 1 :=
  (State.rd_congr State.enterOffline_flds _ _).trans (State.rd_wr_same ..)

theorem State.enterOffline_rd {a : Nat} (h : key a f ≠ key (bayA b) R.BAY_STATE.STATE) : (s.enterOffline b).rd a f = s.rd a f :=
  (State.rd_congr State.enterOffline_flds _ _).trans (State.rd_wr_ne _ _ h)

/-- The state of the bay in OFFLINE before its comparators and its pins follow. -/
def State.stopped (s : State) (b : Nat) : State :=
  ((s.closeBlocks b).wr (bayA b) R.BAY_STATE.STATE 1).modBay b fun v => { v with acting := 0, fresh := true, pinsLive := false }

theorem State.enterOffline_frontEnd : (s.stopped b).frontEnd b (s.enterOffline b) :=
  .drivePins (State.frontEnd.refl.foldl fun _ _ hu => hu.setPin)

theorem State.enterOffline_bayOnly : s.bayOnly (s.enterOffline b) b := by
  obtain ⟨honly, -⟩ := State.enterOffline_frontEnd (s := s) (b := b)
  exact ((State.bayOnly.modBay.trans (.wr (by decide))).trans .modBay).trans honly

theorem State.enterOffline_pinsLive : ((s.enterOffline b).bay b).pinsLive = false := by
  obtain ⟨-, hlive, -⟩ := State.enterOffline_frontEnd (s := s) (b := b)
  exact hlive.trans (congrArg BaySt.pinsLive (State.bay_setBay_same ..))

/-- The state of the bay back in RUN with its watchdog reloaded, before its front end starts. -/
def State.restarted (s : State) (b : Nat) : State :=
  let s := s.wr (bayA b) R.BAY_STATE.STATE 0
  let s := (s.modBay b fun v => { v with gapAdc := true, fresh := true, acting := 0, pinsLive := true }).regrid b
  s.wr (bayA b) R.WDOG_STAT.REMAIN (s.rd (bayA b) R.WDOG_CFG.TIMEOUT)

/-- The comparators of every pin that is not OFF take their values from the balls. -/
def State.takePins (s : State) (b : Nat) : State :=
  (List.range 10).foldl (fun s k => if s.rd (pinA b k) R.PIN_MODE.MODE = 0 ∨ s.bankOk b = false then s else s.pinTakes b k) s

/-- The stuck timers of every pin start afresh. -/
def State.restartStuck (s : State) (b : Nat) : State := (List.range 10).foldl (fun s k => s.stuckRestart b k) s

theorem State.frontEnd.takePins (h : s.frontEnd b t) : s.frontEnd b (t.takePins b) := by
  refine h.foldl fun u k hu => ?_
  split
  · exact hu
  · exact hu.pinTakes

theorem State.frontEnd.restartStuck (h : s.frontEnd b t) : s.frontEnd b (t.restartStuck b) := h.foldl fun _ _ hu => hu.stuckRestart

theorem State.enterOnline_def : s.enterOnline b = ((((s.restarted b).takePins b).drivePins b).resyncPins b |>.restartStuck b).reflex b false := rfl

theorem State.enterOnline_frontEnd (hb : b < 128) : (s.restarted b).frontEnd b (s.enterOnline b) := by
  rw [State.enterOnline_def]
  generalize s.restarted b = u
  exact (State.frontEnd.refl.takePins.drivePins.resyncPins hb).restartStuck.reflex hb

theorem State.restarted_eq : s.bayOnly (s.restarted b) b ∧ (s.restarted b).bayState b = 0 ∧
    (s.restarted b).rd (bayA b) R.WDOG_STAT.REMAIN = s.rd (bayA b) R.WDOG_CFG.TIMEOUT % 2 ^ R.WDOG_STAT.REMAIN.width := by
  unfold State.restarted
  extract_lets running regridded
  have hrunning : s.bayOnly running b := .wr (by decide)
  have honly : s.bayOnly regridded b := (hrunning.trans .modBay).trans .regrid
  have hflds : regridded.flds = running.flds := State.regrid_flds.trans State.modBay_flds
  have htimeout : regridded.rd (bayA b) R.WDOG_CFG.TIMEOUT = s.rd (bayA b) R.WDOG_CFG.TIMEOUT :=
    (State.rd_congr hflds _ _).trans (State.rd_wr_ne _ _ (key_ne _ (by decide)))
  have hstate : regridded.bayState b = 0 := (State.rd_congr hflds _ _).trans (State.rd_wr_same ..)
  clear_value regridded
  refine ⟨honly.trans (.wr (by decide)), (State.rd_wr_ne _ _ (key_ne _ (by decide))).trans hstate, ?_⟩
  rw [State.rd_wr_same, htimeout]

theorem State.enterOnline_eq (hb : b < 128) : s.bayOnly (s.enterOnline b) b ∧ (s.enterOnline b).bayState b = 0 ∧
    (s.enterOnline b).rd (bayA b) R.WDOG_STAT.REMAIN = s.rd (bayA b) R.WDOG_CFG.TIMEOUT % 2 ^ R.WDOG_STAT.REMAIN.width := by
  obtain ⟨honly, hstate, hremain⟩ := State.restarted_eq (s := s) (b := b)
  obtain ⟨honly', -, hstate', hremain'⟩ := State.enterOnline_frontEnd (s := s) hb
  exact ⟨honly.trans honly', hstate'.trans hstate, hremain'.trans hremain⟩

/-! ### The reset of a bay -/

/-- The state of a bay in RESET before its pins follow. -/
def State.cleared (s : State) (b : Nat) : State := ((s.leaveSleep (1000 + b)).clearBay b).wr (bayA b) R.BAY_STATE.STATE 2

theorem State.startBayReset_frontEnd : (s.cleared b).frontEnd b (s.startBayReset b) := State.frontEnd.refl.drivePins

/-- A bay reset reaches the registers of the bay domain and the record of the engine's halt. -/
theorem State.startBayReset_get (hdbg : ∀ f : Fld, f.lo < 32 → f.off < 0x40 → k ≠ key (dbgEngA b) f) (hstate : k ≠ key (bayA b) R.BAY_STATE.STATE) :
    Tab.get regReset (s.startBayReset b).flds k = if bayKey b k then regReset k else Tab.get regReset s.flds k := by
  have hflds : (s.startBayReset b).flds = (s.cleared b).flds := State.drivePins_flds
  rw [hflds]
  refine (Tab.get_put_ne _ _ _ hstate).trans ?_
  exact (Tab.get_put_ne _ _ _ (hdbg _ (by decide) (by decide))).trans
    ((Tab.get_put_ne _ _ _ (hdbg _ (by decide) (by decide))).trans (Tab.get_drop ..))

theorem State.startBayReset_state : (s.startBayReset b).bayState b = 2 :=
  (State.rd_congr State.drivePins_flds _ _).trans (State.rd_wr_same ..)

theorem State.clearBay_mem : (s.clearBay b).mem = s.mem :=
  (State.wr_mem ..).trans ((State.wr_mem ..).trans ((State.setDbg_mem ..).trans ((State.setMbx_mem ..).trans (State.setBay_mem ..))))

theorem State.cleared_mem : (s.cleared b).mem = s.mem := (State.wr_mem ..).trans State.clearBay_mem

theorem State.startBayReset_mem : (s.startBayReset b).mem = s.mem := by
  obtain ⟨honly, -⟩ := State.startBayReset_frontEnd (s := s) (b := b)
  exact honly.mem.trans State.cleared_mem

theorem State.cleared_ctxs : (s.cleared b).ctxs = Tab.drop (fun k => decide (k / 32 = b)) s.ctxs := rfl

theorem State.startBayReset_ctx {c : Nat} (hc : c < 32) : (s.startBayReset b).ctx (b * 32 + c) = CtxSt.init := by
  obtain ⟨honly, -⟩ := State.startBayReset_frontEnd (s := s) (b := b)
  have hdiv : (b * 32 + c) / 32 = b := by omega
  rw [honly.ctx]
  unfold State.ctx
  rw [State.cleared_ctxs, Tab.get_drop, if_pos (decide_eq_true hdiv)]

theorem State.cleared_bays : ∃ v, (s.cleared b).bays = (s.setBay b v).bays := ⟨_, rfl⟩

theorem State.startBayReset_bay (hk : k ≠ b) : (s.startBayReset b).bay k = s.bay k := by
  obtain ⟨⟨-, hbay, -⟩, -⟩ := State.startBayReset_frontEnd (s := s) (b := b)
  obtain ⟨v, hv⟩ := State.cleared_bays (s := s) (b := b)
  rw [hbay k hk]
  unfold State.bay
  rw [hv]
  exact State.bay_setBay_ne _ _ hk

theorem bayA_ne_ctxA {c : Nat} {f g : Fld} (hf : f.off < 0x100 ∧ f.lo < 32) (hg : g.lo < 32) : key (bayA b) f ≠ key (ctxA b c) g := by
  obtain ⟨hoff, hlo⟩ := hf
  unfold key bayA ctxA
  omega

theorem bayA_ne_dbgEng {f g : Fld} (hb : b < 128) (hf : f.off < 0x100 ∧ f.lo < 32) : key (bayA b) f ≠ key (dbgEngA b) g := by
  obtain ⟨hoff, hlo⟩ := hf
  unfold key bayA winA dbgEngA quadA
  omega

theorem evtA_ne_dbgEng {e : Nat} {f g : Fld} (he : e < 1024) (hf : f.off < 0x10 ∧ f.lo < 32) (hlo : g.lo < 32) (hoff : g.off < 0x40) :
    key (evtA e) f ≠ key (dbgEngA b) g := by
  obtain ⟨hoff', hlo'⟩ := hf
  unfold key evtA dbgEngA quadA
  omega

theorem dbgEng_key_ge : quadA 0 * 32 ≤ key (dbgEngA b) f := by
  unfold key dbgEngA quadA
  omega

theorem bayKey_lt (hb : b + 1 ≤ 128) (hk : bayKey b k = true) : k < quadA 0 * 32 := by
  unfold bayKey at hk
  simp only [Bool.and_eq_true, decide_eq_true_eq] at hk
  obtain ⟨⟨-, hhi⟩, -⟩ := hk
  unfold winA at hhi
  unfold quadA
  generalize b + 1 = c at hb hhi
  omega

/-- A bay-domain register other than STATE reads its reset value in RESET. -/
theorem State.startBayReset_fresh (hb : b < 128) (hk : bayKey b k = true) (hstate : k ≠ key (bayA b) R.BAY_STATE.STATE) :
    Tab.get regReset (s.startBayReset b).flds k = regReset k := by
  have hlt := bayKey_lt hb hk
  rw [State.startBayReset_get (fun f _ _ => (Nat.lt_of_lt_of_le hlt dbgEng_key_ge).ne) hstate, if_pos hk]

/-- The fields of the watchdog and of the events that are not of the bay domain (R166). -/
def watchField (b a : Nat) (f : Fld) : Prop :=
  (a = bayA b ∧ f ∈ [R.WDOG_STAT.EXPIRED, R.WDOG_STAT.BADKICK]) ∨ ∃ e, e < 1024 ∧ a = evtA e ∧ f = R.EVT_STAT.OCC

theorem watchField.ne {a : Nat} {g : Fld} (h : watchField b a f) (hb : b < 128) (hg : g ∈ [R.BAY_STATE.STATE, R.WDOG_STAT.REMAIN]) :
    key a f ≠ key (bayA b) g := by
  have happart : ∀ f ∈ [R.WDOG_STAT.EXPIRED, R.WDOG_STAT.BADKICK], ∀ g ∈ [R.BAY_STATE.STATE, R.WDOG_STAT.REMAIN], key 0 f ≠ key 0 g := by decide
  have hfits : ∀ g ∈ [R.BAY_STATE.STATE, R.WDOG_STAT.REMAIN], g.off < 0x100 ∧ g.lo < 32 := by decide
  obtain ⟨rfl, hf⟩ | ⟨e, -, rfl, rfl⟩ := h
  · exact key_ne _ (happart f hf g hg)
  · exact (bayA_ne_evtA hb (hfits g hg)).symm

theorem watchField.not_bayKey {a : Nat} (h : watchField b a f) (hb : b + 1 ≤ 128) : bayKey b (key a f) = false := by
  obtain ⟨rfl, hf⟩ | ⟨e, -, rfl, rfl⟩ := h
  · simp only [List.mem_cons, List.not_mem_nil, or_false] at hf
    unfold bayKey
    obtain rfl | rfl := hf <;> simp
  · refine Bool.eq_false_iff.mpr fun hk => ?_
    have hlt := bayKey_lt hb hk
    unfold key evtA at hlt
    omega

theorem watchField.ne_dbgEng {a : Nat} {g : Fld} (h : watchField b a f) (hb : b < 128) (hlo : g.lo < 32) (hoff : g.off < 0x40) :
    key a f ≠ key (dbgEngA b) g := by
  obtain ⟨rfl, hf⟩ | ⟨e, he, rfl, rfl⟩ := h
  · have hfits : ∀ f ∈ [R.WDOG_STAT.EXPIRED, R.WDOG_STAT.BADKICK], f.off < 0x100 ∧ f.lo < 32 := by decide
    exact bayA_ne_dbgEng hb (hfits f hf)
  · exact evtA_ne_dbgEng he (by decide) hlo hoff

/-- The watchdog's record and the events stand through the bay's reset. -/
theorem State.startBayReset_rd {a : Nat} (h : watchField b a f) (hb : b < 128) : (s.startBayReset b).rd a f = s.rd a f := by
  refine (State.startBayReset_get (fun g hlo hoff => h.ne_dbgEng hb hlo hoff) (h.ne hb (.head _))).trans ?_
  rw [h.not_bayKey hb, if_neg Bool.false_ne_true]
  rfl
end
end Sys2Proof.Machine

/-! ## The end of a bay's reset (R131, R163) -/

namespace Sys2Proof.Machine
open Sys2Proof

/-- Memory, the bay's state and what its pins obey are in `t` as in `s`. -/
def State.sameRun (b : Nat) (s t : State) : Prop :=
  t.mem = s.mem ∧ t.bayState b = s.bayState b ∧ (t.bay b).pinsLive = (s.bay b).pinsLive

section
variable {s t : State} {b v : Nat}

theorem State.sameRun.refl : s.sameRun b s := ⟨rfl, rfl, rfl⟩

theorem State.sameRun.front {u : State} (h : s.sameRun b t) (h' : t.frontEnd b u) : s.sameRun b u := by
  obtain ⟨hmem, hstate, hlive⟩ := h
  obtain ⟨honly, hlive', hstate', -⟩ := h'
  exact ⟨honly.mem.trans hmem, hstate'.trans hstate, hlive'.trans hlive⟩

theorem State.sameRun.wr {a : Nat} {f : Fld} (h : s.sameRun b t) (hne : key (bayA b) R.BAY_STATE.STATE ≠ key a f) : s.sameRun b (t.wr a f v) := by
  obtain ⟨hmem, hstate, hlive⟩ := h
  exact ⟨hmem, (State.rd_wr_ne _ _ hne).trans hstate, hlive⟩

theorem State.sameRun.foldl {β : Type} {l : List β} {f : State → β → State} (h : s.sameRun b t)
    (hf : ∀ u, ∀ x ∈ l, s.sameRun b u → s.sameRun b (f u x)) : s.sameRun b (l.foldl f t) := by
  induction l generalizing t with
  | nil => exact h
  | cons x l ih => exact ih (hf t x (.head _) h) fun u y hy => hf u y (.tail _ hy)

theorem State.sameRun.tracePkt {kind size c port data : Nat} (hb : b < 128) (h : s.sameRun b t) :
    s.sameRun b (t.tracePkt b kind size c port data) := by
  unfold State.tracePkt
  split
  · extract_lets d
    split
    · exact State.sameRun.wr h (bayA_ne_dbgEng hb (by decide))
    · exact h
  · exact h

/-- HOLD_RST changes the contexts' states and the record of the engine's halt. -/
theorem State.sameRun.holdReset (hb : b < 128) (h : s.sameRun b t) : s.sameRun b (t.holdReset b) := by
  unfold State.holdReset
  split
  · have hdbg : ∀ {u : State} {f : Fld} {v : Nat}, s.sameRun b u → s.sameRun b (u.wr (dbgEngA b) f v) := fun hu =>
      hu.wr (bayA_ne_dbgEng hb (by decide))
    have hraise : ∀ {u : State}, s.sameRun b u → s.sameRun b (u.raise (4 * b + 1)) := fun hu =>
      hu.front (.raise hb (by omega) .refl)
    have htrace : ∀ {u : State} {pc : Nat}, s.sameRun b u → s.sameRun b (u.traceState b 1 0 0 pc) := fun hu => by
      unfold State.traceState
      split
      · exact hu.tracePkt hb
      · exact hu
    refine htrace (hraise (hdbg (hdbg (h.foldl fun u c _ hu => ?_))))
    dsimp only
    split
    · exact hu
    · exact State.sameRun.wr (t := u.setCtx _ _) hu (bayA_ne_ctxA (by decide) (by decide))
  · exact h

/-- The bay as it comes out of its reset: in RUN, with its engine started or held. -/
def State.released (s : State) (b : Nat) : State :=
  ((s.wr (bayA b) R.BAY_STATE.STATE 0).modBay b fun v =>
    { v with pinsLive := true, fresh := true, adcOrigin := ((s.wr (bayA b) R.BAY_STATE.STATE 0).nowQ (b / 32)), adcNext := 0 }).holdReset b

/-- An enabled watchdog starts anew. -/
def State.startWatchdog (s : State) (b : Nat) : State :=
  if s.bit (bayA b) R.WDOG_CFG.EN then s.wr (bayA b) R.WDOG_STAT.REMAIN (s.rd (bayA b) R.WDOG_CFG.TIMEOUT) else s

/-- Thresholds in the wrong order set their alert. -/
def State.checkOrder (s : State) (b : Nat) : State :=
  if (List.range 10).any (fun k => s.wrongOrder b k && decide (s.rd (pinA b k) R.PIN_MODE.MODE ≠ 0)) then s.alert b 6 else s

theorem State.enterRun_def :
    s.enterRun b = ((((((s.released b).takePins b).restartStuck b).startWatchdog b).checkOrder b).drivePins b).reflex b false := rfl

theorem State.sameRun.startWatchdog (h : s.sameRun b t) : s.sameRun b (t.startWatchdog b) := by
  unfold State.startWatchdog
  split
  · exact h.wr (key_ne _ (by decide))
  · exact h

theorem State.frontEnd.checkOrder (hb : b < 128) (h : s.frontEnd b t) : s.frontEnd b (t.checkOrder b) := by
  unfold State.checkOrder
  split
  · exact h.alert hb
  · exact h

theorem State.released_eq (hb : b < 128) :
    (s.released b).mem = s.mem ∧ (s.released b).bayState b = 0 ∧ ((s.released b).bay b).pinsLive = true := by
  obtain ⟨hmem, hstate, hlive⟩ := State.sameRun.refl.holdReset (b := b) (s := (s.wr (bayA b) R.BAY_STATE.STATE 0).modBay b fun v =>
    { v with pinsLive := true, fresh := true, adcOrigin := ((s.wr (bayA b) R.BAY_STATE.STATE 0).nowQ (b / 32)), adcNext := 0 }) hb
  refine ⟨hmem.trans ((State.setBay_mem ..).trans (State.wr_mem ..)), ?_, ?_⟩
  · exact hstate.trans ((State.rd_congr State.modBay_flds _ _).trans (State.rd_wr_same ..))
  · exact hlive.trans (congrArg BaySt.pinsLive (State.bay_setBay_same ..))

/-- The bay is in RUN, and its pins obey it. -/
theorem State.enterRun_eq (hb : b < 128) :
    (s.enterRun b).mem = s.mem ∧ (s.enterRun b).bayState b = 0 ∧ ((s.enterRun b).bay b).pinsLive = true := by
  obtain ⟨hmem, hstate, hlive⟩ := State.released_eq (s := s) hb
  rw [State.enterRun_def]
  generalize s.released b = u at hmem hstate hlive
  have hstart : u.sameRun b (((u.takePins b).restartStuck b).startWatchdog b) :=
    (State.sameRun.refl.front State.frontEnd.refl.takePins.restartStuck).startWatchdog
  obtain ⟨hmem', hstate', hlive'⟩ := hstart.front (((State.frontEnd.refl.checkOrder hb).drivePins).reflex (frame := false) hb)
  exact ⟨hmem'.trans hmem, hstate'.trans hstate, hlive'.trans hlive⟩

theorem State.loadImage_mem {p : Nat → Bool} : (s.loadImage p).mem = s.mem := by
  refine List.foldlRecOn (motive := fun t : State => t.mem = s.mem) _ _ rfl fun t ht kv _ => ?_
  split
  · exact ht
  · exact ht

theorem State.startContexts_mem : (s.startContexts b).mem = s.mem :=
  List.foldlRecOn (motive := fun t : State => t.mem = s.mem) _ _ rfl fun _ ht _ _ => ht
end
end Sys2Proof.Machine

/-! ## The watchdog expires (R161) -/

namespace Sys2Proof.Machine
open Sys2Proof

section
variable {s : State} {b a : Nat} {f : Fld}

/-- The expiry is on record, before ACTION acts. -/
def State.expired (s : State) (b : Nat) : State := (s.wr (bayA b) R.WDOG_STAT.EXPIRED 1).raise (4 * b + 3)

theorem State.expired_rd (hb : b < 128) (hf : f.off < 0x100 ∧ f.lo < 32) (hne : key 0 f ≠ key 0 R.WDOG_STAT.EXPIRED) :
    (s.expired b).rd (bayA b) f = s.rd (bayA b) f :=
  (State.raise_rd (bayA_ne_evtA hb hf) (bayA_ne_evtA hb hf)).trans (State.rd_wr_ne _ _ (key_ne _ hne))

theorem State.expired_flag (hb : b < 128) : (s.expired b).rd (bayA b) R.WDOG_STAT.EXPIRED = 1 :=
  (State.raise_rd (bayA_ne_evtA hb (by decide)) (bayA_ne_evtA hb (by decide))).trans (State.rd_wr_same ..)

theorem State.expired_bayOnly (hb : b < 128) : s.bayOnly (s.expired b) b := (State.bayOnly.wr (by decide)).trans (.raise (by omega))

theorem State.bayHere_congr {t : State} (h : t.fuses = s.fuses) : t.bayHere b = s.bayHere b := by
  unfold State.bayHere State.quadOk
  rw [h]

theorem State.evtOk_bay (h : s.bayHere b = true) (hb : b < 128) : s.evtOk (4 * b + 3) = true := by
  have hdiv : (4 * b + 3) / 4 = b := by omega
  unfold State.evtOk
  rw [if_pos (by omega), hdiv, h]

theorem State.expired_occurred (h : s.bayHere b = true) (hb : b < 128) : s.occurred (s.expired b) (4 * b + 3) 1 := by
  have hhere : (s.wr (bayA b) R.WDOG_STAT.EXPIRED 1).bayHere b = true := (State.bayHere_congr (State.wr_fuses ..)).trans h
  exact (State.occurred_raise (State.evtOk_bay hhere hb)).congr (State.rd_wr_ne _ _ (bayA_ne_evtA hb (by decide)).symm) rfl

theorem State.expired_action (hb : b < 128) : (s.expired b).rd (bayA b) R.WDOG_CFG.ACTION = s.rd (bayA b) R.WDOG_CFG.ACTION :=
  State.expired_rd hb (by decide) (by decide)

/-- What an ACTION of the watchdog selects (R161). -/
def ofAction {α : Type} (action : Nat) (reload stop reset : α) : α :=
  match action with
  | 0 => reload
  | 1 => stop
  | _ => reset

theorem ofAction_reload {α : Type} {x y z : α} : ofAction 0 x y z = x := rfl

theorem ofAction_stop {α : Type} {x y z : α} : ofAction 1 x y z = y := rfl

theorem ofAction_reset {α : Type} {x y z : α} {n : Nat} : ofAction (n + 2) x y z = z := rfl

theorem State.wdogExpire_def : s.wdogExpire b =
    ofAction ((s.expired b).rd (bayA b) R.WDOG_CFG.ACTION)
      ((s.expired b).wr (bayA b) R.WDOG_STAT.REMAIN ((s.expired b).rd (bayA b) R.WDOG_CFG.TIMEOUT))
      (((s.expired b).wr (bayA b) R.WDOG_STAT.REMAIN 0).enterOffline b) ((s.expired b).startBayReset b) := rfl

theorem State.wdogExpire_reload (hb : b < 128) (h : s.rd (bayA b) R.WDOG_CFG.ACTION = 0) :
    s.wdogExpire b = (s.expired b).wr (bayA b) R.WDOG_STAT.REMAIN ((s.expired b).rd (bayA b) R.WDOG_CFG.TIMEOUT) := by
  rw [State.wdogExpire_def, State.expired_action hb, h, ofAction_reload]

theorem State.wdogExpire_stop (hb : b < 128) (h : s.rd (bayA b) R.WDOG_CFG.ACTION = 1) :
    s.wdogExpire b = ((s.expired b).wr (bayA b) R.WDOG_STAT.REMAIN 0).enterOffline b := by
  rw [State.wdogExpire_def, State.expired_action hb, h, ofAction_stop]

theorem State.wdogExpire_reset (hb : b < 128) (h : 2 ≤ s.rd (bayA b) R.WDOG_CFG.ACTION) : s.wdogExpire b = (s.expired b).startBayReset b := by
  obtain ⟨n, hn⟩ := Nat.exists_eq_add_of_le' h
  rw [State.wdogExpire_def, State.expired_action hb, hn, ofAction_reset]

/-- Whatever ACTION does, the watchdog's record, the events and memory are as the expiry has left them. -/
theorem State.wdogExpire_keeps (hb : b < 128) : (s.wdogExpire b).mem = s.mem ∧
    ∀ a f, watchField b a f → (s.wdogExpire b).rd a f = (s.expired b).rd a f := by
  have hmem : (s.expired b).mem = s.mem := (State.expired_bayOnly hb).mem
  obtain h | h | h : s.rd (bayA b) R.WDOG_CFG.ACTION = 0 ∨ s.rd (bayA b) R.WDOG_CFG.ACTION = 1 ∨ 2 ≤ s.rd (bayA b) R.WDOG_CFG.ACTION := by omega
  · rw [State.wdogExpire_reload hb h]
    exact ⟨(State.wr_mem ..).trans hmem, fun a f hf => State.rd_wr_ne _ _ (hf.ne hb (.tail _ (.head _)))⟩
  · rw [State.wdogExpire_stop hb h]
    exact ⟨State.enterOffline_bayOnly.mem.trans ((State.wr_mem ..).trans hmem), fun a f hf => (State.enterOffline_rd (hf.ne hb (.head _))).trans
      (State.rd_wr_ne _ _ (hf.ne hb (.tail _ (.head _))))⟩
  · rw [State.wdogExpire_reset hb h]
    exact ⟨State.startBayReset_mem.trans hmem, fun a f hf => State.startBayReset_rd hf hb⟩
end
end Sys2Proof.Machine

/-! ## The bay commands (R131, R132, R161) -/

namespace Sys2Proof.Machine
open Sys2Proof

section
variable {s : State} {b v : Nat} {a : Nat} {f : Fld}

/-- What BAY_RESET does in a bay state (R131). -/
def onReset {α : Type} (state : Nat) (ignored absorbed reset : α) : α :=
  match state with
  | 3 => ignored
  | 2 => absorbed
  | _ => reset

theorem onReset_hold {α : Type} {x y z : α} : onReset 3 x y z = x := rfl

theorem onReset_reset {α : Type} {x y z : α} : onReset 2 x y z = y := rfl

theorem onReset_acting {α : Type} {x y z : α} {n : Nat} (h2 : n ≠ 2) (h3 : n ≠ 3) : onReset n x y z = z := by
  unfold onReset
  split
  · exact absurd rfl h3
  · exact absurd rfl h2
  · rfl

/-- What BAY_OFFLINE does in a bay state (R132). -/
def onOffline {α : Type} (state : Nat) (stop stand ignored : α) : α :=
  match state with
  | 0 => stop
  | 1 => stand
  | _ => ignored

theorem onOffline_run {α : Type} {x y z : α} : onOffline 0 x y z = x := rfl

theorem onOffline_offline {α : Type} {x y z : α} : onOffline 1 x y z = y := rfl

theorem onOffline_other {α : Type} {x y z : α} {n : Nat} (h : 2 ≤ n) : onOffline n x y z = z := by
  obtain ⟨n, rfl⟩ := Nat.exists_eq_add_of_le' h
  rfl

theorem State.bayOk_lt (h : s.bayOk b = true) : b < 128 := by
  unfold State.bayOk at h
  simp only [Bool.and_eq_true, decide_eq_true_eq] at h
  exact h.left

theorem State.bayHere_of_ok (h : s.bayOk b = true) : s.bayHere b = true := by
  unfold State.bayOk at h
  simp only [Bool.and_eq_true, decide_eq_true_eq] at h
  obtain ⟨hb, hq⟩ := h
  unfold State.bayHere
  rw [decide_eq_true hb, State.quadOk_of_live hq]
  rfl

theorem exec_bayReset (h : s.bayOk b = true) : exec (.bayReset b) s =
    .next (onReset (s.bayState b) (s.wr (bayA b) R.BAY_STATE.CMD_IGN 1) s (s.startBayReset b)) :=
  congrArg Host.Outcome.next (if_pos h)

theorem exec_bayResetDone (h : s.bayOk b = true) (hstate : s.bayState b = 2) (hsteps : s.power.stepsDone = true)
    (hreset : s.qReset (b / 32) = false) :
    exec (.bayResetDone b) s = .next (((s.loadImage (bayKey b)).startContexts b).enterRun b) :=
  congrArg Host.Outcome.next (if_pos (by rw [h, hsteps, hreset, decide_eq_true hstate]; rfl))

theorem exec_bayOffline (h : s.bayOk b = true) : exec (.bayOffline b) s =
    .next (onOffline (s.bayState b) (s.enterOffline b) s (s.wr (bayA b) R.BAY_STATE.CMD_IGN 1)) :=
  congrArg Host.Outcome.next (if_pos h)

theorem exec_bayOnline (h : s.bayOk b = true) : exec (.bayOnline b) s =
    .next (if s.bayState b = 1 then s.enterOnline b else s.wr (bayA b) R.BAY_STATE.CMD_IGN 1) :=
  congrArg Host.Outcome.next (if_pos h)

theorem exec_wdogKick {value : BitVec 32} (h : s.bayOk b = true) (hstate : s.bayState b ≠ 2) : exec (.wdogKick b value) s =
    .next (if value = 0xC1FF then s.wr (bayA b) R.WDOG_STAT.REMAIN (s.rd (bayA b) R.WDOG_CFG.TIMEOUT)
      else if s.wdogCounts b then (s.wr (bayA b) R.WDOG_STAT.BADKICK 1).wdogExpire b else s.wr (bayA b) R.WDOG_STAT.BADKICK 1) := by
  have htakes : s.bayTakes b = true := by
    unfold State.bayTakes
    rw [h, decide_eq_true hstate]
    rfl
  exact congrArg Host.Outcome.next (if_pos htakes)

theorem exec_wdogExpiry (h : s.wdogCounts b = true) : exec (.wdogExpiry b) s = .next (s.wdogExpire b) :=
  congrArg Host.Outcome.next (if_pos h)

/-- A command that the bay's state does not allow sets CMD_IGN alone. -/
theorem exec_ignored {i : Instr} (h : s.bayOk b = true)
    (hi : (i = Instr.bayReset b ∧ s.bayState b = 3) ∨ (i = .bayOffline b ∧ 2 ≤ s.bayState b) ∨ (i = .bayOnline b ∧ s.bayState b ≠ 1)) :
    exec i s = .next (s.wr (bayA b) R.BAY_STATE.CMD_IGN 1) := by
  obtain ⟨rfl, hstate⟩ | ⟨rfl, hstate⟩ | ⟨rfl, hstate⟩ := hi
  · rw [exec_bayReset h, hstate, onReset_hold]
  · rw [exec_bayOffline h, onOffline_other hstate]
  · rw [exec_bayOnline h, if_neg hstate]

theorem watchField_wdog (h : f ∈ [R.WDOG_STAT.EXPIRED, R.WDOG_STAT.BADKICK]) : watchField b (bayA b) f := .inl ⟨rfl, h⟩

/-- A counting watchdog is in a bay in RUN. -/
theorem State.bayState_of_wdogCounts (h : s.wdogCounts b = true) : s.bayState b = 0 := by
  unfold State.wdogCounts State.capturing at h
  simp only [Bool.and_eq_true, decide_eq_true_eq] at h
  obtain ⟨⟨⟨-, hstate⟩, -⟩, -⟩ := h
  exact hstate

theorem State.wdogExpire_expired (hb : b < 128) : (s.wdogExpire b).rd (bayA b) R.WDOG_STAT.EXPIRED = 1 := by
  obtain ⟨-, hrd⟩ := State.wdogExpire_keeps (s := s) hb
  exact (hrd _ _ (watchField_wdog (.head _))).trans (State.expired_flag hb)

theorem State.wdogExpire_badkick (hb : b < 128) :
    (s.wdogExpire b).rd (bayA b) R.WDOG_STAT.BADKICK = s.rd (bayA b) R.WDOG_STAT.BADKICK := by
  obtain ⟨-, hrd⟩ := State.wdogExpire_keeps (s := s) hb
  exact (hrd _ _ (watchField_wdog (.tail _ (.head _)))).trans (State.expired_rd hb (by decide) (by decide))

theorem State.wdogExpire_occurred (h : s.bayHere b = true) (hb : b < 128) : s.occurred (s.wdogExpire b) (4 * b + 3) 1 := by
  obtain ⟨-, hrd⟩ := State.wdogExpire_keeps (s := s) hb
  have hocc := hrd (evtA (4 * b + 3)) R.EVT_STAT.OCC (.inr ⟨_, by omega, rfl, rfl⟩)
  exact hocc.trans (State.expired_occurred h hb)

/-- ACTION 0: the bay stays in RUN with its watchdog reloaded. -/
theorem State.wdogExpire_reloads (hb : b < 128) (h : s.rd (bayA b) R.WDOG_CFG.ACTION = 0) :
    s.bayOnly (s.wdogExpire b) b ∧ (s.wdogExpire b).bayState b = s.bayState b ∧
      (s.wdogExpire b).rd (bayA b) R.WDOG_STAT.REMAIN = s.rd (bayA b) R.WDOG_CFG.TIMEOUT % 2 ^ R.WDOG_STAT.REMAIN.width := by
  have honly := State.expired_bayOnly (s := s) hb
  have hstate : (s.expired b).bayState b = s.bayState b := State.expired_rd hb (by decide) (by decide)
  have htimeout : (s.expired b).rd (bayA b) R.WDOG_CFG.TIMEOUT = s.rd (bayA b) R.WDOG_CFG.TIMEOUT := State.expired_rd hb (by decide) (by decide)
  rw [State.wdogExpire_reload hb h]
  generalize s.expired b = u at honly hstate htimeout
  refine ⟨honly.trans (.wr (by decide)), (State.rd_wr_ne _ _ (key_ne _ (by decide))).trans hstate, ?_⟩
  rw [State.rd_wr_same, htimeout]

/-- ACTION 1: the bay is OFFLINE and its watchdog has run out. -/
theorem State.wdogExpire_stops (hb : b < 128) (h : s.rd (bayA b) R.WDOG_CFG.ACTION = 1) :
    s.bayOnly (s.wdogExpire b) b ∧ (s.wdogExpire b).bayState b = 1 ∧ (s.wdogExpire b).rd (bayA b) R.WDOG_STAT.REMAIN = 0 := by
  have honly := State.expired_bayOnly (s := s) hb
  rw [State.wdogExpire_stop hb h]
  generalize s.expired b = u at honly
  refine ⟨(honly.trans (.wr (by decide))).trans State.enterOffline_bayOnly, State.enterOffline_state, ?_⟩
  exact (State.enterOffline_rd (key_ne _ (by decide))).trans ((State.rd_wr_same ..).trans (Nat.zero_mod _))

/-- ACTION 2: the bay is in RESET. -/
theorem State.wdogExpire_resets (hb : b < 128) (h : 2 ≤ s.rd (bayA b) R.WDOG_CFG.ACTION) : (s.wdogExpire b).bayState b = 2 := by
  rw [State.wdogExpire_reset hb h]
  exact State.startBayReset_state

/-- The state after a kick of any value other than C1FF. -/
def State.badKick (s : State) (b : Nat) : State :=
  if s.wdogCounts b then (s.wr (bayA b) R.WDOG_STAT.BADKICK 1).wdogExpire b else s.wr (bayA b) R.WDOG_STAT.BADKICK 1

theorem State.wr_fldsOnly : s.wr a f v = { s with flds := (s.wr a f v).flds } := rfl

theorem State.badKick_eq (hb : b < 128) : (s.badKick b).rd (bayA b) R.WDOG_STAT.BADKICK = 1 ∧ (s.badKick b).mem = s.mem ∧
    (s.wdogCounts b = true → (s.badKick b).rd (bayA b) R.WDOG_STAT.EXPIRED = 1) ∧
      (s.wdogCounts b = false → s.badKick b = { s with flds := (s.badKick b).flds }) := by
  have hkick : (s.wr (bayA b) R.WDOG_STAT.BADKICK 1).rd (bayA b) R.WDOG_STAT.BADKICK = 1 := State.rd_wr_same ..
  have hmem : (s.wr (bayA b) R.WDOG_STAT.BADKICK 1).mem = s.mem := State.wr_mem ..
  have honly := State.wr_fldsOnly (s := s) (a := bayA b) (f := R.WDOG_STAT.BADKICK) (v := 1)
  unfold State.badKick
  cases s.wdogCounts b with
  | false => exact ⟨hkick, hmem, nofun, fun _ => honly⟩
  | true =>
    rw [if_pos rfl]
    generalize s.wr (bayA b) R.WDOG_STAT.BADKICK 1 = u at hkick hmem
    obtain ⟨hmem', -⟩ := State.wdogExpire_keeps (s := u) hb
    exact ⟨(State.wdogExpire_badkick hb).trans hkick, hmem'.trans hmem, fun _ => State.wdogExpire_expired hb, nofun⟩
end
end Sys2Proof.Machine

namespace Sys2Proof
open Machine

/-- Settles O22: a rule for each bay command, with the bay's reset, its entry into OFFLINE and RUN and the expiry of its watchdog each followed
through the state they change. -/
theorem bayStatesAndWatchdog : Obligations.BayStatesAndWatchdog := by
  unfold Obligations.BayStatesAndWatchdog
  intro s b hok
  have hb := State.bayOk_lt hok
  refine ⟨fun h2 h3 => ?_, fun h => ?_, fun h hsteps hreset => ?_, fun h => ?_, fun h => ?_, fun h => ?_, fun i hi => exec_ignored hok hi,
    fun h => ?_, fun v hv h => ?_, fun h => ?_⟩
  · exact ⟨s.startBayReset b, (exec_bayReset hok).trans (congrArg _ (onReset_acting h2 h3)), State.startBayReset_state, State.startBayReset_mem,
      fun k hk hne => State.startBayReset_fresh hb hk hne, fun c hc => State.startBayReset_ctx hc, fun k hk => State.startBayReset_bay hk⟩
  · rw [exec_bayReset hok, h, onReset_reset]
  · obtain ⟨hmem, hstate, hlive⟩ := State.enterRun_eq (s := (s.loadImage (bayKey b)).startContexts b) hb
    exact ⟨_, exec_bayResetDone hok h hsteps hreset, hstate, hlive, hmem.trans (State.startContexts_mem.trans State.loadImage_mem)⟩
  · exact ⟨s.enterOffline b, (exec_bayOffline hok).trans (by rw [h, onOffline_run]), State.enterOffline_bayOnly, State.enterOffline_state,
      State.enterOffline_pinsLive⟩
  · rw [exec_bayOffline hok, h, onOffline_offline]
  · obtain ⟨honly, hstate, hremain⟩ := State.enterOnline_eq (s := s) hb
    exact ⟨s.enterOnline b, (exec_bayOnline hok).trans (congrArg _ (if_pos h)), honly, hstate, hremain⟩
  · exact (exec_wdogKick hok h).trans (congrArg _ (if_pos rfl))
  · obtain ⟨hkick, hmem, hexpired, honly⟩ := State.badKick_eq (s := s) hb
    exact ⟨s.badKick b, (exec_wdogKick hok h).trans (congrArg _ (if_neg hv)), hkick, hmem, hexpired, honly⟩
  · obtain ⟨hmem, -⟩ := State.wdogExpire_keeps (s := s) hb
    refine ⟨s.wdogExpire b, exec_wdogExpiry h, State.wdogExpire_expired hb, hmem, State.wdogExpire_occurred (State.bayHere_of_ok hok) hb, fun hact => ?_,
      fun hact => State.wdogExpire_stops hb hact, fun hact => State.wdogExpire_resets hb hact⟩
    obtain ⟨honly, hstate, hremain⟩ := State.wdogExpire_reloads hb hact
    exact ⟨honly, hstate.trans (State.bayState_of_wdogCounts h), hremain⟩
end Sys2Proof

/-! # Deep stores: the commands of a port, and the end of a fill (R82 to R88) -/

namespace Sys2Proof.Machine
open Sys2Proof

/-! ## What counting and logging an error may change -/

/-- `t` differs from `s` at most in register fields, and in what events and the threshold of a store group leave. -/
def State.logOnly (s t : State) : Prop :=
  t = { s with flds := t.flds, evts := t.evts, xsig := t.xsig, sgFired := t.sgFired, power := { s.power with wakeQ := t.power.wakeQ } }

section
variable {s t u : State}

theorem State.logOnly.trans (h : s.logOnly t) (h' : t.logOnly u) : s.logOnly u := by
  unfold State.logOnly at h
  refine Eq.trans h' ?_
  rw [h]

theorem State.regsOnly.logOnly (h : s.regsOnly t) : s.logOnly t := by
  unfold State.regsOnly at h
  unfold State.logOnly
  rw [h]

theorem State.logOnly.refl : s.logOnly s := rfl

theorem State.logOnly.wr {a v : Nat} {f : Fld} (h : s.logOnly t) : s.logOnly (t.wr a f v) := h.trans rfl

theorem State.logOnly.setSgf {q : Nat} {v : Bool} (h : s.logOnly t) : s.logOnly (t.setSgf q v) := h.trans rfl

theorem State.logOnly.raise {e : Nat} (h : s.logOnly t) : s.logOnly (t.raise e) := h.trans State.raise_regsOnly.logOnly

theorem State.logOnly.ite {c : Prop} {_ : Decidable c} (ht : s.logOnly t) (hu : s.logOnly u) : s.logOnly (if c then t else u) := by
  split
  · exact ht
  · exact hu

theorem State.logOnly.logEntry {a q w0 w1 : Nat} (h : s.logOnly t) : s.logOnly (t.logEntry a q w0 w1) := by
  unfold State.logEntry State.setFlag
  exact .wr (.wr (.wr (.wr (.wr (.wr (.ite (.ite h h.wr.raise) h))))))

theorem State.logOnly.storeError {q kind unit row syn : Nat} {ue write : Bool} (h : s.logOnly t) :
    s.logOnly (t.storeError q kind unit row ue write syn) := by
  unfold State.storeError State.bump
  exact .logEntry (.ite h.wr.raise (.ite h.wr.setSgf.raise h.wr))

/-- The stores, the channels and memory stand through it. -/
theorem State.logOnly.stores (h : s.logOnly t) :
    t.mem = s.mem ∧ t.chans = s.chans ∧ t.deeps = s.deeps ∧ t.rows = s.rows ∧ t.chk = s.chk := by
  unfold State.logOnly at h
  rw [h]
  exact ⟨rfl, rfl, rfl, rfl, rfl⟩
end

/-! ## The channels of a port (R82) -/

/-- The number of channel `c` of a port of deep store `d`, 29 CMD, 30 WDATA and 31 RDATA: no other island shares it. -/
def deepLink (d : Nat) (b : Bool) (c : Nat) : Nat := (deepIsland d b).1 * 512 + (deepIsland d b).2 * 64 + c

section
variable {s t : State} {d c c' : Nat} {b : Bool}

theorem deepPort_deepIsland : (deepPort (deepIsland d b).1 (deepIsland d b).2).isSome = true := by
  cases b with
  | false =>
    have hx : islX (d / 16 * 96 + d % 8 * 12 + 3 + 4 * (d % 16 / 8)) = 3 ∨ islX (d / 16 * 96 + d % 8 * 12 + 3 + 4 * (d % 16 / 8)) = 7 := by
      unfold islX
      omega
    unfold deepPort
    rw [if_pos ⟨rfl, hx⟩]
    rfl
  | true =>
    have hx : islX (d / 16 * 96 + d % 8 * 12 + 4 + 4 * (d % 16 / 8)) = 4 ∨ islX (d / 16 * 96 + d % 8 * 12 + 4 + 4 * (d % 16 / 8)) = 8 := by
      unfold islX
      omega
    unfold deepPort
    rw [if_neg (by rintro ⟨h, -⟩; cases h), if_pos ⟨rfl, hx⟩]
    rfl

theorem State.deepChan_eq (hc : 29 ≤ c) : s.deepChan d b c = deepLink d b c := by
  have hsoft : hardEdge (deepIsland d b).2 = false := by
    cases b
    · rfl
    · rfl
  have hend : s.otherEnd (deepIsland d b).1 (deepIsland d b).2 c = none := by
    unfold State.otherEnd
    rw [hsoft, if_neg Bool.false_ne_true, if_pos ⟨deepPort_deepIsland, hc⟩]
  unfold State.deepChan State.chanId
  rw [hend]
  rfl

theorem deepLink_ne (h : c ≠ c') : deepLink d b c ≠ deepLink d b c' := by
  unfold deepLink
  omega

/-! ## The words of a store (R79, R83, R88) -/

variable {a n be v : Nat}

theorem State.deepRead_logOnly : s.logOnly (s.deepRead d a).2 := by
  unfold State.deepRead
  split
  · exact .refl
  · exact .ite State.logOnly.refl.storeError .refl

/-- What a word reads as depends on the store alone. -/
theorem State.deepRead_congr (hdeeps : t.deeps = s.deeps) (hrows : t.rows = s.rows) (hchk : t.chk = s.chk) :
    (t.deepRead d a).1 = (s.deepRead d a).1 := by
  unfold State.deepRead State.deep State.row State.diff
  rw [hdeeps, hrows, hchk]
  split
  · rfl
  · rfl

theorem State.row_setDiff {j k : Nat} : (s.setDiff k v).row j = s.row j := rfl

/-- A write touches its own word, which it replaces once writing is enabled and all four byte enables are 1. -/
theorem State.deepWrite_eq : (s.deepWrite d a be v).mem = s.mem ∧ (s.deepWrite d a be v).chans = s.chans ∧
    (s.deepWrite d a be v).deeps = s.deeps ∧ (∀ k, k ≠ deepKey d (a % 131072) → (s.deepWrite d a be v).row k = s.row k) ∧
      ((s.deep d).wrEn = true → be % 16 = 15 → (s.deepWrite d a be v).row (deepKey d (a % 131072)) = v % 2 ^ 32) := by
  unfold State.deepWrite
  split
  case isTrue hnone =>
    refine ⟨rfl, rfl, rfl, fun _ _ => rfl, fun hen hall => ?_⟩
    rw [hen, hall] at hnone
    cases hnone with
    | inl h => cases h
    | inr h => cases h
  case isFalse =>
    split
    case isTrue => exact ⟨rfl, rfl, rfl, fun _ hk => State.row_setDiff.trans (State.row_setRow_ne _ _ hk), fun _ _ =>
      State.row_setDiff.trans (State.row_setRow_same ..)⟩
    case isFalse hpart =>
      extract_lets a' r u
      have hu : s.logOnly u := .ite State.logOnly.refl.storeError .refl
      obtain ⟨hmem, hchans, hdeeps, hrows, -⟩ := hu.stores
      have hrow : ∀ k, u.row k = s.row k := fun k => congrArg (fun x => Tab.get (fun _ => 0) x k) hrows
      clear_value u
      split
      · exact ⟨hmem, hchans, hdeeps, fun k _ => hrow k, fun _ hall => absurd hall hpart⟩
      · exact ⟨hmem, hchans, hdeeps, fun k hk => State.row_setDiff.trans ((State.row_setRow_ne _ _ hk).trans (hrow k)),
          fun _ hall => absurd hall hpart⟩

/-! ## The words of a command (R83, R85) -/

/-- The state with the word at `a` returned in RDATA. -/
def State.wordReturned (s : State) (d : Nat) (b : Bool) (a : Nat) : State :=
  (s.deepRead d a).2.setChan (deepLink d b 31) ((s.chan (deepLink d b 31)).push (s.deepRead d a).1)

theorem State.wordReturned_eq : (s.wordReturned d b a).rows = s.rows ∧ (s.wordReturned d b a).mem = s.mem ∧
    (∀ id, id ≠ deepLink d b 31 → (s.wordReturned d b a).chan id = s.chan id) ∧
    ((s.wordReturned d b a).chan (deepLink d b 31)).words =
      (s.chan (deepLink d b 31)).words ++ [((s.deepRead d a).1 % 2 ^ 36, 0)] ∧
    ∀ a', ((s.wordReturned d b a).deepRead d a').1 = (s.deepRead d a').1 := by
  obtain ⟨hmem, hchans, hdeeps, hrows, hchk⟩ := (State.deepRead_logOnly (s := s) (d := d) (a := a)).stores
  refine ⟨hrows, hmem, fun id hid => ?_, ?_, fun a' => State.deepRead_congr hdeeps hrows hchk⟩
  · exact (State.chan_setChan_ne _ _ hid).trans (congrArg (fun x => Tab.get (fun _ => Chan.init) x id) hchans)
  · exact congrArg Chan.words (State.chan_setChan_same ..)

theorem State.deepReads_succ : s.deepReads d b a (n + 1) = (s.wordReturned d b a).deepReads d b (a + 1) n := by
  have hlink : s.deepChan d b 31 = deepLink d b 31 := State.deepChan_eq (by decide)
  obtain ⟨-, hchans, -⟩ := (State.deepRead_logOnly (s := s) (d := d) (a := a)).stores
  have hchan : (s.deepRead d a).2.chan (deepLink d b 31) = s.chan (deepLink d b 31) :=
    congrArg (fun x => Tab.get (fun _ => Chan.init) x (deepLink d b 31)) hchans
  show ((s.deepRead d a).2.setChan (s.deepChan d b 31) (((s.deepRead d a).2.chan (s.deepChan d b 31)).push (s.deepRead d a).1)).deepReads
    d b (a + 1) n = _
  rw [hlink, hchan]
  rfl

/-- A read appends its words to RDATA and changes no store and no other channel. -/
theorem State.deepReads_eq : (s.deepReads d b a n).rows = s.rows ∧ (s.deepReads d b a n).mem = s.mem ∧
    (∀ id, id ≠ deepLink d b 31 → (s.deepReads d b a n).chan id = s.chan id) ∧
      ((s.deepReads d b a n).chan (deepLink d b 31)).words =
        (s.chan (deepLink d b 31)).words ++ (List.range n).map fun k => ((s.deepRead d (a + k)).1 % 2 ^ 36, 0) := by
  induction n generalizing s a with
  | zero => exact ⟨rfl, rfl, fun _ _ => rfl, (List.append_nil _).symm⟩
  | succ n ih =>
    obtain ⟨hrows, hmem, hother, hwords, hread⟩ := State.wordReturned_eq (s := s) (d := d) (b := b) (a := a)
    obtain ⟨hrows', hmem', hother', hwords'⟩ := ih (s := s.wordReturned d b a) (a := a + 1)
    rw [State.deepReads_succ]
    refine ⟨hrows'.trans hrows, hmem'.trans hmem, fun id hid => (hother' id hid).trans (hother id hid), ?_⟩
    have hnext : ∀ k, a + 1 + k = a + (k + 1) := fun k => by omega
    simp only [hwords', hwords, hread, hnext, List.range_succ_eq_map, List.map_cons, List.map_map, Function.comp_def, List.append_assoc,
      List.singleton_append, Nat.succ_eq_add_one, Nat.add_zero]

/-- Taking a word removes the oldest one of its channel. -/
theorem State.takeWord_eq {id : Nat} : ((s.takeWord id).2.chan id).words = (s.chan id).words.drop 1 ∧
    (∀ k, k ≠ id → (s.takeWord id).2.chan k = s.chan k) ∧ (∀ x, (s.chan id).words[0]? = some x → (s.takeWord id).1 = x.1) ∧
      (s.takeWord id).2 = { s with chans := (s.takeWord id).2.chans } := by
  unfold State.takeWord
  cases hw : (s.chan id).words with
  | nil => exact ⟨hw, fun _ _ => rfl, nofun, rfl⟩
  | cons w rest =>
    refine ⟨?_, fun k hk => State.chan_setChan_ne _ _ hk, fun x hx => ?_, rfl⟩
    · rw [State.chan_setChan_same, Chan.pop, hw]
    · exact congrArg Prod.fst (Option.some.inj hx)

/-- A write takes its words from WDATA in order, each for the next address. -/
theorem State.deepWrites_eq (hn : n ≤ 131072) : (s.deepWrites d b a n).mem = s.mem ∧
    ((s.deepWrites d b a n).chan (deepLink d b 30)).words = (s.chan (deepLink d b 30)).words.drop n ∧
    (∀ id, id ≠ deepLink d b 30 → (s.deepWrites d b a n).chan id = s.chan id) ∧
    (∀ k, (∀ j, j < n → k ≠ deepKey d ((a + j) % 131072)) → (s.deepWrites d b a n).row k = s.row k) ∧
    ∀ j x, j < n → (s.chan (deepLink d b 30)).words[j]? = some x → (s.deep d).wrEn = true → x.1 / 2 ^ 32 % 16 = 15 →
      (s.deepWrites d b a n).row (deepKey d ((a + j) % 131072)) = x.1 % 2 ^ 32 := by
  induction n generalizing s a with
  | zero => exact ⟨rfl, rfl, fun _ _ => rfl, fun _ _ => rfl, nofun⟩
  | succ n ih =>
    unfold State.deepWrites
    rw [State.deepChan_eq (by decide)]
    dsimp only
    obtain ⟨hwords, hother, hfirst, hrest⟩ := State.takeWord_eq (s := s) (id := deepLink d b 30)
    generalize s.takeWord (deepLink d b 30) = w at hwords hother hfirst hrest ⊢
    obtain ⟨w, u⟩ := w
    dsimp only at hwords hother hfirst hrest ⊢
    have hurow : ∀ k, u.row k = s.row k := fun k => by rw [hrest]; rfl
    have huen : (u.deep d).wrEn = (s.deep d).wrEn := by rw [hrest]; rfl
    have humem : u.mem = s.mem := by rw [hrest]
    obtain ⟨hmem, hchans, hdeeps, hrow, hput⟩ := State.deepWrite_eq (s := u) (d := d) (a := a) (be := w / 2 ^ 32) (v := w % 2 ^ 32)
    generalize u.deepWrite d a (w / 2 ^ 32) (w % 2 ^ 32) = v at hmem hchans hdeeps hrow hput ⊢
    have hchan : ∀ id, v.chan id = u.chan id := fun id => congrArg (fun x => Tab.get (fun _ => Chan.init) x id) hchans
    have hven : (v.deep d).wrEn = (s.deep d).wrEn :=
      (congrArg (fun x => (Tab.get (fun _ => DeepSt.init) x d).wrEn) hdeeps).trans huen
    have hvwords : (v.chan (deepLink d b 30)).words = (s.chan (deepLink d b 30)).words.drop 1 := by rw [hchan, hwords]
    obtain ⟨hmem', hwords', hother', hrow', hput'⟩ := ih (s := v) (a := a + 1) (by omega)
    refine ⟨hmem'.trans (hmem.trans humem), ?_, fun id hid => (hother' id hid).trans ((hchan id).trans (hother id hid)), fun k hk => ?_, ?_⟩
    · rw [hwords', hvwords, List.drop_drop, Nat.add_comm]
    · refine (hrow' k fun j hj => ?_).trans ((hrow k (hk 0 (by omega))).trans (hurow k))
      rw [Nat.add_assoc, Nat.add_comm 1 j]
      exact hk (j + 1) (by omega)
    · intro j x hj hx hen hall
      cases j with
      | zero =>
        have hapart : ∀ j, j < n → deepKey d (a % 131072) ≠ deepKey d ((a + 1 + j) % 131072) := fun j hj => by
          unfold deepKey
          omega
        rw [hfirst x hx] at hput
        refine (hrow' _ hapart).trans ((hput (huen.trans hen) hall).trans ?_)
        exact Nat.mod_mod _ _
      | succ j =>
        have hx' : (v.chan (deepLink d b 30)).words[j]? = some x := by
          rw [hvwords, List.getElem?_drop, Nat.add_comm 1 j]
          exact hx
        have h := hput' j x (by omega) hx' (hven.trans hen) hall
        rwa [Nat.add_assoc, Nat.add_comm 1 j] at h

/-! ## The commands of a port (R84, R85) -/

/-- The state with the command at the head of the port taken. -/
def State.headTaken (s : State) (d : Nat) (b : Bool) : State := s.setChan (deepLink d b 29) (s.chan (deepLink d b 29)).pop

theorem State.headTaken_words {w : Nat × Nat} {rest : List (Nat × Nat)} (hw : (s.chan (deepLink d b 29)).words = w :: rest) :
    ((s.headTaken d b).chan (deepLink d b 29)).words = rest := by
  unfold State.headTaken
  rw [State.chan_setChan_same, Chan.pop, hw]
  rfl

theorem State.headTaken_chan (h : c ≠ 29) : (s.headTaken d b).chan (deepLink d b c) = s.chan (deepLink d b c) :=
  State.chan_setChan_ne _ _ (deepLink_ne h)

/-- A command with the OP asked for is carried out once R84 lets the store take it. -/
theorem State.deepCommand_eq {op : Nat} {w : Nat × Nat} {rest : List (Nat × Nat)} (hd : d < 64) (hlive : s.quadLive (d / 16) = true)
    (hawake : s.awake (2000 + d) = true) (hw : (s.chan (deepLink d b 29)).words = w :: rest) (hop : w.1 / 2 ^ 34 = op)
    (hready : s.deepReady d b (decide (op % 2 = 1)) (if 2 ≤ op then 4 else 1) = true) :
    s.deepCommand d b op = if op % 2 = 1 then (s.headTaken d b).deepWrites d b (w.1 / 2 ^ 17 % 131072) (if 2 ≤ op then 4 else 1)
      else (s.headTaken d b).deepReads d b (w.1 / 2 ^ 17 % 131072) (if 2 ≤ op then 4 else 1) := by
  have hcmd : s.deepChan d b 29 = deepLink d b 29 := State.deepChan_eq (by decide)
  unfold State.deepCommand State.deepTake
  dsimp only
  rw [hcmd, hw]
  dsimp only
  rw [hop, hlive, hawake, hready, decide_eq_true hd, decide_eq_true rfl]
  rfl

section
variable {w : Nat × Nat} {rest : List (Nat × Nat)} (hw : (s.chan (deepLink d b 29)).words = w :: rest)
include hw

/-- What a READ or READ4 whose command has been taken leaves. -/
theorem State.headTaken_deepReads : (((s.headTaken d b).deepReads d b a n).chan (deepLink d b 29)).words = rest ∧
    ((s.headTaken d b).deepReads d b a n).rows = s.rows ∧ ((s.headTaken d b).deepReads d b a n).mem = s.mem ∧
    (((s.headTaken d b).deepReads d b a n).chan (deepLink d b 31)).words =
      (s.chan (deepLink d b 31)).words ++ (List.range n).map fun k => ((s.deepRead d (a + k)).1 % 2 ^ 36, 0) := by
  obtain ⟨hrows, hmem, hother, hwords⟩ := State.deepReads_eq (s := s.headTaken d b) (d := d) (b := b) (a := a) (n := n)
  refine ⟨(congrArg Chan.words (hother _ (deepLink_ne (by decide)))).trans (State.headTaken_words hw), hrows, hmem, hwords.trans ?_⟩
  rw [State.headTaken_chan (by decide)]
  exact congrArg _ (List.map_congr_left fun k _ => congrArg (fun x => (x % 2 ^ 36, 0)) (State.deepRead_congr rfl rfl rfl))

/-- What a WRITE or WRITE4 whose command has been taken leaves. -/
theorem State.headTaken_deepWrites (hn : n ≤ 131072) : (((s.headTaken d b).deepWrites d b a n).chan (deepLink d b 29)).words = rest ∧
    (((s.headTaken d b).deepWrites d b a n).chan (deepLink d b 30)).words = (s.chan (deepLink d b 30)).words.drop n ∧
    ((s.headTaken d b).deepWrites d b a n).mem = s.mem ∧
    (∀ k, (∀ j, j < n → k ≠ deepKey d ((a + j) % 131072)) → ((s.headTaken d b).deepWrites d b a n).row k = s.row k) ∧
    ∀ j x, j < n → (s.chan (deepLink d b 30)).words[j]? = some x → (s.deep d).wrEn = true → x.1 / 2 ^ 32 % 16 = 15 →
      ((s.headTaken d b).deepWrites d b a n).row (deepKey d ((a + j) % 131072)) = x.1 % 2 ^ 32 := by
  obtain ⟨hmem, hwords, hother, hrow, hput⟩ := State.deepWrites_eq (s := s.headTaken d b) (d := d) (b := b) (a := a) hn
  have hdata : (s.headTaken d b).chan (deepLink d b 30) = s.chan (deepLink d b 30) := State.headTaken_chan (by decide)
  rw [hdata] at hwords hput
  exact ⟨(congrArg Chan.words (hother _ (deepLink_ne (by decide)))).trans (State.headTaken_words hw), hwords, hmem, hrow, hput⟩
end
end

/-! ## The end of a fill (R88) -/

section
variable {s : State}

/-- The fill of every island's stores is at its end. -/
def State.islandsFilled (s : State) : State :=
  (List.range 384).foldl (fun s i => if (s.island i).filling then s.setIsland i { s.island i with filling := false } else s) s

/-- The fill of every deep store is at its end. -/
def State.deepsFilled (s : State) : State :=
  (List.range 64).foldl (fun s d => if (s.deep d).filling then s.setDeep d { s.deep d with filling := false } else s) s

theorem State.islandsFilled_eq : s.islandsFilled = { s with islands := s.islandsFilled.islands } :=
  List.foldlRecOn (motive := fun t : State => t = { s with islands := t.islands }) _ _ rfl fun t ht i _ => by
    split
    · exact congrArg (fun u : State => { u with islands := (t.setIsland i { t.island i with filling := false }).islands }) ht
    · exact ht

theorem State.deepsFilled_eq : s.deepsFilled = { s with deeps := s.deepsFilled.deeps } :=
  List.foldlRecOn (motive := fun t : State => t = { s with deeps := t.deeps }) _ _ rfl fun t ht d _ => by
    split
    · exact congrArg (fun u : State => { u with deeps := (t.setDeep d { t.deep d with filling := false }).deeps }) ht
    · exact ht

theorem State.islandsFilled_filling {i : Nat} (hi : i < 384) : (s.islandsFilled.island i).filling = false := by
  refine foldl_reaches (P := fun t => (t.island i).filling = false) (R := fun _ => True) (List.mem_range.mpr hi) (fun _ _ _ => trivial)
    (fun t _ => ?_) (fun t j _ ht => ?_) trivial
  · dsimp only
    split
    case isTrue => rw [State.island_setIsland_same]
    case isFalse h => exact Bool.eq_false_iff.mpr h
  · split
    case isTrue =>
      by_cases hij : i = j
      · subst hij
        rw [State.island_setIsland_same]
      · rw [State.island_setIsland_ne _ _ hij, ht]
    case isFalse => exact ht

theorem State.deepsFilled_filling {d : Nat} (hd : d < 64) : (s.deepsFilled.deep d).filling = false := by
  refine foldl_reaches (P := fun t => (t.deep d).filling = false) (R := fun _ => True) (List.mem_range.mpr hd) (fun _ _ _ => trivial)
    (fun t _ => ?_) (fun t j _ ht => ?_) trivial
  · dsimp only
    split
    case isTrue => rw [State.deep_setDeep_same]
    case isFalse h => exact Bool.eq_false_iff.mpr h
  · split
    case isTrue =>
      by_cases hdj : d = j
      · subst hdj
        rw [State.deep_setDeep_same]
      · rw [State.deep_setDeep_ne _ _ hdj, ht]
    case isFalse => exact ht

/-- The fills end, and nothing but the tables of the islands and of the deep stores changes. -/
theorem State.filled_eq : ∃ t : State, s.islandsFilled.deepsFilled = t ∧ t = { s with islands := t.islands, deeps := t.deeps } ∧
    (∀ i, i < 384 → (t.island i).filling = false) ∧ ∀ d, d < 64 → (t.deep d).filling = false := by
  have hislands := State.islandsFilled_eq (s := s)
  have hfilled := fun i => State.islandsFilled_filling (s := s) (i := i)
  generalize s.islandsFilled = u at hislands hfilled
  have hdeeps := State.deepsFilled_eq (s := u)
  have hfilled' := fun d => State.deepsFilled_filling (s := u) (d := d)
  generalize u.deepsFilled = t at hdeeps hfilled'
  refine ⟨t, rfl, ?_, fun i hi => ?_, hfilled'⟩
  · rw [hdeeps, hislands]
  · rw [hdeeps]
    exact hfilled i hi

/-- With no initial contents waiting, STORE_FILL_DONE only ends the fill. -/
theorem exec_storeFillDone (h : s.load.inits = []) :
    exec .storeFillDone s = .next (s.islandsFilled.deepsFilled.modLoad fun v => { v with fill := false, inits := [] }) := by
  have hexec : execStoreFillDone s = .next (s.islandsFilled.deepsFilled.load.inits.foldl (fun t x => t.putInit x.1 x.2.1 x.2.2)
      (s.islandsFilled.deepsFilled.modLoad fun v => { v with fill := false, inits := [] })) := by
    simp only [execStoreFillDone, State.deepsFilled, State.islandsFilled]
  obtain ⟨t, ht, hrest, -⟩ := State.filled_eq (s := s)
  have hinits : t.load.inits = [] := by rw [hrest, h]
  rw [ht] at hexec ⊢
  rw [hinits, List.foldl_nil] at hexec
  exact hexec
end
end Sys2Proof.Machine

namespace Sys2Proof
open Machine

/-- Settles O32: a command is taken from its channel, and then its words are read or written one after another, each step in its own channel and at
its own address; the fill ends store by store. -/
theorem deepStoreCommands : Obligations.DeepStoreCommands := by
  unfold Obligations.DeepStoreCommands
  intro s
  refine ⟨?_, fun hinits => ?_⟩
  · intro d b w rest a hd hlive hawake hw ha
    subst ha
    have hcmd : s.deepChan d b 29 = deepLink d b 29 := State.deepChan_eq (by decide)
    have hwdata : s.deepChan d b 30 = deepLink d b 30 := State.deepChan_eq (by decide)
    have hrdata : s.deepChan d b 31 = deepLink d b 31 := State.deepChan_eq (by decide)
    rw [hcmd] at hw
    rw [hcmd, hwdata, hrdata]
    have hreads := fun n => State.headTaken_deepReads (a := w.1 / 2 ^ 17 % 131072) (n := n) hw
    have hwrites := fun n hn => State.headTaken_deepWrites (a := w.1 / 2 ^ 17 % 131072) (n := n) hw hn
    have haddr : w.1 / 2 ^ 17 % 131072 % 131072 = w.1 / 2 ^ 17 % 131072 := Nat.mod_mod _ _
    refine ⟨fun hop hready => ?_, fun hop hready => ?_, fun hop hready => ?_, fun hop hready => ?_⟩
    · exact ⟨_, congrArg Host.Outcome.next (State.deepCommand_eq hd hlive hawake hw hop hready), hreads 1⟩
    · exact ⟨_, congrArg Host.Outcome.next (State.deepCommand_eq hd hlive hawake hw hop hready), hreads 4⟩
    · obtain ⟨hcmd, hdata, hmem, hrow, hput⟩ := hwrites 1 (by decide)
      refine ⟨_, congrArg Host.Outcome.next (State.deepCommand_eq hd hlive hawake hw hop hready), hcmd, hdata, hmem,
        fun k hk => hrow k fun j hj => ?_, fun x hx hen hall => ?_⟩
      · obtain rfl : j = 0 := by omega
        rwa [Nat.add_zero, haddr]
      · have h := hput 0 x Nat.one_pos hx hen hall
        rwa [Nat.add_zero, haddr] at h
    · exact ⟨_, congrArg Host.Outcome.next (State.deepCommand_eq hd hlive hawake hw hop hready), hwrites 4 (by decide)⟩
  · obtain ⟨t, ht, hrest, hislands, hdeeps⟩ := State.filled_eq (s := s)
    have hload : t.load = s.load := by rw [hrest]
    have hend : (t.modLoad fun v => { v with fill := false, inits := [] }).load = { s.load with fill := false } := by
      show { t.load with fill := false, inits := [] } = _
      rw [hload, ← hinits]
    refine ⟨_, (exec_storeFillDone hinits).trans (by rw [ht]), ?_, hend, hislands, hdeeps⟩
    show { t with load := _ } = _
    rw [hrest]
    rfl
end Sys2Proof

/-! # Island states, resets, self-tests and clock edges (R59, R61, R65, R108 to R113, R123) -/

namespace Sys2Proof.Machine
open Sys2Proof

/-! ## Registers of an island among the others -/

section
variable {s t : State} {i b e v : Nat} {f g : Fld}

/-- A field that lies within the registers of an island. -/
abbrev islFits (f : Fld) : Prop := f.off < 0x40 ∧ f.lo < 32

theorem State.islOk_lt (h : s.islOk i = true) : i < 384 := by
  unfold State.islOk at h
  simp only [Bool.and_eq_true, decide_eq_true_eq] at h
  exact h.left

theorem islA_ne_evtA (hf : islFits f) (hg : g.off < 0x10 ∧ g.lo < 32) (he : e < 1024) : key (islA i) f ≠ key (evtA e) g := by
  obtain ⟨hoff, hlo⟩ := hf
  obtain ⟨hoff', hlo'⟩ := hg
  unfold key islA evtA quadA
  omega

/-- The registers of a store group, and its log, lie above those of the islands of its quadrant. -/
theorem islA_ne_sgA (hf : islFits f) : key (islA i) f ≠ key (sgA (i / 96)) g := by
  obtain ⟨hoff, hlo⟩ := hf
  unfold key islA sgA quadA
  omega

/-- What stays in one bay and the events reaches no island. -/
theorem State.bayOnly.rd_island (hb : b < 128) (hf : islFits f) (h : s.bayOnly t b) : t.rd (islA i) f = s.rd (islA i) f := by
  obtain ⟨-, -, hreg⟩ := h
  obtain ⟨hoff, hlo⟩ := hf
  refine hreg _ (.inr ?_) ?_
  · unfold key islA quadA winA
    omega
  · unfold key islA evtA quadA
    omega

theorem State.raise_rd_island (hf : islFits f) (he : e < 1024) : (s.raise e).rd (islA i) f = s.rd (islA i) f :=
  State.raise_rd (islA_ne_evtA hf (by decide) he) (islA_ne_evtA hf (by decide) he)

theorem State.raise_keeps : (s.raise e).mem = s.mem ∧ (s.raise e).rows = s.rows ∧ (s.raise e).island i = s.island i ∧
    (s.raise e).power.phase = s.power.phase := by
  have hraise := State.raise_regsOnly (s := s) (e := e)
  unfold State.regsOnly at hraise
  rw [hraise]
  exact ⟨rfl, rfl, rfl, rfl⟩

theorem State.wr_island {a : Nat} : (s.wr a f v).island i = s.island i :=
  congrArg (fun x => Tab.get (fun _ => IslandSt.init) x i) (State.wr_islands ..)

theorem State.bayOnly.island (h : s.bayOnly t b) : t.island i = s.island i := by
  obtain ⟨hrest, -⟩ := h
  rw [hrest]
  rfl

theorem State.bayOnly.rows (h : s.bayOnly t b) : t.rows = s.rows := by
  obtain ⟨hrest, -⟩ := h
  rw [hrest]
end

/-! ## What leaves the logic of an island as it was -/

/-- The flip-flops of an island, its slices, the level of its clock and the state that follows its reset. -/
def IslandSt.logic (v : IslandSt) : Tab Bool × Tab SliceSt × Bool × AfterReset := (v.q, v.slices, v.clk, v.after)

/-- Memory, and the state and the logic of island `i`, are in `t` as in `s`. -/
def State.logicKept (i : Nat) (s t : State) : Prop :=
  t.mem = s.mem ∧ t.islState i = s.islState i ∧ (t.island i).logic = (s.island i).logic

section
variable {s t u : State} {i a b d e n v : Nat} {f : Fld}

theorem State.logicKept.refl : s.logicKept i s := ⟨rfl, rfl, rfl⟩

theorem State.logicKept.trans (h : s.logicKept i t) (h' : t.logicKept i u) : s.logicKept i u := by
  obtain ⟨hmem, hstate, hlogic⟩ := h
  obtain ⟨hmem', hstate', hlogic'⟩ := h'
  exact ⟨hmem'.trans hmem, hstate'.trans hstate, hlogic'.trans hlogic⟩

/-- An update of neither memory, nor registers, nor islands. -/
theorem State.logicKept.other (h : s.logicKept i t) (hm : u.mem = t.mem := by rfl) (hf : u.flds = t.flds := by rfl)
    (hi : u.islands = t.islands := by rfl) : s.logicKept i u :=
  h.trans ⟨hm, State.rd_congr hf _ _, congrArg (fun x => (Tab.get (fun _ => IslandSt.init) x i).logic) hi⟩

theorem State.logicKept.ite {c : Prop} {_ : Decidable c} (ht : s.logicKept i t) (hu : s.logicKept i u) :
    s.logicKept i (if c then t else u) := by
  split
  · exact ht
  · exact hu

theorem State.logicKept.ite₂ {α : Type} {c : Prop} {_ : Decidable c} {x y : α × State} (hx : s.logicKept i x.2) (hy : s.logicKept i y.2) :
    s.logicKept i (if c then x else y).2 := by
  split
  · exact hx
  · exact hy

theorem State.logicKept.snd {α : Type} {x : α} (h : s.logicKept i t) : s.logicKept i (x, t).2 := h

theorem State.logicKept.foldl {β : Type} {l : List β} {f : State → β → State} (h : s.logicKept i t)
    (hf : ∀ u x, s.logicKept i u → s.logicKept i (f u x)) : s.logicKept i (l.foldl f t) := by
  induction l generalizing t with
  | nil => exact h
  | cons x l ih => exact ih (hf t x h)

theorem State.logicKept.wr (h : s.logicKept i t) (hne : key (islA i) R.ISL_STATE.STATE ≠ key a f) : s.logicKept i (t.wr a f v) :=
  h.trans ⟨State.wr_mem .., State.rd_wr_ne _ _ hne, congrArg IslandSt.logic State.wr_island⟩

theorem State.logicKept.setIsland {x : IslandSt} (h : s.logicKept i t) (hx : x.logic = (t.island i).logic := by rfl) :
    s.logicKept i (t.setIsland i x) :=
  h.trans ⟨rfl, rfl, (congrArg IslandSt.logic (State.island_setIsland_same ..)).trans hx⟩

theorem State.logicKept.setChan {id : Nat} {k : Chan} (h : s.logicKept i t) : s.logicKept i (t.setChan id k) := h.other

theorem State.logicKept.bayOnly (hb : b < 128) (h : s.logicKept i t) (h' : t.bayOnly u b) : s.logicKept i u :=
  h.trans ⟨h'.mem, h'.rd_island hb (by decide), congrArg IslandSt.logic h'.island⟩

theorem State.logicKept.raise (he : e < 1024) (h : s.logicKept i t) : s.logicKept i (t.raise e) := by
  obtain ⟨hmem, -, hisland, -⟩ := State.raise_keeps (s := t) (i := i) (e := e)
  exact h.trans ⟨hmem, State.raise_rd_island (by decide) he, congrArg IslandSt.logic hisland⟩

theorem State.logicKept.raiseIf {c : Bool} (he : e < 1024) (h : s.logicKept i t) : s.logicKept i (t.raiseIf c e) := by
  unfold State.raiseIf
  exact .ite (h.raise he) h

theorem State.logicKept.setFlag (hne : key (islA i) R.ISL_STATE.STATE ≠ key a f) (he : e < 1024) (h : s.logicKept i t) :
    s.logicKept i (t.setFlag a f e) := by
  unfold State.setFlag
  exact .ite h ((h.wr hne).raise he)

theorem State.logicKept.setBitFlag (hne : key (islA i) R.ISL_STATE.STATE ≠ key a f) (he : e < 1024) (h : s.logicKept i t) :
    s.logicKept i (t.setBitFlag a f n e) := by
  unfold State.setBitFlag
  exact .ite h ((h.wr hne).raise he)

theorem State.logicKept.lost (h : s.logicKept i t) : s.logicKept i (t.lost i e n) := by
  have hf : key 0 R.ISL_STATE.STATE ≠ key 0 (match e with
      | 0 => R.ISL_LOSTCNT.LOST_N
      | 1 => R.ISL_LOSTCNT.LOST_E
      | 2 => R.ISL_LOSTCNT.LOST_S
      | _ => R.ISL_LOSTCNT.LOST_W) := by
    split
    all_goals decide
  unfold State.lost State.bump
  exact .ite h ((h.wr (key_ne _ hf)).raiseIf (by decide))

theorem State.logicKept.clearSink {c : Nat} (h : s.logicKept i t) : s.logicKept i (t.clearSink i e c) := by
  unfold State.clearSink
  exact h.setChan.lost

theorem deepPort_quad {p : Bool} (h : deepPort i e = some (d, p)) : d / 16 = i / 96 := by
  unfold deepPort at h
  split at h
  case isTrue hc =>
    obtain ⟨-, hx⟩ := hc
    cases h
    unfold islX islY at *
    omega
  case isFalse =>
    split at h
    case isTrue hc =>
      obtain ⟨-, hx⟩ := hc
      cases h
      unfold islX islY at *
      omega
    case isFalse => cases h

/-! ### Errors of the stores of its quadrant -/

section
variable (hi : i < 384)
include hi

theorem State.logicKept.logEntry {w0 w1 : Nat} (h : s.logicKept i t) : s.logicKept i (t.logEntry (sgA (i / 96)) (i / 96) w0 w1) := by
  have hsg : ∀ g : Fld, key (islA i) R.ISL_STATE.STATE ≠ key (sgA (i / 96)) g := fun _ => islA_ne_sgA (by decide)
  unfold State.logEntry
  exact .wr (.wr (.wr (.wr (.wr (.wr (.ite (h.setFlag (hsg _) (by omega)) h) (hsg _)) (hsg _)) (hsg _)) (hsg _)) (hsg _)) (hsg _)

theorem State.logicKept.storeError {kind unit row syn : Nat} {ue write : Bool} (h : s.logicKept i t) :
    s.logicKept i (t.storeError (i / 96) kind unit row ue write syn) := by
  have hsg : ∀ g : Fld, key (islA i) R.ISL_STATE.STATE ≠ key (sgA (i / 96)) g := fun _ => islA_ne_sgA (by decide)
  unfold State.storeError State.bump
  exact .logEntry hi (.ite ((h.wr (hsg _)).raise (by omega)) (.ite ((h.wr (hsg _)).other.raise (by omega)) (h.wr (hsg _))))

/-! ### The commands of a deep store beside it -/

section
variable {p : Bool} (hd : d / 16 = i / 96)
include hd

theorem State.logicKept.deepRead (h : s.logicKept i t) : s.logicKept i (t.deepRead d a).2 := by
  unfold State.deepRead
  rw [hd]
  exact .ite₂ (.snd h) (.snd (.ite (h.storeError hi) h))

theorem State.logicKept.deepWrite {be : Nat} (h : s.logicKept i t) : s.logicKept i (t.deepWrite d a be v) := by
  unfold State.deepWrite
  rw [hd]
  exact .ite h (.ite h.other (.ite (.ite (h.storeError hi) h) (.other (.ite (h.storeError hi) h))))

theorem State.logicKept.deepReads (h : s.logicKept i t) : s.logicKept i (t.deepReads d p a n) := by
  induction n generalizing t a with
  | zero => exact h
  | succ n ih => exact ih (h.deepRead hi hd).setChan

theorem State.logicKept.deepWrites (h : s.logicKept i t) : s.logicKept i (t.deepWrites d p a n) := by
  induction n generalizing t a with
  | zero => exact h
  | succ n ih =>
    obtain ⟨-, -, -, htaken⟩ := State.takeWord_eq (s := t) (id := t.deepChan d p 30)
    have hword : s.logicKept i (t.takeWord (t.deepChan d p 30)).2 := htaken ▸ h.other
    exact ih (hword.deepWrite hi hd)

theorem State.logicKept.deepTake (h : s.logicKept i t) : s.logicKept i (t.deepTake d p) := by
  unfold State.deepTake
  extract_lets
  split
  · exact h
  · exact .ite (h.setChan.deepWrites hi hd) (h.setChan.deepReads hi hd)

theorem State.logicKept.deepDrain (h : s.logicKept i t) : s.logicKept i (t.deepDrain d p n) := by
  induction n generalizing t with
  | zero => exact h
  | succ n ih =>
    unfold State.deepDrain
    split
    · exact h
    · exact .ite (ih (h.deepTake hi hd)) h
end

/-! ### Its edges -/

theorem State.logicKept.clearDeepPort (h : s.logicKept i t) : s.logicKept i (t.clearDeepPort i e) := by
  unfold State.clearDeepPort
  split
  · exact h
  case h_2 d p hport => exact .ite (h.deepDrain hi (deepPort_quad hport)).setChan.setChan.setChan.lost h.clearSink

theorem State.logicKept.clearEdges (h : s.logicKept i t) : s.logicKept i (t.clearEdges i) := by
  unfold State.clearEdges
  extract_lets ports sinks
  have hports : s.logicKept i ports := (h.clearDeepPort hi).clearDeepPort hi
  have hsinks : s.logicKept i sinks := by
    unfold sinks
    split
    · exact hports
    · exact hports.foldl fun _ _ hu => .ite hu hu.clearSink
  clear_value sinks
  split
  · exact hsinks
  · exact hsinks.other
end

theorem State.logicKept.checkDirs (h : s.logicKept i t) : s.logicKept i (t.checkDirs i) := by
  have hdir : ∀ j, key (islA i) R.ISL_STATE.STATE ≠ key (islA j) R.ISL_STATE.DIR_MISMATCH := fun j => by
    unfold key
    dsimp only
    omega
  unfold State.checkDirs
  split
  · exact h
  · refine h.foldl fun u x hu => ?_
    split
    · exact hu
    · exact .ite ((hu.setFlag (hdir _) (by decide)).setFlag (hdir _) (by decide)) hu
end

/-! ## The lines of the bay beside an island (R134) -/

/-- The number of the bay whose fabric port lies at island `i`. -/
def lineBay (i : Nat) : Nat := i / 96 * 32 + i % 96 / 3

/-- Event `e` has occurred in `t` as often as in `s`. -/
def State.occKept (e : Nat) (s t : State) : Prop := t.rd (evtA e) R.EVT_STAT.OCC = s.rd (evtA e) R.EVT_STAT.OCC

section
variable {s t : State} {b e i v : Nat} {f : Fld}

theorem lineBay_lt (hi : i < 384) : lineBay i < 128 := by
  unfold lineBay
  omega

theorem State.syncLines_bayOnly (hi : i < 384) : s.bayOnly (s.syncLines i) (lineBay i) := by
  unfold State.syncLines
  split
  · extract_lets b v
    split
    · exact .refl
    · obtain ⟨honly, -⟩ := (State.frontEnd.refl (s := s.modBay b fun y => { y with lines := v })).drivePins.reflex (frame := false)
        (lineBay_lt hi)
      exact State.bayOnly.modBay.trans honly
  · exact .refl

/-! ### Events that are no bay's -/

theorem State.occKept.wr (hb : b < 128) (hf : f.off < 0x100 ∧ f.lo < 32) (h : s.occKept e t) : s.occKept e (t.wr (bayA b) f v) :=
  (State.rd_wr_ne _ _ (bayA_ne_evtA hb hf).symm).trans h

theorem State.occKept.modBay {g : BaySt → BaySt} (h : s.occKept e t) : s.occKept e (t.modBay b g) := h

theorem State.occKept.drivePins (h : s.occKept e t) : s.occKept e (t.drivePins b) :=
  (State.rd_congr State.drivePins_flds _ _).trans h

section
variable (hb : b < 128) (he : 512 ≤ e ∧ e < 1024)
include hb he

theorem State.occKept.alert (h : s.occKept e t) : s.occKept e (t.alert b i) := by
  have hne : ∀ f ∈ [R.EVT_STAT.OCC, R.EVT_STAT.PENDING], key (evtA e) R.EVT_STAT.OCC ≠ key (evtA (4 * b + 2)) f := by
    intro f hf
    simp only [List.mem_cons, List.not_mem_nil, or_false] at hf
    obtain rfl | rfl := hf
    all_goals
      unfold key evtA
      dsimp only
      omega
  unfold State.alert State.raiseIf
  extract_lets w
  split
  · exact h
  · split
    · exact (State.raise_rd (hne _ (.head _)) (hne _ (.tail _ (.head _)))).trans (h.wr hb (by decide))
    · exact h.wr hb (by decide)

theorem State.occKept.stageRecord {r : CapRecord} (h : s.occKept e t) : s.occKept e (t.stageRecord b r) := by
  unfold State.stageRecord
  split
  · exact h
  · split
    · exact .alert hb he (.modBay (h.wr hb (by decide)))
    · exact h.modBay

theorem State.occKept.record {kind pin edge zone ovr glitch : Nat} {stamp : Int} {settle once : Bool} (h : s.occKept e t) :
    s.occKept e (t.record b kind pin edge zone stamp settle ovr glitch once) :=
  List.foldlRecOn (motive := s.occKept e) _ _ h.modBay fun _ hu _ _ => hu.stageRecord hb he

theorem State.occKept.ruleBegins {r : Nat} (h : s.occKept e t) : s.occKept e (t.ruleBegins b r) := by
  unfold State.ruleBegins
  extract_lets a target zone u
  have hu : s.occKept e u := by
    unfold u
    split
    · exact h.record hb he
    · exact h
  split
  · exact hu.alert hb he
  · exact hu

theorem State.occKept.evalRule {frame : Bool} {r : Nat} (h : s.occKept e t) : s.occKept e (t.evalRule b frame r) := by
  unfold State.evalRule
  extract_lets c conds latched latch rise latched' acts begins u₁ u₂ u₃
  have hwritten : s.occKept e u₂ := (h.wr hb (by decide)).wr hb (by decide)
  clear_value u₂
  have hu : s.occKept e u₃ := hwritten.modBay
  split
  · exact hu.ruleBegins hb he
  · exact hu

theorem State.occKept.reflex {frame : Bool} (h : s.occKept e t) : s.occKept e (t.reflex b frame) := by
  unfold State.reflex
  split
  · have hrules : s.occKept e ((List.range 16).foldl (fun u r => u.evalRule b frame r) t) :=
      List.foldlRecOn (motive := s.occKept e) _ _ h fun _ hu _ _ => hu.evalRule hb he
    generalize (List.range 16).foldl (fun u r => u.evalRule b frame r) t = u at hrules ⊢
    exact hrules.modBay.drivePins
  · exact h
end

theorem State.syncLines_occ (hi : i < 384) (he : 512 ≤ e ∧ e < 1024) : s.occKept e (s.syncLines i) := by
  unfold State.syncLines
  split
  · extract_lets b v
    split
    · rfl
    · have hlines : s.occKept e (s.modBay b fun y => { y with lines := v }) := .modBay rfl
      exact hlines.drivePins.reflex (lineBay_lt hi) he
  · rfl
end

/-! ## Entering a state (R106 to R113) -/

section
variable {s : State} {i st : Nat}

theorem State.setIslState_of_ne (h : st ≠ 0) : s.setIslState i st = (s.wr (islA i) R.ISL_STATE.STATE st).syncLines i := if_neg h

/-- Whatever follows the lines of the island and the directions of its channels, it is in the state given, its logic and memory are as before. -/
theorem State.setIslState_eq (hi : i < 384) (hst : st < 8) : (s.setIslState i st).mem = s.mem ∧ (s.setIslState i st).islState i = st ∧
    ((s.setIslState i st).island i).logic = (s.island i).logic := by
  have hsync : (s.wr (islA i) R.ISL_STATE.STATE st).logicKept i ((s.wr (islA i) R.ISL_STATE.STATE st).syncLines i) :=
    State.logicKept.refl.bayOnly (lineBay_lt hi) (State.syncLines_bayOnly hi)
  have hkept : (s.wr (islA i) R.ISL_STATE.STATE st).logicKept i (s.setIslState i st) := .ite hsync.checkDirs hsync
  obtain ⟨hmem, hstate, hlogic⟩ := hkept
  exact ⟨hmem.trans (State.wr_mem ..), hstate.trans ((State.rd_wr_same ..).trans (Nat.mod_eq_of_lt hst)),
    hlogic.trans (congrArg IslandSt.logic State.wr_island)⟩

/-- INIT is forced into the flip-flops, and the slices are cleared. -/
theorem State.initFlops_eq : ∃ x, s.initFlops i = s.setIsland i x ∧ x.slices = [] ∧ x.after = (s.island i).after := by
  unfold State.initFlops
  extract_lets
  split
  · exact ⟨_, rfl, rfl, rfl⟩
  · exact ⟨_, rfl, rfl, rfl⟩

/-- A state without logic of its own is entered: the edges are cleared, and the logic is forced to INIT. -/
theorem State.cleared_eq {t : State} (hi : i < 384) (hkept : s.logicKept i t) :
    ((t.clearEdges i).initFlops i).mem = s.mem ∧ ((t.clearEdges i).initFlops i).islState i = s.islState i ∧
      (((t.clearEdges i).initFlops i).island i).slices = [] ∧ (((t.clearEdges i).initFlops i).island i).after = (s.island i).after := by
  obtain ⟨hmem, hstate, hlogic⟩ := hkept.clearEdges hi
  obtain ⟨x, heq, hslices, hafter⟩ := State.initFlops_eq (s := t.clearEdges i) (i := i)
  have hafter' : ((t.clearEdges i).island i).after = (s.island i).after := congrArg (fun y => y.2.2.2) hlogic
  rw [heq, State.island_setIsland_same]
  exact ⟨hmem, hstate, hslices, hafter.trans hafter'⟩
end

/-! ## Fences (R108, R111) -/

/-- What a fence request does in an island state: it fences in RUN and STOPPED, and in RESET is remembered (R108, R111). -/
def onFence {α : Type} (state : Nat) (fence remember ignored : α) : α :=
  match state with
  | 0 => fence
  | 6 => fence
  | 3 => remember
  | _ => ignored

/-- What an unfence request does in an island state (R108, R111). -/
def onUnfence {α : Type} (state : Nat) (run remember ignored : α) : α :=
  match state with
  | 1 => run
  | 2 => run
  | 3 => remember
  | _ => ignored

section
variable {s : State} {i : Nat}

theorem exec_islandFence (h : s.islOk i = true) : exec (.islandFence i) s =
    .next (onFence (s.islState i) (s.fence i) (s.setIsland i { s.island i with after := .slack }) s) :=
  congrArg Host.Outcome.next (if_pos h)

theorem exec_islandUnfence (h : s.islOk i = true) : exec (.islandUnfence i) s =
    .next (onUnfence (s.islState i) (s.setIslState i 0) (s.setIsland i { s.island i with after := .run }) s) :=
  congrArg Host.Outcome.next (if_pos h)

theorem onFence_acting {α : Type} {x y z : α} {n : Nat} (h : n = 0 ∨ n = 6) : onFence n x y z = x := by
  obtain rfl | rfl := h
  · rfl
  · rfl

theorem onFence_reset {α : Type} {x y z : α} {n : Nat} (h : n = 3) : onFence n x y z = y := by
  subst h
  rfl

theorem onUnfence_fenced {α : Type} {x y z : α} {n : Nat} (h : n = 1 ∨ n = 2) : onUnfence n x y z = x := by
  obtain rfl | rfl := h
  · rfl
  · rfl

theorem onUnfence_reset {α : Type} {x y z : α} {n : Nat} (h : n = 3) : onUnfence n x y z = y := by
  subst h
  rfl

theorem State.fence_eq : s.fence i = s.setIslState i (if s.rd (islA i) R.ISL_DRAIN.DRAIN_LIMIT = 0 then 2 else 1) := by
  unfold State.fence
  split
  · rfl
  · rfl

theorem exec_islandFenceDrained (h : s.islOk i = true) (hstate : s.islState i = 1) (hdrained : s.drained i = true) :
    exec (.islandFenceDrained i) s = .next (s.setIslState i 2) :=
  congrArg Host.Outcome.next (if_pos (by rw [h, hstate, hdrained]; rfl))

/-- The fence of an island ends at DRAIN_LIMIT with FENCE_TIMEOUT; the entry of a sleep state, if any, goes on. -/
theorem State.fenceTimeout_eq (hi : i < 384) : (s.fenceTimeout i).mem = s.mem ∧ (s.fenceTimeout i).islState i = 2 ∧
    (s.fenceTimeout i).bit (islA i) R.ISL_STATE.FENCE_TIMEOUT = true ∧ (s.fenceTimeout i).power.phase = s.power.phase := by
  obtain ⟨hmem, hstate, -⟩ := State.setIslState_eq (s := s) (st := 2) hi (by decide)
  obtain ⟨hrest, -⟩ := State.syncLines_bayOnly (s := s.wr (islA i) R.ISL_STATE.STATE 2) hi
  have hsync : ((s.wr (islA i) R.ISL_STATE.STATE 2).syncLines i).power.phase = (s.wr (islA i) R.ISL_STATE.STATE 2).power.phase := by
    rw [hrest]
  have hphase : (s.setIslState i 2).power.phase = s.power.phase := by
    rw [State.setIslState_of_ne (by decide), hsync, State.wr_power]
  unfold State.fenceTimeout
  generalize s.setIslState i 2 = u at hmem hstate hphase
  obtain ⟨hmem', hstate', -⟩ := State.logicKept.refl.setFlag (s := u) (i := i) (f := R.ISL_STATE.FENCE_TIMEOUT) (e := 688)
    (key_ne _ (by decide)) (by decide)
  refine ⟨hmem'.trans hmem, hstate'.trans hstate, ?_, ?_⟩
  · unfold State.setFlag
    split
    case isTrue h => exact h
    case isFalse =>
      have hset : ((u.wr (islA i) R.ISL_STATE.FENCE_TIMEOUT 1).raise 688).rd (islA i) R.ISL_STATE.FENCE_TIMEOUT = 1 :=
        (State.raise_rd_island (by decide) (by decide)).trans (State.rd_wr_same ..)
      exact decide_eq_true fun hzero => Nat.one_ne_zero (hset.symm.trans hzero)
  · unfold State.setFlag
    split
    · exact hphase
    · obtain ⟨-, -, -, hraise⟩ := State.raise_keeps (s := u.wr (islA i) R.ISL_STATE.FENCE_TIMEOUT 1) (i := i) (e := 688)
      exact hraise.trans ((congrArg PowerSt.phase (State.wr_power ..)).trans hphase)

theorem exec_islandFenceTimeout (h : s.islOk i = true) (hstate : s.islState i = 1) (hphase : s.power.phase ≠ 1) :
    exec (.islandFenceTimeout i) s = .next (s.fenceTimeout i) := by
  obtain ⟨-, -, -, hphase'⟩ := State.fenceTimeout_eq (s := s) (State.islOk_lt h)
  have hcond : (s.islOk i && decide (s.islState i = 1)) = true := by rw [h, hstate]; rfl
  refine (congrArg Host.Outcome.next (if_pos hcond)).trans (congrArg Host.Outcome.next (if_neg ?_))
  rintro ⟨hone, -⟩
  exact hphase (hphase'.symm.trans hone)
end

/-! ## Reset and self-test (R43, R65, R111, R113, R123) -/

section
variable {s : State} {i result unit : Nat}

theorem exec_islandReset (h : s.islOk i = true) (hstate : s.islState i ≠ 5) : exec (.islandReset i) s = .next (s.startIslandReset i) :=
  congrArg Host.Outcome.next (if_pos (by rw [h, decide_eq_true hstate]; rfl))

/-- Whatever the island did before, it is in RESET with every slice cleared, and RUN follows. -/
theorem State.startIslandReset_eq (hi : i < 384) : (s.startIslandReset i).islState i = 3 ∧ ((s.startIslandReset i).island i).slices = [] ∧
    ((s.startIslandReset i).island i).after = .run ∧ (s.startIslandReset i).mem = s.mem := by
  unfold State.startIslandReset
  extract_lets aborted v reset
  have haborted : aborted.mem = s.mem := by
    unfold aborted
    split
    · obtain ⟨hmem, -⟩ := State.raise_keeps (s := s.wr (islA i) R.ISL_BIST.RESULT 7) (i := i) (e := 689)
      exact hmem.trans (State.wr_mem ..)
    · rfl
  clear_value aborted
  obtain ⟨hmem, hstate, -⟩ := State.setIslState_eq (s := aborted.leaveSleep i) (st := 3) hi (by decide)
  obtain ⟨hmem', hstate', hslices, hafter⟩ := State.cleared_eq (s := reset) hi .refl
  refine ⟨hstate'.trans hstate, hslices, hafter.trans ?_, hmem'.trans (hmem.trans haborted)⟩
  exact congrArg IslandSt.after (State.island_setIsland_same ..)

/-- What follows the reset of an island. -/
def afterReset {α : Type} (next : AfterReset) (run slack : α) : α :=
  match next with
  | .run => run
  | .slack => slack

theorem exec_islandResetDone (h : s.islOk i = true) (hstate : s.islState i = 3) : exec (.islandResetDone i) s =
    .next (afterReset (s.island i).after (s.setIslState i 0) (s.setIslState i 2)) :=
  congrArg Host.Outcome.next (if_pos (by rw [h, hstate]; rfl))

theorem afterReset_setIslState {next : AfterReset} : afterReset next (s.setIslState i 0) (s.setIslState i 2) =
    s.setIslState i (if next = .run then 0 else 2) := by
  cases next with
  | run => rfl
  | slack => rfl

/-- What BIST_START does in an island state: it starts in SLACK, is ignored in BIST and HOLD, and is denied elsewhere. -/
def onBist {α : Type} (state : Nat) (start ignored denied : α) : α :=
  match state with
  | 2 => start
  | 4 => ignored
  | 5 => ignored
  | _ => denied

theorem onBist_slack {α : Type} {x y z : α} {n : Nat} (h : n = 2) : onBist n x y z = x := by
  subst h
  rfl

theorem onBist_denied {α : Type} {x y z : α} {n : Nat} (h2 : n ≠ 2) (h4 : n ≠ 4) (h5 : n ≠ 5) : onBist n x y z = z := by
  unfold onBist
  split
  · exact absurd rfl h2
  · exact absurd rfl h4
  · exact absurd rfl h5
  · rfl

theorem exec_bistStart (h : s.islOk i = true) : exec (.bistStart i) s =
    .next (onBist (s.islState i) ((((s.setIslState i 4).clearEdges i).initFlops i).wr (islA i) R.ISL_BIST.RESULT 1) s
      (s.wr (islA i) R.ISL_BIST.RESULT 8)) :=
  congrArg Host.Outcome.next (if_pos h)

/-- The result of a self-test is on record. -/
def State.bistRecorded (s : State) (i result unit : Nat) : State :=
  if result = 2 then s.wr (islA i) R.ISL_BIST.RESULT result
  else (s.wr (islA i) R.ISL_BIST.RESULT result).wr (islA i) R.ISL_BIST.FAIL_UNIT unit

/-- The end of a self-test, before its event. -/
def State.bistEnded (s : State) (i result unit : Nat) : State := (((s.bistRecorded i result unit).zeroStores i).initFlops i).setIslState i 2

theorem exec_bistDone (h : s.islOk i = true) (hstate : s.islState i = 4) (hrun : s.rd (islA i) R.ISL_BIST.RESULT = 1)
    (hlo : 2 ≤ result) (hhi : result ≤ 6) : exec (.bistDone i result unit) s = .next ((s.bistEnded i result unit).raise 689) :=
  congrArg Host.Outcome.next (if_pos (by rw [h, hstate, hrun, decide_eq_true (And.intro hlo hhi)]; rfl))

theorem State.bistRecorded_fldsOnly : s.bistRecorded i result unit = { s with flds := (s.bistRecorded i result unit).flds } := by
  unfold State.bistRecorded
  split
  · rfl
  · rfl

theorem State.bistRecorded_eq (hhi : result ≤ 6) : (s.bistRecorded i result unit).rd (islA i) R.ISL_BIST.RESULT = result ∧
    (result ≠ 2 → (s.bistRecorded i result unit).rd (islA i) R.ISL_BIST.FAIL_UNIT = unit % 256) ∧
    ∀ {e}, e < 1024 → s.occKept e (s.bistRecorded i result unit) := by
  have hresult : (s.wr (islA i) R.ISL_BIST.RESULT result).rd (islA i) R.ISL_BIST.RESULT = result :=
    (State.rd_wr_same ..).trans (Nat.mod_eq_of_lt (Nat.lt_of_le_of_lt hhi (by decide)))
  have hocc : ∀ {e}, e < 1024 → s.occKept e (s.wr (islA i) R.ISL_BIST.RESULT result) := fun he =>
    State.rd_wr_ne _ _ (islA_ne_evtA (by decide) (by decide) he).symm
  unfold State.bistRecorded
  split
  case isTrue h => exact ⟨hresult, fun hne => absurd h hne, hocc⟩
  case isFalse =>
    exact ⟨(State.rd_wr_ne _ _ (key_ne _ (by decide))).trans hresult, fun _ => State.rd_wr_same .., fun he =>
      (State.rd_wr_ne _ _ (islA_ne_evtA (by decide) (by decide) he).symm).trans (hocc he)⟩

/-- The stores of the island hold zero. -/
theorem State.zeroStores_row {st row : Nat} (hst : st < 16) (hrow : row < 1024) : (s.zeroStores i).row (rowKey i st row) = 0 := by
  have hkey : i * 16384 ≤ rowKey i st row ∧ rowKey i st row < (i + 1) * 16384 := by
    unfold rowKey
    omega
  exact (Tab.get_drop ..).trans (if_pos (decide_eq_true hkey))

/-- Zero stores and INIT take no register with them. -/
theorem State.zeroInit_eq : ∃ x, (s.zeroStores i).initFlops i = (s.zeroStores i).setIsland i x ∧ x.slices = [] := by
  obtain ⟨x, heq, hslices, -⟩ := State.initFlops_eq (s := s.zeroStores i) (i := i)
  exact ⟨x, heq, hslices⟩

/-- What the end of a self-test leaves: the island is in SLACK with the result on record, its stores hold zero, and its
event is still to come. -/
theorem State.bistEnded_eq (hi : i < 384) (hhi : result ≤ 6) : (s.bistEnded i result unit).mem = s.mem ∧
    (s.bistEnded i result unit).islState i = 2 ∧ (s.bistEnded i result unit).rd (islA i) R.ISL_BIST.RESULT = result ∧
    (result ≠ 2 → (s.bistEnded i result unit).rd (islA i) R.ISL_BIST.FAIL_UNIT = unit % 256) ∧
    ((s.bistEnded i result unit).island i).slices = [] ∧
    (∀ st row, st < 16 → row < 1024 → (s.bistEnded i result unit).row (rowKey i st row) = 0) ∧ s.occKept 689 (s.bistEnded i result unit) := by
  obtain ⟨hresult, hfail, hocc⟩ := State.bistRecorded_eq (s := s) (i := i) (unit := unit) hhi
  have hrecorded : (s.bistRecorded i result unit).mem = s.mem := by rw [State.bistRecorded_fldsOnly]
  unfold State.bistEnded
  generalize s.bistRecorded i result unit = u at hresult hfail hocc hrecorded
  obtain ⟨x, heq, hslices⟩ := State.zeroInit_eq (s := u) (i := i)
  rw [heq]
  obtain ⟨hmem, hstate, hlogic⟩ := State.setIslState_eq (s := (u.zeroStores i).setIsland i x) (st := 2) hi (by decide)
  rw [State.island_setIsland_same] at hlogic
  rw [State.setIslState_of_ne (by decide)] at hmem hstate hlogic ⊢
  have hsync := State.syncLines_bayOnly (s := ((u.zeroStores i).setIsland i x).wr (islA i) R.ISL_STATE.STATE 2) hi
  have hsynced := State.syncLines_occ (s := ((u.zeroStores i).setIsland i x).wr (islA i) R.ISL_STATE.STATE 2) (e := 689) hi (by decide)
  have hreg : ∀ {f : Fld}, islFits f → key 0 f ≠ key 0 R.ISL_STATE.STATE →
      ((((u.zeroStores i).setIsland i x).wr (islA i) R.ISL_STATE.STATE 2).syncLines i).rd (islA i) f = u.rd (islA i) f := fun hf hne =>
    (hsync.rd_island (lineBay_lt hi) hf).trans (State.rd_wr_ne _ _ (key_ne _ hne))
  refine ⟨hmem.trans hrecorded, hstate, (hreg (by decide) (by decide)).trans hresult,
    fun hne => (hreg (by decide) (by decide)).trans (hfail hne), (congrArg (fun y => y.2.1) hlogic).trans hslices, fun st row hst hrow => ?_, ?_⟩
  · exact (congrArg (fun y => Tab.get (fun _ => 0) y (rowKey i st row)) hsync.rows).trans (State.zeroStores_row hst hrow)
  · exact hsynced.trans ((State.rd_wr_ne _ _ (islA_ne_evtA (by decide) (by decide) (by decide)).symm).trans (hocc (by decide)))
end

/-! ## An edge of the clock (R59)

That slices and stores act at the rising edge, and that a loop starts from free values, is the model's choice (log entries 30 and 31). -/

section
variable {s t : State} {i n : Nat} {c : Scene} {env : Env}

/-! ### Ports of stores, channel ends and general I/O -/

theorem State.logicKept.storePut {st row mask data : Nat} (hi : i < 384) (h : s.logicKept i t) :
    s.logicKept i (t.storePut i st row mask data) := by
  unfold State.storePut
  exact .ite h (.ite h.other (.ite (.ite (h.storeError hi) h) (.other (.ite (h.storeError hi) h))))

theorem State.logicKept.portRead {st : Nat} {p : StorePortCfg} {x : PortAcc} {o : PortOut} (hi : i < 384) (h : s.logicKept i t) :
    s.logicKept i (t.portRead i st p x o).2 := by
  unfold State.portRead
  exact .ite₂ (.ite₂ (.snd h) (.ite₂ (.snd h) (.snd (.ite (h.storeError hi) h)))) (.snd h)

theorem State.logicKept.storeEdge {st : Nat} {g : StoreCfg} (hi : c.i < 384) (h : s.logicKept c.i t) :
    s.logicKept c.i (c.storeEdge env st g t) := by
  unfold Scene.storeEdge
  extract_lets xa xb out setOut ra rb u whole
  have hread : s.logicKept c.i rb.2 := (h.portRead hi).portRead hi
  have hout : s.logicKept c.i u := hread.setIsland.setIsland
  clear_value u
  exact .ite (.ite (hout.storePut hi) (.ite (hout.storePut hi) ((hout.storePut hi).storePut hi))) ((hout.storePut hi).storePut hi)

theorem State.logicKept.chanEdge {x : ChanCfg} (h : s.logicKept c.i t) : s.logicKept c.i (c.chanEdge env x t) := by
  have hpush : key (islA c.i) R.ISL_STATE.STATE ≠ key (islA c.i) (R.CW_PUSHLOST.PUSH_LOST.shift (4 * x.edge)) := by
    unfold key Fld.shift
    dsimp only
    omega
  have hunder : key (islA c.i) R.ISL_STATE.STATE ≠ key (islA c.i) (R.CW_UNDERRUN.UNDERRUN.shift (4 * x.edge)) := by
    unfold key Fld.shift
    dsimp only
    omega
  unfold Scene.chanEdge
  exact .ite (.ite (.ite (.ite h.setChan (h.setChan.setBitFlag hpush (by decide))) h.setChan.setChan) h.setChan)
    (.setChan (.ite (.ite h.setChan (.ite h (h.setBitFlag hunder (by decide)))) h))

theorem State.logicKept.gpioEdge (h : s.logicKept c.i t) : s.logicKept c.i (c.gpioEdge env t) := by
  unfold Scene.gpioEdge
  exact h.setIsland

/-! ### The edge itself -/

/-- The island after its flip-flops, and at a rising edge its slices, have taken their next values. -/
def Scene.flopped (c : Scene) (rising : Bool) : State :=
  let slices := c.cfg.slices.foldl (fun t x => Tab.put (fun _ => SliceSt.init) t x.1 (c.sliceEdge c.settle x.1 x.2)) []
  c.s.setIsland c.i { c.s.island c.i with
    q := c.flops c.settle rising, clk := rising, slices := if rising then slices else (c.s.island c.i).slices }

/-- After a rising edge the ports of its stores, its channel ends and its general I/O follow. -/
def Scene.edged (c : Scene) (rising : Bool) : State :=
  if rising then
    c.gpioEdge c.settle (c.cfg.chans.foldl (fun t x => c.chanEdge c.settle x t)
      (c.cfg.stores.foldl (fun t x => c.storeEdge c.settle x.1 x.2 t) (c.flopped rising)))
  else c.flopped rising

/-- The scene after an edge, with new open values. -/
def Scene.next (c : Scene) (rising : Bool) : Scene :=
  { c with s := { c.edged rising with free := (c.edged rising).free + 2 ^ 32 }, clk := rising,
           fresh := fun k => Config.freeBool ((c.edged rising).free + 2 ^ 32 + k) }

theorem Scene.edged_kept {rising : Bool} (hi : c.i < 384) : (c.flopped rising).logicKept c.i (c.edged rising) := by
  unfold Scene.edged
  refine .ite ?_ .refl
  exact .gpioEdge (.foldl (.foldl .refl fun _ _ hu => hu.storeEdge hi) fun _ _ hu => hu.chanEdge)

theorem Scene.flopped_logic {rising : Bool} : ((c.flopped rising).island c.i).q = c.flops c.settle rising ∧
    ((c.flopped rising).island c.i).clk = rising ∧
    (rising = false → ((c.flopped rising).island c.i).slices = (c.s.island c.i).slices) := by
  unfold Scene.flopped
  rw [State.island_setIsland_same]
  refine ⟨rfl, rfl, fun h => ?_⟩
  subst h
  rfl

/-- What an edge leaves before the outputs follow. -/
theorem Scene.next_eq {rising : Bool} (hi : c.i < 384) : ((c.next rising).s.island c.i).q = c.flops c.settle rising ∧
    ((c.next rising).s.island c.i).clk = rising ∧ (c.next rising).s.mem = c.s.mem ∧
    (rising = false → ((c.next rising).s.island c.i).slices = (c.s.island c.i).slices ∧ (c.next rising).s.rows = c.s.rows) := by
  obtain ⟨hmem, -, hlogic⟩ := Scene.edged_kept (c := c) (rising := rising) hi
  obtain ⟨hq, hclk, hslices⟩ := Scene.flopped_logic (c := c) (rising := rising)
  refine ⟨(congrArg (fun y => y.1) hlogic).trans hq, (congrArg (fun y => y.2.2.1) hlogic).trans hclk, hmem, fun h =>
    ⟨(congrArg (fun y => y.2.1) hlogic).trans (hslices h), ?_⟩⟩
  subst h
  rfl

/-- When the outputs follow the logic, flip-flops change only where AR resets them. -/
theorem Scene.drive_eq (hi : c.i < 384) : (c.drive.island c.i).q = c.resets c.settle (c.s.island c.i).q ∧
    (c.drive.island c.i).clk = (c.s.island c.i).clk ∧ (c.drive.island c.i).slices = (c.s.island c.i).slices ∧
    c.drive.mem = c.s.mem ∧ c.drive.rows = c.s.rows := by
  unfold Scene.drive
  extract_lets env v outs lines
  have hsync := State.syncLines_bayOnly (s := c.s.setIsland c.i { v with gpioOut := outs, slack := lines, q := c.resets env v.q }) hi
  rw [hsync.island, State.island_setIsland_same]
  exact ⟨rfl, rfl, rfl, hsync.mem, hsync.rows⟩

/-- The island before an edge of its clock. -/
def State.scene (s : State) (i : Nat) (cfg : IslandCfg) (gpio : Nat) : Scene :=
  ⟨s, i, cfg, (s.island i).clk, gpio, fun k => Config.freeBool (s.free + k)⟩

theorem exec_islandClockEdge {cfg : IslandCfg} {rising : Bool} {gpio : Nat} (hcfg : s.cfgOf i = some cfg) (h : s.islOk i = true)
    (hstate : s.islState i < 2) (hrail : s.railLocked (i / 96) (s.rd (islA i) R.ISL_CLKSTAT.RAIL_NOW) = true) :
    exec (.islandClockEdge i rising gpio) s =
      .next (if (s.island i).clk ≠ rising then ((s.scene i cfg gpio).next rising).drive else s) := by
  show execIslandClockEdge i rising gpio s = _
  unfold execIslandClockEdge
  rw [hcfg]
  dsimp only
  rw [h, decide_eq_true hstate, hrail]
  by_cases hclk : (s.island i).clk = rising
  · rw [if_neg (not_not.mpr hclk), decide_eq_false (not_not.mpr hclk)]
    rfl
  · rw [if_pos hclk, decide_eq_true hclk]
    rfl
end
end Sys2Proof.Machine

namespace Sys2Proof
open Machine

/-- Settles O30: each command is one equation, and what it does beside entering a state is followed by what it leaves of the island's state and
logic; an edge takes the scene before it to the scene after it. -/
theorem islandStates : Obligations.IslandStates := by
  unfold Obligations.IslandStates
  intro s i hok
  have hi := State.islOk_lt hok
  have henter : ∀ st, st < 8 → (s.setIslState i st).islState i = st ∧ (s.setIslState i st).mem = s.mem := fun st hst => by
    obtain ⟨hmem, hstate, -⟩ := State.setIslState_eq (s := s) hi hst
    exact ⟨hstate, hmem⟩
  refine ⟨fun h => ?_, fun h => ⟨?_, ?_⟩, fun h hdrained => ?_, fun h hphase => ?_, fun h => ?_, fun h => ?_, fun h => ?_, fun h => ?_,
    fun h2 h4 h5 => ?_, fun result unit h hrun hlo hhi => ?_, fun cfg rising gpio hcfg hstate hrail => ⟨fun hclk => ?_, fun hclk => ?_⟩⟩
  · obtain ⟨hstate, hmem⟩ := henter (if s.rd (islA i) R.ISL_DRAIN.DRAIN_LIMIT = 0 then 2 else 1) (by split <;> decide)
    exact ⟨_, (exec_islandFence hok).trans (congrArg _ ((onFence_acting h).trans State.fence_eq)), hmem, hstate⟩
  · exact ⟨_, (exec_islandFence hok).trans (congrArg _ (onFence_reset h)), rfl, congrArg IslandSt.after (State.island_setIsland_same ..)⟩
  · exact ⟨_, (exec_islandUnfence hok).trans (congrArg _ (onUnfence_reset h)), rfl, congrArg IslandSt.after (State.island_setIsland_same ..)⟩
  · exact ⟨_, exec_islandFenceDrained hok h hdrained, henter 2 (by decide)⟩
  · obtain ⟨hmem, hstate, hflag, -⟩ := State.fenceTimeout_eq (s := s) hi
    exact ⟨_, exec_islandFenceTimeout hok h hphase, hstate, hmem, hflag⟩
  · exact ⟨_, (exec_islandUnfence hok).trans (congrArg _ (onUnfence_fenced h)), henter 0 (by decide)⟩
  · exact ⟨_, exec_islandReset hok h, State.startIslandReset_eq hi⟩
  · obtain ⟨hstate, hmem⟩ := henter (if (s.island i).after = .run then 0 else 2) (by split <;> decide)
    exact ⟨_, (exec_islandResetDone hok h).trans (congrArg _ afterReset_setIslState), hmem, hstate⟩
  · obtain ⟨hstate, hmem⟩ := henter 4 (by decide)
    obtain ⟨hmem', hstate', hslices, -⟩ := State.cleared_eq (s := s.setIslState i 4) hi .refl
    refine ⟨_, (exec_bistStart hok).trans (congrArg _ (onBist_slack h)), ?_, State.rd_wr_same .., State.wr_island.symm ▸ hslices,
      (State.wr_mem ..).trans (hmem'.trans hmem)⟩
    exact (State.rd_wr_ne _ _ (key_ne _ (by decide))).trans (hstate'.trans hstate)
  · exact (exec_bistStart hok).trans (congrArg _ (onBist_denied h2 h4 h5))
  · obtain ⟨hmem, hstate, hresult, hfail, hslices, hrows, hocc⟩ := State.bistEnded_eq (s := s) (unit := unit) hi hhi
    obtain ⟨hmem', hrows', hisland, -⟩ := State.raise_keeps (s := s.bistEnded i result unit) (i := i) (e := 689)
    have hreg : ∀ {f : Fld}, islFits f → ((s.bistEnded i result unit).raise 689).rd (islA i) f = (s.bistEnded i result unit).rd (islA i) f :=
      fun hf => State.raise_rd_island hf (by decide)
    refine ⟨_, exec_bistDone hok h hrun hlo hhi, (hreg (by decide)).trans hstate, (hreg (by decide)).trans hresult, hmem'.trans hmem,
      fun hne => (hreg (by decide)).trans (hfail hne), (congrArg IslandSt.slices hisland).trans hslices,
      (State.occurred_raise rfl).congr hocc rfl, fun st row hst hrow => ?_⟩
    exact (congrArg (fun y => Tab.get (fun _ => 0) y (rowKey i st row)) hrows').trans (hrows st row hst hrow)
  · rw [exec_islandClockEdge hcfg hok hstate hrail, if_neg (not_not.mpr hclk)]
  · obtain ⟨hq, hclk', hmem, hfall⟩ := Scene.next_eq (c := s.scene i cfg gpio) (rising := rising) hi
    obtain ⟨hq', hclk'', hslices, hmem', hrows⟩ := Scene.drive_eq (c := (s.scene i cfg gpio).next rising) hi
    refine ⟨_, s.scene i cfg gpio, (s.scene i cfg gpio).next rising,
      (exec_islandClockEdge hcfg hok hstate hrail).trans (congrArg _ (if_pos hclk)), hclk''.trans hclk', hmem'.trans hmem, rfl, rfl, rfl, rfl, rfl,
      hq'.trans (congrArg _ hq), fun h => ?_⟩
    obtain ⟨hslices', hrows'⟩ := hfall h
    exact ⟨hslices.trans hslices', hrows.trans hrows'⟩
end Sys2Proof

/-! # Clock generators and broadcasts to islands (R92 to R94, R114 to R116, R442) -/

namespace Sys2Proof.Machine
open Sys2Proof

/-! ## Clock generators (R91 to R94) -/

/-- The fields of a generator's two registers that a command or a step gives their values; the others follow. -/
def clkFields : List Fld :=
  [R.ISL_CLK.RAMP, R.ISL_CLK.RAIL, R.ISL_CLK.PLVL, R.ISL_CLK.DIV, R.ISL_CLKSTAT.RAIL_NOW, R.ISL_CLKSTAT.PLVL_NOW, R.ISL_CLKSTAT.DIV_NOW]

section
variable {s t : State} {a e g v : Nat} {f f' : Fld}

theorem State.regsOnly.refl : s.regsOnly s := rfl

theorem State.regsOnly.wr (h : s.regsOnly t) : s.regsOnly (t.wr a f v) := by
  unfold State.regsOnly at h ⊢
  rw [h]
  rfl

theorem State.regsOnly.raise (h : s.regsOnly t) : s.regsOnly (t.raise e) := by
  have hraise := State.raise_regsOnly (s := t) (e := e)
  unfold State.regsOnly at h hraise ⊢
  rw [hraise, h]

theorem State.regsOnly.raiseIf {c : Bool} (h : s.regsOnly t) : s.regsOnly (t.raiseIf c e) := by
  unfold State.raiseIf
  split
  · exact h.raise
  · exact h

/-- Fields of one unit by their places in it. -/
theorem State.rd_wr_unit : (s.wr a f v).rd a f' = if key 0 f' = key 0 f then v % 2 ^ f.width else s.rd a f' := by
  have hiff : key a f' = key a f ↔ key 0 f' = key 0 f := by
    unfold key
    omega
  rw [State.rd_wr]
  exact if_congr hiff rfl rfl

theorem bits_mod_width {n hi lo : Nat} : bits n hi lo % 2 ^ (hi + 1 - lo) = bits n hi lo := Nat.mod_mod _ _

theorem State.genOk_lt (h : s.genOk g = true) : g < 576 := by
  unfold State.genOk at h
  simp only [Bool.and_eq_true, decide_eq_true_eq] at h
  exact h.left

theorem genA_ne_evtA (hg : g < 576) (hf : f.off < 8 ∧ f.lo < 32) (hf' : f'.off < 0x10 ∧ f'.lo < 32) (he : e < 1024) :
    key (genA g) f ≠ key (evtA e) f' := by
  obtain ⟨hoff, hlo⟩ := hf
  obtain ⟨hoff', hlo'⟩ := hf'
  unfold genA
  split
  · unfold key islA evtA quadA
    omega
  · split
    · unfold key deepA evtA quadA
      omega
    · unfold key bayA winA evtA quadA
      omega

/-- Only RAMPING, VBUSY, CLAMPED and event 691 follow the target (R92, R94, R127). -/
theorem State.genUpdate_eq (hg : g < 576) (h : s.regsOnly t) :
    s.regsOnly (t.genUpdate g) ∧ ∀ f ∈ clkFields, (t.genUpdate g).rd (genA g) f = t.rd (genA g) f := by
  have hplace : ∀ f ∈ clkFields, (f.off < 8 ∧ f.lo < 32) ∧
      ∀ f' ∈ [R.ISL_CLKSTAT.RAMPING, R.ISL_CLKSTAT.VBUSY, R.ISL_CLKSTAT.CLAMPED], key 0 f ≠ key 0 f' := by decide
  unfold State.genUpdate
  extract_lets
  refine ⟨h.wr.wr.wr.raiseIf, fun f hf => ?_⟩
  obtain ⟨hf, hne⟩ := hplace f hf
  have hraise : ∀ (u : State) (c : Bool), (u.raiseIf c 691).rd (genA g) f = u.rd (genA g) f := fun u c => by
    unfold State.raiseIf
    split
    · exact State.raise_rd (genA_ne_evtA hg hf (by decide) (by decide)) (genA_ne_evtA hg hf (by decide) (by decide))
    · rfl
  rw [hraise, State.rd_wr_ne _ _ (key_ne _ (hne _ (by decide))), State.rd_wr_ne _ _ (key_ne _ (hne _ (by decide))),
    State.rd_wr_ne _ _ (key_ne _ (hne _ (by decide)))]

/-- ISL_CLK with its four fields as in a word written to it. -/
def State.setClk (s : State) (g v : Nat) : State :=
  (((s.wr (genA g) R.ISL_CLK.RAMP (bits v 23 16)).wr (genA g) R.ISL_CLK.RAIL (bits v 15 14)).wr (genA g) R.ISL_CLK.PLVL (bits v 10 8)).wr
    (genA g) R.ISL_CLK.DIV (bits v 5 0)

theorem exec_islClkWrite {value : BitVec 32} (h : s.genOk g = true) (hbay : 448 ≤ g → s.bayTakes (g - 448) = true) :
    exec (.islClkWrite g value) s = .next ((s.setClk g value.toNat).genUpdate g) := by
  have htakes : (decide (g < 448) || s.bayTakes (g - 448)) = true := by
    by_cases hlt : g < 448
    · rw [decide_eq_true hlt, Bool.true_or]
    · rw [hbay (Nat.le_of_not_lt hlt), Bool.or_true]
  exact congrArg Host.Outcome.next (if_pos (by rw [h, htakes]; rfl))

/-- The four fields are set, and the divider in force stands. -/
theorem State.setClk_rd : (s.setClk g v).rd (genA g) R.ISL_CLK.RAMP = bits v 23 16 ∧ (s.setClk g v).rd (genA g) R.ISL_CLK.RAIL = bits v 15 14 ∧
    (s.setClk g v).rd (genA g) R.ISL_CLK.PLVL = bits v 10 8 ∧ (s.setClk g v).rd (genA g) R.ISL_CLK.DIV = bits v 5 0 ∧
    (s.setClk g v).rd (genA g) R.ISL_CLKSTAT.DIV_NOW = s.rd (genA g) R.ISL_CLKSTAT.DIV_NOW := by
  unfold State.setClk
  simp only [State.rd_wr_unit]
  exact ⟨bits_mod_width, bits_mod_width, bits_mod_width, bits_mod_width, rfl⟩

/-- One step of a ramp: the switch of rails at the largest divider, else the divider one step toward its target (R92, R93). -/
def State.rampStep (s : State) (g : Nat) : State :=
  if s.rd (genA g) R.ISL_CLK.RAIL ≠ s.rd (genA g) R.ISL_CLKSTAT.RAIL_NOW ∧ s.rd (genA g) R.ISL_CLKSTAT.DIV_NOW + 1 = 64 then
    (s.wr (genA g) R.ISL_CLKSTAT.RAIL_NOW (s.rd (genA g) R.ISL_CLK.RAIL)).genUpdate g
  else if s.rd (genA g) R.ISL_CLKSTAT.DIV_NOW + 1 < s.divTarget g then
    (s.wr (genA g) R.ISL_CLKSTAT.DIV_NOW (s.rd (genA g) R.ISL_CLKSTAT.DIV_NOW + 1)).genUpdate g
  else if s.divTarget g < s.rd (genA g) R.ISL_CLKSTAT.DIV_NOW + 1 then
    (s.wr (genA g) R.ISL_CLKSTAT.DIV_NOW (s.rd (genA g) R.ISL_CLKSTAT.DIV_NOW + 1 - 2)).genUpdate g
  else s

theorem exec_dividerRampStep (h : s.genOk g = true) (hramp : s.bit (genA g) R.ISL_CLKSTAT.RAMPING = true) (hrun : s.genStopped g = false)
    (hrail : s.railLocked (genQuad g) (s.rd (genA g) R.ISL_CLK.RAIL) = true) : exec (.dividerRampStep g) s = .next (s.rampStep g) :=
  congrArg Host.Outcome.next (if_pos (by rw [h, hramp, hrun, hrail]; rfl))

theorem State.rampStep_regsOnly (hg : g < 576) : s.regsOnly (s.rampStep g) := by
  have hupdate : ∀ f v, s.regsOnly ((s.wr (genA g) f v).genUpdate g) := fun f v => (State.genUpdate_eq hg State.regsOnly.refl.wr).left
  unfold State.rampStep
  split
  · exact hupdate _ _
  · split
    · exact hupdate _ _
    · split
      · exact hupdate _ _
      · exact .refl

theorem exec_levelVoltageDone (h : s.genOk g = true) (hbusy : s.bit (genA g) R.ISL_CLKSTAT.VBUSY = true) :
    exec (.levelVoltageDone g) s = .next ((s.wr (genA g) R.ISL_CLKSTAT.PLVL_NOW (s.levelWanted g)).genUpdate g) :=
  congrArg Host.Outcome.next (if_pos (by rw [h, hbusy]; rfl))

/-- What a generator's field holds after a field has been written and the status has followed. -/
theorem State.genUpdate_wr_rd (hg : g < 576) (hf : f ∈ clkFields) :
    ((s.wr (genA g) f' v).genUpdate g).rd (genA g) f = if key 0 f = key 0 f' then v % 2 ^ f'.width else s.rd (genA g) f :=
  ((State.genUpdate_eq hg .refl).right f hf).trans State.rd_wr_unit

/-- At the largest divider of the old rail, the new one is taken. -/
theorem State.rampStep_rail (hg : g < 576) (hrail : s.rd (genA g) R.ISL_CLK.RAIL ≠ s.rd (genA g) R.ISL_CLKSTAT.RAIL_NOW)
    (hdiv : s.rd (genA g) R.ISL_CLKSTAT.DIV_NOW = 63) :
    (s.rampStep g).rd (genA g) R.ISL_CLKSTAT.RAIL_NOW = s.rd (genA g) R.ISL_CLK.RAIL % 4 ∧ (s.rampStep g).rd (genA g) R.ISL_CLKSTAT.DIV_NOW = 63 := by
  unfold State.rampStep
  rw [if_pos ⟨hrail, by omega⟩]
  exact ⟨State.genUpdate_wr_rd hg (by decide), (State.genUpdate_wr_rd hg (by decide)).trans hdiv⟩

theorem State.rampStep_up (hg : g < 576) (hbelow : s.rd (genA g) R.ISL_CLKSTAT.DIV_NOW + 1 < s.divTarget g)
    (hdiv : s.rd (genA g) R.ISL_CLKSTAT.DIV_NOW < 63) :
    (s.rampStep g).rd (genA g) R.ISL_CLKSTAT.DIV_NOW = s.rd (genA g) R.ISL_CLKSTAT.DIV_NOW + 1 := by
  unfold State.rampStep
  rw [if_neg (by omega), if_pos hbelow]
  exact (State.genUpdate_wr_rd hg (by decide)).trans (Nat.mod_eq_of_lt (by change _ < 64; omega))

theorem State.rampStep_down (hg : g < 576) (habove : s.divTarget g < s.rd (genA g) R.ISL_CLKSTAT.DIV_NOW + 1)
    (hrail : s.rd (genA g) R.ISL_CLK.RAIL = s.rd (genA g) R.ISL_CLKSTAT.RAIL_NOW) (hdiv : s.rd (genA g) R.ISL_CLKSTAT.DIV_NOW < 64) :
    (s.rampStep g).rd (genA g) R.ISL_CLKSTAT.DIV_NOW = s.rd (genA g) R.ISL_CLKSTAT.DIV_NOW - 1 := by
  unfold State.rampStep
  rw [if_neg fun h => h.left hrail, if_neg (by omega), if_pos habove]
  exact (State.genUpdate_wr_rd hg (by decide)).trans (Nat.mod_eq_of_lt (by change _ < 64; omega))
end

/-! ## Groups and states of islands (R106, R116) -/

/-- What STOP and GO look at in island `j`: the mask of its groups, and its state. -/
def State.groupView (s : State) (j : Nat) : Nat × Nat := (s.rd (islA j) R.ISL_CTRL.GRP, s.islState j)

/-- Memory, what has been sent, and the groups and state of every island, are in `t` as in `s`. -/
def State.groupsKept (s t : State) : Prop := t.mem = s.mem ∧ t.out = s.out ∧ ∀ j, t.groupView j = s.groupView j

/-- Island `i` has entered state `st` in `t`; the other islands, memory and what has been sent are as in `s`. -/
def State.entered (i st : Nat) (s t : State) : Prop :=
  t.mem = s.mem ∧ t.out = s.out ∧ ∀ j, t.groupView j = if j = i then ((s.groupView j).1, st) else s.groupView j

section
variable {s t u : State} {a b e i j v st : Nat} {f : Fld}

/-- The keys of two fields of islands differ, whatever the islands. -/
theorem islA_field_ne {g : Fld} (hf : islFits f) (hg : islFits g) (hne : key 0 f ≠ key 0 g) : key (islA j) f ≠ key (islA i) g := by
  obtain ⟨hoff, hlo⟩ := hf
  obtain ⟨hoff', hlo'⟩ := hg
  unfold key islA quadA at *
  omega

theorem State.groupsKept.refl : s.groupsKept s := ⟨rfl, rfl, fun _ => rfl⟩

theorem State.groupsKept.trans (h : s.groupsKept t) (h' : t.groupsKept u) : s.groupsKept u := by
  obtain ⟨hmem, hout, hview⟩ := h
  obtain ⟨hmem', hout', hview'⟩ := h'
  exact ⟨hmem'.trans hmem, hout'.trans hout, fun j => (hview' j).trans (hview j)⟩

theorem State.groupsKept.leaveSleep : s.groupsKept (s.leaveSleep i) :=
  ⟨rfl, rfl, fun _ => Prod.ext (State.rd_congr rfl _ _) (State.rd_congr rfl _ _)⟩

theorem State.groupsKept.wr (hgrp : ∀ j, key (islA j) R.ISL_CTRL.GRP ≠ key a f) (hstate : ∀ j, key (islA j) R.ISL_STATE.STATE ≠ key a f)
    (h : s.groupsKept t) : s.groupsKept (t.wr a f v) :=
  h.trans ⟨rfl, rfl, fun j => Prod.ext (State.rd_wr_ne _ _ (hgrp j)) (State.rd_wr_ne _ _ (hstate j))⟩

theorem State.groupsKept.raise (he : e < 1024) (h : s.groupsKept t) : s.groupsKept (t.raise e) := by
  have hraise := State.raise_regsOnly (s := t) (e := e)
  unfold State.regsOnly at hraise
  refine h.trans ⟨?_, ?_, fun j => Prod.ext (State.raise_rd_island (by decide) he) (State.raise_rd_island (by decide) he)⟩
  · rw [hraise]
  · rw [hraise]

theorem State.groupsKept.bayOnly (hb : b < 128) (h : t.bayOnly u b) : t.groupsKept u := by
  have hview : ∀ j, u.groupView j = t.groupView j := fun j => Prod.ext (h.rd_island hb (by decide)) (h.rd_island hb (by decide))
  obtain ⟨hrest, -⟩ := h
  refine ⟨?_, ?_, hview⟩
  · rw [hrest]
  · rw [hrest]

theorem State.groupsKept.setMismatch (h : s.groupsKept t) : s.groupsKept (t.setFlag (islA i) R.ISL_STATE.DIR_MISMATCH 690) := by
  unfold State.setFlag
  split
  · exact h
  · exact (h.wr (fun _ => islA_field_ne (by decide) (by decide) (by decide)) (fun _ => islA_field_ne (by decide) (by decide) (by decide))).raise
      (by decide)

theorem State.groupsKept.checkDirs (h : s.groupsKept t) : s.groupsKept (t.checkDirs i) := by
  unfold State.checkDirs
  split
  · exact h
  · refine List.foldlRecOn (motive := s.groupsKept) _ _ h fun u hu x _ => ?_
    split
    · exact hu
    · split
      · exact hu.setMismatch.setMismatch
      · exact hu

/-- Entering a state changes the state of that island alone, whatever the lines and directions do. -/
theorem State.entered.setIslState (hi : i < 384) (hst : st < 8) (h : s.groupsKept t) : s.entered i st (t.setIslState i st) := by
  have hsync : (t.wr (islA i) R.ISL_STATE.STATE st).groupsKept ((t.wr (islA i) R.ISL_STATE.STATE st).syncLines i) :=
    .bayOnly (lineBay_lt hi) (State.syncLines_bayOnly hi)
  have hkept : (t.wr (islA i) R.ISL_STATE.STATE st).groupsKept (t.setIslState i st) := by
    unfold State.setIslState
    dsimp only
    split
    · exact hsync.checkDirs
    · exact hsync
  obtain ⟨hmem, hout, hsame⟩ := h
  have hview : ∀ j, (t.wr (islA i) R.ISL_STATE.STATE st).groupView j =
      if j = i then ((s.groupView j).1, st) else s.groupView j := fun j => by
    rw [← hsame j]
    have hgrp : key (islA j) R.ISL_CTRL.GRP ≠ key (islA i) R.ISL_STATE.STATE := islA_field_ne (by decide) (by decide) (by decide)
    split
    case isTrue h =>
      subst h
      exact Prod.ext (State.rd_wr_ne _ _ hgrp) ((State.rd_wr_same ..).trans (Nat.mod_eq_of_lt hst))
    case isFalse h =>
      refine Prod.ext (State.rd_wr_ne _ _ hgrp) (State.rd_wr_ne _ _ ?_)
      unfold key islA quadA
      omega
  obtain ⟨hmem', hout', hrest⟩ := hkept
  exact ⟨hmem'.trans hmem, hout'.trans hout, fun j => (hrest j).trans (hview j)⟩

/-- A step for each of a list of islands puts those that `hit` chooses by their groups and state in a state; nothing else is changed. -/
theorem foldl_entered {step : State → Nat → State} {hit : Nat × Nat → Prop} [DecidablePred hit] {l : List Nat} (hl : l.Nodup)
    (hhit : ∀ u : State, ∀ i ∈ l, hit (u.groupView i) → u.entered i st (step u i))
    (hmiss : ∀ u : State, ∀ i ∈ l, ¬ hit (u.groupView i) → step u i = u) :
    (l.foldl step s).mem = s.mem ∧ (l.foldl step s).out = s.out ∧
      ∀ j, (l.foldl step s).groupView j = if j ∈ l ∧ hit (s.groupView j) then ((s.groupView j).1, st) else s.groupView j := by
  induction l generalizing s with
  | nil => exact ⟨rfl, rfl, fun j => (if_neg fun h => List.not_mem_nil h.left).symm⟩
  | cons i l ih =>
    obtain ⟨hnotin, hl⟩ := List.nodup_cons.mp hl
    obtain ⟨hmem, hout, hview⟩ := ih (s := step s i) hl (fun u i hi => hhit u i (.tail _ hi)) fun u i hi => hmiss u i (.tail _ hi)
    rw [List.foldl_cons]
    by_cases hi : hit (s.groupView i)
    · obtain ⟨hmem', hout', hview'⟩ := hhit s i (.head _) hi
      refine ⟨hmem.trans hmem', hout.trans hout', fun j => ?_⟩
      rw [hview, hview']
      by_cases hj : j = i
      · subst hj
        rw [if_pos rfl, if_neg fun h => hnotin h.left, if_pos ⟨.head _, hi⟩]
      · rw [if_neg hj]
        simp only [List.mem_cons, hj, false_or]
    · rw [hmiss s i (.head _) hi] at *
      refine ⟨hmem, hout, fun j => ?_⟩
      rw [hview]
      by_cases hj : j = i
      · subst hj
        rw [if_neg fun h => hnotin h.left, if_neg fun h => hi h.right]
      · simp only [List.mem_cons, hj, false_or]
end

/-! ## Issuing a broadcast (R114, R117, R126) -/

section
variable {s : State} {a code mask q i : Nat} {f : Fld}

theorem State.broadcast_rd (h : ∀ g : Fld, g.off < 8 → g.lo < 32 → key a f ≠ key (clkA 0) g) :
    (s.broadcast code mask).rd a f = s.rd a f :=
  (State.rd_wr_ne _ _ (h _ (by decide) (by decide))).trans (State.rd_wr_ne _ _ (h _ (by decide) (by decide)))

theorem State.broadcast_treeReaches : (s.broadcast code mask).treeReaches = s.treeReaches := by
  have hup : ∀ b, (s.broadcast code mask).bridgeUp b = s.bridgeUp b := fun b => by
    unfold State.bridgeUp
    rw [State.broadcast_rd]
    intro g hoff hlo
    unfold key brgA clkA quadA
    dsimp only
    omega
  funext q
  unfold State.treeReaches
  simp only [hup]
  rfl

theorem State.broadcast_groupView : (s.broadcast code mask).groupView i = s.groupView i := by
  have hne : ∀ f : Fld, islFits f → ∀ g : Fld, g.off < 8 → g.lo < 32 → key (islA i) f ≠ key (clkA 0) g := by
    rintro f ⟨hoff, hlo⟩ g hoff' hlo'
    unfold key islA clkA quadA
    omega
  exact Prod.ext (State.broadcast_rd (hne _ (by decide))) (State.broadcast_rd (hne _ (by decide)))

theorem State.mem_reached : i ∈ s.reached ↔ i < 384 ∧ s.treeReaches (i / 96) = true := by
  unfold State.reached
  rw [List.mem_filter, List.mem_range]

theorem State.reached_nodup : s.reached.Nodup := List.nodup_range.filter _

/-- A broadcast to groups: the islands that it reaches and `hit` chooses enter a state, and the code is sent. -/
theorem State.broadcast_entered {step : State → Nat → State} {hit : Nat × Nat → Prop} [DecidablePred hit] {st : Nat}
    (hhit : ∀ (u : State) i, i < 384 → hit (u.groupView i) → u.entered i st (step u i))
    (hmiss : ∀ (u : State) i, ¬ hit (u.groupView i) → step u i = u) {t : State}
    (ht : t = (s.broadcast code mask).reached.foldl step (s.broadcast code mask)) :
    t.mem = s.mem ∧ t.out = .broadcast code mask :: s.out ∧ ∀ i, i < 384 →
      t.islState i = if s.treeReaches (i / 96) = true ∧ hit (s.groupView i) then st else s.islState i := by
  obtain ⟨hmem, hout, hview⟩ := foldl_entered (s := s.broadcast code mask) State.reached_nodup
    (fun u i hi => hhit u i (State.mem_reached.mp hi).left) (fun u i _ => hmiss u i)
  subst ht
  refine ⟨hmem, hout, fun i hi => ?_⟩
  have hstate := congrArg Prod.snd (hview i)
  simp only [State.mem_reached, State.broadcast_treeReaches, State.broadcast_groupView, hi, true_and, apply_ite Prod.snd] at hstate
  exact hstate

theorem State.stopGroups_eq : (s.stopGroups mask).mem = s.mem ∧ (s.stopGroups mask).out = .broadcast 5 mask :: s.out ∧ ∀ i, i < 384 →
    (s.stopGroups mask).islState i = if s.treeReaches (i / 96) = true ∧ (s.rd (islA i) R.ISL_CTRL.GRP &&& mask) ≠ 0 ∧
      (s.islState i = 0 ∨ s.islState i = 1) then 6 else s.islState i :=
  State.broadcast_entered (hit := fun p => (p.1 &&& mask) ≠ 0 ∧ (p.2 = 0 ∨ p.2 = 1))
    (fun u i hi h => by
      rw [if_pos h]
      exact .setIslState hi (by decide) .refl)
    (fun u i h => if_neg h) rfl

theorem State.goGroups_eq : (s.goGroups mask).mem = s.mem ∧ (s.goGroups mask).out = .broadcast 6 mask :: s.out ∧ ∀ i, i < 384 →
    (s.goGroups mask).islState i = if s.treeReaches (i / 96) = true ∧ (s.rd (islA i) R.ISL_CTRL.GRP &&& mask) ≠ 0 ∧
      s.islState i = 6 then 0 else s.islState i :=
  State.broadcast_entered (hit := fun p => (p.1 &&& mask) ≠ 0 ∧ p.2 = 6)
    (fun u i hi h => by
      rw [if_pos h]
      exact .setIslState hi (by decide) .leaveSleep)
    (fun u i h => if_neg h) rfl
end

/-! ## CAPTURE (R115, R116, R442) -/

/-- The CAPTURED bits of the 32 islands around island `i`. -/
def capField (i : Nat) : Fld := R.SNAP_CAP.CAPTURED.shift (4 * (i % 96 / 32))

/-- The CAPTURED bit of island `i`. -/
def State.captured (s : State) (i : Nat) : Bool := (s.rd (snapA (i / 96)) (capField i)).testBit (i % 32)

/-- Whether CAPTURE copies the state of an island in state `st`. -/
abbrev copies (st : Nat) : Prop := st = 0 ∨ st = 1 ∨ st = 6

/-- The registers that show what became of island `i` in a capture. -/
def capKey (i k : Nat) : Prop :=
  k = key (islA i) R.ISL_STATE.STATE ∨ k = key (snapA (i / 96)) (capField i) ∨ k = key (evtA 707) R.EVT_STAT.OCC

/-- In `t`, nothing of a capture at island `i` differs from `s`. -/
def State.capKept (i : Nat) (s t : State) : Prop := s.agrees (capKey i) t ∧ t.ctxs = s.ctxs ∧ t.islands = s.islands

/-- What a capture at island `i` goes by, and what it leaves, are in `t` as in `s`. -/
def State.capSource (i : Nat) (s t : State) : Prop :=
  t.mem = s.mem ∧ t.ctxs = s.ctxs ∧ t.rd (evtA 707) R.EVT_STAT.OCC = s.rd (evtA 707) R.EVT_STAT.OCC ∧ t.islState i = s.islState i ∧
    (t.island i).q = (s.island i).q ∧ (t.island i).slices = (s.island i).slices

/-- `t` holds the snapshot of island `i` of `s`, or shows that there is none. -/
def State.capDone (i : Nat) (s t : State) : Prop :=
  t.captured i = decide (copies (s.islState i)) ∧
    (copies (s.islState i) → ∀ w, w < 176 → Tab.get (fun _ => 0) (t.island i).snap w = s.snapWord i w)

theorem testBit_putBit {n i j : Nat} {v : Bool} : (putBit n i v).testBit j = if j = i then v else n.testBit j := by
  unfold putBit
  split
  case isTrue h =>
    split
    case isTrue hj => rw [hj, h]
    case isFalse => rfl
  case isFalse h =>
    rw [Nat.testBit_xor, Nat.testBit_two_pow]
    split
    case isTrue hj =>
      rw [hj, Bool.eq_not_of_ne h, decide_eq_true rfl, Bool.xor_true, Bool.not_not]
    case isFalse hj => rw [decide_eq_false (Ne.symm hj), Bool.xor_false]

section
variable {s t u : State} {a b e i j v : Nat} {f : Fld}

theorem State.capKept.refl : s.capKept i s := ⟨.refl, rfl, rfl⟩

theorem State.capKept.wr (h : s.capKept i t) (hk : ¬ capKey i (key a f)) : s.capKept i (t.wr a f v) := by
  obtain ⟨hregs, hctxs, hislands⟩ := h
  exact ⟨hregs.wr hk, hctxs, hislands⟩

/-! The registers of bays, those of the clock block and the counts of captures lie elsewhere. -/

theorem capKey_bay (hf : f.off < 0x100 ∧ f.lo < 32) : ¬ capKey i (key (bayA b) f) := by
  obtain ⟨hoff, hlo⟩ := hf
  unfold capKey capField Fld.shift key bayA winA islA snapA evtA quadA
  dsimp only
  omega

theorem capKey_clk (hf : f.off < 8 ∧ f.lo < 32) : ¬ capKey i (key (clkA 0) f) := by
  obtain ⟨hoff, hlo⟩ := hf
  unfold capKey capField Fld.shift key clkA islA snapA evtA quadA
  dsimp only
  omega

theorem capKey_seq {q : Nat} : ¬ capKey i (key (snapA q) R.SNAP_SEQ.SEQ) := by
  unfold capKey capField Fld.shift key islA snapA evtA quadA
  dsimp only
  omega

theorem State.capKept.broadcast {code mask : Nat} : s.capKept i (s.broadcast code mask) := by
  unfold State.broadcast
  extract_lets miss
  obtain ⟨hregs, hctxs, hislands⟩ : s.capKept i ((s.wr (clkA 0) R.BCAST_STATUS.MISS miss).wr (clkA 0) R.BCAST_STATUS.LAST_CODE code) :=
    (State.capKept.refl.wr (capKey_clk (by decide))).wr (capKey_clk (by decide))
  exact ⟨hregs.other, hctxs, hislands⟩

theorem State.capKept.captureBay (h : s.capKept i t) : s.capKept i (t.captureBay b) := by
  have hwr : ∀ {u : State} {f : Fld} {v : Nat}, (f.off < 0x100 ∧ f.lo < 32) → s.capKept i u → s.capKept i (u.wr (bayA b) f v) :=
    fun hf hu => hu.wr (capKey_bay hf)
  unfold State.captureBay
  extract_lets a stamp u₁ u₂ u₃
  have hstamp : s.capKept i u₁ := hwr (by decide) (hwr (by decide) h)
  have hzone : s.capKept i u₂ := hwr (by decide) (hwr (by decide) hstamp)
  have hptr : s.capKept i u₃ := hwr (by decide) (hwr (by decide) hzone)
  split
  · exact hwr (by decide) (hwr (by decide) hptr)
  · exact hwr (by decide) h

theorem State.capKept.source (h' : t.capKept i u) (h : s.capSource i t) : s.capSource i u := by
  obtain ⟨hmem, hctxs, hocc, hstate, hq, hslices⟩ := h
  obtain ⟨hregs, hctxs', hislands⟩ := h'
  have hisland : u.island i = t.island i := by
    unfold State.island
    rw [hislands]
  refine ⟨(congrArg (fun c => c.2.2.1) hregs.1).trans hmem, hctxs'.trans hctxs, (hregs.rd (.inr (.inr rfl))).trans hocc,
    (hregs.rd (.inl rfl)).trans hstate, ?_, ?_⟩
  · rw [hisland, hq]
  · rw [hisland, hslices]

theorem State.capKept.done (h' : t.capKept i u) (h : s.capDone i t) : s.capDone i u := by
  obtain ⟨hbit, hsnap⟩ := h
  obtain ⟨hregs, hctxs', hislands⟩ := h'
  have hcaptured : u.captured i = t.captured i := congrArg (fun n => Nat.testBit n (i % 32)) (hregs.rd (.inr (.inl rfl)))
  unfold State.capDone State.island
  rw [hcaptured, hislands]
  exact ⟨hbit, hsnap⟩

/-- The words that hold the user state of an island follow from its logic. -/
theorem State.capSource.snapWord {w : Nat} (h : s.capSource i t) (hw : w < 176) : t.snapWord i w = s.snapWord i w := by
  obtain ⟨-, -, -, -, hq, hslices⟩ := h
  unfold State.snapWord
  simp only [hq, hslices, hw, if_true]

/-! ### One island -/

/-- The words of the snapshot of island `i`, with the number of the capture. -/
def State.snapshot (s : State) (i : Nat) : Tab Nat := (List.range 177).foldl (fun t w => Tab.put (fun _ => 0) t w (s.snapWord i w)) []

/-- Island `i` with its snapshot, when its state lets it copy one. -/
def State.withSnap (s : State) (i : Nat) : State :=
  if copies (s.islState i) then s.setIsland i { s.island i with snap := s.snapshot i } else s

theorem Tab.get_foldl_put_range {word : Nat → Nat} {n w : Nat} :
    Tab.get (fun _ => 0) ((List.range n).foldl (fun t w => Tab.put (fun _ => 0) t w (word w)) []) w = if w < n then word w else 0 := by
  induction n with
  | zero => rfl
  | succ n ih =>
    rw [List.range_succ, List.foldl_append, List.foldl_cons, List.foldl_nil, Tab.get_put, ih]
    grind

theorem State.snapshot_get {w : Nat} (hw : w < 176) : Tab.get (fun _ => 0) (s.snapshot i) w = s.snapWord i w :=
  Tab.get_foldl_put_range.trans (if_pos (by omega))

theorem State.captureIsland_eq : s.captureIsland i =
    (s.withSnap i).wr (snapA (i / 96)) (capField i) (putBit (s.rd (snapA (i / 96)) (capField i)) (i % 32) (decide (copies (s.islState i)))) := by
  unfold State.captureIsland State.withSnap
  dsimp only
  split
  case isTrue h => rw [decide_eq_true h]; rfl
  case isFalse h => rw [decide_eq_false h]; rfl

theorem State.withSnap_flds : (s.withSnap i).flds = s.flds := by
  unfold State.withSnap
  split
  · rfl
  · rfl

theorem State.withSnap_islandsOnly : s.withSnap i = { s with islands := (s.withSnap i).islands } := by
  unfold State.withSnap
  split
  · rfl
  · rfl

/-- A snapshot of one island touches no logic, and no other island. -/
theorem State.withSnap_island : (s.withSnap j).island i =
    if i = j ∧ copies (s.islState j) then { s.island i with snap := s.snapshot i } else s.island i := by
  unfold State.withSnap
  by_cases hcopies : copies (s.islState j)
  · rw [if_pos hcopies]
    by_cases hij : i = j
    · subst hij
      rw [State.island_setIsland_same, if_pos ⟨rfl, hcopies⟩]
    · rw [State.island_setIsland_ne _ _ hij, if_neg fun h => hij h.left]
  · rw [if_neg hcopies, if_neg fun h => hcopies h.right]

theorem State.captureIsland_island : (s.captureIsland j).island i = (s.withSnap j).island i := by
  rw [State.captureIsland_eq]
  exact State.wr_island

theorem State.captureIsland_rd (hne : key a f ≠ key (snapA (j / 96)) (capField j)) : (s.captureIsland j).rd a f = s.rd a f := by
  rw [State.captureIsland_eq]
  exact (State.rd_wr_ne _ _ hne).trans (State.rd_congr State.withSnap_flds _ _)

/-- Islands with one register of CAPTURED bits are 32 of one quadrant. -/
theorem capField_key (h : key (snapA (i / 96)) (capField i) = key (snapA (j / 96)) (capField j)) :
    i / 96 = j / 96 ∧ i % 96 / 32 = j % 96 / 32 := by
  unfold capField Fld.shift key snapA quadA at h
  dsimp only at h
  omega

/-- The bit of the island itself shows whether its state was copied; every other bit stands. -/
theorem State.captureIsland_captured : (s.captureIsland j).captured i = if i = j then decide (copies (s.islState i)) else s.captured i := by
  unfold State.captured
  by_cases hkey : key (snapA (i / 96)) (capField i) = key (snapA (j / 96)) (capField j)
  · obtain ⟨hquad, hgroup⟩ := capField_key hkey
    have hfield : capField i = capField j := congrArg (fun n => R.SNAP_CAP.CAPTURED.shift (4 * n)) hgroup
    have hij : i % 32 = j % 32 ↔ i = j := by omega
    have hwidth : (capField j).width = 32 := rfl
    rw [hquad, hfield, State.captureIsland_eq, State.rd_wr_same, hwidth, Nat.testBit_mod_two_pow, testBit_putBit, if_congr hij rfl rfl,
      decide_eq_true (Nat.mod_lt _ (by decide)), Bool.true_and]
    split
    case isTrue h => rw [h]
    case isFalse => rfl
  · rw [State.captureIsland_rd hkey, if_neg]
    rintro rfl
    exact hkey rfl

theorem State.capSource.refl : s.capSource i s := ⟨rfl, rfl, rfl, rfl, rfl, rfl⟩

theorem State.capSource.captureIsland (h : s.capSource i t) : s.capSource i (t.captureIsland j) := by
  obtain ⟨hmem, hctxs, hocc, hstate, hq, hslices⟩ := h
  have hlogic : ((t.captureIsland j).island i).q = (t.island i).q ∧ ((t.captureIsland j).island i).slices = (t.island i).slices := by
    rw [State.captureIsland_island, State.withSnap_island]
    split
    · exact ⟨rfl, rfl⟩
    · exact ⟨rfl, rfl⟩
  have hrest : (t.captureIsland j).mem = t.mem ∧ (t.captureIsland j).ctxs = t.ctxs := by
    rw [State.captureIsland_eq, State.withSnap_islandsOnly]
    exact ⟨rfl, rfl⟩
  refine ⟨hrest.left.trans hmem, hrest.right.trans hctxs, (State.captureIsland_rd ?_).trans hocc, (State.captureIsland_rd ?_).trans hstate, ?_, ?_⟩
  · unfold capField Fld.shift key snapA evtA quadA
    dsimp only
    omega
  · unfold capField Fld.shift key snapA islA quadA
    dsimp only
    omega
  · exact hlogic.left.trans hq
  · exact hlogic.right.trans hslices

theorem State.capSource.done (h : s.capSource i t) : s.capDone i (t.captureIsland i) := by
  have ⟨_, _, _, hstate, _⟩ := h
  refine ⟨?_, fun hcopies w hw => ?_⟩
  · rw [State.captureIsland_captured, if_pos rfl, hstate]
  · rw [State.captureIsland_island, State.withSnap_island, if_pos ⟨rfl, hstate.symm ▸ hcopies⟩]
    exact (State.snapshot_get hw).trans (h.snapWord hw)

theorem State.capDone.captureIsland (hs : s.capSource i t) (h : s.capDone i t) : s.capDone i (t.captureIsland j) := by
  by_cases hij : i = j
  · subst hij
    exact hs.done
  · obtain ⟨hbit, hsnap⟩ := h
    unfold State.capDone
    rw [State.captureIsland_captured, State.captureIsland_island, State.withSnap_island, if_neg hij, if_neg fun h => hij h.left]
    exact ⟨hbit, hsnap⟩

/-! ### The whole capture -/

/-- The islands of some quadrants, one after another. -/
def islandsOf (qs : List Nat) : List Nat := qs.flatMap fun q => (List.range 96).map fun k => q * 96 + k

theorem mem_islandsOf {qs : List Nat} (h : i / 96 ∈ qs) : i ∈ islandsOf qs :=
  List.mem_flatMap.mpr ⟨_, h, List.mem_map.mpr ⟨i % 96, List.mem_range.mpr (by omega), by omega⟩⟩

theorem foldl_islandsOf {qs : List Nat} : (islandsOf qs).foldl State.captureIsland s =
    qs.foldl (fun s q => (List.range 96).foldl (fun s k => s.captureIsland (q * 96 + k)) s) s := by
  unfold islandsOf
  simp only [List.foldl_flatMap, List.foldl_map]

/-- The quadrants that the tree reaches. -/
def State.treeQuads (s : State) : List Nat := s.quads.filter s.treeReaches

theorem State.mem_treeQuads (hi : i < 384) (h : s.treeReaches (i / 96) = true) : i / 96 ∈ s.treeQuads := by
  have hquad : s.quadOk (i / 96) = true := by
    unfold State.treeReaches at h
    simp only [Bool.and_eq_true] at h
    exact h.left.left
  have hlt : i / 96 ∈ [0, 1, 2, 3] := by
    simp only [List.mem_cons, List.not_mem_nil, or_false]
    omega
  exact List.mem_filter.mpr ⟨List.mem_filter.mpr ⟨hlt, hquad⟩, h⟩

/-- The broadcast of a capture, with the count of each quadrant that it reaches. -/
def State.capBegun (s : State) : State :=
  (s.broadcast 4 0).treeQuads.foldl (fun s q => s.wr (snapA q) R.SNAP_SEQ.SEQ (s.rd (snapA q) R.SNAP_SEQ.SEQ + 1)) (s.broadcast 4 0)

/-- A capture with its islands done. -/
def State.capIslands (s : State) : State := (islandsOf (s.broadcast 4 0).treeQuads).foldl State.captureIsland s.capBegun

theorem State.capBegun_kept : s.capKept i s.capBegun :=
  List.foldlRecOn (motive := s.capKept i) _ _ .broadcast fun _ hu _ _ => hu.wr capKey_seq

theorem State.capIslands_source : s.capSource i s.capIslands :=
  List.foldlRecOn (motive := s.capSource i) _ _ (State.capBegun_kept.source .refl) fun _ hu _ _ => hu.captureIsland

theorem State.capIslands_done (hi : i < 384) (h : s.treeReaches (i / 96) = true) : s.capDone i s.capIslands := by
  have hmem : i ∈ islandsOf (s.broadcast 4 0).treeQuads :=
    mem_islandsOf (State.mem_treeQuads hi (State.broadcast_treeReaches.symm ▸ h))
  exact foldl_reaches (R := s.capSource i) hmem (fun _ _ hu => hu.captureIsland) (fun _ hu => hu.done) (fun _ _ hs hu => hu.captureIsland hs)
    (State.capBegun_kept.source .refl)

/-- The bays follow the islands, and then the event. -/
theorem State.capture_raise : ∃ t, s.capture = t.raise 707 ∧ ∀ i, s.capIslands.capKept i t := by
  refine ⟨_, congrArg (fun u => State.raise (List.foldl _ u _) 707) foldl_islandsOf.symm, fun i => ?_⟩
  exact List.foldlRecOn (motive := s.capIslands.capKept i) _ _ .refl fun _ hu _ _ =>
    List.foldlRecOn (motive := s.capIslands.capKept i) _ _ hu fun _ hu _ _ => hu.captureBay

/-- What became of an island in a capture stands when the event is raised. -/
theorem State.raise_island_captured : (s.raise 707).islState i = s.islState i ∧ (s.raise 707).captured i = s.captured i ∧
    (s.raise 707).island i = s.island i := by
  have hne : ∀ f : Fld, f.off < 0x10 → f.lo < 32 → key (snapA (i / 96)) (capField i) ≠ key (evtA 707) f := by
    intro f hoff hlo
    unfold capField Fld.shift key snapA evtA quadA
    dsimp only
    omega
  obtain ⟨-, -, hisland, -⟩ := State.raise_keeps (s := s) (i := i) (e := 707)
  exact ⟨State.raise_rd_island (by decide) (by decide),
    congrArg (fun n => Nat.testBit n (i % 32)) (State.raise_rd (hne _ (by decide) (by decide)) (hne _ (by decide) (by decide))), hisland⟩

theorem State.capture_eq : s.capture.mem = s.mem ∧ s.capture.ctxs = s.ctxs ∧ s.occurred s.capture 707 1 ∧
    ∀ i, i < 384 → s.treeReaches (i / 96) = true → s.capture.islState i = s.islState i ∧ s.capDone i s.capture := by
  obtain ⟨t, heq, hkept⟩ := State.capture_raise (s := s)
  have hsource : ∀ i, s.capSource i t := fun i => (hkept i).source State.capIslands_source
  obtain ⟨hmem, hctxs, hocc, -⟩ := hsource 0
  rw [heq]
  refine ⟨(congrArg State.mem State.raise_regsOnly).trans hmem, (congrArg State.ctxs State.raise_regsOnly).trans hctxs,
    (State.occurred_raise rfl).congr hocc rfl, fun i hi h => ?_⟩
  obtain ⟨-, -, -, hstate, -⟩ := hsource i
  obtain ⟨hstate', hbit, hisland⟩ := State.raise_island_captured (s := t) (i := i)
  refine ⟨hstate'.trans hstate, ?_⟩
  unfold State.capDone
  rw [hbit, hisland]
  exact (hkept i).done (State.capIslands_done hi h)
end
end Sys2Proof.Machine

namespace Sys2Proof
open Machine

/-- Settles O31. A ramp step is one of three writes of ISL_CLKSTAT, whose status bits then follow; a broadcast to groups, and a capture, is a pass over the
islands that the tree reaches, and the step of an island changes nothing that the others show. -/
theorem islandClocksAndBroadcasts : Obligations.IslandClocksAndBroadcasts := by
  unfold Obligations.IslandClocksAndBroadcasts
  intro s
  refine ⟨fun g hok => ?_, fun mask => ⟨_, rfl, State.stopGroups_eq⟩, fun mask => ⟨_, rfl, State.goGroups_eq⟩, _, rfl, State.capture_eq⟩
  have hg := State.genOk_lt hok
  refine ⟨fun value hbay => ?_, fun hramp hrun hrail => ?_, fun hbusy => ?_⟩
  · obtain ⟨honly, hkept⟩ := State.genUpdate_eq (t := s.setClk g value.toNat) hg (.wr (.wr (.wr (.wr .refl))))
    obtain ⟨hrampF, hrailF, hlevelF, hdivF, hnow⟩ := State.setClk_rd (s := s) (g := g) (v := value.toNat)
    exact ⟨_, exec_islClkWrite hok hbay, honly, (hkept _ (by decide)).trans hrampF, (hkept _ (by decide)).trans hrailF,
      (hkept _ (by decide)).trans hlevelF, (hkept _ (by decide)).trans hdivF, (hkept _ (by decide)).trans hnow⟩
  · exact ⟨_, exec_dividerRampStep hok hramp hrun hrail, State.rampStep_regsOnly hg, State.rampStep_rail hg, State.rampStep_up hg,
      State.rampStep_down hg⟩
  · obtain ⟨honly, -⟩ := State.genUpdate_eq (t := s.wr (genA g) R.ISL_CLKSTAT.PLVL_NOW (s.levelWanted g)) hg (.wr .refl)
    exact ⟨_, exec_levelVoltageDone hok hbusy, honly, State.genUpdate_wr_rd hg (by decide)⟩
end Sys2Proof

/-! # Pins, comparators, rings, boundaries and supplies of a bay (R136 to R151, R157, R537) -/

/-! ## What an alert changes (R170) -/

namespace Sys2Proof.Machine
open Sys2Proof

section
variable {s : State} {b e i j k : Nat} {f : Fld}

theorem State.evtOk_lt (h : s.evtOk e = true) : e < 1024 := by
  by_contra hge
  have hno : ∀ n, n ≤ 1024 → ¬ e < n := fun n hn => by omega
  unfold State.evtOk at h
  simp [hno] at h

theorem State.raise_absent (h : ¬ s.evtOk e = true) : s.raise e = s := if_neg h

theorem State.raiseIf_true : s.raiseIf true e = s.raise e := rfl

theorem State.bayOnly.raiseIf {c : Bool} : s.bayOnly (s.raiseIf c e) b := by
  cases c with
  | false => exact .refl
  | true =>
    rw [State.raiseIf_true]
    by_cases hok : s.evtOk e = true
    · exact .raise (State.evtOk_lt hok)
    · rw [State.raise_absent hok]
      exact .refl

theorem State.raiseIf_bay {c : Bool} : (s.raiseIf c e).bay k = s.bay k := by
  cases c with
  | false => rfl
  | true => exact State.raise_bay

/-- The registers of a bay lie apart from those of its events, whatever its number. -/
theorem State.raiseIf_rd {c : Bool} (hi : i < 4) (hf : f.off < 0x100 ∧ f.lo < 32) :
    (s.raiseIf c (4 * b + i)).rd (bayA b) f = s.rd (bayA b) f := by
  cases c with
  | false => rfl
  | true =>
    rw [State.raiseIf_true]
    by_cases hok : s.evtOk (4 * b + i) = true
    · have hlt := State.evtOk_lt hok
      have hne : ∀ g : Fld, key (bayA b) f ≠ key (evtA (4 * b + i)) g := fun g => by
        obtain ⟨hoff, hlo⟩ := hf
        unfold key bayA winA evtA quadA
        omega
      exact State.raise_rd (hne _) (hne _)
    · rw [State.raise_absent hok]

/-- Registers below those of the events stand. -/
theorem State.raiseIf_get {c : Bool} (hk : k < evtA 0 * 32) : Tab.get regReset (s.raiseIf c e).flds k = Tab.get regReset s.flds k := by
  have hevt : ∀ f : Fld, ¬ key (evtA e) f < evtA 0 * 32 := fun f => by
    unfold key evtA
    omega
  cases c with
  | false => rfl
  | true => exact (State.agrees.refl.raise (K := fun k => k < evtA 0 * 32) (hevt _) (hevt _)).2 k hk

/-- An alert that is set stands; one that is not is set, and may occur as event 4b + 2. -/
theorem State.alert_cases : ((s.rd (bayA b) R.ALERT_STAT.ALERT).testBit i = true ∧ s.alert b i = s) ∨
    ∃ c, s.alert b i = (s.wr (bayA b) R.ALERT_STAT.ALERT (s.rd (bayA b) R.ALERT_STAT.ALERT ||| 2 ^ i)).raiseIf c (4 * b + 2) := by
  cases h : (s.rd (bayA b) R.ALERT_STAT.ALERT).testBit i with
  | true => exact .inl ⟨rfl, if_pos h⟩
  | false => exact .inr ⟨_, if_neg (Bool.eq_false_iff.mp h)⟩

theorem State.bayOnly.alert : s.bayOnly (s.alert b i) b := by
  obtain ⟨-, h⟩ | ⟨c, h⟩ := State.alert_cases (s := s) (b := b) (i := i)
  · rw [h]
    exact .refl
  · rw [h]
    exact (State.bayOnly.wr (by decide)).trans .raiseIf

theorem State.alert_bay : (s.alert b i).bay k = s.bay k := by
  obtain ⟨-, h⟩ | ⟨c, h⟩ := State.alert_cases (s := s) (b := b) (i := i)
  · rw [h]
  · rw [h, State.raiseIf_bay]
    rfl

theorem State.alert_rd (hf : f.off < 0x100 ∧ f.lo < 32) (hne : key 0 f ≠ key 0 R.ALERT_STAT.ALERT) :
    (s.alert b i).rd (bayA b) f = s.rd (bayA b) f := by
  obtain ⟨-, h⟩ | ⟨c, h⟩ := State.alert_cases (s := s) (b := b) (i := i)
  · rw [h]
  · rw [h, State.raiseIf_rd (by decide) hf, State.rd_wr_ne _ _ (key_ne _ hne)]

theorem State.alert_get (hk : k < evtA 0 * 32) (hne : k ≠ key (bayA b) R.ALERT_STAT.ALERT) :
    Tab.get regReset (s.alert b i).flds k = Tab.get regReset s.flds k := by
  obtain ⟨-, h⟩ | ⟨c, h⟩ := State.alert_cases (s := s) (b := b) (i := i)
  · rw [h]
  · rw [h, State.raiseIf_get hk]
    exact Tab.get_put_ne _ _ _ hne

/-- Of the alerts of a bay, one more is set. -/
theorem State.alert_testBit (hj : j < 7) : ((s.alert b i).rd (bayA b) R.ALERT_STAT.ALERT).testBit j =
    ((s.rd (bayA b) R.ALERT_STAT.ALERT).testBit j || decide (i = j)) := by
  obtain ⟨hset, h⟩ | ⟨c, h⟩ := State.alert_cases (s := s) (b := b) (i := i)
  · rw [h]
    by_cases hij : i = j
    · rw [decide_eq_true hij, ← hij, hset]
      rfl
    · rw [decide_eq_false hij, Bool.or_false]
  · rw [h, State.raiseIf_rd (by decide) (by decide), State.rd_wr_same, Nat.testBit_mod_two_pow, Nat.testBit_or, Nat.testBit_two_pow]
    exact (congrArg (· && _) (decide_eq_true hj)).trans (Bool.true_and _)
end
end Sys2Proof.Machine

/-! ## What records, alerts and rules leave as it was -/

namespace Sys2Proof.Machine
open Sys2Proof

/-- A pin without the counts for its next record, its stuck timer and the drive of its ball. -/
def PinSt.senses (p : PinSt) : PinSt := { p with supp := 0, glitch := 0, stuckOn := false, stuckAt := 0, drive := .hold }

/-- The front end of a bay without its pins, its records and its rules. -/
def BaySt.sampling (v : BaySt) : BaySt := { v with pins := [], stage := [], lossCap := false, seq := 0, acting := 0, fresh := false }

/-- The fields that records, alerts and rules write. -/
def logFields : List Fld := [R.CAP_DROP.DROP, R.ALERT_STAT.ALERT, R.RFX_STATE.COND, R.RFX_STATE.LATCHED]

/-- From `s` to `t`, bay `b` has at most recorded, raised alerts, evaluated its rules, timed its stuck pins and driven its balls. -/
structure State.logs (b : Nat) (s t : State) : Prop where
  only : s.bayOnly t b
  regs : ∀ k, k < evtA 0 * 32 → (∀ f ∈ logFields, k ≠ key (bayA b) f) → Tab.get regReset t.flds k = Tab.get regReset s.flds k
  sampling : (t.bay b).sampling = (s.bay b).sampling
  senses : ∀ k, (t.pin b k).senses = (s.pin b k).senses
  alerts : ∀ j, j < 7 → (s.rd (bayA b) R.ALERT_STAT.ALERT).testBit j = true → (t.rd (bayA b) R.ALERT_STAT.ALERT).testBit j = true

section
variable {s t u : State} {b k : Nat}

theorem State.pin_congr (h : t.bay b = s.bay b) : t.pin b k = s.pin b k := by
  unfold State.pin
  rw [h]

theorem State.modBay_same {g : BaySt → BaySt} : (s.modBay b g).bay b = g (s.bay b) := State.bay_setBay_same ..

theorem State.pin_modBay {g : BaySt → BaySt} (hg : (g (s.bay b)).pins = (s.bay b).pins := by rfl) : (s.modBay b g).pin b k = s.pin b k := by
  unfold State.pin
  rw [State.modBay_same, hg]

theorem State.pin_setPin {j : Nat} {p : PinSt} : (s.setPin b k p).pin b j = if j = k then p else s.pin b j := by
  unfold State.pin State.setPin
  rw [State.modBay_same]
  exact Tab.get_put ..

theorem State.pin_setPin_same {p : PinSt} : (s.setPin b k p).pin b k = p := State.pin_setPin.trans (if_pos rfl)

theorem State.logs.refl : s.logs b s := ⟨.refl, fun _ _ _ => rfl, rfl, fun _ => rfl, fun _ _ h => h⟩

theorem State.logs.trans (h : s.logs b t) (h' : t.logs b u) : s.logs b u where
  only := h.only.trans h'.only
  regs k hk hne := (h'.regs k hk hne).trans (h.regs k hk hne)
  sampling := h'.sampling.trans h.sampling
  senses k := (h'.senses k).trans (h.senses k)
  alerts j hj hs := h'.alerts j hj (h.alerts j hj hs)

theorem State.logs.wr {f : Fld} {v : Nat} (h : s.logs b t) (hf : f ∈ logFields) (hne : key 0 R.ALERT_STAT.ALERT ≠ key 0 f) :
    s.logs b (t.wr (bayA b) f v) := by
  have hplace : ∀ f ∈ logFields, f.off < 0x100 ∧ f.lo < 32 := by decide
  refine h.trans ⟨.wr (hplace f hf), fun k _ hk => Tab.get_put_ne _ _ _ (hk f hf), rfl, fun _ => rfl, fun j _ hj => ?_⟩
  rw [State.rd_wr_ne _ _ (key_ne _ hne)]
  exact hj

theorem State.logs.modBay {g : BaySt → BaySt} (h : s.logs b t) (hg : (g (t.bay b)).sampling = (t.bay b).sampling := by rfl)
    (hpins : (g (t.bay b)).pins = (t.bay b).pins := by rfl) : s.logs b (t.modBay b g) :=
  h.trans ⟨.modBay, fun _ _ _ => rfl, (congrArg BaySt.sampling State.modBay_same).trans hg,
    fun _ => congrArg PinSt.senses (State.pin_modBay hpins), fun _ _ hj => hj⟩

theorem State.logs.setPin {p : PinSt} (h : s.logs b t) (hp : p.senses = (t.pin b k).senses := by rfl) : s.logs b (t.setPin b k p) := by
  refine h.trans ⟨.modBay, fun _ _ _ => rfl, (congrArg BaySt.sampling State.modBay_same).trans rfl, fun j => ?_, fun _ _ hj => hj⟩
  rw [State.pin_setPin]
  split
  case isTrue hj => rw [hp, hj]
  case isFalse => rfl

theorem State.logs.alert {i : Nat} (h : s.logs b t) : s.logs b (t.alert b i) := by
  refine h.trans ⟨.alert, fun k hk hne => State.alert_get hk (hne _ (by decide)), congrArg BaySt.sampling State.alert_bay,
    fun k => congrArg PinSt.senses (State.pin_congr State.alert_bay), fun j hj hset => ?_⟩
  rw [State.alert_testBit hj, hset]
  rfl

theorem State.logs.foldl {β : Type} {l : List β} {f : State → β → State} (h : s.logs b t) (hf : ∀ u x, s.logs b u → s.logs b (f u x)) :
    s.logs b (l.foldl f t) := List.foldlRecOn (motive := s.logs b) _ _ h fun u hu x _ => hf u x hu

theorem State.logs.drivePins (h : s.logs b t) : s.logs b (t.drivePins b) := by
  unfold State.drivePins
  split
  · exact h
  · exact h.foldl fun _ _ hu => hu.setPin

theorem State.logs.stageRecord {r : CapRecord} (h : s.logs b t) : s.logs b (t.stageRecord b r) := by
  unfold State.stageRecord
  split
  · exact h
  · split
    · exact .alert (.modBay (h.wr (by decide) (by decide)))
    · exact h.modBay

theorem State.logs.record {kind pin edge zone ovr glitch : Nat} {stamp : Int} {settle once : Bool} (h : s.logs b t) :
    s.logs b (t.record b kind pin edge zone stamp settle ovr glitch once) := State.logs.foldl h.modBay fun _ _ hu => hu.stageRecord

theorem State.logs.pinRecord {kind edge : Nat} {stamp : Int} {settle : Bool} (h : s.logs b t) :
    s.logs b (t.pinRecord b k kind edge stamp settle) := by
  have hrecord : ∀ zone ovr glitch, t.logs b (t.record b kind k edge zone stamp settle ovr glitch false) := fun _ _ _ => .record .refl
  exact h.trans ((hrecord _ _ _).setPin ((hrecord _ _ _).senses k).symm)

theorem State.logs.resyncPins (h : s.logs b t) : s.logs b (t.resyncPins b) := by
  refine h.foldl fun u k hu => ?_
  split
  · exact hu
  · exact hu.pinRecord

theorem State.logs.ruleBegins {r : Nat} (h : s.logs b t) : s.logs b (t.ruleBegins b r) := by
  unfold State.ruleBegins
  extract_lets a target zone u
  have hu : s.logs b u := by
    unfold u
    split
    · exact h.record
    · exact h
  split
  · exact hu.alert
  · exact hu

theorem State.logs.evalRule {frame : Bool} {r : Nat} (h : s.logs b t) : s.logs b (t.evalRule b frame r) := by
  unfold State.evalRule
  extract_lets c conds latched latch rise latched' acts begins u₁ u₂ u₃
  have hwritten : s.logs b u₂ := (h.wr (by decide) (by decide)).wr (by decide) (by decide)
  clear_value u₂
  have hu : s.logs b u₃ := hwritten.modBay
  split
  · exact hu.ruleBegins
  · exact hu

/-- The rules have been evaluated, and the balls not yet driven. -/
def State.ruled (s : State) (b : Nat) (frame : Bool) : State :=
  ((List.range 16).foldl (fun s r => s.evalRule b frame r) s).modBay b fun v => { v with fresh := false }

theorem State.reflex_def {frame : Bool} : s.reflex b frame = if s.capturing b then (s.ruled b frame).drivePins b else s := rfl

theorem State.logs.ruled {frame : Bool} (h : s.logs b t) : s.logs b (t.ruled b frame) := by
  have hrules : s.logs b ((List.range 16).foldl (fun u r => u.evalRule b frame r) t) := h.foldl fun _ _ hu => hu.evalRule
  unfold State.ruled
  generalize (List.range 16).foldl (fun u r => u.evalRule b frame r) t = u at hrules ⊢
  exact hrules.modBay

theorem State.logs.reflex {frame : Bool} (h : s.logs b t) : s.logs b (t.reflex b frame) := by
  rw [State.reflex_def]
  split
  · exact h.ruled.drivePins
  · exact h

theorem State.logs.stuckRestart (h : s.logs b t) : s.logs b (t.stuckRestart b k) := h.setPin

theorem State.logs.stuckFollow (h : s.logs b t) : s.logs b (t.stuckFollow b k) := by
  unfold State.stuckFollow
  extract_lets p
  split
  · split
    · exact h
    · exact h.setPin
  · exact h.setPin

/-! ### What follows from it -/

/-- A register of the bay that records, alerts and rules do not write. -/
abbrev quietField (f : Fld) : Prop := (f.off < 0x100 ∧ f.lo < 32) ∧ ∀ g ∈ logFields, key 0 f ≠ key 0 g

theorem State.logs.bayRd {f : Fld} (hb : b < 128) (h : s.logs b t) (hf : quietField f) : t.rd (bayA b) f = s.rd (bayA b) f := by
  obtain ⟨⟨hoff, hlo⟩, hne⟩ := hf
  refine h.regs _ ?_ fun g hg => key_ne _ (hne g hg)
  unfold key bayA winA evtA quadA
  omega

/-- A pin of a bay and a field of its registers. -/
abbrev pinField (k : Nat) (f : Fld) : Prop := k < 10 ∧ f.off < 0x20 ∧ f.lo < 32

theorem bayA_ne_pinA {f g : Fld} (hf : f.off < 0x100 ∧ f.lo < 32) (hlo : g.lo < 32) : key (bayA b) f ≠ key (pinA b k) g := by
  obtain ⟨hoff, hlo'⟩ := hf
  unfold key bayA pinA
  omega

theorem State.logs.pinRd {f : Fld} (hb : b < 128) (h : s.logs b t) (hf : pinField k f) : t.rd (pinA b k) f = s.rd (pinA b k) f := by
  obtain ⟨hk, hoff, hlo⟩ := hf
  have hplace : ∀ g ∈ logFields, g.off < 0x100 ∧ g.lo < 32 := by decide
  refine h.regs _ ?_ fun g hg => (bayA_ne_pinA (hplace g hg) hlo).symm
  unfold key pinA winA evtA quadA
  omega

theorem State.bayOnly.pinWr {f : Fld} {v : Nat} (hf : pinField k f) : s.bayOnly (s.wr (pinA b k) f v) b := by
  obtain ⟨hk, hoff, hlo⟩ := hf
  refine ⟨rfl, fun _ _ => rfl, fun k _ _ => Tab.get_put_ne _ _ _ ?_⟩
  unfold key pinA winA at *
  omega

theorem State.logs.zoneHi (hb : b < 128) (h : s.logs b t) : t.zoneHi b k = s.zoneHi b k :=
  congrArg (Nat.testBit · k) (h.bayRd hb (by decide))

theorem State.logs.zoneLo (hb : b < 128) (h : s.logs b t) : t.zoneLo b k = s.zoneLo b k :=
  congrArg (Nat.testBit · k) (h.bayRd hb (by decide))

theorem State.logs.zone (hb : b < 128) (h : s.logs b t) : t.zone b k = s.zone b k := by
  unfold State.zone
  rw [h.zoneHi hb, h.zoneLo hb]

end
end Sys2Proof.Machine

/-! ## Zones, pin registers and drive (R136, R140, R148) -/

namespace Sys2Proof.Machine
open Sys2Proof

/-- `t` differs from `s` at most in bay `b`, and in none of its pins' registers. -/
structure State.pinsKept (b : Nat) (s t : State) : Prop where
  only : s.bayOnly t b
  regs : ∀ k f, pinField k f → t.rd (pinA b k) f = s.rd (pinA b k) f

section
variable {s t u : State} {b j k m v : Nat} {f : Fld} {hi val : Bool}

theorem State.bayOnly.setPin {p : PinSt} : s.bayOnly (s.setPin b k p) b := .modBay

theorem State.bayOnly.setZone : s.bayOnly (s.setZone b k hi val) b := by
  cases hi with
  | true => exact .wr (by decide)
  | false => exact .wr (by decide)

theorem State.bayOnly.pinTakes : s.bayOnly (s.pinTakes b k) b := State.bayOnly.setZone.trans .setZone

theorem State.bayOnly.pinOff : s.bayOnly (s.pinOff b k) b := (State.bayOnly.setZone.trans .setZone).trans .setPin

theorem State.pinsKept.refl : s.pinsKept b s := ⟨.refl, fun _ _ _ => rfl⟩

theorem State.pinsKept.trans (h : s.pinsKept b t) (h' : t.pinsKept b u) : s.pinsKept b u :=
  ⟨h.only.trans h'.only, fun k f hf => (h'.regs k f hf).trans (h.regs k f hf)⟩

theorem State.logs.pinsKept (hb : b < 128) (h : s.logs b t) : s.pinsKept b t := ⟨h.only, fun _ _ hf => h.pinRd hb hf⟩

theorem State.pinsKept.setPin {p : PinSt} (h : s.pinsKept b t) : s.pinsKept b (t.setPin b k p) := h.trans ⟨.modBay, fun _ _ _ => rfl⟩

theorem State.pinsKept.setZone (h : s.pinsKept b t) : s.pinsKept b (t.setZone b k hi val) := by
  refine h.trans ⟨.setZone, fun j f ⟨_, _, hlo⟩ => ?_⟩
  cases hi with
  | true => exact State.rd_wr_ne _ _ (bayA_ne_pinA (by decide) hlo).symm
  | false => exact State.rd_wr_ne _ _ (bayA_ne_pinA (by decide) hlo).symm

theorem State.pinsKept.pinTakes (h : s.pinsKept b t) : s.pinsKept b (t.pinTakes b k) := h.setZone.setZone

theorem State.pinsKept.pinOff (h : s.pinsKept b t) : s.pinsKept b (t.pinOff b k) := h.setZone.setZone.setPin

/-- The filtered outputs after a write to one of them. -/
theorem State.setZone_zoneHi (hj : j < 10) : (s.setZone b k hi val).zoneHi b j = if hi = true ∧ j = k then val else s.zoneHi b j := by
  unfold State.zoneHi State.setZone
  cases hi with
  | false =>
    rw [if_neg Bool.false_ne_true, State.rd_wr_ne _ _ (key_ne _ (by decide)), if_neg fun h => Bool.false_ne_true h.left]
  | true =>
    have hw : decide (j < R.PIN_ZONE.HI.width) = true := decide_eq_true hj
    rw [if_pos rfl, State.rd_wr_same, Nat.testBit_mod_two_pow, hw, Bool.true_and, testBit_putBit]
    exact if_congr (and_iff_right rfl).symm rfl rfl

theorem State.setZone_zoneLo (hj : j < 10) : (s.setZone b k hi val).zoneLo b j = if hi = false ∧ j = k then val else s.zoneLo b j := by
  unfold State.zoneLo State.setZone
  cases hi with
  | true =>
    rw [if_pos rfl, State.rd_wr_ne _ _ (key_ne _ (by decide)), if_neg fun h => Bool.false_ne_true h.left.symm]
  | false =>
    have hw : decide (j < R.PIN_ZONE.LO.width) = true := decide_eq_true hj
    rw [if_neg Bool.false_ne_true, State.rd_wr_same, Nat.testBit_mod_two_pow, hw, Bool.true_and, testBit_putBit]
    exact if_congr (and_iff_right rfl).symm rfl rfl

/-- Entering or leaving OFF writes no register of a pin but MODE (R136). -/
theorem State.setMode_taken (hb : b < 128) (hm : m ≤ 4) : (s.wr (pinA b k) R.PIN_MODE.MODE m).pinsKept b (s.setMode b k m) := by
  unfold State.setMode
  rw [if_neg (Nat.not_lt.mpr hm)]
  extract_lets was u u'
  have hu' : u.pinsKept b u' := by
    unfold u'
    split
    · exact State.logs.refl.alert.pinsKept hb
    · exact .refl
  clear_value u'
  split
  · split
    · exact hu'.pinTakes.trans (State.logs.refl.pinRecord.stuckFollow.pinsKept hb)
    · exact hu'
  · split
    · exact State.pinsKept.refl.pinOff
    · exact .refl

theorem State.setMode_refused (hm : ¬ m ≤ 4) : s.setMode b k m = s := if_pos (Nat.lt_of_not_le hm)

theorem State.bayTakes_lt (h : s.bayTakes b = true) : b < 128 := by
  unfold State.bayTakes at h
  rw [Bool.and_eq_true] at h
  exact State.bayOk_lt h.left

/-- What a command does to a pin of a bay that takes writes. -/
theorem takesPin (h : s.bayTakes b = true) (hk : k < 10) : (s.bayTakes b && decide (k < 10)) = true := by
  rw [h, decide_eq_true hk]
  rfl

/-! ## PIN_MODE_WRITE, PIN_THR_WRITE, PIN_STK_WRITE and PIN_NEXT_WRITE -/

/-- RFX_EN and DSRC of a pin take the values of a word. -/
def State.sourceWritten (s : State) (b k v : Nat) : State :=
  (s.wr (pinA b k) R.PIN_MODE.RFX_EN (bits v 5 5)).wr (pinA b k) R.PIN_MODE.DSRC (bits v 4 4)

theorem State.sourceWritten_rd (hf : key 0 f ≠ key 0 R.PIN_MODE.RFX_EN) (hf' : key 0 f ≠ key 0 R.PIN_MODE.DSRC) :
    (s.sourceWritten b k v).rd (pinA b k) f = s.rd (pinA b k) f :=
  (State.rd_wr_ne _ _ (key_ne _ hf')).trans (State.rd_wr_ne _ _ (key_ne _ hf))

theorem State.sourceWritten_source : (s.sourceWritten b k v).rd (pinA b k) R.PIN_MODE.RFX_EN = bits v 5 5 ∧
    (s.sourceWritten b k v).rd (pinA b k) R.PIN_MODE.DSRC = bits v 4 4 :=
  ⟨((State.rd_wr_ne _ _ (key_ne _ (by decide))).trans (State.rd_wr_same ..)).trans bits_mod_width, (State.rd_wr_same ..).trans bits_mod_width⟩

/-- PIN_MODE takes a word, its MODE only where it is one of the five. -/
def State.modeWritten (s : State) (b k v : Nat) : State :=
  if bits v 2 0 ≤ 4 then (s.sourceWritten b k v).wr (pinA b k) R.PIN_MODE.MODE (bits v 2 0) else s.sourceWritten b k v

theorem State.modeWritten_bayOnly (hk : k < 10) : s.bayOnly (s.modeWritten b k v) b := by
  have hsource : s.bayOnly (s.sourceWritten b k v) b := (State.bayOnly.pinWr ⟨hk, by decide⟩).trans (.pinWr ⟨hk, by decide⟩)
  unfold State.modeWritten
  split
  · exact hsource.trans (.pinWr ⟨hk, by decide⟩)
  · exact hsource

theorem State.modeWritten_rd : (s.modeWritten b k v).rd (pinA b k) R.PIN_MODE.RFX_EN = bits v 5 5 ∧
    (s.modeWritten b k v).rd (pinA b k) R.PIN_MODE.DSRC = bits v 4 4 ∧
    (s.modeWritten b k v).rd (pinA b k) R.PIN_MODE.MODE = if bits v 2 0 ≤ 4 then bits v 2 0 else s.rd (pinA b k) R.PIN_MODE.MODE := by
  obtain ⟨hrfx, hdsrc⟩ := State.sourceWritten_source (s := s) (b := b) (k := k) (v := v)
  unfold State.modeWritten
  split
  · exact ⟨(State.rd_wr_ne _ _ (key_ne _ (by decide))).trans hrfx, (State.rd_wr_ne _ _ (key_ne _ (by decide))).trans hdsrc,
      (State.rd_wr_same ..).trans bits_mod_width⟩
  · exact ⟨hrfx, hdsrc, State.sourceWritten_rd (by decide) (by decide)⟩

theorem State.modeWritten_pinsKept (hb : b < 128) :
    (s.modeWritten b k v).pinsKept b ((s.sourceWritten b k v).setMode b k (bits v 2 0)) := by
  unfold State.modeWritten
  split
  case isTrue hm => exact State.setMode_taken hb hm
  case isFalse hm =>
    rw [State.setMode_refused hm]
    exact .refl

theorem exec_pinModeWrite {value : BitVec 32} (h : s.bayTakes b = true) (hk : k < 10) : exec (.pinModeWrite b k value) s =
    .next ((((s.sourceWritten b k value.toNat).setMode b k (bits value.toNat 2 0)).reflex b false).drivePins b) :=
  congrArg Host.Outcome.next (if_pos (takesPin h hk))

theorem exec_pinModeWrite_kept {value : BitVec 32} (h : s.bayTakes b = true) (hk : k < 10) :
    ∃ t, exec (.pinModeWrite b k value) s = .next t ∧ (s.modeWritten b k value.toNat).pinsKept b t := by
  have hb := State.bayTakes_lt h
  exact ⟨_, exec_pinModeWrite h hk, (State.modeWritten_pinsKept hb).trans (State.logs.refl.reflex.drivePins.pinsKept hb)⟩

/-- PIN_THR takes a word. -/
def State.thrWritten (s : State) (b k v : Nat) : State :=
  ((s.wr (pinA b k) R.PIN_THR.HYST (bits v 29 28)).wr (pinA b k) R.PIN_THR.VH (bits v 25 16)).wr (pinA b k) R.PIN_THR.VL (bits v 9 0)

theorem State.thrWritten_bayOnly (hk : k < 10) : s.bayOnly (s.thrWritten b k v) b :=
  ((State.bayOnly.pinWr ⟨hk, by decide⟩).trans (.pinWr ⟨hk, by decide⟩)).trans (.pinWr ⟨hk, by decide⟩)

theorem State.thrWritten_rd : (s.thrWritten b k v).rd (pinA b k) R.PIN_THR.HYST = bits v 29 28 ∧
    (s.thrWritten b k v).rd (pinA b k) R.PIN_THR.VH = bits v 25 16 ∧ (s.thrWritten b k v).rd (pinA b k) R.PIN_THR.VL = bits v 9 0 := by
  unfold State.thrWritten
  refine ⟨?_, ?_, (State.rd_wr_same ..).trans bits_mod_width⟩
  · rw [State.rd_wr_ne _ _ (key_ne _ (by decide)), State.rd_wr_ne _ _ (key_ne _ (by decide)), State.rd_wr_same]
    exact bits_mod_width
  · rw [State.rd_wr_ne _ _ (key_ne _ (by decide)), State.rd_wr_same]
    exact bits_mod_width

/-- The time of a change of thresholds is noted, and a wrong order is alerted, outside the pin's registers. -/
theorem exec_pinThrWrite_kept {value : BitVec 32} (h : s.bayTakes b = true) (hk : k < 10) :
    ∃ t, exec (.pinThrWrite b k value) s = .next t ∧ (s.thrWritten b k value.toNat).pinsKept b t := by
  have hb := State.bayTakes_lt h
  refine ⟨_, congrArg Host.Outcome.next (if_pos (takesPin h hk)), ?_⟩
  extract_lets v changed u₁ u₂ p noted
  have hnoted : u₂.pinsKept b noted := by
    unfold noted
    split
    · exact State.pinsKept.refl.setPin
    · exact .refl
  clear_value noted
  split
  · exact hnoted.trans (State.logs.refl.alert.pinsKept hb)
  · exact hnoted

/-- PIN_STK takes a word. -/
def State.stkWritten (s : State) (b k v : Nat) : State :=
  ((s.wr (pinA b k) R.PIN_STK.UNIT (bits v 18 18)).wr (pinA b k) R.PIN_STK.ZONE (bits v 17 16)).wr (pinA b k) R.PIN_STK.TO (bits v 15 0)

theorem State.stkWritten_bayOnly (hk : k < 10) : s.bayOnly (s.stkWritten b k v) b :=
  ((State.bayOnly.pinWr ⟨hk, by decide⟩).trans (.pinWr ⟨hk, by decide⟩)).trans (.pinWr ⟨hk, by decide⟩)

theorem State.stkWritten_rd : (s.stkWritten b k v).rd (pinA b k) R.PIN_STK.UNIT = bits v 18 18 ∧
    (s.stkWritten b k v).rd (pinA b k) R.PIN_STK.ZONE = bits v 17 16 ∧ (s.stkWritten b k v).rd (pinA b k) R.PIN_STK.TO = bits v 15 0 := by
  unfold State.stkWritten
  refine ⟨?_, ?_, (State.rd_wr_same ..).trans bits_mod_width⟩
  · rw [State.rd_wr_ne _ _ (key_ne _ (by decide)), State.rd_wr_ne _ _ (key_ne _ (by decide)), State.rd_wr_same]
    exact bits_mod_width
  · rw [State.rd_wr_ne _ _ (key_ne _ (by decide)), State.rd_wr_same]
    exact bits_mod_width

theorem exec_pinStkWrite {value : BitVec 32} (h : s.bayTakes b = true) (hk : k < 10) :
    exec (.pinStkWrite b k value) s = .next ((s.stkWritten b k value.toNat).stuckRestart b k) :=
  congrArg Host.Outcome.next (if_pos (takesPin h hk))

theorem State.inStuckZone_congr (h : t.flds = s.flds) : t.inStuckZone b k = s.inStuckZone b k := by
  unfold State.inStuckZone State.zone State.zoneHi State.zoneLo State.rd
  rw [h]

theorem State.stuckRestart_pin : (s.stuckRestart b k).pin b k = { s.pin b k with stuckOn := s.inStuckZone b k, stuckAt := s.nowQ (b / 32) } :=
  State.pin_setPin_same

theorem State.stkWritten_restarts : ((s.stkWritten b k v).stuckRestart b k).pin b k =
    { s.pin b k with stuckOn := ((s.stkWritten b k v).stuckRestart b k).inStuckZone b k, stuckAt := s.nowQ (b / 32) } := by
  rw [State.stuckRestart_pin, State.inStuckZone_congr (s := s.stkWritten b k v) (t := (s.stkWritten b k v).stuckRestart b k) rfl]
  rfl

/-- PIN_NEXT takes a pattern and is armed. -/
def State.nextArmed (s : State) (b v : Nat) : State :=
  ((s.wr (bayA b) R.PIN_NEXT.OE (bits v 25 16)).wr (bayA b) R.PIN_NEXT.VAL (bits v 9 0)).wr (bayA b) R.PIN_NEXT.ARMED 1

theorem exec_pinNextWrite {value : BitVec 32} (h : s.bayTakes b = true) :
    exec (.pinNextWrite b value) s = .next (s.nextArmed b value.toNat) := congrArg Host.Outcome.next (if_pos h)

theorem State.nextArmed_bayOnly : s.bayOnly (s.nextArmed b v) b :=
  ((State.bayOnly.wr (by decide)).trans (.wr (by decide))).trans (.wr (by decide))

theorem State.nextArmed_rd : (s.nextArmed b v).rd (bayA b) R.PIN_NEXT.OE = bits v 25 16 ∧
    (s.nextArmed b v).rd (bayA b) R.PIN_NEXT.VAL = bits v 9 0 ∧ (s.nextArmed b v).rd (bayA b) R.PIN_NEXT.ARMED = 1 := by
  unfold State.nextArmed
  refine ⟨?_, ?_, State.rd_wr_same ..⟩
  · rw [State.rd_wr_ne _ _ (key_ne _ (by decide)), State.rd_wr_ne _ _ (key_ne _ (by decide)), State.rd_wr_same]
    exact bits_mod_width
  · rw [State.rd_wr_ne _ _ (key_ne _ (by decide)), State.rd_wr_same]
    exact bits_mod_width

/-! ## STUCK_REARM and STUCK_TIMEOUT (R148) -/

/-- One pin is unmasked and its timer starts afresh. -/
def State.rearm (s : State) (b k : Nat) : State := (s.setPin b k { s.pin b k with stuckMask := false }).stuckRestart b k

/-- The first `n` pins are rearmed as a mask says. -/
def State.rearms (s : State) (b mask n : Nat) : State := (List.range n).foldl (fun s k => if mask.testBit k then s.rearm b k else s) s

theorem exec_stuckRearm {mask : Nat} (h : s.bayTakes b = true) : exec (.stuckRearm b mask) s = .next (s.rearms b mask 10) :=
  congrArg Host.Outcome.next (if_pos h)

theorem State.rearms_succ {mask n : Nat} : s.rearms b mask (n + 1) =
    if mask.testBit n then (s.rearms b mask n).rearm b n else s.rearms b mask n := by
  unfold State.rearms
  rw [List.range_succ, List.foldl_append]
  rfl

theorem State.pin_rearm : (s.rearm b k).pin b j =
    if j = k then { s.pin b k with stuckMask := false, stuckOn := s.inStuckZone b k, stuckAt := s.nowQ (b / 32) } else s.pin b j := by
  have hzone : (s.setPin b k { s.pin b k with stuckMask := false }).inStuckZone b k = s.inStuckZone b k := State.inStuckZone_congr rfl
  unfold State.rearm State.stuckRestart
  rw [State.pin_setPin, State.pin_setPin_same, hzone, State.pin_setPin]
  by_cases hj : j = k
  · rw [if_pos hj, if_pos hj]
    rfl
  · rw [if_neg hj, if_neg hj, if_neg hj]

theorem State.bays_rearm : s.rearm b k = { s with bays := (s.rearm b k).bays } := rfl

/-- Rearming changes the pins of the mask, one after another, and nothing else. -/
theorem State.rearms_eq {mask n : Nat} : s.rearms b mask n = { s with bays := (s.rearms b mask n).bays } ∧
    (∀ j, j ≠ b → (s.rearms b mask n).bay j = s.bay j) ∧
    ∀ j, (s.rearms b mask n).pin b j = if j < n ∧ mask.testBit j = true then
      { s.pin b j with stuckMask := false, stuckOn := s.inStuckZone b j, stuckAt := s.nowQ (b / 32) } else s.pin b j := by
  induction n with
  | zero => exact ⟨rfl, fun _ _ => rfl, fun j => (if_neg fun h => Nat.not_lt_zero _ h.left).symm⟩
  | succ n ih =>
    obtain ⟨hrest, hbay, hpin⟩ := ih
    rw [State.rearms_succ]
    generalize s.rearms b mask n = u at hrest hbay hpin
    by_cases hn : mask.testBit n = true
    · rw [if_pos hn]
      refine ⟨?_, fun j hj => Eq.trans ?_ (hbay j hj), fun j => ?_⟩
      · rw [State.bays_rearm, hrest]
      · exact (State.bay_setBay_ne _ _ hj).trans (State.bay_setBay_ne _ _ hj)
      · have hsame : u.inStuckZone b n = s.inStuckZone b n ∧ u.nowQ (b / 32) = s.nowQ (b / 32) := by
          rw [hrest]
          exact ⟨State.inStuckZone_congr rfl, rfl⟩
        obtain ⟨hzone, hnow⟩ := hsame
        rw [State.pin_rearm, hzone, hnow, hpin, hpin]
        by_cases hj : j = n
        · rw [if_pos hj, hj, if_neg (by omega), if_pos ⟨by omega, hn⟩]
        · rw [if_neg hj]
          exact if_congr (and_congr_left' (by omega)) rfl rfl
    · rw [if_neg hn]
      refine ⟨hrest, hbay, fun j => (hpin j).trans (if_congr ?_ rfl rfl)⟩
      constructor
      · exact fun ⟨hj, hset⟩ => ⟨by omega, hset⟩
      · rintro ⟨hj, hset⟩
        have hne : j ≠ n := by
          rintro rfl
          exact hn hset
        exact ⟨by omega, hset⟩

/-- A pin is found stuck: it is masked and its bit of PIN_STUCK set. -/
def State.foundStuck (s : State) (b k : Nat) : State :=
  (s.setPin b k { s.pin b k with stuckMask := true }).wr (bayA b) R.PIN_STUCK.STUCK (s.rd (bayA b) R.PIN_STUCK.STUCK ||| 2 ^ k)

theorem State.capturing_ok (h : s.capturing b = true) : s.bayOk b = true := by
  unfold State.capturing at h
  simp only [Bool.and_eq_true] at h
  obtain ⟨⟨hok, -⟩, -⟩ := h
  exact hok

theorem exec_stuckTimeout (hcap : s.capturing b = true) (hk : k < 10) (hon : (s.pin b k).stuckOn = true) (hmask : (s.pin b k).stuckMask = false)
    (hto : s.rd (pinA b k) R.PIN_STK.TO ≠ 0) : exec (.stuckTimeout b k) s =
      .next (((s.foundStuck b k).pinRecord b k 3 0 ((s.foundStuck b k).nowQ (b / 32)) false).alert b 0) := by
  refine congrArg Host.Outcome.next (if_pos ?_)
  rw [hcap, decide_eq_true hk, hon, hmask, decide_eq_true hto]
  rfl

theorem State.foundStuck_stuck (hk : k < 10) : ((s.foundStuck b k).rd (bayA b) R.PIN_STUCK.STUCK).testBit k = true := by
  unfold State.foundStuck
  rw [State.rd_wr_same, Nat.testBit_mod_two_pow, Nat.testBit_or, Nat.testBit_two_pow_self, Bool.or_true, Bool.and_true]
  exact decide_eq_true hk

theorem State.foundStuck_masked : ((s.foundStuck b k).pin b k).stuckMask = true :=
  congrArg PinSt.stuckMask (State.pin_setPin_same (s := s) (p := { s.pin b k with stuckMask := true }))

theorem State.foundStuck_bayOnly : s.bayOnly (s.foundStuck b k) b := State.bayOnly.modBay.trans (.wr (by decide))

end
end Sys2Proof.Machine

namespace Sys2Proof
open Machine

/-- Settles O19: each write names its fields in one state, which the rest of the command leaves to the pin's registers; rearming goes pin by pin. -/
theorem pinSettingsAndStuckTimers : Obligations.PinSettingsAndStuckTimers := by
  unfold Obligations.PinSettingsAndStuckTimers
  intro s b k value htakes hk
  have hb := State.bayTakes_lt htakes
  refine ⟨?_, ?_, ?_, ?_, fun mask => ?_, fun hcap hon hmask hto => ?_⟩
  · obtain ⟨t, hexec, hkept⟩ := exec_pinModeWrite_kept (value := value) htakes hk
    obtain ⟨hrfx, hdsrc, hmode⟩ := State.modeWritten_rd (s := s) (b := b) (k := k) (v := value.toNat)
    exact ⟨t, hexec, (State.modeWritten_bayOnly hk).trans hkept.only, (hkept.regs _ _ ⟨hk, by decide⟩).trans hrfx,
      (hkept.regs _ _ ⟨hk, by decide⟩).trans hdsrc, (hkept.regs _ _ ⟨hk, by decide⟩).trans hmode⟩
  · obtain ⟨t, hexec, hkept⟩ := exec_pinThrWrite_kept (value := value) htakes hk
    obtain ⟨hhyst, hvh, hvl⟩ := State.thrWritten_rd (s := s) (b := b) (k := k) (v := value.toNat)
    exact ⟨t, hexec, (State.thrWritten_bayOnly hk).trans hkept.only, (hkept.regs _ _ ⟨hk, by decide⟩).trans hhyst,
      (hkept.regs _ _ ⟨hk, by decide⟩).trans hvh, (hkept.regs _ _ ⟨hk, by decide⟩).trans hvl⟩
  · obtain ⟨hunit, hzone, hto⟩ := State.stkWritten_rd (s := s) (b := b) (k := k) (v := value.toNat)
    exact ⟨_, exec_pinStkWrite htakes hk, (State.stkWritten_bayOnly hk).trans .setPin, hunit, hzone, hto, State.stkWritten_restarts⟩
  · obtain ⟨-, -, hregs⟩ := State.nextArmed_bayOnly (s := s) (b := b) (v := value.toNat)
    exact ⟨_, exec_pinNextWrite htakes, rfl, hregs, State.nextArmed_rd⟩
  · obtain ⟨hrest, hbay, hpin⟩ := State.rearms_eq (s := s) (b := b) (mask := mask) (n := 10)
    exact ⟨_, exec_stuckRearm htakes, hrest, hbay, fun j hj => (hpin j).trans (if_congr (and_iff_right hj) rfl rfl)⟩
  · have hlogs := (State.logs.refl (s := s.foundStuck b k) (b := b)).pinRecord (k := k) (kind := 3) (edge := 0)
      (stamp := (s.foundStuck b k).nowQ (b / 32)) (settle := false)
    have hmasked := congrArg PinSt.stuckMask (hlogs.alert (i := 0).senses k)
    refine ⟨_, exec_stuckTimeout hcap hk hon hmask hto, State.foundStuck_bayOnly.trans hlogs.alert.only,
      hmasked.trans State.foundStuck_masked, ?_, ?_⟩
    · exact (congrArg (Nat.testBit · k) (hlogs.alert.bayRd hb (by decide))).trans (State.foundStuck_stuck hk)
    · rw [State.alert_testBit (by decide), decide_eq_true rfl, Bool.or_true]
end Sys2Proof

/-! ## Comparator outputs (R139 to R144) -/

namespace Sys2Proof.Machine
open Sys2Proof

/-- One of the two raw outputs of a pin's comparators, HI or LO. -/
def PinSt.raw (p : PinSt) (hi : Bool) : Bool := if hi then p.rawHi else p.rawLo

/-- The change of an output that waits for the filter. -/
def PinSt.pend (p : PinSt) (hi : Bool) : Option Cross := if hi then p.pendHi else p.pendLo

/-- The dead time of an output. -/
def PinSt.dead (p : PinSt) (hi : Bool) : Option Bool := if hi then p.deadHi else p.deadLo

def PinSt.withRaw (p : PinSt) (hi val : Bool) : PinSt := if hi then { p with rawHi := val } else { p with rawLo := val }

def PinSt.withPend (p : PinSt) (hi : Bool) (c : Option Cross) : PinSt := if hi then { p with pendHi := c } else { p with pendLo := c }

def PinSt.withDead (p : PinSt) (hi : Bool) (v : Option Bool) : PinSt := if hi then { p with deadHi := v } else { p with deadLo := v }

/-- A filtered output of a pin. -/
def State.output (s : State) (b k : Nat) (hi : Bool) : Bool := if hi then s.zoneHi b k else s.zoneLo b k

section
variable {p : PinSt} {hi val : Bool} {c : Option Cross} {v : Option Bool}

@[simp] theorem PinSt.raw_withRaw : (p.withRaw hi val).raw hi = val := by
  cases hi with
  | true => rfl
  | false => rfl

@[simp] theorem PinSt.pend_withPend : (p.withPend hi c).pend hi = c := by
  cases hi with
  | true => rfl
  | false => rfl

@[simp] theorem PinSt.dead_withDead : (p.withDead hi v).dead hi = v := by
  cases hi with
  | true => rfl
  | false => rfl

@[simp] theorem PinSt.raw_withPend : (p.withPend hi c).raw hi = p.raw hi := by
  cases hi with
  | true => rfl
  | false => rfl

@[simp] theorem PinSt.dead_withPend : (p.withPend hi c).dead hi = p.dead hi := by
  cases hi with
  | true => rfl
  | false => rfl

@[simp] theorem PinSt.pend_withDead : (p.withDead hi v).pend hi = p.pend hi := by
  cases hi with
  | true => rfl
  | false => rfl
end

section
variable {s t : State} {b k n : Nat} {f : Fld} {hi val : Bool} {c : Cross}

theorem State.bump_rd {a : Nat} : (s.bump a f n).rd a f = min (s.rd a f + n) (2 ^ f.width - 1) := by
  have hpos := Nat.two_pow_pos f.width
  refine (State.rd_wr_same ..).trans (Nat.mod_eq_of_lt ?_)
  generalize 2 ^ f.width = w at *
  omega

theorem State.logs.output (hb : b < 128) (h : s.logs b t) : t.output b k hi = s.output b k hi := by
  unfold State.output
  rw [h.zoneHi hb, h.zoneLo hb]

theorem State.logs.pend (h : s.logs b t) : (t.pin b k).pend hi = (s.pin b k).pend hi := by
  change (t.pin b k).senses.pend hi = (s.pin b k).senses.pend hi
  rw [h.senses]

theorem State.logs.dead (h : s.logs b t) : (t.pin b k).dead hi = (s.pin b k).dead hi := by
  change (t.pin b k).senses.dead hi = (s.pin b k).senses.dead hi
  rw [h.senses]

theorem State.setZone_output (hk : k < 10) : (s.setZone b k hi val).output b k hi = val := by
  cases hi with
  | true => exact (State.setZone_zoneHi hk).trans (if_pos ⟨rfl, rfl⟩)
  | false => exact (State.setZone_zoneLo hk).trans (if_pos ⟨rfl, rfl⟩)

theorem State.setZone_pin {j : Nat} : (s.setZone b k hi val).pin b j = s.pin b j := by
  cases hi with
  | true => rfl
  | false => rfl

theorem State.compOn_of (h : s.compOn b k = true) : s.capturing b = true ∧ k < 10 := by
  unfold State.compOn at h
  simp only [Bool.and_eq_true, decide_eq_true_eq] at h
  obtain ⟨⟨⟨hcap, -⟩, hk⟩, -⟩ := h
  exact ⟨hcap, hk⟩

/-! ## An accepted change (R141, R144) -/

/-- The output takes its value: inside a dead time the edge is counted, outside one it begins one. What follows is recorded. -/
def State.accepted (s : State) (b k : Nat) (hi : Bool) (c : Cross) : State :=
  let s := s.setZone b k hi c.val
  let p := (s.pin b k).withPend hi none
  if (p.dead hi).isSome then (s.setPin b k { p with supp := p.supp + 1 }).bump (pinA b k) R.PIN_CNT.OVR 1
  else s.setPin b k (p.withDead hi (some c.val))

theorem State.accept_logs : (s.accepted b k hi c).logs b (s.accept b k hi c) := by
  unfold State.accept State.accepted
  extract_lets u p q p' begun noted
  have hp : p' = p := by
    cases hi with
    | true => rfl
    | false => rfl
  have hbegun : begun = u.setPin b k (p.withDead hi (some c.val)) := congrArg (fun x : PinSt => u.setPin b k (x.withDead hi (some c.val))) hp
  refine .reflex (.stuckFollow ?_)
  unfold noted
  rw [hbegun, hp]
  change State.logs b (if (p.dead hi).isSome then _ else _) (if (p.dead hi).isSome then _ else _)
  split
  · exact State.logs.refl.alert
  · split
    · exact State.logs.refl.pinRecord
    · exact .refl

theorem State.accepted_bayOnly (hk : k < 10) : s.bayOnly (s.accepted b k hi c) b := by
  unfold State.accepted
  extract_lets u p
  have hu : s.bayOnly u b := .setZone
  split
  · exact (hu.trans .setPin).trans (.pinWr ⟨hk, by decide⟩)
  · exact hu.trans .setPin

theorem State.accepted_output (hk : k < 10) : (s.accepted b k hi c).output b k hi = c.val := by
  have hout : (s.setZone b k hi c.val).output b k hi = c.val := State.setZone_output hk
  unfold State.accepted
  extract_lets u p
  have hbump : ∀ w : State, (w.bump (pinA b k) R.PIN_CNT.OVR 1).output b k hi = w.output b k hi := fun w => by
    unfold State.output State.zoneHi State.zoneLo State.bump
    rw [State.rd_wr_ne _ _ (bayA_ne_pinA (by decide) (by decide)), State.rd_wr_ne _ _ (bayA_ne_pinA (by decide) (by decide))]
  split
  · exact (hbump _).trans hout
  · exact hout

/-- What the accepted change leaves of its pin. -/
theorem State.accepted_pin : ((s.accepted b k hi c).pin b k).pend hi = none ∧
    ((s.pin b k).dead hi = none → ((s.accepted b k hi c).pin b k).dead hi = some c.val) := by
  have hpin : (s.setZone b k hi c.val).pin b k = s.pin b k := State.setZone_pin
  unfold State.accepted
  extract_lets u p
  have hdead : p.dead hi = (s.pin b k).dead hi := PinSt.dead_withPend.trans (congrArg (PinSt.dead · hi) hpin)
  have hpend : p.pend hi = none := PinSt.pend_withPend
  rw [← hdead]
  clear_value p
  split
  case isTrue hsome =>
    refine ⟨?_, fun hnone => ?_⟩
    · exact (congrArg (PinSt.pend · hi) (State.pin_setPin_same (s := u) (p := { p with supp := p.supp + 1 }))).trans hpend
    · rw [hnone] at hsome
      cases hsome
  case isFalse =>
    rw [State.pin_setPin_same]
    exact ⟨PinSt.pend_withDead.trans hpend, fun _ => PinSt.dead_withDead⟩

theorem State.accepted_ovr (h : (s.pin b k).dead hi ≠ none) : (s.accepted b k hi c).rd (pinA b k) R.PIN_CNT.OVR =
    min (s.rd (pinA b k) R.PIN_CNT.OVR + 1) (2 ^ R.PIN_CNT.OVR.width - 1) := by
  have hpin : (s.setZone b k hi c.val).pin b k = s.pin b k := State.setZone_pin
  have hovr : (s.setZone b k hi c.val).rd (pinA b k) R.PIN_CNT.OVR = s.rd (pinA b k) R.PIN_CNT.OVR := by
    cases hi with
    | true => exact State.rd_wr_ne _ _ (bayA_ne_pinA (by decide) (by decide)).symm
    | false => exact State.rd_wr_ne _ _ (bayA_ne_pinA (by decide) (by decide)).symm
  unfold State.accepted
  extract_lets u p
  have hdead : p.dead hi = (s.pin b k).dead hi := PinSt.dead_withPend.trans (congrArg (PinSt.dead · hi) hpin)
  rw [hdead, if_pos (Option.isSome_iff_ne_none.mpr h), State.bump_rd, ← hovr]
  rfl

/-- DEGLITCH_ACCEPT of a waiting change, and what it makes of the pin. -/
theorem exec_deglitchAccept (hon : s.compOn b k = true) (hc : (s.pin b k).pend hi = some c) :
    exec (.deglitchAccept b k hi) s = .next (s.accept b k hi c) := by
  refine congrArg Host.Outcome.next ((if_pos hon).trans ?_)
  unfold PinSt.pend at hc
  rw [hc]

theorem State.accept_bayOnly (hk : k < 10) : s.bayOnly (s.accept b k hi c) b := (State.accepted_bayOnly hk).trans State.accept_logs.only

theorem State.accept_eq (hb : b < 128) (hk : k < 10) : (s.accept b k hi c).output b k hi = c.val ∧
    ((s.accept b k hi c).pin b k).pend hi = none ∧
    ((s.pin b k).dead hi = none → ((s.accept b k hi c).pin b k).dead hi = some c.val) ∧
    ((s.pin b k).dead hi ≠ none → (s.accept b k hi c).rd (pinA b k) R.PIN_CNT.OVR =
      min (s.rd (pinA b k) R.PIN_CNT.OVR + 1) (2 ^ R.PIN_CNT.OVR.width - 1)) := by
  have hlogs := State.accept_logs (s := s) (b := b) (k := k) (hi := hi) (c := c)
  obtain ⟨hpend, hdead⟩ := State.accepted_pin (s := s) (b := b) (k := k) (hi := hi) (c := c)
  exact ⟨(hlogs.output hb).trans (State.accepted_output hk), hlogs.pend.trans hpend, fun h => hlogs.dead.trans (hdead h),
    fun h => (hlogs.pinRd hb ⟨hk, by decide⟩).trans (State.accepted_ovr h)⟩

/-! ## A crossing (R140, R141) -/

/-- The pin after its raw output has taken a value, with `c` as what waits for the filter. -/
def PinSt.crossed (p : PinSt) (hi val : Bool) (c : Option Cross) : PinSt := (p.withRaw hi val).withPend hi c

theorem PinSt.crossed_raw {p : PinSt} {c : Option Cross} : (p.crossed hi val c).raw hi = val := PinSt.raw_withPend.trans PinSt.raw_withRaw

/-- A pulse has been removed. -/
def State.removed (s : State) (b k : Nat) (hi val : Bool) : State :=
  let p := (s.pin b k).crossed hi val none
  (s.setPin b k { p with glitch := p.glitch + 1 }).bump (pinA b k) R.PIN_CNT.GLITCH 1

/-- What a crossing does with the change that waits before it, when its own is `c`. -/
def State.crosses (s : State) (b k : Nat) (hi val : Bool) (c : Cross) : Option Cross → State
  | none => s.setPin b k ((s.pin b k).crossed hi val (some c))
  | some old =>
    if old.dgl = 0 then (s.accept b k hi old).setPin b k (((s.accept b k hi old).pin b k).crossed hi val (some c)) else s.removed b k hi val

theorem State.crosses_some {old : Cross} : s.crosses b k hi val c (some old) = if old.dgl = 0 then
    (s.accept b k hi old).setPin b k (((s.accept b k hi old).pin b k).crossed hi val (some c)) else s.removed b k hi val := rfl

/-- The change that a crossing brings: its value, its instant, and the filter and the edges in force. -/
def State.crossing (s : State) (b k : Nat) (val : Bool) (frac : Nat) : Cross where
  val := val
  stamp := stampOf (s.nowQ (b / 32)) + ((frac % 256 : Nat) : Int) * 256
  settle := match (s.pin b k).thrAt with
    | some c => decide (s.counter < c + 50)
    | none => false
  dgl := s.rd (pinA b k) R.PIN_FILT.DGL
  en := s.rd (pinA b k) R.PIN_FILT.EDGE_EN

theorem exec_thresholdCrossing {frac : Nat} (hon : s.compOn b k = true) (hraw : (s.pin b k).raw hi ≠ val) :
    exec (.thresholdCrossing b k hi val frac) s = .next (s.crosses b k hi val (s.crossing b k val frac) ((s.pin b k).pend hi)) := by
  have hcross : (s.compOn b k && ((if hi then (s.pin b k).rawHi else (s.pin b k).rawLo) != val)) = true := by
    rw [hon, Bool.true_and, bne_iff_ne]
    exact hraw
  refine congrArg Host.Outcome.next ((if_pos hcross).trans ?_)
  cases hold : (s.pin b k).pend hi with
  | none =>
    unfold PinSt.pend at hold
    rw [hold]
    rfl
  | some old =>
    unfold PinSt.pend at hold
    rw [hold]
    rfl

theorem State.crosses_bayOnly {old : Option Cross} (hk : k < 10) : s.bayOnly (s.crosses b k hi val c old) b := by
  cases old with
  | none => exact .setPin
  | some old =>
    rw [State.crosses_some]
    split
    · exact (State.accept_bayOnly hk).trans .setPin
    · exact State.bayOnly.setPin.trans (.pinWr ⟨hk, by decide⟩)

theorem State.removed_pin : ((s.removed b k hi val).pin b k).raw hi = val ∧ ((s.removed b k hi val).pin b k).pend hi = none := by
  have hpin : (s.removed b k hi val).pin b k =
      { (s.pin b k).crossed hi val none with glitch := ((s.pin b k).crossed hi val none).glitch + 1 } := State.pin_setPin_same (s := s)
  rw [hpin]
  exact ⟨PinSt.crossed_raw, PinSt.pend_withPend⟩

theorem State.crosses_raw {old : Option Cross} : ((s.crosses b k hi val c old).pin b k).raw hi = val := by
  cases old with
  | none => exact (congrArg (PinSt.raw · hi) State.pin_setPin_same).trans PinSt.crossed_raw
  | some old =>
    rw [State.crosses_some]
    split
    · exact (congrArg (PinSt.raw · hi) State.pin_setPin_same).trans PinSt.crossed_raw
    · obtain ⟨hraw, -⟩ := State.removed_pin (s := s) (b := b) (k := k) (hi := hi) (val := val)
      exact hraw

theorem State.removed_rd : (s.removed b k hi val).rd (pinA b k) R.PIN_CNT.GLITCH =
      min (s.rd (pinA b k) R.PIN_CNT.GLITCH + 1) (2 ^ R.PIN_CNT.GLITCH.width - 1) ∧
    (s.removed b k hi val).rd (bayA b) R.PIN_ZONE.HI = s.rd (bayA b) R.PIN_ZONE.HI ∧
    (s.removed b k hi val).rd (bayA b) R.PIN_ZONE.LO = s.rd (bayA b) R.PIN_ZONE.LO :=
  ⟨State.bump_rd, State.rd_wr_ne _ _ (bayA_ne_pinA (by decide) (by decide)), State.rd_wr_ne _ _ (bayA_ne_pinA (by decide) (by decide))⟩

/-! ## The end of a dead time (R144) -/

theorem State.stageRecord_seq {r : CapRecord} : ((s.stageRecord b r).bay b).seq = (s.bay b).seq := by
  unfold State.stageRecord
  split
  · rfl
  · split
    · rw [State.alert_bay, State.modBay_same]
      rfl
    · rw [State.modBay_same]

/-- A record takes one sequence number, in an overlap interval too (R145, R158). -/
theorem State.record_seq {kind pin edge zone ovr glitch : Nat} {stamp : Int} {settle once : Bool} :
    ((s.record b kind pin edge zone stamp settle ovr glitch once).bay b).seq = ((s.bay b).seq + 1) % 65536 := by
  unfold State.record
  extract_lets fr seq u frames
  have hu : (u.bay b).seq = ((s.bay b).seq + 1) % 65536 := congrArg BaySt.seq State.modBay_same
  clear_value u
  exact List.foldlRecOn (motive := fun w : State => (w.bay b).seq = ((s.bay b).seq + 1) % 65536) _ _ hu
    fun w hw _ _ => State.stageRecord_seq.trans hw

theorem State.setPin_seq {p : PinSt} : ((s.setPin b k p).bay b).seq = (s.bay b).seq := (congrArg BaySt.seq State.modBay_same).trans rfl

theorem State.pinRecord_seq {kind edge : Nat} {stamp : Int} {settle : Bool} :
    ((s.pinRecord b k kind edge stamp settle).bay b).seq = ((s.bay b).seq + 1) % 65536 := State.setPin_seq.trans State.record_seq

/-- The dead time of an output has ended. -/
def State.deadEnded (s : State) (b k : Nat) (hi : Bool) : State := s.setPin b k ((s.pin b k).withDead hi none)

theorem exec_deadTimeEnd {v : Bool} (hon : s.compOn b k = true) (hv : (s.pin b k).dead hi = some v) : exec (.deadTimeEnd b k hi) s = .next
    (if s.output b k hi = v then s.deadEnded b k hi else (s.deadEnded b k hi).pinRecord b k 1 0 ((s.deadEnded b k hi).nowQ (b / 32)) false) := by
  refine congrArg Host.Outcome.next ((if_pos hon).trans ?_)
  unfold PinSt.dead at hv
  rw [hv]
  rfl

theorem State.deadEnded_dead : ((s.deadEnded b k hi).pin b k).dead hi = none :=
  (congrArg (PinSt.dead · hi) State.pin_setPin_same).trans PinSt.dead_withDead

end
end Sys2Proof.Machine

namespace Sys2Proof
open Machine

/-- Settles O20. A crossing does one of three things with the change that waits before it; an accepted change sets its output and its pin in one state,
from which on only records, alerts and rules follow. -/
theorem comparatorsAndDeglitching : Obligations.ComparatorsAndDeglitching := by
  unfold Obligations.ComparatorsAndDeglitching
  intro s b k hi val frac hon
  obtain ⟨hcap, hk⟩ := State.compOn_of hon
  have hb := State.bayOk_lt (State.capturing_ok hcap)
  refine ⟨fun hraw => ?_, fun c hc => ?_, fun v hv => ?_⟩
  · refine ⟨_, exec_thresholdCrossing hon hraw, State.crosses_bayOnly hk, State.crosses_raw, fun hnone => ?_, fun old hold hdgl => ?_⟩
    · have hpend : (s.pin b k).pend hi = none := hnone
      rw [hpend]
      exact ⟨rfl, s.crossing b k val frac, (congrArg (PinSt.pend · hi) State.pin_setPin_same).trans PinSt.pend_withPend, rfl, rfl⟩
    · have hpend : (s.pin b k).pend hi = some old := hold
      have hremoved : s.crosses b k hi val (s.crossing b k val frac) (some old) = s.removed b k hi val := if_neg hdgl
      obtain ⟨-, hgone⟩ := State.removed_pin (s := s) (b := b) (k := k) (hi := hi) (val := val)
      rw [hpend, hremoved]
      exact ⟨hgone, State.removed_rd⟩
  · exact ⟨_, exec_deglitchAccept hon hc, State.accept_bayOnly hk, State.accept_eq hb hk⟩
  · refine ⟨_, exec_deadTimeEnd hon hv, ?_⟩
    have hlogs := (State.logs.refl (s := s.deadEnded b k hi) (b := b)).pinRecord (k := k) (kind := 1) (edge := 0)
      (stamp := (s.deadEnded b k hi).nowQ (b / 32)) (settle := false)
    have hended : s.bayOnly (s.deadEnded b k hi) b := .setPin
    have hseq : ((s.deadEnded b k hi).bay b).seq = (s.bay b).seq := State.setPin_seq
    by_cases hout : s.output b k hi = v
    · rw [if_pos hout]
      exact ⟨hended, State.deadEnded_dead, fun _ => ⟨rfl, hseq⟩, fun hne => absurd hout hne⟩
    · rw [if_neg hout]
      refine ⟨hended.trans hlogs.only, hlogs.dead.trans State.deadEnded_dead, fun heq => absurd heq hout, fun _ => ?_⟩
      rw [State.pinRecord_seq, hseq]
end Sys2Proof

/-! ## Whole words of bay SRAM (R133, R163) -/

namespace Sys2Proof.Machine
open Sys2Proof

section
variable {s t : State} {a b w m n be v x : Nat}

/-- What bytes read as depends on memory alone. -/
theorem State.bytes_congr (h : t.mem = s.mem) : t.bytes a n = s.bytes a n := by
  induction n generalizing a with
  | zero => rfl
  | succ n ih =>
    unfold State.bytes
    rw [ih, State.byte_congr h]

theorem State.setBytes_add : s.setBytes a (m + n) v = (s.setBytes a m v).setBytes (a + m) n (v / 256 ^ m) := by
  induction m generalizing s a v with
  | zero => simp [State.setBytes]
  | succ m ih =>
    rw [Nat.add_right_comm m 1 n, Nat.pow_succ', ← Nat.div_div_eq_div_mul, ← Nat.add_assoc, Nat.add_right_comm a m 1]
    exact ih

theorem State.setByte_mem_congr {y : Byte} (h : t.mem = s.mem) : (t.setByte a y).mem = (s.setByte a y).mem := by
  unfold State.setByte
  rw [h]

theorem State.setBytes_mem_congr (h : t.mem = s.mem) : (t.setBytes a n v).mem = (s.setBytes a n v).mem := by
  induction n generalizing s t a v with
  | zero => exact h
  | succ n ih => exact ih (State.setByte_mem_congr h)

theorem State.setBytes_bays : (s.setBytes a n v).bays = s.bays := by
  induction n generalizing s a v with
  | zero => rfl
  | succ n ih => exact ih

/-- A reservation ends without a change to memory, to a register or to a front end. -/
theorem State.breakResv_eq : (s.breakResv b w).mem = s.mem ∧ (s.breakResv b w).flds = s.flds ∧ (s.breakResv b w).bays = s.bays := by
  refine List.foldlRecOn (motive := fun t : State => t.mem = s.mem ∧ t.flds = s.flds ∧ t.bays = s.bays) _ _ ⟨rfl, rfl, rfl⟩ fun t ht c _ => ?_
  dsimp only
  split
  · exact ht
  · exact ht

/-- The state with a whole word stored, and the reservations on it ended. -/
def State.wordPut (s : State) (b w v : Nat) : State := (s.setSramWord b w v).breakResv b w

theorem State.sramPut_open (hopen : (s.bay b).sramOpen = true) (hbe : be % 16 = 15) : s.sramPut b w be v = (false, s.wordPut b w v) := by
  unfold State.sramPut State.wordPut
  rw [hopen, hbe, if_neg (by decide), if_pos rfl]

theorem State.sramPut_closed (hopen : (s.bay b).sramOpen = false) : s.sramPut b w be v = (false, s) := if_pos (.inr hopen)

theorem State.wordPut_eq : (s.wordPut b w v).mem = (s.setBytes (sramA b (4 * w)) 4 v).mem ∧ (s.wordPut b w v).flds = s.flds ∧
    (s.wordPut b w v).bays = s.bays := by
  obtain ⟨hmem, hflds, hbays⟩ := State.breakResv_eq (s := s.setSramWord b w v) (b := b) (w := w)
  exact ⟨hmem, hflds.trans (State.setBytes_flds ..), hbays.trans State.setBytes_bays⟩

theorem State.sramPuts_succ : (s.sramPuts b w (n + 1) be v).2 = ((s.sramPut b w be v).2.sramPuts b (w + 1) n (be / 16) (v / 2 ^ 32)).2 := rfl

theorem State.sramPuts_open (hopen : (s.bay b).sramOpen = true) (hbe : be % 16 = 15) :
    (s.sramPuts b w (n + 1) be v).2 = ((s.wordPut b w v).sramPuts b (w + 1) n (be / 16) (v / 2 ^ 32)).2 := by
  rw [State.sramPuts_succ, State.sramPut_open hopen hbe]

theorem State.sramPuts_closed (hopen : (s.bay b).sramOpen = false) :
    (s.sramPuts b w (n + 1) be v).2 = (s.sramPuts b (w + 1) n (be / 16) (v / 2 ^ 32)).2 := by
  rw [State.sramPuts_succ, State.sramPut_closed hopen]

/-- Every word of a write with all byte enables is written whole. -/
theorem allEnables_succ : (16 ^ (n + 1) - 1) % 16 = 15 ∧ (16 ^ (n + 1) - 1) / 16 = 16 ^ n - 1 := by
  have hpos : 0 < 16 ^ n := Nat.pow_pos (by decide)
  rw [Nat.pow_succ']
  omega

theorem State.bay_congr (h : t.bays = s.bays) : t.bay b = s.bay b := by
  unfold State.bay
  rw [h]

/-- Whole words are stored in open SRAM one after another, and discarded before the release opens it. -/
theorem State.sramPuts_whole : (s.sramPuts b w n (16 ^ n - 1) v).2.flds = s.flds ∧ (s.sramPuts b w n (16 ^ n - 1) v).2.bays = s.bays ∧
    ((s.bay b).sramOpen = true → (s.sramPuts b w n (16 ^ n - 1) v).2.mem = (s.setBytes (sramA b (4 * w)) (4 * n) v).mem) := by
  induction n generalizing s w v with
  | zero => exact ⟨rfl, rfl, fun _ => rfl⟩
  | succ n ih =>
    obtain ⟨hbe, hrest⟩ := allEnables_succ (n := n)
    cases hopen : (s.bay b).sramOpen with
    | false =>
      rw [State.sramPuts_closed hopen, hrest]
      obtain ⟨hflds, hbays, -⟩ := ih (s := s) (w := w + 1) (v := v / 2 ^ 32)
      exact ⟨hflds, hbays, nofun⟩
    | true =>
      obtain ⟨hmem, hflds, hbays⟩ := State.wordPut_eq (s := s) (b := b) (w := w) (v := v)
      rw [State.sramPuts_open hopen hbe, hrest]
      obtain ⟨hflds', hbays', hmem'⟩ := ih (s := s.wordPut b w v) (w := w + 1) (v := v / 2 ^ 32)
      refine ⟨hflds'.trans hflds, hbays'.trans hbays, fun _ => ?_⟩
      have hnext : sramA b (4 * (w + 1)) = sramA b (4 * w) + 4 := by
        unfold sramA
        omega
      rw [hmem' ((congrArg BaySt.sramOpen (State.bay_congr hbays)).trans hopen), hnext, Nat.mul_succ, Nat.add_comm (4 * n), State.setBytes_add]
      exact State.setBytes_mem_congr hmem

/-- A write of whole words at a word's address. -/
theorem State.sramWrite_words {off : Nat} (hoff : off % 4 = 0) :
    (s.sramWrite b off (4 * n) (allBytes (4 * n)) v).2 = (s.sramPuts b (off / 4) n (16 ^ n - 1) (v % 2 ^ (8 * (4 * n)))).2 := by
  have hwords : (off + 4 * n + 3) / 4 - off / 4 = n := by omega
  have hbe : allBytes (4 * n) % 2 ^ (4 * n) * 2 ^ (off % 4) = 16 ^ n - 1 := by
    have hpos : 0 < 2 ^ (4 * n) := Nat.two_pow_pos _
    unfold allBytes
    rw [hoff, Nat.pow_zero, Nat.mul_one, Nat.mod_eq_of_lt (by omega), Nat.pow_mul]
  have hv : v % 2 ^ (8 * (4 * n)) * 2 ^ (8 * (off % 4)) = v % 2 ^ (8 * (4 * n)) := by rw [hoff, Nat.mul_zero, Nat.pow_zero, Nat.mul_one]
  unfold State.sramWrite
  rw [hwords, hbe, hv]

/-- The bytes written, and every other byte of memory, after a write of whole words to open SRAM. -/
theorem State.sramWrite_bytes {off : Nat} (hoff : off % 4 = 0) (hopen : (s.bay b).sramOpen = true) :
    (s.sramWrite b off (4 * n) (allBytes (4 * n)) v).2.bytes (sramA b off) (4 * n) = v % 2 ^ (8 * (4 * n)) ∧
      ∀ x, x < sramA b off ∨ sramA b off + 4 * n ≤ x → (s.sramWrite b off (4 * n) (allBytes (4 * n)) v).2.byte x = s.byte x := by
  obtain ⟨-, -, hmem⟩ := State.sramPuts_whole (s := s) (b := b) (w := off / 4) (n := n) (v := v % 2 ^ (8 * (4 * n)))
  have hplace : 4 * (off / 4) = off := by omega
  rw [State.sramWrite_words hoff]
  rw [hplace] at hmem
  refine ⟨?_, fun x hx => (State.byte_congr (hmem hopen) x).trans (State.byte_setBytes_ne _ _ _ _ hx)⟩
  rw [State.bytes_congr (hmem hopen), State.bytes_setBytes, Nat.pow_mul]
  exact Nat.mod_mod _ _

theorem State.sramWrite_kept {off : Nat} (hoff : off % 4 = 0) : (s.sramWrite b off (4 * n) (allBytes (4 * n)) v).2.bays = s.bays := by
  rw [State.sramWrite_words hoff]
  obtain ⟨-, hbays, -⟩ := State.sramPuts_whole (s := s) (b := b) (w := off / 4) (n := n) (v := v % 2 ^ (8 * (4 * n)))
  exact hbays
end
end Sys2Proof.Machine

/-! ## The rings of records and blocks (R145, R147, R151) -/

namespace Sys2Proof.Machine
open Sys2Proof

/-- An entry finds its ring full: it is counted in `f`, marked in the front end by `g`, and alerted. -/
def State.ringDrop (s : State) (b : Nat) (f : Fld) (g : BaySt → BaySt) (i : Nat) : State := ((s.bump (bayA b) f 1).modBay b g).alert b i

/-- An entry of `n` bytes goes to place `off` of bay SRAM, and the write pointer `f` moves on to `next`. -/
def State.ringPut (s : State) (b off n v : Nat) (f : Fld) (g : BaySt → BaySt) (next : Nat) : State :=
  ((s.sramWrite b off n (allBytes n) v).2.modBay b g).wr (bayA b) f next

section
variable {s : State} {b off n v next i : Nat} {f : Fld} {g : BaySt → BaySt}

theorem State.ringDrop_bayOnly (hf : f.off < 0x100 ∧ f.lo < 32) : s.bayOnly (s.ringDrop b f g i) b :=
  ((State.bayOnly.wr hf).trans .modBay).trans .alert

theorem State.ringDrop_bay : (s.ringDrop b f g i).bay b = g (s.bay b) := State.alert_bay.trans State.modBay_same

theorem State.ringDrop_count (hf : f.off < 0x100 ∧ f.lo < 32) (hne : key 0 f ≠ key 0 R.ALERT_STAT.ALERT) :
    (s.ringDrop b f g i).rd (bayA b) f = min (s.rd (bayA b) f + 1) (2 ^ f.width - 1) := (State.alert_rd hf hne).trans State.bump_rd

theorem State.ringPut_bay (hoff : off % 4 = 0) : (s.ringPut b off (4 * n) v f g next).bay b = g (s.bay b) :=
  State.modBay_same.trans (congrArg g (State.bay_congr (State.sramWrite_kept hoff)))

theorem State.ringPut_next : (s.ringPut b off n v f g next).rd (bayA b) f = next % 2 ^ f.width := State.rd_wr_same ..

theorem State.ringPut_bytes (hoff : off % 4 = 0) (hopen : (s.bay b).sramOpen = true) :
    (s.ringPut b off (4 * n) v f g next).bytes (sramA b off) (4 * n) = v % 2 ^ (8 * (4 * n)) ∧
      ∀ x, x < sramA b off ∨ sramA b off + 4 * n ≤ x → (s.ringPut b off (4 * n) v f g next).byte x = s.byte x := by
  obtain ⟨hbytes, hother⟩ := State.sramWrite_bytes (s := s) (v := v) (n := n) hoff hopen
  have hmem : (s.ringPut b off (4 * n) v f g next).mem = (s.sramWrite b off (4 * n) (allBytes (4 * n)) v).2.mem := rfl
  exact ⟨(State.bytes_congr hmem).trans hbytes, fun x hx => (State.byte_congr hmem x).trans (hother x hx)⟩

/-- What becomes of an entry of whole words, dropped where its ring is `full` and put otherwise. -/
theorem State.ring_eq {full : Prop} [Decidable full] {t : State} {drop : Fld} {g' : BaySt → BaySt}
    (ht : (if full then s.ringDrop b drop g i else s.ringPut b off (4 * n) v f g' next) = t) (hoff : off % 4 = 0)
    (hdrop : drop.off < 0x100 ∧ drop.lo < 32) (hne : key 0 drop ≠ key 0 R.ALERT_STAT.ALERT) :
    t.bay b = (if full then g (s.bay b) else g' (s.bay b)) ∧
      (¬ full → (s.bay b).sramOpen = true → t.bytes (sramA b off) (4 * n) = v % 2 ^ (8 * (4 * n)) ∧
        (∀ x, x < sramA b off ∨ sramA b off + 4 * n ≤ x → t.byte x = s.byte x) ∧ t.rd (bayA b) f = next % 2 ^ f.width) ∧
      (full → s.bayOnly t b ∧ t.rd (bayA b) drop = min (s.rd (bayA b) drop + 1) (2 ^ drop.width - 1)) := by
  subst ht
  by_cases hfull : full
  · rw [if_pos hfull, if_pos hfull]
    exact ⟨State.ringDrop_bay, fun hroom => absurd hfull hroom, fun _ => ⟨State.ringDrop_bayOnly hdrop, State.ringDrop_count hdrop hne⟩⟩
  · rw [if_neg hfull, if_neg hfull]
    refine ⟨State.ringPut_bay hoff, fun _ hopen => ?_, fun h => absurd h hfull⟩
    obtain ⟨hbytes, hother⟩ := State.ringPut_bytes (f := f) (g := g') (next := next) (v := v) (n := n) hoff hopen
    exact ⟨hbytes, hother, State.ringPut_next⟩

/-- The oldest record has left the staging FIFO. -/
def State.recordTaken (s : State) (b : Nat) (rest : List CapRecord) : State := s.modBay b fun v => { v with stage := rest }

/-- The oldest closed block has left its queue. -/
def State.blockTaken (s : State) (b : Nat) (rest : List AdcBlock) : State := s.modBay b fun v => { v with adcStage := rest }

/-- Where the capture ring's slot for the record at `wr` lies in bay SRAM. -/
def State.recordSlot (s : State) (b wr : Nat) : Nat := (s.rd (bayA b) R.CAP_RING.BASE * 16 + 16 * (wr % s.capLen b)) % 0x40000

/-- Where the ADC ring's slot for the block at `wr` lies in bay SRAM. -/
def State.blockSlot (s : State) (b wr : Nat) : Nat := (s.rd (bayA b) R.ADC_RING.BASE * 32 + 32 * (wr % s.adcLen b)) % 0x40000

theorem State.recordSlot_aligned {wr : Nat} : s.recordSlot b wr % 4 = 0 := by
  unfold State.recordSlot
  omega

theorem State.blockSlot_aligned {wr : Nat} : s.blockSlot b wr % 4 = 0 := by
  unfold State.blockSlot
  omega

theorem State.recordTaken_bay {rest : List CapRecord} : (s.recordTaken b rest).bay b = { s.bay b with stage := rest } := State.modBay_same

theorem State.blockTaken_bay {rest : List AdcBlock} : (s.blockTaken b rest).bay b = { s.bay b with adcStage := rest } := State.modBay_same

/-- The oldest record goes to the capture ring, or is dropped where the ring is full. -/
def State.recordStored (s : State) (b : Nat) (r : CapRecord) (rest : List CapRecord) : State :=
  if (s.rd (bayA b) R.CAP_WR.WR + 1) % s.capLen b = s.rd (bayA b) R.CAP_RD.RD then
    (s.recordTaken b rest).ringDrop b R.CAP_DROP.DROP (fun v => { v with lossCap := true }) 1
  else (s.recordTaken b rest).ringPut b (s.recordSlot b (s.rd (bayA b) R.CAP_WR.WR)) 16 (r.pack (s.bay b).lossCap) R.CAP_WR.WR
    (fun v => { v with lossCap := false }) ((s.rd (bayA b) R.CAP_WR.WR + 1) % s.capLen b)

/-- The oldest block goes to the ADC ring, or is dropped where the ring is full. -/
def State.blockStored (s : State) (b : Nat) (k : AdcBlock) (rest : List AdcBlock) : State :=
  if (s.rd (bayA b) R.ADC_WR.WR + 1) % s.adcLen b = s.rd (bayA b) R.ADC_RD.RD then
    (s.blockTaken b rest).ringDrop b R.ADC_DROP.DROP (fun v => { v with lossAdc := true }) 2
  else (s.blockTaken b rest).ringPut b (s.blockSlot b (s.rd (bayA b) R.ADC_WR.WR)) 32 (k.pack (s.bay b).lossAdc) R.ADC_WR.WR
    (fun v => { v with lossAdc := false }) ((s.rd (bayA b) R.ADC_WR.WR + 1) % s.adcLen b)

theorem exec_captureRecordStore {r : CapRecord} {rest : List CapRecord} (h : (s.bay b).stage = r :: rest) (hn : s.capLen b ≠ 0) :
    exec (.captureRecordStore b) s = .next (s.recordStored b r rest) := by
  unfold State.recordStored
  refine congrArg Host.Outcome.next ?_
  have hloss : ((s.recordTaken b rest).bay b).lossCap = (s.bay b).lossCap := (congrArg BaySt.lossCap State.recordTaken_bay).trans rfl
  rw [h, ← hloss]
  exact if_neg hn

theorem exec_adcBlockStore {k : AdcBlock} {rest : List AdcBlock} (h : (s.bay b).adcStage = k :: rest) (hn : s.adcLen b ≠ 0) :
    exec (.adcBlockStore b) s = .next (s.blockStored b k rest) := by
  unfold State.blockStored
  refine congrArg Host.Outcome.next ?_
  have hloss : ((s.blockTaken b rest).bay b).lossAdc = (s.bay b).lossAdc := (congrArg BaySt.lossAdc State.blockTaken_bay).trans rfl
  rw [h, ← hloss]
  exact if_neg hn

/-! ## Samples and open blocks (R149 to R152) -/

/-- A sample joins the open blocks, or opens new ones, and changes nothing else. -/
theorem State.addSample_eq {t : Int} {code : BitVec 16} {clip : Bool} : s.bayOnly (s.addSample b t code clip) b ∧
    (s.addSample b t code clip).flds = s.flds ∧ ((s.addSample b t code clip).bay b).adcNext = (s.bay b).adcNext := by
  unfold State.addSample
  extract_lets u fr p
  have hu : s.bayOnly u b ∧ u.flds = s.flds ∧ (u.bay b).adcNext = (s.bay b).adcNext := by
    unfold u
    split
    · exact ⟨.modBay, rfl, (congrArg BaySt.adcNext State.modBay_same).trans rfl⟩
    · exact ⟨.refl, rfl, rfl⟩
  obtain ⟨honly, hflds, hnext⟩ := hu
  refine ⟨honly.trans .modBay, hflds, Eq.trans ?_ hnext⟩
  refine (congrArg BaySt.adcNext State.modBay_same).trans ?_
  split
  · rfl
  · rfl

/-- The sample of the next grid instant is in ADC_LAST, and the grid goes on; an input beyond full scale is alerted. -/
def State.sampled (s : State) (b : Nat) (code : BitVec 16) (clip : Bool) : State :=
  let u := (s.wr (bayA b) R.ADC_LAST.SAMPLE code.toNat).wr (bayA b) R.ADC_LAST.INDEX ((s.bay b).adcNext % 65536)
  let u := u.modBay b fun v => { v with adcNext := (s.bay b).adcNext + 1 }
  if clip then u.alert b 5 else u

variable {code : BitVec 16} {clip : Bool}

theorem exec_adcSample (hcap : s.capturing b = true) (hadc : s.adcOk = true) (hen : s.bit (bayA b) R.ADC_CFG.EN = true) :
    exec (.adcSample b code clip) s = .next (((s.sampled b code clip).addSample b
      ((s.bay b).adcOrigin + (((s.bay b).adcNext * s.adcPeriod b : Nat) : Int)) code clip).reflex b false) := by
  refine congrArg Host.Outcome.next (if_pos ?_)
  rw [hcap, hadc, hen]
  rfl

theorem State.sampled_bayOnly : s.bayOnly (s.sampled b code clip) b := by
  unfold State.sampled
  extract_lets u w
  have hw : s.bayOnly w b := ((State.bayOnly.wr (by decide)).trans (.wr (by decide))).trans .modBay
  split
  · exact hw.trans .alert
  · exact hw

theorem State.sampled_rd : (s.sampled b code clip).rd (bayA b) R.ADC_LAST.SAMPLE = code.toNat ∧
    (s.sampled b code clip).rd (bayA b) R.ADC_LAST.INDEX = (s.bay b).adcNext % 65536 := by
  unfold State.sampled
  extract_lets u w
  have hflds : w.flds = u.flds := State.modBay_flds
  have hsample : u.rd (bayA b) R.ADC_LAST.SAMPLE = code.toNat :=
    (State.rd_wr_ne _ _ (key_ne _ (by decide))).trans ((State.rd_wr_same ..).trans (Nat.mod_eq_of_lt code.isLt))
  have hindex : u.rd (bayA b) R.ADC_LAST.INDEX = (s.bay b).adcNext % 65536 := (State.rd_wr_same ..).trans (Nat.mod_mod _ _)
  clear_value w u
  rw [← State.rd_congr hflds] at hsample hindex
  split
  · exact ⟨(State.alert_rd (by decide) (by decide)).trans hsample, (State.alert_rd (by decide) (by decide)).trans hindex⟩
  · exact ⟨hsample, hindex⟩

theorem State.sampled_next : ((s.sampled b code clip).bay b).adcNext = (s.bay b).adcNext + 1 := by
  unfold State.sampled
  extract_lets u w
  have hw : (w.bay b).adcNext = (s.bay b).adcNext + 1 := congrArg BaySt.adcNext State.modBay_same
  clear_value w
  split
  · exact (congrArg BaySt.adcNext State.alert_bay).trans hw
  · exact hw

theorem State.sampled_clip : ((s.sampled b code true).rd (bayA b) R.ALERT_STAT.ALERT).testBit 5 = true := by
  unfold State.sampled
  rw [if_pos rfl, State.alert_testBit (by decide), decide_eq_true rfl, Bool.or_true]

theorem exec_adcBlockClose (h : s.blockBreaks b ((s.bay b).adcOrigin + (((s.bay b).adcNext * s.adcPeriod b : Nat) : Int)) = true ∨
    s.bit (bayA b) R.ADC_CFG.EN = false ∨ s.capturing b = false) : exec (.adcBlockClose b) s = .next (s.closeBlocks b) := by
  refine congrArg Host.Outcome.next (if_pos ?_)
  rw [Bool.or_eq_true, Bool.or_eq_true, Bool.not_eq_true', Bool.not_eq_true', or_assoc]
  exact h
end
end Sys2Proof.Machine

namespace Sys2Proof
open Machine

/-- Settles O21: a full ring drops and counts, any other takes whole words in bay SRAM; a sample is written to ADC_LAST before its blocks and the
rules follow. -/
theorem captureAndAdcRings : Obligations.CaptureAndAdcRings := by
  unfold Obligations.CaptureAndAdcRings
  intro s b
  refine ⟨?_, ?_, fun code clip hcap hadc hen => ?_, fun h => ?_⟩
  · rintro r rest _ _ hstage hn rfl rfl
    obtain ⟨hbay, hput, hdrop⟩ := State.ring_eq (n := 4) (t := s.recordStored b r rest) rfl State.recordSlot_aligned (by decide) (by decide)
    rw [State.recordTaken_bay] at hbay hput
    refine ⟨_, exec_captureRecordStore hstage hn, (congrArg BaySt.stage hbay).trans ?_, hput, fun hfull => ?_⟩
    · split
      · rfl
      · rfl
    · obtain ⟨honly, hcount⟩ := hdrop hfull
      exact ⟨State.bayOnly.modBay.trans honly, (congrArg BaySt.lossCap (hbay.trans (if_pos hfull))).trans rfl, hcount⟩
  · rintro r rest _ _ hstage hn rfl rfl
    obtain ⟨hbay, hput, hdrop⟩ := State.ring_eq (n := 8) (t := s.blockStored b r rest) rfl State.blockSlot_aligned (by decide) (by decide)
    rw [State.blockTaken_bay] at hbay hput
    refine ⟨_, exec_adcBlockStore hstage hn, (congrArg BaySt.adcStage hbay).trans ?_, hput, fun hfull => ?_⟩
    · split
      · rfl
      · rfl
    · obtain ⟨honly, hcount⟩ := hdrop hfull
      exact ⟨State.bayOnly.modBay.trans honly, (congrArg BaySt.lossAdc (hbay.trans (if_pos hfull))).trans rfl, hcount⟩
  · have hb := State.bayOk_lt (State.capturing_ok hcap)
    obtain ⟨hsample, hindex⟩ := State.sampled_rd (s := s) (b := b) (code := code) (clip := clip)
    obtain ⟨honly, hflds, hnext⟩ := State.addSample_eq (s := s.sampled b code clip) (b := b)
      (t := (s.bay b).adcOrigin + (((s.bay b).adcNext * s.adcPeriod b : Nat) : Int)) (code := code) (clip := clip)
    have hlogs := (State.logs.refl (s := (s.sampled b code clip).addSample b
      ((s.bay b).adcOrigin + (((s.bay b).adcNext * s.adcPeriod b : Nat) : Int)) code clip) (b := b)).reflex (frame := false)
    refine ⟨_, exec_adcSample hcap hadc hen, (State.sampled_bayOnly.trans honly).trans hlogs.only,
      ((hlogs.bayRd hb (by decide)).trans (State.rd_congr hflds _ _)).trans hsample,
      ((hlogs.bayRd hb (by decide)).trans (State.rd_congr hflds _ _)).trans hindex,
      (congrArg BaySt.adcNext hlogs.sampling).trans (hnext.trans State.sampled_next), fun hclip => hlogs.alerts 5 (by decide) ?_⟩
    rw [State.rd_congr hflds, hclip]
    exact State.sampled_clip
  · exact ⟨_, exec_adcBlockClose h, rfl, fun k hk => State.bay_setBay_ne _ _ hk, State.modBay_same⟩
end Sys2Proof

/-! ## Frame boundaries of a bay (R138, R157, R162) -/

namespace Sys2Proof.Machine
open Sys2Proof

section
variable {s t : State} {b c k n q : Nat} {f : Fld}

/-! ### What a change in one bay leaves elsewhere -/

theorem State.bayOnly.shadow (h : s.bayOnly t b) : t.shadow = s.shadow := by
  obtain ⟨hrest, -⟩ := h
  rw [hrest]

theorem State.bayOnly.bayOk (h : s.bayOnly t b) : t.bayOk c = s.bayOk c := by
  obtain ⟨hrest, -⟩ := h
  rw [hrest]
  rfl

/-- A register in the window of another bay. -/
theorem State.bayOnly.otherRd {off : Nat} (hc : c < 128) (hne : c ≠ b) (hoff : off + f.off < 0x1000000) (hlo : f.lo < 32) (h : s.bayOnly t b) :
    t.rd (winA c + off) f = s.rd (winA c + off) f := by
  obtain ⟨-, -, hregs⟩ := h
  refine hregs _ ?_ (.inl ?_)
  · unfold key winA
    omega
  · unfold key winA evtA quadA
    omega

theorem State.bayOnly.otherZone (hc : c < 128) (hne : c ≠ b) (h : s.bayOnly t b) : t.zone c k = s.zone c k := by
  have hhi : t.rd (bayA c) R.PIN_ZONE.HI = s.rd (bayA c) R.PIN_ZONE.HI := h.otherRd hc hne (by decide) (by decide)
  have hlo : t.rd (bayA c) R.PIN_ZONE.LO = s.rd (bayA c) R.PIN_ZONE.LO := h.otherRd hc hne (by decide) (by decide)
  unfold State.zone State.zoneHi State.zoneLo
  rw [hhi, hlo]

section
variable (hb : b < 128)
include hb

/-- Neither the registers of other bays, nor those of the quadrants but for events. -/
theorem State.bayOnly.halted (hc : c < 128) (h : s.bayOnly t b) : t.halted c = s.halted c := by
  obtain ⟨-, -, hregs⟩ := h
  have hdbg : t.rd (dbgEngA c) R.DBG_ENG_STAT.HALTED = s.rd (dbgEngA c) R.DBG_ENG_STAT.HALTED := by
    refine hregs _ (.inr ?_) ?_
    · unfold key winA dbgEngA quadA
      omega
    · unfold key dbgEngA evtA quadA
      dsimp only
      omega
  unfold State.halted State.bit
  rw [hdbg]

theorem State.bayOnly.bankRd (hq : q < 4) (hf : f.off < 0x100 ∧ f.lo < 32) (h : s.bayOnly t b) : t.rd (ioBankA q) f = s.rd (ioBankA q) f := by
  obtain ⟨-, -, hregs⟩ := h
  obtain ⟨hoff, hlo⟩ := hf
  refine hregs _ (.inr ?_) (.inr ?_)
  · unfold key winA ioBankA quadA
    omega
  · unfold key ioBankA evtA quadA
    omega

theorem State.bayOnly.bankOk (hc : c < 128) (h : s.bayOnly t b) : t.bankOk c = s.bankOk c := by
  unfold State.bankOk State.bit
  rw [h.bankRd hb (by omega)]
  unfold Fld.shift
  dsimp only
  omega

theorem State.bayOnly.otherCapturing (hc : c < 128) (hne : c ≠ b) (h : s.bayOnly t b) : t.capturing c = s.capturing c := by
  have hstate : t.bayState c = s.bayState c := h.otherRd hc hne (by decide) (by decide)
  unfold State.capturing
  rw [h.bayOk, hstate, h.halted hb hc]

theorem State.frontEnd.capturing (h : s.frontEnd b t) : t.capturing b = s.capturing b := by
  obtain ⟨honly, -, hstate, -⟩ := h
  unfold State.capturing
  rw [honly.bayOk, hstate, honly.halted hb hb]
end

theorem State.bayOnly.otherPin (hne : c ≠ b) (h : s.bayOnly t b) : t.pin c k = s.pin c k := by
  obtain ⟨-, hbay, -⟩ := h
  exact State.pin_congr (hbay c hne)

/-! ### The boundary -/

/-- FRAME_NO is loaded, and one more boundary counted. -/
def State.frameLoaded (s : State) (b n : Nat) : State :=
  (s.wr (bayA b) R.FRAME_NO.FRAME_NO n).modBay b fun v => { v with boundaries := v.boundaries + 1 }

/-- The bay takes the instant `at_` of the boundary as its own, and records it. -/
def State.frameRecorded (s : State) (b : Nat) (at_ : Int) (ovl : Nat) : State :=
  (s.modBay b fun v => { v with lastB := some at_, lastOvl := ovl, adcOrigin := at_, adcNext := 0 }).record b 2 0 0 0 at_ false 0 0 true

/-- An armed pattern moves to PIN_OUT. -/
def State.patternMoved (s : State) (b : Nat) : State :=
  if s.bit (bayA b) R.PIN_NEXT.ARMED then
    ((s.wr (bayA b) R.PIN_OUT.OE (s.rd (bayA b) R.PIN_NEXT.OE)).wr (bayA b) R.PIN_OUT.VAL (s.rd (bayA b) R.PIN_NEXT.VAL)).wr (bayA b)
      R.PIN_NEXT.ARMED 0
  else s

/-- The settings for the boundary take effect, and the pins and rules follow. -/
def State.frameSettled (s : State) (b n : Nat) : State := ((((s.applyShadow b n).drivePins b).reflex b true).reflex b false)

/-- What a boundary does in a bay whose engine is not halted. -/
def State.frameRun (s : State) (b n : Nat) (at_ : Int) (ovl : Nat) : State :=
  (((s.frameRecorded b at_ ovl).patternMoved b).frameSettled b n)

/-- The state after a boundary that finds the engine running. -/
def State.framed (s : State) (b n : Nat) (at_ : Int) : State :=
  ((s.frameLoaded b n).frameRun b n at_ (s.rd (bayA b) R.FRAME_CFG.OVL)).raiseIf
    (((s.frameLoaded b n).frameRun b n at_ (s.rd (bayA b) R.FRAME_CFG.OVL)).bit (bayA b) R.FRAME_CFG.FEVT_EN) (4 * b + 3)

theorem exec_bayFrameBoundary {at_ : Int} (hnotice : s.noticeQ (b / 32) = some (at_, n)) (hok : s.bayOk b = true) (hstate : s.bayState b < 2) :
    exec (.bayFrameBoundary b) s = .next
      (if (s.frameLoaded b n).halted b then s.frameLoaded b n else s.framed b n at_) := by
  have hruns : (s.bayOk b && decide (s.bayState b < 2)) = true := by
    rw [hok, decide_eq_true hstate]
    rfl
  refine congrArg Host.Outcome.next ?_
  rw [hnotice]
  exact if_pos hruns

/-- A boundary for which no setting waits applies none. -/
theorem State.applyShadow_none (h : ∀ e, e ∈ s.shadow → e.bay = some b → e.frame ≠ n) : s.applyShadow b n = s := by
  have hmine : s.shadow.filter (fun e => decide (e.bay = some b ∧ e.frame = n)) = [] :=
    List.filter_eq_nil_iff.mpr fun e he => by
      rw [decide_eq_true_eq]
      exact fun hmine => h e he hmine.left hmine.right
  have hrest : s.shadow.filter (fun e => !decide (e.bay = some b ∧ e.frame = n)) = s.shadow :=
    List.filter_eq_self.mpr fun e he => by
      rw [Bool.not_eq_true', decide_eq_false_iff_not]
      exact fun hmine => h e he hmine.left hmine.right
  unfold State.applyShadow
  rw [hmine, hrest]
  rfl

theorem State.frameLoaded_bayOnly : s.bayOnly (s.frameLoaded b n) b := (State.bayOnly.wr (by decide)).trans .modBay

theorem State.frameLoaded_flds : (s.frameLoaded b n).flds = (s.wr (bayA b) R.FRAME_NO.FRAME_NO n).flds := rfl

theorem State.frameLoaded_no : (s.frameLoaded b n).rd (bayA b) R.FRAME_NO.FRAME_NO = n % 2 ^ 32 :=
  (State.rd_congr State.frameLoaded_flds _ _).trans (State.rd_wr_same ..)

theorem State.frameLoaded_rd (hne : key 0 f ≠ key 0 R.FRAME_NO.FRAME_NO) : (s.frameLoaded b n).rd (bayA b) f = s.rd (bayA b) f :=
  (State.rd_congr State.frameLoaded_flds _ _).trans (State.rd_wr_ne _ _ (key_ne _ hne))

theorem State.frameLoaded_bay : (s.frameLoaded b n).bay b = { s.bay b with boundaries := (s.bay b).boundaries + 1 } := State.modBay_same

theorem State.frameRecorded_eq {at_ : Int} {ovl : Nat} (hb : b < 128) : s.bayOnly (s.frameRecorded b at_ ovl) b ∧
    ∀ f, quietField f → (s.frameRecorded b at_ ovl).rd (bayA b) f = s.rd (bayA b) f := by
  have hlogs := (State.logs.refl (s := s.modBay b fun v => { v with lastB := some at_, lastOvl := ovl, adcOrigin := at_, adcNext := 0 })
    (b := b)).record (kind := 2) (pin := 0) (edge := 0) (zone := 0) (stamp := at_) (settle := false) (ovr := 0) (glitch := 0) (once := true)
  exact ⟨State.bayOnly.modBay.trans hlogs.only, fun f hf => (hlogs.bayRd hb hf).trans (State.rd_congr State.modBay_flds _ _)⟩

theorem State.patternMoved_bayOnly : s.bayOnly (s.patternMoved b) b := by
  unfold State.patternMoved
  split
  · exact ((State.bayOnly.wr (by decide)).trans (.wr (by decide))).trans (.wr (by decide))
  · exact .refl

theorem State.patternMoved_no : (s.patternMoved b).rd (bayA b) R.FRAME_NO.FRAME_NO = s.rd (bayA b) R.FRAME_NO.FRAME_NO := by
  unfold State.patternMoved
  split
  · rw [State.rd_wr_ne _ _ (key_ne _ (by decide)), State.rd_wr_ne _ _ (key_ne _ (by decide)), State.rd_wr_ne _ _ (key_ne _ (by decide))]
  · rfl

theorem State.patternMoved_armed (h : s.bit (bayA b) R.PIN_NEXT.ARMED = true) : (s.patternMoved b).rd (bayA b) R.PIN_NEXT.ARMED = 0 ∧
    (s.patternMoved b).rd (bayA b) R.PIN_OUT.OE = s.rd (bayA b) R.PIN_NEXT.OE % 2 ^ R.PIN_OUT.OE.width ∧
    (s.patternMoved b).rd (bayA b) R.PIN_OUT.VAL = s.rd (bayA b) R.PIN_NEXT.VAL % 2 ^ R.PIN_OUT.VAL.width := by
  unfold State.patternMoved
  rw [if_pos h]
  refine ⟨(State.rd_wr_same ..).trans (Nat.zero_mod _), ?_, ?_⟩
  · rw [State.rd_wr_ne _ _ (key_ne _ (by decide)), State.rd_wr_ne _ _ (key_ne _ (by decide)), State.rd_wr_same]
  · rw [State.rd_wr_ne _ _ (key_ne _ (by decide)), State.rd_wr_same]

theorem State.patternMoved_unarmed (h : s.bit (bayA b) R.PIN_NEXT.ARMED = false) : s.patternMoved b = s := if_neg (Bool.eq_false_iff.mp h)

/-- With nothing waiting for the boundary, the moved pattern is what the run of a boundary leaves in the bay's quiet registers. -/
theorem State.frameRun_eq {at_ : Int} {ovl : Nat} (hb : b < 128) (hnone : ∀ e, e ∈ s.shadow → e.bay = some b → e.frame ≠ n) :
    s.bayOnly (s.frameRun b n at_ ovl) b ∧ ∀ f, quietField f →
      (s.frameRun b n at_ ovl).rd (bayA b) f = ((s.frameRecorded b at_ ovl).patternMoved b).rd (bayA b) f := by
  obtain ⟨honly, -⟩ := State.frameRecorded_eq (s := s) (at_ := at_) (ovl := ovl) hb
  have hmoved : s.bayOnly ((s.frameRecorded b at_ ovl).patternMoved b) b := honly.trans State.patternMoved_bayOnly
  unfold State.frameRun State.frameSettled
  rw [State.applyShadow_none (s := (s.frameRecorded b at_ ovl).patternMoved b) (hmoved.shadow ▸ hnone)]
  have hlogs : ((s.frameRecorded b at_ ovl).patternMoved b).logs b
      (((((s.frameRecorded b at_ ovl).patternMoved b).drivePins b).reflex b true).reflex b false) := State.logs.refl.drivePins.reflex.reflex
  exact ⟨hmoved.trans hlogs.only, fun f hf => hlogs.bayRd hb hf⟩

theorem State.framed_bayOnly {at_ : Int} (hb : b < 128) (hnone : ∀ e, e ∈ s.shadow → e.bay = some b → e.frame ≠ n) :
    s.bayOnly (s.framed b n at_) b := by
  obtain ⟨honly, -⟩ := State.frameRun_eq (s := s.frameLoaded b n) (at_ := at_) (ovl := s.rd (bayA b) R.FRAME_CFG.OVL) hb hnone
  exact (State.frameLoaded_bayOnly.trans honly).trans .raiseIf

theorem State.framed_rd {at_ : Int} (hb : b < 128) (hnone : ∀ e, e ∈ s.shadow → e.bay = some b → e.frame ≠ n) (hf : quietField f) :
    (s.framed b n at_).rd (bayA b) f =
      (((s.frameLoaded b n).frameRecorded b at_ (s.rd (bayA b) R.FRAME_CFG.OVL)).patternMoved b).rd (bayA b) f := by
  obtain ⟨-, hrd⟩ := State.frameRun_eq (s := s.frameLoaded b n) (at_ := at_) (ovl := s.rd (bayA b) R.FRAME_CFG.OVL) hb hnone
  obtain ⟨hplace, -⟩ := id hf
  exact (State.raiseIf_rd (by decide) hplace).trans (hrd f hf)

/-- FRAME_NO, PIN_NEXT and PIN_OUT after a boundary that finds the engine running. -/
theorem State.framed_eq {at_ : Int} (hb : b < 128) (hnone : ∀ e, e ∈ s.shadow → e.bay = some b → e.frame ≠ n) :
    (s.framed b n at_).rd (bayA b) R.FRAME_NO.FRAME_NO = n % 2 ^ 32 ∧
    (s.bit (bayA b) R.PIN_NEXT.ARMED = true → (s.framed b n at_).rd (bayA b) R.PIN_NEXT.ARMED = 0 ∧
      (s.framed b n at_).rd (bayA b) R.PIN_OUT.OE = s.rd (bayA b) R.PIN_NEXT.OE % 2 ^ R.PIN_OUT.OE.width ∧
      (s.framed b n at_).rd (bayA b) R.PIN_OUT.VAL = s.rd (bayA b) R.PIN_NEXT.VAL % 2 ^ R.PIN_OUT.VAL.width) ∧
    (s.bit (bayA b) R.PIN_NEXT.ARMED = false → (s.framed b n at_).rd (bayA b) R.PIN_OUT.OE = s.rd (bayA b) R.PIN_OUT.OE ∧
      (s.framed b n at_).rd (bayA b) R.PIN_OUT.VAL = s.rd (bayA b) R.PIN_OUT.VAL) := by
  obtain ⟨-, hkept⟩ := State.frameRecorded_eq (s := s.frameLoaded b n) (at_ := at_) (ovl := s.rd (bayA b) R.FRAME_CFG.OVL) hb
  rw [State.framed_rd hb hnone (by decide), State.framed_rd hb hnone (by decide), State.framed_rd hb hnone (by decide),
    State.framed_rd hb hnone (by decide)]
  generalize (s.frameLoaded b n).frameRecorded b at_ (s.rd (bayA b) R.FRAME_CFG.OVL) = u at hkept
  have hsame : ∀ f, quietField f → key 0 f ≠ key 0 R.FRAME_NO.FRAME_NO → u.rd (bayA b) f = s.rd (bayA b) f := fun f hf hne =>
    (hkept f hf).trans (State.frameLoaded_rd hne)
  have harmed : u.bit (bayA b) R.PIN_NEXT.ARMED = s.bit (bayA b) R.PIN_NEXT.ARMED := by
    unfold State.bit
    rw [hsame _ (by decide) (by decide)]
  refine ⟨State.patternMoved_no.trans ((hkept _ (by decide)).trans State.frameLoaded_no), fun h => ?_, fun h => ?_⟩
  · obtain ⟨hoff, hoe, hval⟩ := State.patternMoved_armed (harmed.trans h)
    rw [hsame _ (by decide) (by decide)] at hoe hval
    exact ⟨hoff, hoe, hval⟩
  · rw [State.patternMoved_unarmed (harmed.trans h)]
    exact ⟨hsame _ (by decide) (by decide), hsame _ (by decide) (by decide)⟩

theorem State.frameLoaded_halted (hb : b < 128) : (s.frameLoaded b n).halted b = s.halted b :=
  State.frameLoaded_bayOnly.halted hb hb

end
end Sys2Proof.Machine

/-! ## The supply of a bank (R537) -/

namespace Sys2Proof.Machine
open Sys2Proof

/-- As `foldl_reaches`, where the steps need be known for the entries of the list alone. -/
theorem foldl_reaches_of_mem {β : Type} {f : State → β → State} {P R : State → Prop} {l : List β} {x : β} {s : State} (hx : x ∈ l)
    (hR : ∀ u, ∀ y ∈ l, R u → R (f u y)) (hdo : ∀ u, R u → P (f u x)) (hkeep : ∀ u, ∀ y ∈ l, R u → P u → P (f u y)) (hs : R s) :
    P (l.foldl f s) := by
  rw [← List.foldl_attach]
  exact foldl_reaches (List.mem_attach l ⟨x, hx⟩) (fun u y => hR u y.1 y.2) hdo (fun u y => hkeep u y.1 y.2) hs

section
variable {s t u : State} {b c k j z : Nat} {hi val : Bool}

theorem State.bayOnly.foldl {l : List Nat} {f : State → Nat → State} (h : s.bayOnly t b) (hf : ∀ (u : State) x, u.bayOnly (f u x) b) :
    s.bayOnly (l.foldl f t) b := List.foldlRecOn (motive := fun u => s.bayOnly u b) _ _ h fun u hu x _ => hu.trans (hf u x)

/-- The value of a zone by its two outputs (R140). -/
def zoneOf (hi lo : Bool) : Nat := (if hi then 2 else 0) + (if lo then 1 else 0)

theorem State.zone_def : s.zone b k = zoneOf (s.zoneHi b k) (s.zoneLo b k) := rfl

theorem zoneOf_bits (hz : z < 4) : zoneOf (decide (z / 2 = 1)) (decide (z % 2 = 1)) = z := by
  unfold zoneOf
  simp only [decide_eq_true_eq]
  split
  · split
    · omega
    · omega
  · split
    · omega
    · omega

/-- The zone of a pin after both outputs of one have been written. -/
theorem State.setZones_zone {vhi vlo : Bool} (hk : k < 10) :
    ((s.setZone b j true vhi).setZone b j false vlo).zone b k = if k = j then zoneOf vhi vlo else s.zone b k := by
  rw [State.zone_def, State.setZone_zoneHi hk, State.setZone_zoneHi hk, State.setZone_zoneLo hk, State.setZone_zoneLo hk]
  by_cases hkj : k = j
  · rw [if_neg (fun h => Bool.false_ne_true h.left), if_pos ⟨rfl, hkj⟩, if_pos ⟨rfl, hkj⟩, if_pos hkj]
  · rw [if_neg (fun h => hkj h.right), if_neg (fun h => hkj h.right), if_neg (fun h => hkj h.right), if_neg (fun h => hkj h.right),
      if_neg hkj]
    rfl

theorem State.pinOff_zone (hk : k < 10) : (s.pinOff b j).zone b k = if k = j then 0 else s.zone b k := by
  have hflds : (s.pinOff b j).flds = ((s.setZone b j true false).setZone b j false false).flds := rfl
  have hzone : (s.pinOff b j).zone b k = ((s.setZone b j true false).setZone b j false false).zone b k := by
    unfold State.zone State.zoneHi State.zoneLo
    rw [State.rd_congr hflds, State.rd_congr hflds]
  exact hzone.trans (State.setZones_zone hk)

theorem State.pinTakes_zone (hk : k < 10) :
    (s.pinTakes b j).zone b k = if k = j then zoneOf (s.pin b j).rawHi (s.pin b j).rawLo else s.zone b k := State.setZones_zone hk

theorem State.pinTakes_pin : (s.pinTakes b j).pin b k = s.pin b k := State.setZone_pin.trans State.setZone_pin

theorem State.bayOnly.otherMode (hc : c < 128) (hne : c ≠ b) (hk : k < 10) (h : s.bayOnly t b) :
    t.rd (pinA c k) R.PIN_MODE.MODE = s.rd (pinA c k) R.PIN_MODE.MODE := by
  have hoff : 0xC00200 + k * 0x20 + R.PIN_MODE.MODE.off < 0x1000000 := by
    dsimp only
    omega
  have hrd := h.otherRd hc hne hoff (by decide)
  rw [← Nat.add_assoc] at hrd
  exact hrd

/-! ### A bay without supply -/

theorem State.ballOf_unpowered (h : s.bankOk b = false) : s.ballOf b k = .released := if_pos h

/-- Driven without supply, every ball is released. -/
theorem State.drivePins_released (hb : b < 128) (h : s.bankOk b = false) (hk : k < 10) : ((s.drivePins b).pin b k).drive = .released := by
  have hdriven : s.drivePins b = (List.range 10).foldl (fun s k => s.setPin b k { s.pin b k with drive := s.ballOf b k }) s :=
    if_neg fun hkeep => Bool.false_ne_true (h.symm.trans hkeep.right.right)
  rw [hdriven]
  refine foldl_reaches (P := fun u => (u.pin b k).drive = .released) (R := fun u => u.bankOk b = false) (List.mem_range.mpr hk)
    (fun u y hu => (State.bayOnly.setPin.bankOk hb hb).trans hu) (fun u hu => ?_) (fun u y hu hkept => ?_) h
  · rw [State.pin_setPin_same]
    exact State.ballOf_unpowered hu
  · rw [State.pin_setPin]
    split
    · exact State.ballOf_unpowered hu
    · exact hkept

/-- The rules drive the balls of a bay without supply no other way. -/
theorem State.reflex_released {frame : Bool} (hb : b < 128) (h : s.bankOk b = false) (hk : k < 10) (hdrive : (s.pin b k).drive = .released) :
    ((s.reflex b frame).pin b k).drive = .released := by
  rw [State.reflex_def]
  split
  · have hlogs : s.logs b (s.ruled b frame) := State.logs.refl.ruled
    exact State.drivePins_released hb ((hlogs.only.bankOk hb hb).trans h) hk
  · exact hdrive

/-- Every pin of a bay turns OFF. -/
def State.pinsOff (s : State) (b : Nat) : State := (List.range 10).foldl (fun s k => s.pinOff b k) s

theorem State.pinsOff_bayOnly : s.bayOnly (s.pinsOff b) b := State.bayOnly.refl.foldl fun _ _ => .pinOff

theorem State.pinsOff_zone (hk : k < 10) : (s.pinsOff b).zone b k = 0 := by
  refine foldl_reaches (P := fun u => u.zone b k = 0) (R := fun _ => True) (List.mem_range.mpr hk) (fun _ _ _ => trivial)
    (fun u _ => (State.pinOff_zone hk).trans (if_pos rfl)) (fun u y _ hu => ?_) trivial
  rw [State.pinOff_zone hk, hu]
  split
  · rfl
  · rfl

/-- A bay loses the supply of its bank. -/
def State.unpower (s : State) (b : Nat) : State := ((s.pinsOff b).drivePins b).reflex b false

theorem State.unpower_logs : (s.pinsOff b).logs b (s.unpower b) := State.logs.refl.drivePins.reflex

theorem State.unpower_bayOnly : s.bayOnly (s.unpower b) b := State.pinsOff_bayOnly.trans State.unpower_logs.only

/-- Its pins read zone 0 and are released. -/
theorem State.unpower_eq (hb : b < 128) (h : s.bankOk b = false) (hk : k < 10) :
    (s.unpower b).zone b k = 0 ∧ ((s.unpower b).pin b k).drive = .released := by
  have hoff : (s.pinsOff b).bankOk b = false := (State.pinsOff_bayOnly.bankOk hb hb).trans h
  have hdriven : ((s.pinsOff b).drivePins b).bankOk b = false := (State.logs.refl.drivePins.only.bankOk hb hb).trans hoff
  exact ⟨(State.unpower_logs.zone hb).trans (State.pinsOff_zone hk), State.reflex_released hb hdriven hk (State.drivePins_released hb hoff hk)⟩

/-! ### A bay whose supply returns -/

/-- The raw outputs of the comparators are those found at the balls, place `j` in the bank. -/
def State.rawFound (s : State) (b j zones : Nat) : State :=
  (List.range 10).foldl (fun s k => s.setPin b k { s.pin b k with
    rawHi := decide (zones / 4 ^ (j * 10 + k) % 4 / 2 = 1), rawLo := decide (zones / 4 ^ (j * 10 + k) % 4 % 2 = 1) }) s

theorem State.rawFound_pin {zones : Nat} (hk : k < 10) : zoneOf ((s.rawFound b j zones).pin b k).rawHi ((s.rawFound b j zones).pin b k).rawLo =
    zones / 4 ^ (j * 10 + k) % 4 := by
  refine foldl_reaches (P := fun u => zoneOf (u.pin b k).rawHi (u.pin b k).rawLo = zones / 4 ^ (j * 10 + k) % 4) (R := fun _ => True)
    (List.mem_range.mpr hk) (fun _ _ _ => trivial) (fun u _ => ?_) (fun u y _ hu => ?_) trivial
  · rw [State.pin_setPin_same]
    exact zoneOf_bits (Nat.mod_lt _ (by decide))
  · rw [State.pin_setPin]
    split
    case isTrue hy =>
      rw [hy]
      exact zoneOf_bits (Nat.mod_lt _ (by decide))
    case isFalse => exact hu

/-- The comparators of every pin that is not OFF take their values from the balls, whatever the supply. -/
def State.takeOn (s : State) (b : Nat) : State :=
  (List.range 10).foldl (fun s k => if s.rd (pinA b k) R.PIN_MODE.MODE = 0 then s else s.pinTakes b k) s

theorem State.takeOn_pinsKept : s.pinsKept b (s.takeOn b) := by
  refine List.foldlRecOn (motive := fun u => s.pinsKept b u) _ _ .refl fun u hu y _ => ?_
  split
  · exact hu
  · exact hu.pinTakes

theorem State.frontEnd.takeOn (h : s.frontEnd b t) : s.frontEnd b (t.takeOn b) := by
  refine h.foldl fun u y hu => ?_
  split
  · exact hu
  · exact hu.pinTakes

theorem State.takeOn_zone (hk : k < 10) (hmode : s.rd (pinA b k) R.PIN_MODE.MODE ≠ 0) (hz : zoneOf (s.pin b k).rawHi (s.pin b k).rawLo = z) :
    (s.takeOn b).zone b k = z := by
  have htakes : ∀ u : State, ∀ y, u.pinsKept b (u.pinTakes b y) := fun u y => State.pinsKept.refl.pinTakes
  refine foldl_reaches (P := fun u => u.zone b k = z)
    (R := fun u => u.rd (pinA b k) R.PIN_MODE.MODE ≠ 0 ∧ zoneOf (u.pin b k).rawHi (u.pin b k).rawLo = z) (List.mem_range.mpr hk)
    (fun u y hu => ?_) (fun u ⟨hon, hraw⟩ => ?_) (fun u y ⟨hon, hraw⟩ hu => ?_) ⟨hmode, hz⟩
  · split
    · exact hu
    · rw [(htakes u y).regs _ _ ⟨hk, by decide⟩, State.pinTakes_pin]
      exact hu
  · rw [if_neg hon, State.pinTakes_zone hk, if_pos rfl]
    exact hraw
  · split
    · exact hu
    · rw [State.pinTakes_zone hk]
      split
      case isTrue hy => exact hy ▸ hraw
      case isFalse => exact hu

/-- The front end of a capturing bay takes up its work with the supply. -/
def State.powered (s : State) (b : Nat) : State := ((((s.takeOn b).drivePins b).resyncPins b).restartStuck b).reflex b false

theorem State.powered_logs : (s.takeOn b).logs b (s.powered b) :=
  State.logs.reflex (State.logs.foldl State.logs.refl.drivePins.resyncPins fun _ _ hu => hu.stuckRestart)

theorem State.frontEnd.powered (hb : b < 128) (h : s.frontEnd b t) : s.frontEnd b (t.powered b) :=
  (h.takeOn.drivePins.resyncPins hb).restartStuck.reflex hb

/-- A bay finds its supply again. -/
def State.repower (s : State) (b j zones : Nat) : State :=
  if (s.rawFound b j zones).capturing b then (s.rawFound b j zones).powered b else s.rawFound b j zones

theorem State.rawFound_frontEnd {zones : Nat} : s.frontEnd b (s.rawFound b j zones) := State.frontEnd.refl.foldl fun _ _ hu => hu.setPin

theorem State.rawFound_pinsKept {zones : Nat} : s.pinsKept b (s.rawFound b j zones) :=
  List.foldlRecOn (motive := fun u => s.pinsKept b u) _ _ .refl fun _ hu _ _ => hu.setPin

theorem State.repower_frontEnd {zones : Nat} (hb : b < 128) : s.frontEnd b (s.repower b j zones) := by
  have hraw : s.frontEnd b (s.rawFound b j zones) := State.rawFound_frontEnd
  unfold State.repower
  split
  · exact hraw.powered hb
  · exact hraw

theorem State.repower_pinsKept {zones : Nat} (hb : b < 128) : s.pinsKept b (s.repower b j zones) := by
  unfold State.repower
  split
  · exact (State.rawFound_pinsKept.trans State.takeOn_pinsKept).trans (State.powered_logs.pinsKept hb)
  · exact State.rawFound_pinsKept

/-- Each pin that is not OFF takes the zone found. -/
theorem State.repower_zone {zones : Nat} (hb : b < 128) (hk : k < 10) (hcap : s.capturing b = true)
    (hmode : s.rd (pinA b k) R.PIN_MODE.MODE ≠ 0) : (s.repower b j zones).zone b k = zones / 4 ^ (j * 10 + k) % 4 := by
  have hcap' : (s.rawFound b j zones).capturing b = true := (State.rawFound_frontEnd.capturing hb).trans hcap
  have hmode' : (s.rawFound b j zones).rd (pinA b k) R.PIN_MODE.MODE ≠ 0 := by
    rw [State.rawFound_pinsKept.regs _ _ ⟨hk, by decide⟩]
    exact hmode
  unfold State.repower
  rw [if_pos hcap']
  exact (State.powered_logs.zone hb).trans (State.takeOn_zone hk hmode' (State.rawFound_pin hk))

end
end Sys2Proof.Machine

/-! ## VCCIO_LOSS and VCCIO_RESTORE -/

namespace Sys2Proof.Machine
open Sys2Proof

/-- `t` has memory, the bays outside the bank and the supplies of the banks as `s`. -/
structure State.bankOnly (bank : Nat) (s t : State) : Prop where
  mem : t.mem = s.mem
  bays : ∀ k, k < bank * 4 ∨ bank * 4 + 4 ≤ k → t.bay k = s.bay k
  supplies : ∀ q f, q < 4 → f.off < 0x100 ∧ f.lo < 32 → t.rd (ioBankA q) f = s.rd (ioBankA q) f

section
variable {s t : State} {bank c j k q : Nat}

theorem State.bayOnly.bankOnly (hbank : bank < 32) (hj : j < 4) (h : s.bayOnly t (bank * 4 + j)) : s.bankOnly bank t where
  mem := h.mem
  bays k hk := by
    obtain ⟨-, hbay, -⟩ := h
    exact hbay k (by omega)
  supplies _ _ hq hf := h.bankRd (by omega) hq hf

/-- A step for each of the four bays of a bank. -/
theorem State.bankOnly.foldl {f : State → Nat → State} (hbank : bank < 32) (hf : ∀ (u : State) j, j < 4 → u.bayOnly (f u j) (bank * 4 + j)) :
    s.bankOnly bank ((List.range 4).foldl f s) := by
  refine List.foldlRecOn (motive := fun u => s.bankOnly bank u) _ _ ⟨rfl, fun _ _ => rfl, fun _ _ _ _ => rfl⟩ fun u hu j hj => ?_
  have hstep := (hf u j (List.mem_range.mp hj)).bankOnly hbank (List.mem_range.mp hj)
  exact ⟨hstep.mem.trans hu.mem, fun k hk => (hstep.bays k hk).trans (hu.bays k hk),
    fun q f hq hf => (hstep.supplies q f hq hf).trans (hu.supplies q f hq hf)⟩

theorem bankOf_lt (h : bank < 40) : (bankOf bank).1 < 4 ∧ (bankOf bank).2 < 10 := by
  unfold bankOf
  split
  · dsimp only
    omega
  · dsimp only
    omega

/-- VCCIO_OK of a bank. -/
def okField (bank : Nat) : Fld := R.IO_BANKSTAT.VCCIO_OK.shift (4 * (bankOf bank).2)

/-- VCCIO_LOST of a bank. -/
def lostField (bank : Nat) : Fld := R.IO_BANKSTAT.VCCIO_LOST.shift (4 * (bankOf bank).2)

theorem bankFields_place (h : bank < 40) : ((okField bank).off < 0x100 ∧ (okField bank).lo < 32) ∧
    (lostField bank).off < 0x100 ∧ (lostField bank).lo < 32 := by
  obtain ⟨-, hp⟩ := bankOf_lt h
  unfold okField lostField Fld.shift
  dsimp only
  omega

/-- The supply of a bay is that of its bank. -/
theorem State.bankOk_bank (hbank : bank < 32) (hj : j < 4) : s.bankOk (bank * 4 + j) = s.bit (ioBankA (bankOf bank).1) (okField bank) := by
  have hq : (bank * 4 + j) / 32 = bank / 8 := by omega
  have hp : (bank * 4 + j) % 32 / 4 = bank % 8 := by omega
  have hof : bankOf bank = (bank / 8, bank % 8) := if_pos hbank
  unfold State.bankOk okField
  rw [hq, hp, hof]

/-- The loss of a bank's supply is noted. -/
def State.lossNoted (s : State) (bank : Nat) : State :=
  (s.wr (ioBankA (bankOf bank).1) (okField bank) 0).wr (ioBankA (bankOf bank).1) (lostField bank) 1

theorem State.fldsOnly_wr {a v : Nat} {f : Fld} (h : t = { s with flds := t.flds }) : t.wr a f v = { s with flds := (t.wr a f v).flds } := by
  obtain ⟨F, rfl⟩ : ∃ F, t = { s with flds := F } := ⟨_, h⟩
  rfl

theorem State.lossNoted_fldsOnly : s.lossNoted bank = { s with flds := (s.lossNoted bank).flds } := State.fldsOnly_wr State.wr_fldsOnly

theorem State.lossNoted_kept : (s.lossNoted bank).mem = s.mem ∧ ∀ k, (s.lossNoted bank).bay k = s.bay k := by
  unfold State.lossNoted State.wr State.bay
  exact ⟨rfl, fun _ => rfl⟩

theorem okField_ne_lostField {a : Nat} : key a (okField bank) ≠ key a (lostField bank) := by
  unfold key okField lostField Fld.shift
  dsimp only
  omega

theorem State.lossNoted_rd : (s.lossNoted bank).rd (ioBankA (bankOf bank).1) (okField bank) = 0 ∧
    (s.lossNoted bank).rd (ioBankA (bankOf bank).1) (lostField bank) = 1 :=
  ⟨(State.rd_wr_ne _ _ okField_ne_lostField).trans ((State.rd_wr_same ..).trans (Nat.zero_mod _)), State.rd_wr_same ..⟩

/-- VCCIO_LOSS: the bays of an instrument bank lose their supply one after another. -/
def State.unpowered (s : State) (bank : Nat) : State := (List.range 4).foldl (fun s j => s.unpower (bank * 4 + j)) s

theorem bankGuard (h : bank < 40) (hlive : s.quadLive (bankOf bank).1 = true) : (decide (bank < 40) && s.quadLive (bankOf bank).1) = true := by
  rw [decide_eq_true h, hlive]
  rfl

theorem exec_vccioLoss (h : bank < 40) (hlive : s.quadLive (bankOf bank).1 = true) :
    exec (.vccioLoss bank) s = .next (if bank < 32 then (s.lossNoted bank).unpowered bank else s.lossNoted bank) :=
  congrArg Host.Outcome.next (if_pos (bankGuard h hlive))

theorem State.unpowered_bankOnly (hbank : bank < 32) : s.bankOnly bank (s.unpowered bank) := .foldl hbank fun _ _ _ => State.unpower_bayOnly

theorem State.unpowered_eq (hbank : bank < 32) (hlost : s.rd (ioBankA (bankOf bank).1) (okField bank) = 0) (hj : j < 4) (hk : k < 10) :
    (s.unpowered bank).zone (bank * 4 + j) k = 0 ∧ ((s.unpowered bank).pin (bank * 4 + j) k).drive = .released := by
  have hb : ∀ y ∈ List.range 4, bank * 4 + y < 128 := fun y hy => by
    have hy4 := List.mem_range.mp hy
    omega
  have hj' := List.mem_range.mpr hj
  refine foldl_reaches_of_mem (P := fun u => u.zone (bank * 4 + j) k = 0 ∧ (u.pin (bank * 4 + j) k).drive = .released)
    (R := fun u => u.bankOk (bank * 4 + j) = false) hj' (fun u y hy hu => (State.unpower_bayOnly.bankOk (hb y hy) (hb j hj')).trans hu)
    (fun u hu => State.unpower_eq (hb j hj') hu hk) (fun u y hy hu ⟨hzone, hdrive⟩ => ?_) ?_
  · by_cases hyj : y = j
    · rw [hyj]
      exact State.unpower_eq (hb j hj') hu hk
    · have hne : bank * 4 + j ≠ bank * 4 + y := by omega
      have honly : u.bayOnly (u.unpower (bank * 4 + y)) (bank * 4 + y) := State.unpower_bayOnly
      exact ⟨(honly.otherZone (hb j hj') hne).trans hzone, (congrArg PinSt.drive (honly.otherPin hne)).trans hdrive⟩
  · rw [State.bankOk_bank hbank hj]
    unfold State.bit
    rw [hlost]
    rfl

/-- The return of a bank's supply is noted. -/
def State.returnNoted (s : State) (bank : Nat) : State := s.wr (ioBankA (bankOf bank).1) (okField bank) 1

theorem State.returnNoted_mem : (s.returnNoted bank).mem = s.mem := State.wr_mem ..

/-- VCCIO_RESTORE: the bays of an instrument bank find their supply again one after another. -/
def State.restored (s : State) (bank zones : Nat) : State := (List.range 4).foldl (fun s j => s.repower (bank * 4 + j) j zones) s

theorem exec_vccioRestore {zones : Nat} (h : bank < 40) (hlive : s.quadLive (bankOf bank).1 = true) :
    exec (.vccioRestore bank zones) s = .next (if bank < 32 then (s.returnNoted bank).restored bank zones else s.returnNoted bank) :=
  congrArg Host.Outcome.next (if_pos (bankGuard h hlive))

theorem State.repower_bayOnly {zones b : Nat} (hb : b < 128) : s.bayOnly (s.repower b j zones) b := by
  obtain ⟨honly, -⟩ := State.repower_frontEnd (s := s) (j := j) (zones := zones) hb
  exact honly

theorem State.restored_bankOnly {zones : Nat} (hbank : bank < 32) : s.bankOnly bank (s.restored bank zones) :=
  .foldl hbank fun u j hj => State.repower_bayOnly (s := u) (b := bank * 4 + j) (by omega)

theorem State.restored_zone {zones : Nat} (hbank : bank < 32) (hj : j < 4) (hk : k < 10) (hcap : s.capturing (bank * 4 + j) = true)
    (hmode : s.rd (pinA (bank * 4 + j) k) R.PIN_MODE.MODE ≠ 0) :
    (s.restored bank zones).zone (bank * 4 + j) k = zones / 4 ^ (j * 10 + k) % 4 := by
  have hb : ∀ y ∈ List.range 4, bank * 4 + y < 128 := fun y hy => by
    have hy4 := List.mem_range.mp hy
    omega
  have hj' := List.mem_range.mpr hj
  refine foldl_reaches_of_mem (P := fun u => u.zone (bank * 4 + j) k = zones / 4 ^ (j * 10 + k) % 4)
    (R := fun u => u.capturing (bank * 4 + j) = true ∧ u.rd (pinA (bank * 4 + j) k) R.PIN_MODE.MODE ≠ 0) hj'
    (fun u y hy ⟨hon, hset⟩ => ?_) (fun u ⟨hon, hset⟩ => State.repower_zone (hb j hj') hk hon hset)
    (fun u y hy ⟨hon, hset⟩ hu => ?_) ⟨hcap, hmode⟩
  · by_cases hyj : y = j
    · rw [hyj, (State.repower_pinsKept (hb j hj')).regs _ _ ⟨hk, by decide⟩]
      exact ⟨((State.repower_frontEnd (hb j hj')).capturing (hb j hj')).trans hon, hset⟩
    · have hne : bank * 4 + j ≠ bank * 4 + y := by omega
      have honly : u.bayOnly (u.repower (bank * 4 + y) y zones) (bank * 4 + y) := State.repower_bayOnly (hb y hy)
      rw [honly.otherMode (hb j hj') hne hk]
      exact ⟨(honly.otherCapturing (hb y hy) (hb j hj') hne).trans hon, hset⟩
  · by_cases hyj : y = j
    · rw [hyj]
      exact State.repower_zone (hb j hj') hk hon hset
    · have hne : bank * 4 + j ≠ bank * 4 + y := by omega
      exact ((State.repower_bayOnly (hb y hy)).otherZone (hb j hj') hne).trans hu

theorem State.wr_bayOk {a v : Nat} {f : Fld} : (s.wr a f v).bayOk c = s.bayOk c := by
  unfold State.wr State.bayOk State.quadLive State.quadOk State.qReset
  rfl

/-- The registers of the banks lie apart from those of bays and engines. -/
theorem ioBankA_apart {f : Fld} (hf : f.off < 0x100 ∧ f.lo < 32) (hk : k < 10) :
    key (bayA c) R.BAY_STATE.STATE ≠ key (ioBankA q) f ∧ key (dbgEngA c) R.DBG_ENG_STAT.HALTED ≠ key (ioBankA q) f ∧
      key (pinA c k) R.PIN_MODE.MODE ≠ key (ioBankA q) f := by
  obtain ⟨hoff, hlo⟩ := hf
  unfold key bayA pinA winA dbgEngA ioBankA quadA
  dsimp only
  omega

/-- What the front ends obey stands while the return is noted. -/
theorem State.returnNoted_rd (h : bank < 40) (hk : k < 10) : (s.returnNoted bank).capturing c = s.capturing c ∧
    (s.returnNoted bank).rd (pinA c k) R.PIN_MODE.MODE = s.rd (pinA c k) R.PIN_MODE.MODE := by
  obtain ⟨hplace, -⟩ := bankFields_place h
  obtain ⟨hstate, hhalt, hmode⟩ := ioBankA_apart (q := (bankOf bank).1) (c := c) hplace hk
  unfold State.returnNoted
  refine ⟨?_, State.rd_wr_ne _ _ hmode⟩
  unfold State.capturing State.bayState State.halted State.bit
  rw [State.wr_bayOk, State.rd_wr_ne _ _ hstate, State.rd_wr_ne _ _ hhalt]

end
end Sys2Proof.Machine

namespace Sys2Proof
open Machine

/-- BAY_FRAME_BOUNDARY, with the engine halted or not. -/
theorem frameBoundary_eq {s : State} {b n : Nat} {at_ : Int} (hnotice : s.noticeQ (b / 32) = some (at_, n)) (hok : s.bayOk b = true)
    (hstate : s.bayState b < 2) (hnone : ∀ e, e ∈ s.shadow → e.bay = some b → e.frame ≠ n) :
    ∃ t, exec (.bayFrameBoundary b) s = .next t ∧ s.bayOnly t b ∧ t.rd (bayA b) R.FRAME_NO.FRAME_NO = n % 2 ^ 32 ∧
      (s.halted b = true → t = s.frameLoaded b n) ∧ (s.halted b = false → t = s.framed b n at_) := by
  have hb := State.bayOk_lt hok
  refine ⟨_, exec_bayFrameBoundary hnotice hok hstate, ?_⟩
  rw [State.frameLoaded_halted hb]
  cases s.halted b with
  | true => exact ⟨State.frameLoaded_bayOnly, State.frameLoaded_no, fun _ => rfl, nofun⟩
  | false =>
    obtain ⟨hno, -⟩ := State.framed_eq (s := s) (at_ := at_) hb hnone
    exact ⟨State.framed_bayOnly hb hnone, hno, nofun, fun _ => rfl⟩

/-- VCCIO_LOSS, of an instrument bank or a general one. -/
theorem vccioLoss_eq {s : State} {bank : Nat} (hbank : bank < 40) (hlive : s.quadLive (bankOf bank).1 = true) :
    ∃ t, exec (.vccioLoss bank) s = .next t ∧ t.mem = s.mem ∧ (∀ k, (bank < 32 → k < bank * 4 ∨ bank * 4 + 4 ≤ k) → t.bay k = s.bay k) ∧
      t.rd (ioBankA (bankOf bank).1) (okField bank) = 0 ∧ t.rd (ioBankA (bankOf bank).1) (lostField bank) = 1 ∧
      (bank < 32 → ∀ j k, j < 4 → k < 10 → t.zone (bank * 4 + j) k = 0 ∧ (t.pin (bank * 4 + j) k).drive = .released) ∧
      (32 ≤ bank → t = { s with flds := t.flds }) := by
  obtain ⟨hmem, hbay⟩ := State.lossNoted_kept (s := s) (bank := bank)
  obtain ⟨hok, hlost⟩ := State.lossNoted_rd (s := s) (bank := bank)
  obtain ⟨hq, -⟩ := bankOf_lt hbank
  obtain ⟨hokPlace, hlostPlace⟩ := bankFields_place hbank
  refine ⟨_, exec_vccioLoss hbank hlive, ?_⟩
  by_cases hinst : bank < 32
  · rw [if_pos hinst]
    have honly := State.unpowered_bankOnly (s := s.lossNoted bank) hinst
    exact ⟨honly.mem.trans hmem, fun k hk => (honly.bays k (hk hinst)).trans (hbay k), (honly.supplies _ _ hq hokPlace).trans hok,
      (honly.supplies _ _ hq hlostPlace).trans hlost, fun _ j k hj hk => State.unpowered_eq hinst hok hj hk, fun h => absurd hinst (by omega)⟩
  · rw [if_neg hinst]
    exact ⟨hmem, fun k _ => hbay k, hok, hlost, fun h => absurd h hinst, fun _ => State.lossNoted_fldsOnly⟩

/-- VCCIO_RESTORE, of an instrument bank or a general one. -/
theorem vccioRestore_eq {s : State} {bank zones : Nat} (hbank : bank < 40) (hlive : s.quadLive (bankOf bank).1 = true) :
    ∃ t, exec (.vccioRestore bank zones) s = .next t ∧ t.mem = s.mem ∧ t.rd (ioBankA (bankOf bank).1) (okField bank) = 1 ∧
      (bank < 32 → ∀ j k, j < 4 → k < 10 → s.capturing (bank * 4 + j) = true → s.rd (pinA (bank * 4 + j) k) R.PIN_MODE.MODE ≠ 0 →
        t.zone (bank * 4 + j) k = zones / 4 ^ (j * 10 + k) % 4) ∧
      (32 ≤ bank → t = { s with flds := t.flds }) := by
  obtain ⟨hq, -⟩ := bankOf_lt hbank
  obtain ⟨hokPlace, -⟩ := bankFields_place hbank
  have hok : (s.returnNoted bank).rd (ioBankA (bankOf bank).1) (okField bank) = 1 := State.rd_wr_same ..
  refine ⟨_, exec_vccioRestore hbank hlive, ?_⟩
  by_cases hinst : bank < 32
  · rw [if_pos hinst]
    have honly := State.restored_bankOnly (s := s.returnNoted bank) (zones := zones) hinst
    refine ⟨honly.mem.trans State.returnNoted_mem, (honly.supplies _ _ hq hokPlace).trans hok, fun _ j k hj hk hcap hmode => ?_,
      fun h => absurd hinst (by omega)⟩
    obtain ⟨hcapKept, hmodeKept⟩ := State.returnNoted_rd (s := s) (c := bank * 4 + j) hbank hk
    rw [← hcapKept] at hcap
    rw [← hmodeKept] at hmode
    exact State.restored_zone hinst hj hk hcap hmode
  · rw [if_neg hinst]
    exact ⟨State.returnNoted_mem, hok, fun h => absurd h hinst, fun _ => State.wr_fldsOnly⟩

/-- Settles O23. A boundary without waiting settings is followed to the pattern that moves; a bank's supply is lost and found bay by bay, and what one bay
does leaves the others' pins. -/
theorem bayBoundariesAndSupplies : Obligations.BayBoundariesAndSupplies := by
  unfold Obligations.BayBoundariesAndSupplies
  intro s b
  refine ⟨fun at_ n hnotice hok hstate hnone => ?_, fun bank hbank hlive => ⟨vccioLoss_eq hbank hlive, fun zones => vccioRestore_eq hbank hlive⟩⟩
  obtain ⟨t, hexec, honly, hno, hhalt, hrun⟩ := frameBoundary_eq hnotice hok hstate hnone
  obtain ⟨-, harmed, hunarmed⟩ := State.framed_eq (s := s) (at_ := at_) (State.bayOk_lt hok) hnone
  refine ⟨t, hexec, honly, hno, fun h => ?_, fun h => ?_, fun h => ?_⟩
  · rw [hhalt h]
    exact ⟨rfl, State.frameLoaded_bay⟩
  · rw [hrun h]
    exact harmed
  · rw [hrun h]
    exact hunarmed
end Sys2Proof

/-! # The words of engine instructions (R187 to R189) -/

namespace Sys2Proof.Machine
open Sys2Proof

/-! ## From an instruction to its word and back -/

/-- The word `w` fits in 32 bits and stands for `i` in some bay and context. -/
def wordReads (i : Instr) (w : Nat) : Prop := w < 2 ^ 32 ∧ ∃ b c, decodeEngine b c w = some i

section
variable {b c op v wd wa wb p size la pa lb pb acc n low : Nat} {imm : BitVec 16} {off14 : BitVec 14} {off13 : BitVec 13} {off20 : BitVec 20}
  {off26 : BitVec 26} {x y z : Bool} {i : Instr}

theorem flagAt_eq (n : Nat) (q : Bool) : flagAt n q = q.toNat * 2 ^ n := by
  cases q <;> simp [flagAt]

theorem flag_eq (n : Nat) (q : Bool) : (if q then 2 ^ n else 0) = q.toNat * 2 ^ n := flagAt_eq n q

theorem toNat_testBit (v n : Nat) : (v.testBit n).toNat = v / 2 ^ n % 2 := by
  rw [Nat.testBit_eq_decide_div_mod_eq]
  obtain h | h := Nat.mod_two_eq_zero_or_one (v / 2 ^ n) <;> simp [h]

/-- A flag is read back from the bit that holds it. -/
theorem testBit_of_field {n : Nat} (h : v / 2 ^ n % 2 = x.toNat) : v.testBit n = x := by
  rw [Nat.testBit_eq_decide_div_mod_eq, h]
  cases x <;> rfl

/-- What an immediate field of `n` bits holds is read back from it. -/
theorem ofNat_of_field {n : Nat} {imm : BitVec n} (h : v % 2 ^ n = imm.toNat) : BitVec.ofNat n v = imm :=
  BitVec.eq_of_toNat_eq ((BitVec.toNat_ofNat ..).trans h)

theorem decodeEngine_imm (h1 : 1 ≤ op) (h2 : op ≤ 0x1A) (hop : bits v 31 26 = op) : decodeEngine b c v = decodeI b c op v := by
  unfold decodeEngine
  rw [hop]
  dsimp only
  rw [if_neg (by omega), if_pos h2]

theorem decodeEngine_control (h : 0x2C ≤ op) (hop : bits v 31 26 = op) : decodeEngine b c v = decodeX b c op v := by
  unfold decodeEngine
  rw [hop]
  iterate 11 rw [if_neg (by omega)]

theorem wordReads_alu (h : (bayWf b && contextWf c && regWf wd && regWf wa && regWf wb) = true) (hn : n < 64)
    (hi : decodeAlu b c wd wa wb n = some i) : wordReads i (wordR 0 wd wa wb n) := by
  simp only [Bool.and_eq_true, regWf, decide_eq_true_eq] at h
  have hfields : wordR 0 wd wa wb n < 2 ^ 32 ∧ bits (wordR 0 wd wa wb n) 31 26 = 0 ∧ bits (wordR 0 wd wa wb n) 10 6 = 0 ∧
      bits (wordR 0 wd wa wb n) 25 21 = wd ∧ bits (wordR 0 wd wa wb n) 20 16 = wa ∧ bits (wordR 0 wd wa wb n) 15 11 = wb ∧
      bits (wordR 0 wd wa wb n) 5 0 = n := by
    unfold wordR bits
    omega
  obtain ⟨hlt, hop, hrsv, hwd, hwa, hwb, hfunc⟩ := hfields
  exact ⟨hlt, b, c, by simpa only [decodeEngine, hop, hrsv, hwd, hwa, hwb, hfunc, if_true] using hi⟩

theorem wordReads_imm {mk : Nat → Nat → BitVec 16 → Instr} (h : (bayWf b && contextWf c && regWf wd && regWf wa) = true)
    (hop : 1 ≤ op ∧ op ≤ 0x1A) (hi : ∀ v, decodeI b c op v = some (mk (bits v 25 21) (bits v 20 16) (BitVec.ofNat 16 v))) :
    wordReads (mk wd wa imm) (wordI op wd wa imm) := by
  simp only [Bool.and_eq_true, regWf, decide_eq_true_eq] at h
  have himm := imm.isLt
  have hfields : wordI op wd wa imm < 2 ^ 32 ∧ bits (wordI op wd wa imm) 31 26 = op ∧ bits (wordI op wd wa imm) 25 21 = wd ∧
      bits (wordI op wd wa imm) 20 16 = wa ∧ wordI op wd wa imm % 2 ^ 16 = imm.toNat := by
    unfold wordI bits
    omega
  obtain ⟨hlt, hopc, hwd, hwa, hval⟩ := hfields
  exact ⟨hlt, b, c, by rw [decodeEngine_imm hop.1 hop.2 hopc, hi, hwd, hwa, ofNat_of_field hval]⟩

theorem wordReads_ptr {mk : Nat → Nat → Nat → Bool → Bool → BitVec 14 → Instr}
    (h : (bayWf b && contextWf c && regWf wd && pointerWf p && sizeWf size) = true) (hop : 1 ≤ op ∧ op ≤ 0x1A)
    (hi : ∀ v, decodeI b c op v =
      some (mk (bits v 25 21) (bits v 20 18) (bits v 17 16) (v.testBit 15) (v.testBit 14) (BitVec.ofNat 14 v))) :
    wordReads (mk wd p size x y off14) (wordP op wd p size x y off14) := by
  simp only [Bool.and_eq_true, regWf, pointerWf, sizeWf, decide_eq_true_eq] at h
  have himm := off14.isLt
  have hx := x.toNat_lt
  have hy := y.toNat_lt
  generalize hv : wordP op wd p size x y off14 = v
  simp only [wordP, flag_eq] at hv
  have hfields : v < 2 ^ 32 ∧ bits v 31 26 = op ∧ bits v 25 21 = wd ∧ bits v 20 18 = p ∧ bits v 17 16 = size ∧
      v / 2 ^ 15 % 2 = x.toNat ∧ v / 2 ^ 14 % 2 = y.toNat ∧ v % 2 ^ 14 = off14.toNat := by
    unfold bits
    omega
  obtain ⟨hlt, hopc, hwd, hp, hsize, h15, h14, hval⟩ := hfields
  exact ⟨hlt, b, c, by rw [decodeEngine_imm hop.1 hop.2 hopc, hi, hwd, hp, hsize, testBit_of_field h15, testBit_of_field h14, ofNat_of_field hval]⟩

theorem wordReads_branch {mk : Nat → Nat → BitVec 13 → Instr} (h : (bayWf b && contextWf c && regWf wa && regWf wb) = true) (hn : n < 8)
    (hi : ∀ v, bits v 25 23 = n → decodeB b c v = some (mk (bits v 22 18) (bits v 17 13) (BitVec.ofNat 13 v))) :
    wordReads (mk wa wb off13) (wordB n wa wb off13) := by
  simp only [Bool.and_eq_true, regWf, decide_eq_true_eq] at h
  have himm := off13.isLt
  generalize hv : wordB n wa wb off13 = v
  have hfields : v < 2 ^ 32 ∧ bits v 31 26 = 0x28 ∧ bits v 25 23 = n ∧ bits v 22 18 = wa ∧ bits v 17 13 = wb ∧ v % 2 ^ 13 = off13.toNat := by
    unfold wordB at hv
    unfold bits
    omega
  obtain ⟨hlt, hop, hn, hwa, hwb, hval⟩ := hfields
  have hdec : decodeEngine b c v = decodeB b c v := by simp [decodeEngine, hop]
  exact ⟨hlt, b, c, by rw [hdec, hi v hn, hwa, hwb, ofNat_of_field hval]⟩

theorem wordReads_mac {mk : Nat → Nat → Nat → Nat → Nat → Nat → Nat → Bool → Bool → Instr}
    (h : (bayWf b && contextWf c && accWf acc && regWf wa && regWf wb && nibbleWf la && halfWf pa && nibbleWf lb && halfWf pb) = true)
    (hn : op < 64)
    (hi : ∀ v, bits v 31 26 = op → decodeEngine b c v = some (mk (bits v 25 24) (bits v 23 19) (bits v 18 14) (bits v 13 10) (bits v 9 8)
      (bits v 7 4) (bits v 3 2) (v.testBit 1) (v.testBit 0))) :
    wordReads (mk acc wa wb la pa lb pb x y) (wordM op acc wa wb la pa lb pb x y) := by
  simp only [Bool.and_eq_true, accWf, regWf, nibbleWf, halfWf, decide_eq_true_eq] at h
  have hx := x.toNat_lt
  have hy := y.toNat_lt
  generalize hv : wordM op acc wa wb la pa lb pb x y = v
  simp only [wordM, flagAt_eq] at hv
  have hfields : v < 2 ^ 32 ∧ bits v 31 26 = op ∧ bits v 25 24 = acc ∧ bits v 23 19 = wa ∧ bits v 18 14 = wb ∧ bits v 13 10 = la ∧
      bits v 9 8 = pa ∧ bits v 7 4 = lb ∧ bits v 3 2 = pb ∧ v / 2 ^ 1 % 2 = x.toNat ∧ v / 2 ^ 0 % 2 = y.toNat := by
    unfold bits
    omega
  obtain ⟨hlt, hop, hacc, hwa, hwb, hla, hpa, hlb, hpb, h1, h0⟩ := hfields
  exact ⟨hlt, b, c, by rw [hi v hop, hacc, hwa, hwb, hla, hpa, hlb, hpb, testBit_of_field h1, testBit_of_field h0]⟩

theorem wordReads_queue {mk : Nat → Nat → Nat → Bool → Instr}
    (h : (bayWf b && contextWf c && regWf wd && regWf wb && regWf wa) = true) (hop : 0x2C ≤ op ∧ op < 64)
    (hi : ∀ v, decodeX b c op v =
      if bits v 9 0 = 0 then some (mk (bits v 24 20) (bits v 19 15) (bits v 14 10) (v.testBit 25)) else none) :
    wordReads (mk wd wb wa x) (wordQueue op wd wb wa x) := by
  simp only [Bool.and_eq_true, regWf, decide_eq_true_eq] at h
  have hx := x.toNat_lt
  generalize hv : wordQueue op wd wb wa x = v
  simp only [wordQueue, flagAt_eq] at hv
  have hfields : v < 2 ^ 32 ∧ bits v 31 26 = op ∧ v / 2 ^ 25 % 2 = x.toNat ∧ bits v 24 20 = wd ∧ bits v 19 15 = wb ∧ bits v 14 10 = wa ∧
      bits v 9 0 = 0 := by
    unfold bits
    omega
  obtain ⟨hlt, hopc, h25, hwd, hwb, hwa, hrsv⟩ := hfields
  exact ⟨hlt, b, c, by rw [decodeEngine_control hop.1 hopc, hi, if_pos hrsv, hwd, hwb, hwa, testBit_of_field h25]⟩

/-- A word of the accumulator group (R196): its four fields. -/
theorem wordAcc_fields (hacc : acc < 4) (hn : n < 8) (hwd : wd < 32) (hlow : low < 2 ^ 16) (hv : wordAcc acc n wd low = v) :
    v < 2 ^ 32 ∧ bits v 31 26 = 0x22 ∧ bits v 25 24 = acc ∧ bits v 23 21 = n ∧ bits v 20 16 = wd ∧ v % 2 ^ 16 = low := by
  unfold wordAcc at hv
  unfold bits
  omega

theorem wordReads_acc (hacc : acc < 4) (hn : n < 8) (hwd : wd < 32) (hlow : low < 2 ^ 16)
    (hi : ∀ v, bits v 25 24 = acc → bits v 23 21 = n → bits v 20 16 = wd → v % 2 ^ 16 = low → decodeAcc b c v = some i) :
    wordReads i (wordAcc acc n wd low) := by
  obtain ⟨hlt, hop, h2, h3, h4, h5⟩ := wordAcc_fields hacc hn hwd hlow rfl
  exact ⟨hlt, b, c, by simpa [decodeEngine, hop] using hi _ h2 h3 h4 h5⟩

theorem wordReads_clra (h : (bayWf b && contextWf c && accWf acc) = true) : wordReads (.clra b c acc) (wordAcc acc 0 0 0) := by
  simp only [Bool.and_eq_true, accWf, decide_eq_true_eq] at h
  refine wordReads_acc (b := b) (c := c) h.2 (by decide) (by decide) (by decide) fun v hacc hsub hw hlow => ?_
  have hrsv : bits v 15 0 = 0 := by unfold bits; omega
  simp [decodeAcc, hsub, hw, hrsv, hacc]

theorem wordReads_sac (h : (bayWf b && contextWf c && regWf wd && accWf acc && fiveWf n) = true) :
    wordReads (.sac b c wd acc n x y z) (wordAcc acc 1 wd (n % 32 * 2 ^ 11 + flagAt 10 x + flagAt 9 y + flagAt 8 z)) := by
  simp only [Bool.and_eq_true, regWf, accWf, fiveWf, decide_eq_true_eq] at h
  have hx := x.toNat_lt
  have hy := y.toNat_lt
  have hz := z.toNat_lt
  simp only [flagAt_eq]
  refine wordReads_acc (b := b) (c := c) (by omega) (by decide) (by omega) (by omega) fun v hacc hsub hw hlow => ?_
  have hfields : bits v 7 0 = 0 ∧ bits v 15 11 = n ∧ v / 2 ^ 10 % 2 = x.toNat ∧ v / 2 ^ 9 % 2 = y.toNat ∧ v / 2 ^ 8 % 2 = z.toNat := by
    unfold bits
    omega
  obtain ⟨hrsv, hn, h10, h9, h8⟩ := hfields
  simp [decodeAcc, hsub, hw, hrsv, hacc, hn, testBit_of_field h10, testBit_of_field h9, testBit_of_field h8]

theorem wordReads_mta (h : (bayWf b && contextWf c && accWf acc && regWf wd && nibbleWf n) = true) :
    wordReads (.mta b c acc wd n) (wordAcc acc 2 wd (n % 16 * 2 ^ 12)) := by
  simp only [Bool.and_eq_true, regWf, accWf, nibbleWf, decide_eq_true_eq] at h
  refine wordReads_acc (b := b) (c := c) (by omega) (by decide) (by omega) (by omega) fun v hacc hsub hw hlow => ?_
  have hfields : bits v 11 0 = 0 ∧ bits v 15 12 = n := by
    unfold bits
    omega
  simp [decodeAcc, hsub, hw, hacc, hfields]

theorem wordReads_mfa {mk : Nat → Nat → Instr} (h : (bayWf b && contextWf c && regWf wd && accWf acc) = true) (hn : n < 8)
    (hi : ∀ v, bits v 23 21 = n → bits v 15 0 = 0 → decodeAcc b c v = some (mk (bits v 20 16) (bits v 25 24))) :
    wordReads (mk wd acc) (wordAcc acc n wd 0) := by
  simp only [Bool.and_eq_true, regWf, accWf, decide_eq_true_eq] at h
  refine wordReads_acc (b := b) (c := c) (by omega) hn (by omega) (by decide) fun v hacc hsub hw hlow => ?_
  rw [hi v hsub (by unfold bits; omega), hw, hacc]

/-- A word of the pointer group (R194): its three fields and the immediate. -/
theorem wordReads_pointer (hwd : wd < 32) (hp : p < 8) (hn : n < 4) (hlow : low < 2 ^ 16)
    (hi : ∀ v, bits v 25 21 = wd → bits v 20 18 = p → bits v 17 16 = n → v % 2 ^ 16 = low → decodePtr b c v = some i) :
    wordReads i (wordPtr wd p n low) := by
  have hfields : ∀ v, v = wordPtr wd p n low →
      v < 2 ^ 32 ∧ bits v 31 26 = 0x1C ∧ bits v 25 21 = wd ∧ bits v 20 18 = p ∧ bits v 17 16 = n ∧ v % 2 ^ 16 = low := by
    unfold wordPtr bits
    omega
  obtain ⟨hlt, hop, h2, h3, h4, h5⟩ := hfields _ rfl
  exact ⟨hlt, b, c, by simpa [decodeEngine, hop] using hi _ h2 h3 h4 h5⟩

theorem wordReads_movp (h : (bayWf b && contextWf c && pointerWf p && regWf wd) = true) : wordReads (.movp b c p wd) (wordPtr wd p 0 0) := by
  simp only [Bool.and_eq_true, regWf, pointerWf, decide_eq_true_eq] at h
  refine wordReads_pointer (b := b) (c := c) h.2 h.1.2 (by decide) (by decide) fun v hw hp hsub hlow => ?_
  have hrsv : bits v 15 0 = 0 := by unfold bits; omega
  simp [decodePtr, hsub, hw, hrsv, hp]

theorem wordReads_mfp (h : (bayWf b && contextWf c && regWf wd && pointerWf p) = true) : wordReads (.mfp b c wd p) (wordPtr wd p 1 0) := by
  simp only [Bool.and_eq_true, regWf, pointerWf, decide_eq_true_eq] at h
  refine wordReads_pointer (b := b) (c := c) h.1.2 h.2 (by decide) (by decide) fun v hw hp hsub hlow => ?_
  have hrsv : bits v 15 0 = 0 := by unfold bits; omega
  simp [decodePtr, hsub, hw, hrsv, hp]

theorem wordReads_addp (h : (bayWf b && contextWf c && pointerWf p) = true) : wordReads (.addp b c p imm) (wordPtr 0 p 2 imm.toNat) := by
  simp only [Bool.and_eq_true, pointerWf, decide_eq_true_eq] at h
  refine wordReads_pointer (b := b) (c := c) (by decide) h.2 (by decide) imm.isLt fun v hw hp hsub hlow => ?_
  simp only [decodePtr, hsub, hw, hp, ofNat_of_field hlow, if_true]

/-! ### Control flow and the instructions of their own opcode -/

theorem wordReads_stc (h : (bayWf b && contextWf c && regWf wd && regWf wa && regWf wb) = true) :
    wordReads (.stc b c wd wa wb) (wordR 0x1B wd wa wb 0) := by
  simp only [Bool.and_eq_true, regWf, decide_eq_true_eq] at h
  generalize hv : wordR 0x1B wd wa wb 0 = v
  have hfields : v < 2 ^ 32 ∧ bits v 31 26 = 0x1B ∧ bits v 10 0 = 0 ∧ bits v 25 21 = wd ∧ bits v 20 16 = wa ∧ bits v 15 11 = wb := by
    unfold wordR at hv
    unfold bits
    omega
  exact ⟨hfields.1, b, c, by simp [decodeEngine, hfields]⟩

theorem wordReads_bdec (h : (bayWf b && contextWf c && regWf wa) = true) :
    wordReads (.bdec b c wa x off20) (0x29 * 2 ^ 26 + flagAt 25 x + wa % 32 * 2 ^ 20 + off20.toNat) := by
  simp only [Bool.and_eq_true, regWf, decide_eq_true_eq] at h
  have hx := x.toNat_lt
  have himm := off20.isLt
  generalize hv : (_ + _ : Nat) = v
  rw [flagAt_eq] at hv
  have hfields : v < 2 ^ 32 ∧ bits v 31 26 = 0x29 ∧ v / 2 ^ 25 % 2 = x.toNat ∧ bits v 24 20 = wa ∧ v % 2 ^ 20 = off20.toNat := by
    unfold bits
    omega
  obtain ⟨hlt, hop, h25, hwa, hval⟩ := hfields
  exact ⟨hlt, b, c, by simp [decodeEngine, hop, hwa, testBit_of_field h25, ofNat_of_field hval]⟩

theorem wordReads_jump {mk : BitVec 26 → Instr} (hop : op < 64)
    (hi : ∀ v, bits v 31 26 = op → decodeEngine b c v = some (mk (BitVec.ofNat 26 v))) : wordReads (mk off26) (op * 2 ^ 26 + off26.toNat) := by
  have himm := off26.isLt
  generalize hv : op * 2 ^ 26 + off26.toNat = v
  have hfields : v < 2 ^ 32 ∧ bits v 31 26 = op ∧ v % 2 ^ 26 = off26.toNat := by
    unfold bits
    omega
  obtain ⟨hlt, hopc, hval⟩ := hfields
  exact ⟨hlt, b, c, by rw [hi v hopc, ofNat_of_field hval]⟩

/-- A word with an opcode of 0x2C and above is read by `decodeX`. -/
theorem wordReads_control (hop : 0x2C ≤ op ∧ op < 64) (hlow : low < 2 ^ 26) (hi : ∀ v, v % 2 ^ 26 = low → decodeX b c op v = some i) :
    wordReads i (op * 2 ^ 26 + low) := by
  have hfields : op * 2 ^ 26 + low < 2 ^ 32 ∧ bits (op * 2 ^ 26 + low) 31 26 = op := by
    unfold bits
    omega
  exact ⟨hfields.1, b, c, (decodeEngine_control hop.1 hfields.2).trans (hi _ (by omega))⟩

theorem wordReads_jr (h : (bayWf b && contextWf c && regWf wa) = true) : wordReads (.jr b c wa) (0x2C * 2 ^ 26 + wa % 32 * 2 ^ 16) := by
  simp only [Bool.and_eq_true, regWf, decide_eq_true_eq] at h
  refine wordReads_control (b := b) (c := c) (by decide) (by omega) fun v hv => ?_
  have hfields : bits v 25 21 = 0 ∧ bits v 15 0 = 0 ∧ bits v 20 16 = wa := by
    unfold bits
    omega
  simp [decodeX, hfields]

theorem wordReads_loop (h : (bayWf b && contextWf c && regWf wa && fiveWf n) = true) :
    wordReads (.loop b c wa n x) (0x2D * 2 ^ 26 + flagAt 25 x + wa % 32 * 2 ^ 20 + n % 32) := by
  simp only [Bool.and_eq_true, regWf, fiveWf, decide_eq_true_eq] at h
  have hx := x.toNat_lt
  rw [flagAt_eq, Nat.add_assoc, Nat.add_assoc]
  refine wordReads_control (b := b) (c := c) (by decide) (by omega) fun v hv => ?_
  have hfields : bits v 19 5 = 0 ∧ bits v 24 20 = wa ∧ bits v 4 0 = n ∧ v / 2 ^ 25 % 2 = x.toNat := by
    unfold bits
    omega
  obtain ⟨hrsv, hwa, hlen, h25⟩ := hfields
  simp [decodeX, hrsv, hwa, hlen, testBit_of_field h25]

theorem wordReads_rot (h : (bayWf b && contextWf c && nibbleWf n) = true) : wordReads (.rot b c n) (0x2E * 2 ^ 26 + n % 16) := by
  simp only [Bool.and_eq_true, nibbleWf, decide_eq_true_eq] at h
  refine wordReads_control (b := b) (c := c) (by decide) (by omega) fun v hv => ?_
  have hfields : bits v 24 4 = 0 ∧ bits v 3 0 = n ∧ v / 2 ^ 25 % 2 = false.toNat := by
    unfold bits
    rw [Bool.toNat_false]
    omega
  obtain ⟨hrsv, hk, h25⟩ := hfields
  simp [decodeX, hrsv, hk, testBit_of_field h25]

theorem wordReads_rotZ : wordReads (.rotZ b c) (0x2E * 2 ^ 26 + 2 ^ 25) := by
  refine wordReads_control (b := b) (c := c) (by decide) (by decide) fun v hv => ?_
  have hfields : bits v 24 4 = 0 ∧ bits v 3 0 = 0 ∧ v / 2 ^ 25 % 2 = true.toNat := by
    unfold bits
    rw [Bool.toNat_true]
    omega
  obtain ⟨hrsv, hk, h25⟩ := hfields
  simp [decodeX, hrsv, hk, testBit_of_field h25]

/-- TIME and FSYNC: one register and nothing else. -/
theorem wordReads_one {mk : Nat → Instr} (h : (bayWf b && contextWf c && regWf wd) = true) (hop : 0x2C ≤ op ∧ op < 64)
    (hi : ∀ v, bits v 20 0 = 0 → decodeX b c op v = some (mk (bits v 25 21))) : wordReads (mk wd) (op * 2 ^ 26 + wd % 32 * 2 ^ 21) := by
  simp only [Bool.and_eq_true, regWf, decide_eq_true_eq] at h
  refine wordReads_control (b := b) (c := c) hop (by omega) fun v hv => ?_
  have hfields : bits v 20 0 = 0 ∧ bits v 25 21 = wd := by
    unfold bits
    omega
  rw [hi v hfields.1, hfields.2]

theorem wordReads_wfe (h : (bayWf b && contextWf c && regWf wd && regWf wa && regWf wb) = true) :
    wordReads (.wfe b c wd wa wb) (wordR 0x33 wd wa wb 0) := by
  simp only [Bool.and_eq_true, regWf, decide_eq_true_eq] at h
  rw [wordR, Nat.add_assoc, Nat.add_assoc, Nat.add_assoc]
  refine wordReads_control (b := b) (c := c) (by decide) (by omega) fun v hv => ?_
  have hfields : bits v 10 0 = 0 ∧ bits v 25 21 = wd ∧ bits v 20 16 = wa ∧ bits v 15 11 = wb := by
    unfold bits
    omega
  simp [decodeX, hfields]

theorem wordReads_stim (h : (bayWf b && contextWf c && stimPortWf p && regWf wa && sizeWf size) = true) :
    wordReads (.stim b c p wa size) (0x35 * 2 ^ 26 + p % 256 * 2 ^ 18 + wa % 32 * 2 ^ 13 + size % 4 * 2 ^ 11) := by
  simp only [Bool.and_eq_true, regWf, stimPortWf, sizeWf, decide_eq_true_eq] at h
  rw [Nat.add_assoc, Nat.add_assoc]
  refine wordReads_control (b := b) (c := c) (by decide) (by omega) fun v hv => ?_
  have hfields : bits v 10 0 = 0 ∧ bits v 25 18 = p ∧ bits v 17 13 = wa ∧ bits v 12 11 = size := by
    unfold bits
    omega
  simp [decodeX, hfields]

theorem wordReads_brk : wordReads (.brk b c imm) (0x36 * 2 ^ 26 + imm.toNat) := by
  have himm := imm.isLt
  refine wordReads_control (b := b) (c := c) (by decide) (by omega) fun v hv => ?_
  have hfields : bits v 25 16 = 0 ∧ v % 2 ^ 16 = imm.toNat := by
    unfold bits
    omega
  simp [decodeX, hfields.1, ofNat_of_field hfields.2]

theorem wordReads_mfs (h : (bayWf b && contextWf c && regWf wd && numWf n) = true) :
    wordReads (.mfs b c wd n) (0x37 * 2 ^ 26 + wd % 32 * 2 ^ 21 + n % 256) := by
  simp only [Bool.and_eq_true, regWf, numWf, decide_eq_true_eq] at h
  rw [Nat.add_assoc]
  refine wordReads_control (b := b) (c := c) (by decide) (by omega) fun v hv => ?_
  have hfields : bits v 20 8 = 0 ∧ bits v 25 21 = wd ∧ bits v 7 0 = n := by
    unfold bits
    omega
  simp [decodeX, hfields]

theorem wordReads_mts (h : (bayWf b && contextWf c && regWf wa && numWf n) = true) :
    wordReads (.mts b c wa n) (0x38 * 2 ^ 26 + wa % 32 * 2 ^ 16 + n % 256) := by
  simp only [Bool.and_eq_true, regWf, numWf, decide_eq_true_eq] at h
  rw [Nat.add_assoc]
  refine wordReads_control (b := b) (c := c) (by decide) (by omega) fun v hv => ?_
  have hfields : bits v 25 21 = 0 ∧ bits v 15 8 = 0 ∧ bits v 20 16 = wa ∧ bits v 7 0 = n := by
    unfold bits
    omega
  simp [decodeX, hfields]

/-- FENCE, IDLE and NOP: an opcode and nothing else. -/
theorem wordReads_bare (hop : 0x2C ≤ op ∧ op < 64) (hi : ∀ v, bits v 25 0 = 0 → decodeX b c op v = some i) : wordReads i (op * 2 ^ 26) := by
  rw [← Nat.add_zero (op * 2 ^ 26)]
  exact wordReads_control (b := b) (c := c) hop (by decide) fun v hv => hi v (by unfold bits; omega)

/-- The word of an instruction stands for it. -/
theorem wordReads_encode {w : Nat} (hwf : i.wf = true) (hw : encodeEngine i = some w) : wordReads i w := by
  cases i with
  | add | sub | and | or | xor | shl | shr | sar | ror | slt | sltu | min | max | minu | maxu | mul | mulh | mulhu | clz =>
    cases hw
    exact wordReads_alu hwf (by decide) rfl
  | addi | andi | ori | xori | slti | sltui | movhi | shi | ldw | ldh | ldhu | ldb | ldbu | stw | sth | stb | ldl =>
    cases hw
    exact wordReads_imm hwf (by decide) fun _ => rfl
  | ldp | stp => cases hw; exact wordReads_ptr hwf (by decide) fun _ => rfl
  | stc => cases hw; exact wordReads_stc hwf
  | movp => cases hw; exact wordReads_movp hwf
  | mfp => cases hw; exact wordReads_mfp hwf
  | addp => cases hw; exact wordReads_addp hwf
  | mac | msu => cases hw; exact wordReads_mac hwf (by decide) fun v hop => by simp [decodeEngine, decodeM, hop]
  | clra => cases hw; exact wordReads_clra hwf
  | sac => cases hw; exact wordReads_sac hwf
  | mta => cases hw; exact wordReads_mta hwf
  | mfag | mfal => cases hw; exact wordReads_mfa hwf (by decide) fun v hsub hrsv => by simp [decodeAcc, hsub, hrsv]
  | beq | bne | blt | bge | bltu | bgeu => cases hw; exact wordReads_branch hwf (by decide) fun v hcond => by simp only [decodeB, hcond]
  | bdec => cases hw; exact wordReads_bdec hwf
  | jmp b c | call b c => cases hw; exact wordReads_jump (b := b) (c := c) (by decide) fun v hop => by simp [decodeEngine, hop]
  | jr => cases hw; exact wordReads_jr hwf
  | loop => cases hw; exact wordReads_loop hwf
  | rot => cases hw; exact wordReads_rot hwf
  | rotZ => cases hw; exact wordReads_rotZ
  | qpush | qpop => cases hw; exact wordReads_queue hwf (by decide) fun _ => rfl
  | time | fsync => cases hw; exact wordReads_one hwf (by decide) fun _ h => if_pos h
  | wfe => cases hw; exact wordReads_wfe hwf
  | stim => cases hw; exact wordReads_stim hwf
  | brk => cases hw; exact wordReads_brk
  | mfs => cases hw; exact wordReads_mfs hwf
  | mts => cases hw; exact wordReads_mts hwf
  | fence b c | idle b c | nop b c => cases hw; exact wordReads_bare (b := b) (c := c) (by decide) fun _ h => if_pos h
  | _ => exact nomatch hw
end

end Sys2Proof.Machine

namespace Sys2Proof
open Machine

/-- Settles O1, format by format: the fields of a word are read back from the places where they were put. -/
theorem engineWordRoundTrip : Obligations.EngineWordRoundTrip := by
  unfold Obligations.EngineWordRoundTrip
  exact fun _ _ => wordReads_encode
end Sys2Proof

/-! ## The word of what a word decodes to (R187 to R189) -/

namespace Sys2Proof.Machine
open Sys2Proof

section
variable {b c op v wd wa wb n : Nat} {i : Instr}

/-- A field beside what lies below it. -/
theorem bits_join (v : Nat) {hi lo : Nat} (h : lo ≤ hi + 1) : bits v hi lo * 2 ^ lo + v % 2 ^ lo = v % 2 ^ (hi + 1) := by
  have hpow : 2 ^ (hi + 1) = 2 ^ lo * 2 ^ (hi + 1 - lo) := by rw [← Nat.pow_add, Nat.add_sub_cancel' h]
  rw [hpow, Nat.mod_mul, bits, Nat.mul_comm, Nat.add_comm]

theorem bits_lt (v hi lo : Nat) : bits v hi lo < 2 ^ (hi + 1 - lo) := Nat.mod_lt _ (Nat.two_pow_pos _)

theorem toNat_testBit_bits (v n : Nat) : (v.testBit n).toNat = bits v n n := by
  rw [toNat_testBit, bits, Nat.add_sub_cancel_left, Nat.pow_one]

theorem decodeAlu_word (h : decodeAlu b c wd wa wb n = some i) : encodeEngine i = some (wordR 0 wd wa wb n) := by
  unfold decodeAlu at h
  split at h
  case h_20 => cases h
  all_goals
    cases h
    rfl

theorem wordI_of_fields (hv : v < 2 ^ 32) : wordI (bits v 31 26) (bits v 25 21) (bits v 20 16) (BitVec.ofNat 16 v) = v := by
  rw [wordI, BitVec.toNat_ofNat]
  unfold bits
  omega

theorem wordP_of_fields (hv : v < 2 ^ 32) :
    wordP (bits v 31 26) (bits v 25 21) (bits v 20 18) (bits v 17 16) (v.testBit 15) (v.testBit 14) (BitVec.ofNat 14 v) = v := by
  rw [wordP, flag_eq, flag_eq, toNat_testBit, toNat_testBit, BitVec.toNat_ofNat]
  unfold bits
  omega

theorem decodeI_word (hv : v < 2 ^ 32) (hop : bits v 31 26 = op) (h : decodeI b c op v = some i) : encodeEngine i = some v := by
  have himm := wordI_of_fields hv
  have hptr := wordP_of_fields hv
  rw [hop] at himm hptr
  unfold decodeI at h
  split at h
  case h_9 | h_10 =>
    cases h
    exact congrArg some hptr
  case h_20 => cases h
  all_goals
    cases h
    exact congrArg some himm

theorem decodePtr_word (hv : v < 2 ^ 32) (hop : bits v 31 26 = 0x1C) (h : decodePtr b c v = some i) : encodeEngine i = some v := by
  unfold decodePtr at h
  dsimp only at h
  split at h
  case h_4 => cases h
  all_goals
    split at h
    case isFalse => cases h
    cases h
    refine congrArg some ?_
    simp only [wordPtr, BitVec.toNat_ofNat]
    unfold bits at *
    omega

theorem decodeB_word (hv : v < 2 ^ 32) (hop : bits v 31 26 = 0x28) (h : decodeB b c v = some i) : encodeEngine i = some v := by
  have hword : wordB (bits v 25 23) (bits v 22 18) (bits v 17 13) (BitVec.ofNat 13 v) = v := by
    rw [wordB, BitVec.toNat_ofNat]
    unfold bits at *
    omega
  unfold decodeB at h
  dsimp only at h
  generalize bits v 25 23 = cond at h hword
  split at h
  case h_7 => cases h
  all_goals
    cases h
    exact congrArg some hword

theorem wordM_of_fields (hv : v < 2 ^ 32) :
    wordM (bits v 31 26) (bits v 25 24) (bits v 23 19) (bits v 18 14) (bits v 13 10) (bits v 9 8) (bits v 7 4) (bits v 3 2)
      (v.testBit 1) (v.testBit 0) = v := by
  have hword : v = bits v 31 26 * 2 ^ 26 + (bits v 25 24 * 2 ^ 24 + (bits v 23 19 * 2 ^ 19 + (bits v 18 14 * 2 ^ 14 +
      (bits v 13 10 * 2 ^ 10 + (bits v 9 8 * 2 ^ 8 + (bits v 7 4 * 2 ^ 4 + (bits v 3 2 * 2 ^ 2 +
      (bits v 1 1 * 2 ^ 1 + (bits v 0 0 * 2 ^ 0 + v % 2 ^ 0))))))))) := by
    rw [bits_join v (by decide), bits_join v (by decide), bits_join v (by decide), bits_join v (by decide), bits_join v (by decide),
      bits_join v (by decide), bits_join v (by decide), bits_join v (by decide), bits_join v (by decide), bits_join v (by decide),
      Nat.mod_eq_of_lt hv]
  have hacc : bits v 25 24 < 4 := bits_lt ..
  have hwa : bits v 23 19 < 32 := bits_lt ..
  have hwb : bits v 18 14 < 32 := bits_lt ..
  have hla : bits v 13 10 < 16 := bits_lt ..
  have hpa : bits v 9 8 < 4 := bits_lt ..
  have hlb : bits v 7 4 < 16 := bits_lt ..
  have hpb : bits v 3 2 < 4 := bits_lt ..
  rw [wordM, flagAt_eq, flagAt_eq, toNat_testBit_bits, toNat_testBit_bits]
  omega

theorem decodeM_word {sub : Bool} (hv : v < 2 ^ 32) (hop : bits v 31 26 = if sub then 0x21 else 0x20) :
    encodeEngine (decodeM b c v sub) = some v := by
  have hword := wordM_of_fields hv
  rw [hop] at hword
  cases sub
  · exact congrArg some hword
  · exact congrArg some hword

theorem decodeAcc_word (hv : v < 2 ^ 32) (hop : bits v 31 26 = 0x22) (h : decodeAcc b c v = some i) : encodeEngine i = some v := by
  unfold decodeAcc at h
  dsimp only at h
  split at h
  case h_6 => cases h
  all_goals
    split at h
    case isFalse => cases h
    cases h
    refine congrArg some ?_
    simp only [wordAcc, flagAt_eq, toNat_testBit]
    unfold bits at *
    omega

theorem decodeX_word (hv : v < 2 ^ 32) (hop : bits v 31 26 = op) (h : decodeX b c op v = some i) : encodeEngine i = some v := by
  unfold decodeX at h
  dsimp only at h
  split at h
  case h_3 =>
    split at h
    case isTrue => cases h
    split at h
    case isTrue hz =>
      split at h
      case isFalse => cases h
      cases h
      have hflag := toNat_testBit v 25
      rw [hz, Bool.toNat_true] at hflag
      refine congrArg some ?_
      unfold bits at *
      omega
    case isFalse hz =>
      cases h
      have hflag := toNat_testBit v 25
      rw [Bool.eq_false_iff.mpr hz, Bool.toNat_false] at hflag
      refine congrArg some ?_
      unfold bits at *
      omega
  case h_16 => cases h
  case h_2 | h_4 | h_5 =>
    split at h
    case isFalse => cases h
    cases h
    refine congrArg some ?_
    simp only [wordQueue, flagAt_eq, toNat_testBit]
    unfold bits at *
    omega
  case h_7 | h_10 =>
    split at h
    case isFalse => cases h
    cases h
    refine congrArg some ?_
    simp only [wordR, BitVec.toNat_ofNat]
    unfold bits at *
    omega
  all_goals
    split at h
    case isFalse => cases h
    cases h
    refine congrArg some ?_
    unfold bits at *
    omega

/-- The encoder gives an instruction the word that it was decoded from. -/
theorem decodeEngine_word (hv : v < 2 ^ 32) (h : decodeEngine b c v = some i) : encodeEngine i = some v := by
  generalize hop : bits v 31 26 = op at h
  unfold decodeEngine at h
  rw [hop] at h
  dsimp only at h
  split at h
  case isTrue hzero =>
    split at h
    case isFalse => cases h
    case isTrue hrsv =>
      rw [decodeAlu_word h]
      refine congrArg some ?_
      unfold wordR
      unfold bits at *
      omega
  split at h
  case isTrue => exact decodeI_word hv hop h
  split at h
  case isTrue hstc =>
    split at h
    case isFalse => cases h
    case isTrue hrsv =>
      cases h
      refine congrArg some ?_
      unfold wordR
      unfold bits at *
      omega
  split at h
  case isTrue hptr => exact decodePtr_word hv (hop.trans hptr) h
  split at h
  case isTrue hmac =>
    cases h
    exact decodeM_word hv (hop.trans hmac)
  split at h
  case isTrue hmsu =>
    cases h
    exact decodeM_word hv (hop.trans hmsu)
  split at h
  case isTrue hacc => exact decodeAcc_word hv (hop.trans hacc) h
  split at h
  case isTrue hb => exact decodeB_word hv (hop.trans hb) h
  split at h
  case isTrue hbdec =>
    cases h
    refine congrArg some ?_
    simp only [flagAt_eq, toNat_testBit, BitVec.toNat_ofNat]
    unfold bits at *
    omega
  split at h
  case isTrue hjmp =>
    cases h
    refine congrArg some ?_
    simp only [BitVec.toNat_ofNat]
    unfold bits at *
    omega
  split at h
  case isTrue hcall =>
    cases h
    refine congrArg some ?_
    simp only [BitVec.toNat_ofNat]
    unfold bits at *
    omega
  exact decodeX_word hv hop h
end
end Sys2Proof.Machine

namespace Sys2Proof
open Machine

/-- Settles O2, group by group of the opcode map: the fields of a word, put back in their places, are the word. -/
theorem engineWordUnique : Obligations.EngineWordUnique := by
  unfold Obligations.EngineWordUnique
  exact fun _ _ _ _ => decodeEngine_word

/-- Settles O3: each word is evaluated. -/
theorem engineWordsOfTheManual : Obligations.EngineWordsOfTheManual := by
  unfold Obligations.EngineWordsOfTheManual
  intro b c
  exact ⟨rfl, rfl, rfl, rfl, rfl, rfl, rfl, rfl, rfl, rfl, rfl, rfl, rfl, rfl, rfl, rfl, rfl⟩
end Sys2Proof

/-! # How an engine instruction issues and completes (R178, R182, R198, R205 to R207) -/

namespace Sys2Proof.Machine
open Sys2Proof

/-! ## The state in which an instruction takes effect -/

section
variable {s t : State} {b c k pc : Nat} {stc : Bool} {f : State → State} {g : CtxSt → CtxSt} {v : CtxSt}

theorem State.sramWord_logOnly {w : Nat} {write : Bool} : s.logOnly (s.sramWord b w write).2 := .ite State.logOnly.refl.storeError .refl

/-- What the fetch leaves of the state: it may count and log an error. -/
theorem State.fetched_logOnly : s.logOnly (s.fetched b c) := by
  unfold State.fetched State.fetchCheck
  rw [apply_ite Prod.snd]
  exact .ite .refl State.sramWord_logOnly

/-- What counting and logging an error leaves as it was. -/
theorem State.logOnly.engine (h : s.logOnly t) : t.ctxs = s.ctxs ∧ t.dbgs = s.dbgs ∧ t.bays = s.bays ∧ t.fuses = s.fuses := by
  unfold State.logOnly at h
  rw [h]
  exact ⟨rfl, rfl, rfl, rfl⟩

theorem State.dbg_congr (h : t.dbgs = s.dbgs) : t.dbg k = s.dbg k := by
  unfold State.dbg
  rw [h]

theorem State.cx_congr (h : t.ctxs = s.ctxs) : t.cx b c = s.cx b c := by
  unfold State.cx State.ctx
  rw [h]

theorem State.canIssue_lt (h : s.canIssue b c = true) : b < 128 ∧ c < 32 := by
  simp only [State.canIssue, State.engineOn, State.bayOk, Bool.and_eq_true, decide_eq_true_eq] at h
  obtain ⟨⟨⟨⟨⟨⟨hb, -⟩, -⟩, -⟩, hc⟩, -⟩, -⟩ := h
  exact ⟨hb, hc⟩

theorem State.bayHere_of_canIssue (h : s.canIssue b c = true) : s.bayHere b = true := by
  simp only [State.canIssue, State.engineOn, Bool.and_eq_true] at h
  obtain ⟨⟨⟨⟨⟨hok, -⟩, -⟩, -⟩, -⟩, -⟩ := h
  exact State.bayHere_of_ok hok

/-- No halt is deferred: nothing follows an instruction. -/
theorem State.settleHalt_none (h : (s.dbg b).deferred = none) : s.settleHalt b stc = s := by
  unfold State.settleHalt
  rw [h]

/-- An instruction in whose way nothing stands has its own effect in the state that its fetch leaves. -/
theorem State.issue_of_mayIssue (h : s.mayIssue b c) : s.issue b c stc f = (f (s.fetched b c)).settleHalt b stc := by
  obtain ⟨hcan, hpend, hpc, hfetch, -⟩ := h
  unfold State.cx at hpend
  unfold State.issue
  rw [if_pos hcan, hpend]
  dsimp only
  rw [if_neg (by omega), if_neg (by rw [hfetch]; decide)]
  rfl

/-- With no halt deferred by its effect either, that is all. -/
theorem State.issue_eq (h : s.mayIssue b c) (hd : ((f (s.fetched b c)).dbg b).deferred = none) :
    s.issue b c stc f = f (s.fetched b c) := by
  rw [State.issue_of_mayIssue h, State.settleHalt_none hd]

theorem State.deferred_fetched (h : s.mayIssue b c) : ((s.fetched b c).dbg b).deferred = none := by
  obtain ⟨-, -, -, -, hnone⟩ := h
  exact hnone

/-! ## Completion -/

theorem wordPlace (n : Nat) : n / 4 % 2 ^ 30 * 4 = n / 4 * 4 % 2 ^ 32 := by omega

theorem State.setPc_pcOf : (s.setPc b c pc).pcOf b c = pc / 4 * 4 % 2 ^ 32 := by
  unfold State.setPc State.pcOf
  rw [State.rd_wr_same]
  exact wordPlace pc

theorem State.setPc_cx : (s.setPc b c pc).cx b c = s.cx b c := rfl

theorem State.modCtx_cx : (s.modCtx b c g).cx b c = g (s.cx b c) := State.ctx_setCtx_same ..

theorem State.modCtx_pcOf : (s.modCtx b c g).pcOf b c = s.pcOf b c := rfl

/-- What writes of the context's own state and of its PC may change. -/
theorem State.onlyCtx_setCtx_setPc : s.onlyCtx ((s.setCtx (b * 32 + c) v).setPc b c pc) b c :=
  ⟨rfl, fun _ hk => Tab.get_put_ne _ _ _ hk, fun _ hk => Tab.get_put_ne _ _ _ hk⟩

theorem State.onlyCtx_setPc : s.onlyCtx (s.setPc b c pc) b c := ⟨rfl, fun _ _ => rfl, fun _ hk => Tab.get_put_ne _ _ _ hk⟩

theorem State.onlyCtx_modCtx : s.onlyCtx (s.modCtx b c g) b c := ⟨rfl, fun _ hk => Tab.get_put_ne _ _ _ hk, fun _ _ => rfl⟩

theorem State.onlyCtx.trans {u : State} (h : s.onlyCtx t b c) (h' : t.onlyCtx u b c) : s.onlyCtx u b c := by
  obtain ⟨hst, hctx, hflds⟩ := h
  obtain ⟨hst', hctx', hflds'⟩ := h'
  refine ⟨?_, fun k hk => (hctx' k hk).trans (hctx k hk), fun k hk => (hflds' k hk).trans (hflds k hk)⟩
  rw [hst'.trans (by rw [hst])]

/-- The loop's own state is written only where it changes. -/
theorem State.complete_eq : (s.complete b c = s.setPc b c ((s.cx b c).nextPc (s.pcOf b c)) ∧ (s.cx b c).afterBody (s.pcOf b c) = s.cx b c) ∨
    s.complete b c =
      (s.setCtx (b * 32 + c) ((s.cx b c).afterBody (s.pcOf b c))).setPc b c ((s.cx b c).nextPc (s.pcOf b c)) := by
  cases hl : (s.ctx (b * 32 + c)).loop with
  | none => simp only [State.complete, CtxSt.afterBody, CtxSt.nextPc, State.cx, hl, and_self, true_or]
  | some l =>
    simp only [State.complete, CtxSt.afterBody, CtxSt.nextPc, State.cx, hl]
    by_cases hlast : s.pcOf b c = l.last
    · right
      by_cases hcount : l.count ≤ 1
      · simp only [hlast, hcount, Nat.not_lt.mpr hcount, if_true, and_false, if_false]
        cases l.rotl <;> rfl
      · simp only [hlast, hcount, Nat.not_le.mp hcount, if_true, and_true, if_false]
        cases l.rotl <;> rfl
    · left
      simp only [hlast, if_false, false_and, and_self]

/-- An instruction completes: the PC moves on, and the loop with it. -/
theorem State.complete_completes : s.completes (s.complete b c) b c (s.cx b c) := by
  obtain ⟨heq, hbody⟩ | heq := State.complete_eq (s := s) (b := b) (c := c)
  · rw [heq]
    exact ⟨State.onlyCtx_setPc, hbody.symm, State.setPc_pcOf⟩
  · rw [heq]
    exact ⟨State.onlyCtx_setCtx_setPc, State.ctx_setCtx_same .., State.setPc_pcOf⟩

/-- An instruction changes its context's own state by `g` and completes. -/
theorem State.modCtx_complete_completes : s.completes ((s.modCtx b c g).complete b c) b c (g (s.cx b c)) := by
  obtain ⟨honly, hcx, hpc⟩ := State.complete_completes (s := s.modCtx b c g) (b := b) (c := c)
  rw [State.modCtx_cx] at hcx hpc
  exact ⟨State.onlyCtx_modCtx.trans honly, hcx, hpc⟩

theorem State.onlyCtx.dbg (h : s.onlyCtx t b c) : t.dbg k = s.dbg k := by
  rw [h.1]
  rfl

/-- An instruction whose own effect is in its context alone. -/
theorem State.issue_onlyCtx (h : s.mayIssue b c) (hf : (s.fetched b c).onlyCtx (f (s.fetched b c)) b c) : s.issue b c stc f = f (s.fetched b c) := by
  refine State.issue_eq h ?_
  rw [hf.dbg]
  exact State.deferred_fetched h

theorem State.issue_of_completes (h : s.mayIssue b c) (hf : (s.fetched b c).completes (f (s.fetched b c)) b c v) :
    (s.fetched b c).completes (s.issue b c stc f) b c v := by
  rw [State.issue_onlyCtx h hf.1]
  exact hf

/-- An instruction whose own effect changes its context's own state and completes. -/
theorem State.issue_modCtx (h : s.mayIssue b c) (hf : f (s.fetched b c) = ((s.fetched b c).modCtx b c g).complete b c) :
    (s.fetched b c).completes (s.issue b c stc f) b c (g ((s.fetched b c).cx b c)) :=
  State.issue_of_completes h (hf ▸ State.modCtx_complete_completes)

theorem State.result_eq {wd : Nat} {x : BitVec 32} : s.result b c wd x = (s.modCtx b c fun v => v.setW wd x).complete b c := rfl

/-- A result written after a change of the context's own state. -/
theorem State.modCtx_result_completes {wd : Nat} {x : BitVec 32} : s.completes ((s.modCtx b c g).result b c wd x) b c ((g (s.cx b c)).setW wd x) := by
  obtain ⟨honly, hcx, hpc⟩ := State.modCtx_complete_completes (s := s.modCtx b c g) (b := b) (c := c) (g := fun v => v.setW wd x)
  rw [State.modCtx_cx] at hcx hpc
  exact ⟨State.onlyCtx_modCtx.trans honly, hcx, hpc⟩

theorem State.issue_completes {G : State → CtxSt → CtxSt} (h : s.mayIssue b c) :
    (s.fetched b c).completes (s.issue b c stc fun s => (s.modCtx b c (G s)).complete b c) b c (G (s.fetched b c) ((s.fetched b c).cx b c)) :=
  State.issue_modCtx h rfl

/-- `i` writes what `x` gives for its context's own state to the register `wd` and completes. -/
theorem State.alu_completes {wd wa wb : Nat} {x : BitVec 32 → BitVec 32 → BitVec 32} (h : s.mayIssue b c) :
    (s.fetched b c).completes (s.alu b c wd wa wb x) b c
      (((s.fetched b c).cx b c).setW wd (x (((s.fetched b c).cx b c).getW wa) (((s.fetched b c).cx b c).getW wb))) :=
  State.issue_completes (G := fun s v => v.setW wd (x ((s.cx b c).getW wa) ((s.cx b c).getW wb))) h

theorem State.aluImm_completes {wd wa : Nat} {x : BitVec 32 → BitVec 32} (h : s.mayIssue b c) :
    (s.fetched b c).completes (s.aluImm b c wd wa x) b c (((s.fetched b c).cx b c).setW wd (x (((s.fetched b c).cx b c).getW wa))) :=
  State.issue_completes (G := fun s v => v.setW wd (x ((s.cx b c).getW wa))) h
end
end Sys2Proof.Machine

/-! # The ALU group and the immediate instructions (R190, R191) -/

namespace Sys2Proof.Machine
open Sys2Proof

/-! ## The table's results and the model's -/

section
variable {s : State} {b c wd wa wb : Nat} {imm : BitVec 16} {i : Instr}

theorem add_ofNat (x y : BitVec 32) : x + y = BitVec.ofNat 32 (x.toNat + y.toNat) := BitVec.eq_of_toNat_eq (by simp)

theorem sub_ofInt (x y : BitVec 32) : x - y = BitVec.ofInt 32 (x.toInt - y.toInt) := BitVec.eq_of_toInt_eq (by simp)

theorem shl_ofNat (x : BitVec 32) (n : Nat) : x <<< n = BitVec.ofNat 32 (x.toNat * 2 ^ n) :=
  BitVec.eq_of_toNat_eq (by simp [Nat.shiftLeft_eq])

theorem shr_ofNat (x : BitVec 32) (n : Nat) : x >>> n = BitVec.ofNat 32 (x.toNat / 2 ^ n) := by
  rw [← Nat.shiftRight_eq_div_pow, ← BitVec.toNat_ushiftRight, BitVec.ofNat_toNat, BitVec.setWidth_eq]

theorem sar_ofInt (x : BitVec 32) (n : Nat) : x.sshiftRight n = BitVec.ofInt 32 (x.toInt / 2 ^ n) := by
  rw [BitVec.sshiftRight, Int.shiftRight_eq_div_pow]
  norm_cast

theorem mul_ofNat (x y : BitVec 32) : x * y = BitVec.ofNat 32 (x.toNat * y.toNat) := BitVec.eq_of_toNat_eq (by simp)

theorem oneIf_eq (p : Prop) [Decidable p] : oneIf (decide p) = if p then 1 else 0 := by
  unfold oneIf
  simp only [decide_eq_true_eq]

theorem slt_one (x y : BitVec 32) : oneIf (x.slt y) = if x.toInt < y.toInt then 1 else 0 := oneIf_eq _

theorem ult_one (x y : BitVec 32) : oneIf (x.ult y) = if x.toNat < y.toNat then 1 else 0 := oneIf_eq _

/-- The table compares the other way round than the model. -/
theorem ite_slt {α : Type} (x y : BitVec 32) (u v : α) : (if y.slt x then u else v) = if x.toInt ≤ y.toInt then v else u := by
  simp only [BitVec.slt, decide_eq_true_eq, ← Int.not_lt, ite_not]

theorem ite_ult {α : Type} (x y : BitVec 32) (u v : α) : (if y.ult x then u else v) = if x.toNat ≤ y.toNat then v else u := by
  simp only [BitVec.ult, decide_eq_true_eq, ← Nat.not_lt, ite_not]

/-- Where the operands are equal, either of them is the maximum. -/
theorem max_slt (x y : BitVec 32) : (if x.slt y then y else x) = if x.toInt ≤ y.toInt then y else x := by
  by_cases h : x.toInt = y.toInt
  · rw [BitVec.eq_of_toInt_eq h, ite_self, ite_self]
  · simp only [BitVec.slt, decide_eq_true_eq, Int.lt_iff_le_and_ne, ne_eq, h, not_false_eq_true, and_true]

theorem max_ult (x y : BitVec 32) : (if x.ult y then y else x) = if x.toNat ≤ y.toNat then y else x := by
  by_cases h : x.toNat = y.toNat
  · rw [BitVec.eq_of_toNat_eq h, ite_self, ite_self]
  · simp only [BitVec.ult, decide_eq_true_eq, Nat.lt_iff_le_and_ne, ne_eq, h, not_false_eq_true, and_true]

/-! ### Immediates -/

theorem addi_ofInt (x : BitVec 32) : x + imm.signExtend 32 = BitVec.ofInt 32 (x.toInt + imm.toInt) :=
  BitVec.eq_of_toInt_eq (by rw [BitVec.toInt_add, BitVec.toInt_signExtend_of_le (by decide), BitVec.toInt_ofInt])

theorem toNat_imm : (imm.zeroExtend 32).toNat = imm.toNat := BitVec.toNat_setWidth_of_le (by decide)

theorem and_ofNat (x y : BitVec 32) : x &&& y = BitVec.ofNat 32 (x.toNat &&& y.toNat) := by
  rw [← BitVec.toNat_and, BitVec.ofNat_toNat, BitVec.setWidth_eq]

theorem or_ofNat (x y : BitVec 32) : x ||| y = BitVec.ofNat 32 (x.toNat ||| y.toNat) := by
  rw [← BitVec.toNat_or, BitVec.ofNat_toNat, BitVec.setWidth_eq]

theorem xor_ofNat (x y : BitVec 32) : x ^^^ y = BitVec.ofNat 32 (x.toNat ^^^ y.toNat) := by
  rw [← BitVec.toNat_xor, BitVec.ofNat_toNat, BitVec.setWidth_eq]

theorem slti_one (x : BitVec 32) : oneIf (x.slt (imm.signExtend 32)) = if x.toInt < imm.toInt then 1 else 0 := by
  rw [slt_one, BitVec.toInt_signExtend_of_le (by decide)]

theorem sltui_one (x : BitVec 32) : oneIf (x.ult (imm.zeroExtend 32)) = if x.toNat < imm.toNat then 1 else 0 := by
  rw [ult_one, toNat_imm]

theorem movhi_ofNat : imm.zeroExtend 32 <<< 16 = BitVec.ofNat 32 (imm.toNat * 65536) := by
  rw [shl_ofNat, toNat_imm, show (2 : Nat) ^ 16 = 65536 from rfl]

/-! ## The instructions -/

/-- An outcome of the ALU group depends on the values of its function alone. -/
theorem alu_congr {f g : BitVec 32 → BitVec 32 → BitVec 32} (h : ∀ x y, f x y = g x y) :
    (.next (s.alu b c wd wa wb f) : Host.Outcome State Fault Refusal) = .next (s.alu b c wd wa wb g) := by
  rw [funext₂ h]

theorem aluImm_congr {f g : BitVec 32 → BitVec 32} (h : ∀ x, f x = g x) :
    (.next (s.aluImm b c wd wa f) : Host.Outcome State Fault Refusal) = .next (s.aluImm b c wd wa g) := by
  rw [funext h]

/-- Each instruction of the ALU group applies the function of its row. -/
theorem exec_aluRows {f : BitVec 32 → BitVec 32 → BitVec 32} (h : (i, f) ∈ aluRows b c wd wa wb) :
    exec i s = .next (s.alu b c wd wa wb f) := by
  simp only [aluRows, List.mem_cons, Prod.mk.injEq, List.not_mem_nil, or_false] at h
  obtain h | h | h | h | h | h | h | h | h | h | h | h | h | h | h | h | h | h | h := h <;> obtain ⟨rfl, rfl⟩ := h
  · exact alu_congr add_ofNat
  · exact alu_congr sub_ofInt
  · rfl
  · rfl
  · rfl
  · exact alu_congr fun x y => shl_ofNat x (y.toNat % 32)
  · exact alu_congr fun x y => shr_ofNat x (y.toNat % 32)
  · exact alu_congr fun x y => sar_ofInt x (y.toNat % 32)
  · rfl
  · exact alu_congr slt_one
  · exact alu_congr ult_one
  · exact alu_congr fun x y => ite_slt x y y x
  · exact alu_congr max_slt
  · exact alu_congr fun x y => ite_ult x y y x
  · exact alu_congr max_ult
  · exact alu_congr mul_ofNat
  · rfl
  · rfl
  · rfl

theorem exec_movhi : exec (.movhi b c wd 0 imm) s = .next (s.aluImm b c wd 0 fun _ => imm.zeroExtend 32 <<< 16) := by
  show execMovhi b c wd 0 imm s = _
  unfold execMovhi State.aluImm
  simp only [Nat.zero_mod, ne_eq, not_true_eq_false, if_false]

/-- Each immediate instruction applies the function of its row; the fields are ones that it allows. -/
theorem exec_immRows {f : BitVec 32 → BitVec 32} (h : (i, f) ∈ immRows b c wd wa imm) : ∃ a, exec i s = .next (s.aluImm b c wd a f) ∧
    ∀ v : CtxSt, f (v.getW a) = f (v.getW wa) := by
  simp only [immRows, List.mem_cons, Prod.mk.injEq, List.not_mem_nil, or_false] at h
  obtain h | h | h | h | h | h | h | h := h <;> obtain ⟨rfl, rfl⟩ := h
  · exact ⟨wa, aluImm_congr addi_ofInt, fun _ => rfl⟩
  · exact ⟨wa, aluImm_congr fun x => (and_ofNat x _).trans (by rw [toNat_imm]), fun _ => rfl⟩
  · exact ⟨wa, aluImm_congr fun x => (or_ofNat x _).trans (by rw [toNat_imm]), fun _ => rfl⟩
  · exact ⟨wa, aluImm_congr fun x => (xor_ofNat x _).trans (by rw [toNat_imm]), fun _ => rfl⟩
  · exact ⟨wa, aluImm_congr slti_one, fun _ => rfl⟩
  · exact ⟨wa, aluImm_congr sltui_one, fun _ => rfl⟩
  · exact ⟨0, exec_movhi.trans (aluImm_congr fun _ => movhi_ofNat), fun _ => rfl⟩
  · refine ⟨wa, ?_, fun _ => rfl⟩
    have hlt : imm.toNat % 128 < 128 := Nat.mod_lt _ (by decide)
    have himm : (BitVec.ofNat 16 (imm.toNat % 128)).toNat = imm.toNat % 128 :=
      (BitVec.toNat_ofNat ..).trans (Nat.mod_eq_of_lt (by omega))
    have hmod : imm.toNat % 128 % 32 = imm.toNat % 32 := Nat.mod_mod_of_dvd _ (by decide)
    show Host.Outcome.next (s.issue b c false _) = .next (s.issue b c false _)
    rw [himm]
    simp only [Nat.not_le.mpr hlt, if_false, hmod]
end
end Sys2Proof.Machine

namespace Sys2Proof
open Machine

/-- Settles O4, row by row: the model's operator is the function of the table. -/
theorem aluAndImmediateResults : Obligations.AluAndImmediateResults := by
  unfold Obligations.AluAndImmediateResults
  refine ⟨fun s b c wd wa wb i f hrow hmay => ⟨_, exec_aluRows hrow, State.alu_completes hmay⟩, fun s b c wd wa imm i f hrow hmay => ?_⟩
  obtain ⟨a, hexec, hval⟩ := exec_immRows (s := s) hrow
  refine ⟨_, hexec, ?_⟩
  rw [← hval]
  exact State.aluImm_completes hmay
end Sys2Proof

/-! # Exceptions of a context (R205, R206, R216, R252) -/

namespace Sys2Proof.Machine
open Sys2Proof

/-! ## The registers of a context beside the others -/

section
variable {s t : State} {b c cause info infoh : Nat} {f g : Fld} {write imprecise : Bool}

/-- The place of a field in the registers of a context, of an event or of a scheduler. -/
abbrev ctxFits (f : Fld) : Prop := f.off < 0x20 ∧ f.lo < 32

theorem ctxA_ne_evtA {e : Nat} (hb : b < 128) (hc : c < 32) (hf : ctxFits f) : key (ctxA b c) f ≠ key (evtA e) g := by
  obtain ⟨hoff, hlo⟩ := hf
  unfold key ctxA winA evtA quadA
  omega

theorem ctxA_ne_dbgEngA (hb : b < 128) (hc : c < 32) (hf : ctxFits f) : key (ctxA b c) f ≠ key (dbgEngA b) g := by
  obtain ⟨hoff, hlo⟩ := hf
  unfold key ctxA winA dbgEngA quadA
  omega

theorem ctxA_ne_schedA (hf : ctxFits f) (hg : g.off < 0x400 ∧ g.lo < 32) : key (ctxA b c) f ≠ key (schedA b) g := by
  obtain ⟨hoff, hlo⟩ := hf
  obtain ⟨hoff', hlo'⟩ := hg
  unfold key ctxA schedA
  omega

theorem evtA_ne_schedA {e : Nat} (hb : b < 128) (hf : f.off < 0x400 ∧ f.lo < 32) : key (evtA e) g ≠ key (schedA b) f := by
  obtain ⟨hoff, hlo⟩ := hf
  unfold key evtA quadA schedA winA
  omega

/-! ## The trace packet of a fault -/

/-- A trace packet changes the debug side of its engine, and no halt that is deferred; with its FIFO full, STIM_DROP counts it. -/
theorem State.tracePkt_eq {kind size port data : Nat} : (s.tracePkt b kind size c port data).core = s.core ∧
    (s.tracePkt b kind size c port data).ctxs = s.ctxs ∧ ((s.tracePkt b kind size c port data).dbg b).deferred = (s.dbg b).deferred ∧
    ∀ k, k ≠ key (dbgEngA b) R.STIM_DROP.COUNT → Tab.get regReset (s.tracePkt b kind size c port data).flds k = Tab.get regReset s.flds k := by
  unfold State.tracePkt
  split
  · extract_lets v
    split
    · exact ⟨rfl, rfl, by rw [State.dbg_setDbg_same], fun k hk => Tab.get_put_ne _ _ _ hk⟩
    · exact ⟨rfl, rfl, by rw [State.dbg_setDbg_same], fun _ _ => rfl⟩
  · exact ⟨rfl, rfl, rfl, fun _ _ => rfl⟩

theorem State.traceState_eq {kind port data : Nat} : (s.traceState b kind c port data).core = s.core ∧
    (s.traceState b kind c port data).ctxs = s.ctxs ∧ ((s.traceState b kind c port data).dbg b).deferred = (s.dbg b).deferred ∧
    ∀ k, k ≠ key (dbgEngA b) R.STIM_DROP.COUNT → Tab.get regReset (s.traceState b kind c port data).flds k = Tab.get regReset s.flds k := by
  unfold State.traceState
  split
  · exact State.tracePkt_eq
  · exact ⟨rfl, rfl, rfl, fun _ _ => rfl⟩

/-! ## The record of a fault -/

/-- `t` differs from `s` at most in register fields and in contexts' own states. -/
def State.ctxRegs (s t : State) : Prop := t = { s with flds := t.flds, ctxs := t.ctxs }

theorem State.ctxRegs.refl : s.ctxRegs s := rfl

theorem State.ctxRegs.wr {a v : Nat} (h : s.ctxRegs t) : s.ctxRegs (t.wr a f v) := by
  unfold State.ctxRegs at h
  rw [h]
  rfl

theorem State.ctxRegs.modCtx {g : CtxSt → CtxSt} (h : s.ctxRegs t) : s.ctxRegs (t.modCtx b c g) := by
  unfold State.ctxRegs at h
  rw [h]
  rfl

theorem State.ctxRegs.ite {p : Prop} {_ : Decidable p} {u : State} (ht : s.ctxRegs t) (hu : s.ctxRegs u) : s.ctxRegs (if p then t else u) := by
  split
  · exact ht
  · exact hu

/-- The context no longer runs, and is FAULTED. -/
def State.faultState (s : State) (b c : Nat) : State := (if s.ctxState b c = 3 then s.stopRunning b else s).setCtxState b c 5

/-- The record of a fault in CTX_CAUSE, CTX_INFO and CTX_INFOH. -/
def State.causeWritten (s : State) (b c cause info infoh : Nat) (write imprecise : Bool) : State :=
  ((((s.wr (ctxA b c) R.CTX_CAUSE.IMPRECISE (if imprecise then 1 else 0)).wr (ctxA b c) R.CTX_CAUSE.WRITE (if write then 1 else 0)).wr
    (ctxA b c) R.CTX_CAUSE.CAUSE cause).wr (ctxA b c) R.CTX_INFO.INFO info).wr (ctxA b c) R.CTX_INFOH.VAH infoh

/-- The context is FAULTED and its record is written; the event is not yet raised. -/
def State.recorded (s : State) (b c cause info infoh : Nat) (write imprecise : Bool) : State :=
  (((s.faultState b c).causeWritten b c cause info infoh write imprecise).wr (ctxA b c) R.CTX_STATE.PEND_ERR 0).modCtx b c
    fun v => { v with resv := none, wait := .none, pendVa := none }

theorem State.faultCtx_def : s.faultCtx b c cause info infoh write imprecise =
    (((s.recorded b c cause info infoh write imprecise).raise (4 * b + 1)).traceState b 3 c cause
      ((s.recorded b c cause info infoh write imprecise).pcOf b c)).settleHalt b false := rfl

theorem State.faultState_ctxRegs : s.ctxRegs (s.faultState b c) := by
  unfold State.faultState State.setCtxState
  exact .wr (.ite (.wr .refl) .refl)

theorem State.faultState_ctxs : (s.faultState b c).ctxs = s.ctxs := by
  unfold State.faultState State.setCtxState State.stopRunning
  rw [State.wr_ctxs, apply_ite State.ctxs, State.wr_ctxs, ite_self]

theorem State.faultState_state : (s.faultState b c).ctxState b c = 5 := State.rd_wr_same ..

theorem State.faultState_rd {a : Nat} (hactive : key a f ≠ key (schedA b) R.SCHED_STAT.ACTIVE)
    (hstate : key a f ≠ key (ctxA b c) R.CTX_STATE.STATE) : (s.faultState b c).rd a f = s.rd a f := by
  unfold State.faultState State.setCtxState
  rw [State.rd_wr_ne _ _ hstate]
  split
  · exact State.rd_wr_ne _ _ hactive
  · rfl

theorem State.causeWritten_ctxRegs (h : s.ctxRegs t) : s.ctxRegs (t.causeWritten b c cause info infoh write imprecise) :=
  .wr (.wr (.wr (.wr (.wr h))))

theorem State.causeWritten_ctxs : (s.causeWritten b c cause info infoh write imprecise).ctxs = s.ctxs := by
  unfold State.causeWritten
  simp only [State.wr_ctxs]

theorem State.causeWritten_rd {a : Nat} (hrec : ∀ g ∈ [R.CTX_CAUSE.IMPRECISE, R.CTX_CAUSE.WRITE, R.CTX_CAUSE.CAUSE, R.CTX_INFO.INFO,
    R.CTX_INFOH.VAH], key a f ≠ key (ctxA b c) g) : (s.causeWritten b c cause info infoh write imprecise).rd a f = s.rd a f := by
  simp only [List.forall_mem_cons] at hrec
  obtain ⟨himp, hwrite, hcause, hinfo, hvah, -⟩ := hrec
  unfold State.causeWritten
  rw [State.rd_wr_ne _ _ hvah, State.rd_wr_ne _ _ hinfo, State.rd_wr_ne _ _ hcause, State.rd_wr_ne _ _ hwrite, State.rd_wr_ne _ _ himp]

theorem State.causeWritten_fields (hcause : cause < 2 ^ 8) (hinfo : info < 2 ^ 32) (hinfoh : infoh < 2 ^ 16) :
    (s.causeWritten b c cause info infoh write imprecise).rd (ctxA b c) R.CTX_CAUSE.CAUSE = cause ∧
      (s.causeWritten b c cause info infoh write imprecise).rd (ctxA b c) R.CTX_INFO.INFO = info ∧
      (s.causeWritten b c cause info infoh write imprecise).rd (ctxA b c) R.CTX_INFOH.VAH = infoh ∧
      (s.causeWritten b c cause info infoh write imprecise).rd (ctxA b c) R.CTX_CAUSE.IMPRECISE = if imprecise then 1 else 0 := by
  have hne := fun f g (h : key 0 f ≠ key 0 g) => key_ne (ctxA b c) h
  unfold State.causeWritten
  refine ⟨?_, ?_, ?_, ?_⟩
  · rw [State.rd_wr_ne _ _ (hne _ _ (by decide)), State.rd_wr_ne _ _ (hne _ _ (by decide)), State.rd_wr_same]
    exact Nat.mod_eq_of_lt hcause
  · rw [State.rd_wr_ne _ _ (hne _ _ (by decide)), State.rd_wr_same]
    exact Nat.mod_eq_of_lt hinfo
  · rw [State.rd_wr_same]
    exact Nat.mod_eq_of_lt hinfoh
  · rw [State.rd_wr_ne _ _ (hne _ _ (by decide)), State.rd_wr_ne _ _ (hne _ _ (by decide)), State.rd_wr_ne _ _ (hne _ _ (by decide)),
      State.rd_wr_ne _ _ (hne _ _ (by decide)), State.rd_wr_same]
    cases imprecise
    · rfl
    · rfl

theorem State.rd_modCtx {a : Nat} {g : CtxSt → CtxSt} : (s.modCtx b c g).rd a f = s.rd a f := rfl

theorem State.recorded_ctxRegs : s.ctxRegs (s.recorded b c cause info infoh write imprecise) :=
  .modCtx (.wr (State.causeWritten_ctxRegs State.faultState_ctxRegs))

theorem State.recorded_ctxs : (s.recorded b c cause info infoh write imprecise).ctxs =
    (s.modCtx b c fun v => { v with resv := none, wait := .none, pendVa := none }).ctxs := by
  have hctxs : (((s.faultState b c).causeWritten b c cause info infoh write imprecise).wr (ctxA b c) R.CTX_STATE.PEND_ERR 0).ctxs = s.ctxs := by
    rw [State.wr_ctxs, State.causeWritten_ctxs, State.faultState_ctxs]
  unfold State.recorded State.modCtx State.setCtx State.ctx
  rw [hctxs]

/-- The fields that the record of a fault does not name stand. -/
theorem State.recorded_rd {a : Nat} (hactive : key a f ≠ key (schedA b) R.SCHED_STAT.ACTIVE)
    (hrec : ∀ g ∈ [R.CTX_CAUSE.IMPRECISE, R.CTX_CAUSE.WRITE, R.CTX_CAUSE.CAUSE, R.CTX_INFO.INFO, R.CTX_INFOH.VAH], key a f ≠ key (ctxA b c) g)
    (hstate : key a f ≠ key (ctxA b c) R.CTX_STATE.STATE) (hpend : key a f ≠ key (ctxA b c) R.CTX_STATE.PEND_ERR) :
    (s.recorded b c cause info infoh write imprecise).rd a f = s.rd a f := by
  unfold State.recorded
  rw [State.rd_modCtx, State.rd_wr_ne _ _ hpend, State.causeWritten_rd hrec, State.faultState_rd hactive hstate]

theorem State.recorded_pcOf : (s.recorded b c cause info infoh write imprecise).pcOf b c = s.pcOf b c := by
  have hne := fun g (h : key 0 R.CTX_PC.PC ≠ key 0 g) => key_ne (ctxA b c) h
  unfold State.pcOf
  rw [State.recorded_rd (ctxA_ne_schedA (by decide) (by decide)) ?_ (hne _ (by decide)) (hne _ (by decide))]
  simp only [List.forall_mem_cons]
  exact ⟨hne _ (by decide), hne _ (by decide), hne _ (by decide), hne _ (by decide), hne _ (by decide), nofun⟩

theorem State.recorded_occ (hc : c < 32) (hb : b < 128) {e : Nat} :
    (s.recorded b c cause info infoh write imprecise).rd (evtA e) R.EVT_STAT.OCC = s.rd (evtA e) R.EVT_STAT.OCC := by
  have hne := fun g (h : ctxFits g) => (ctxA_ne_evtA (e := e) (g := R.EVT_STAT.OCC) hb hc h).symm
  rw [State.recorded_rd (evtA_ne_schedA hb (by decide)) ?_ (hne _ (by decide)) (hne _ (by decide))]
  simp only [List.forall_mem_cons]
  exact ⟨hne _ (by decide), hne _ (by decide), hne _ (by decide), hne _ (by decide), hne _ (by decide), nofun⟩

/-- What the record of a fault says. -/
theorem State.recorded_fields (hcause : cause < 2 ^ 8) (hinfo : info < 2 ^ 32) (hinfoh : infoh < 2 ^ 16) :
    (s.recorded b c cause info infoh write imprecise).ctxState b c = 5 ∧
      (s.recorded b c cause info infoh write imprecise).rd (ctxA b c) R.CTX_CAUSE.CAUSE = cause ∧
      (s.recorded b c cause info infoh write imprecise).rd (ctxA b c) R.CTX_INFO.INFO = info ∧
      (s.recorded b c cause info infoh write imprecise).rd (ctxA b c) R.CTX_INFOH.VAH = infoh ∧
      (s.recorded b c cause info infoh write imprecise).rd (ctxA b c) R.CTX_CAUSE.IMPRECISE = if imprecise then 1 else 0 := by
  obtain ⟨h1, h2, h3, h4⟩ := State.causeWritten_fields (s := s.faultState b c) (b := b) (c := c) (write := write) (imprecise := imprecise)
    hcause hinfo hinfoh
  have hne := fun f g (h : key 0 f ≠ key 0 g) => key_ne (ctxA b c) h
  unfold State.recorded State.ctxState
  refine ⟨?_, ?_, ?_, ?_, ?_⟩
  all_goals rw [State.rd_modCtx, State.rd_wr_ne _ _ (hne _ _ (by decide))]
  · rw [State.causeWritten_rd]
    · exact State.faultState_state
    · simp only [List.forall_mem_cons]
      exact ⟨hne _ _ (by decide), hne _ _ (by decide), hne _ _ (by decide), hne _ _ (by decide), hne _ _ (by decide), nofun⟩
  · exact h1
  · exact h2
  · exact h3
  · exact h4
end

/-! ## The fault as a whole -/

section
variable {s : State} {b c cause info infoh : Nat} {f : Fld} {write imprecise : Bool}

theorem State.bayHere_lt (h : s.bayHere b = true) : b < 128 := by
  simp only [State.bayHere, Bool.and_eq_true, decide_eq_true_eq] at h
  exact h.1

theorem State.ctxEvt_ok (h : s.bayHere b = true) (hb : b < 128) : s.evtOk (4 * b + 1) = true := by
  have hdiv : (4 * b + 1) / 4 = b := by omega
  unfold State.evtOk
  rw [if_pos (by omega), hdiv, h]

/-- The event and the trace packet of a fault: what they leave of the state `s` in which its record is written. -/
theorem State.noted_fault (hhere : s.bayHere b = true) (hd : (s.dbg b).deferred = none) {kind port data : Nat} :
    ∃ t, (((s.raise (4 * b + 1)).traceState b kind c port data).settleHalt b false) = t ∧ t.mem = s.mem ∧ t.ctxs = s.ctxs ∧
      (t.dbg b).deferred = none ∧ s.occurred t (4 * b + 1) 1 ∧ ∀ f, c < 32 → ctxFits f → t.rd (ctxA b c) f = s.rd (ctxA b c) f := by
  have hb := State.bayHere_lt hhere
  have hregs : s.regsOnly (s.raise (4 * b + 1)) := State.raise_regsOnly
  have hrctxs : (s.raise (4 * b + 1)).ctxs = s.ctxs := by rw [hregs]
  have hrmem : (s.raise (4 * b + 1)).mem = s.mem := by rw [hregs]
  have hrdbgs : (s.raise (4 * b + 1)).dbgs = s.dbgs := by rw [hregs]
  obtain ⟨hcore, hctxs, hdbg, hflds⟩ := State.traceState_eq (s := s.raise (4 * b + 1)) (b := b) (c := c) (kind := kind) (port := port) (data := data)
  have hnone := hdbg.trans ((congrArg _ (State.dbg_congr hrdbgs)).trans hd)
  refine ⟨_, State.settleHalt_none hnone, ?_, hctxs.trans hrctxs, hnone, ?_, fun f hc hf => ?_⟩
  · simp only [State.core, Prod.mk.injEq] at hcore
    exact hcore.2.2.1.trans hrmem
  · exact (State.occurred_raise (State.ctxEvt_ok hhere hb)).congr rfl (hflds _ (evtA_ne_dbgEng (by omega) (by decide) (by decide) (by decide)))
  · exact (hflds _ (ctxA_ne_dbgEngA hb hc hf)).trans (State.raise_rd (ctxA_ne_evtA hb hc hf) (ctxA_ne_evtA hb hc hf))

/-- A context faults: its record, its own state, and one occurrence of the bay's event. No halt follows it. -/
theorem State.faultCtx_faulted (hhere : s.bayHere b = true) (hc : c < 32) (hd : (s.dbg b).deferred = none) (hcause : cause < 2 ^ 8)
    (hinfo : info < 2 ^ 32) (hinfoh : infoh < 2 ^ 16) :
    s.faulted (s.faultCtx b c cause info infoh write imprecise) b c cause info infoh ∧
      (s.faultCtx b c cause info infoh write imprecise).rd (ctxA b c) R.CTX_CAUSE.IMPRECISE = (if imprecise then 1 else 0) ∧
      ((s.faultCtx b c cause info infoh write imprecise).dbg b).deferred = none := by
  have hb := State.bayHere_lt hhere
  have hregs := State.recorded_ctxRegs (s := s) (b := b) (c := c) (cause := cause) (info := info) (infoh := infoh) (write := write)
    (imprecise := imprecise)
  have hctxs := State.recorded_ctxs (s := s) (b := b) (c := c) (cause := cause) (info := info) (infoh := infoh) (write := write)
    (imprecise := imprecise)
  obtain ⟨hstate, hcauseR, hinfoR, hvah, himp⟩ := State.recorded_fields (s := s) (b := b) (c := c) (write := write) (imprecise := imprecise)
    hcause hinfo hinfoh
  have hpc : (s.recorded b c cause info infoh write imprecise).pcOf b c = s.pcOf b c := State.recorded_pcOf
  have hocc := State.recorded_occ (s := s) (b := b) (c := c) (cause := cause) (info := info) (infoh := infoh) (write := write)
    (imprecise := imprecise) (e := 4 * b + 1) hc hb
  rw [State.faultCtx_def]
  generalize s.recorded b c cause info infoh write imprecise = r at *
  have hrdbgs : r.dbgs = s.dbgs := by rw [hregs]
  have hrmem : r.mem = s.mem := by rw [hregs]
  obtain ⟨t, ht, hmem, htctxs, hnone, hoccd, hkept⟩ := State.noted_fault (s := r) (b := b) (c := c) (kind := 3) (port := cause) (data := r.pcOf b c)
    ((State.bayHere_congr (by rw [hregs])).trans hhere) (by rw [State.dbg_congr hrdbgs, hd])
  rw [ht]
  refine ⟨⟨?_, ?_, ?_, ?_, ?_, ?_, ?_, hmem.trans hrmem, ?_⟩, ?_, hnone⟩
  · exact (hkept _ hc (by decide)).trans hstate
  · exact (hkept _ hc (by decide)).trans hcauseR
  · exact (hkept _ hc (by decide)).trans hinfoR
  · exact (hkept _ hc (by decide)).trans hvah
  · rw [← hpc]
    exact congrArg (· * 4) (hkept R.CTX_PC.PC hc (by decide))
  · rw [State.cx_congr (htctxs.trans hctxs), State.modCtx_cx]
  · intro k hk
    unfold State.ctx
    rw [htctxs, hctxs]
    exact Tab.get_put_ne _ _ _ hk
  · exact hoccd.congr hocc rfl
  · exact (hkept _ hc (by decide)).trans himp

theorem State.bayHere_fetched (h : s.mayIssue b c) : (s.fetched b c).bayHere b = true := by
  obtain ⟨-, -, -, hfuses⟩ := (State.fetched_logOnly (s := s) (b := b) (c := c)).engine
  exact (State.bayHere_congr hfuses).trans (State.bayHere_of_canIssue h.1)

/-- An instruction whose own effect is a fault. -/
theorem State.issue_faulted {stc : Bool} {e : State → State} (h : s.mayIssue b c) (hcause : cause < 2 ^ 8) (hinfo : info < 2 ^ 32)
    (he : e (s.fetched b c) = (s.fetched b c).faultCtx b c cause info 0 write false) :
    (s.fetched b c).faulted (s.issue b c stc e) b c cause info 0 := by
  obtain ⟨hfaulted, -, hnone⟩ := State.faultCtx_faulted (write := write) (imprecise := false) (State.bayHere_fetched h) (State.canIssue_lt h.1).2
    (State.deferred_fetched h) hcause hinfo (infoh := 0) (by decide)
  rw [← he] at hfaulted hnone
  rw [State.issue_eq h hnone]
  exact hfaulted
end
end Sys2Proof.Machine

/-! # Field values that an instruction does not allow (R189 to R196, R204 to R206) -/

namespace Sys2Proof.Machine
open Sys2Proof

/-! ## The words of the illegal forms -/

section
variable {op wd wa wb func p size num : Nat} {x pm : Bool} {imm : BitVec 16} {off : BitVec 14}

theorem wordR_lt (hop : op < 64) (hfunc : func < 2 ^ 11) : wordR op wd wa wb func < 2 ^ 32 := by
  unfold wordR
  omega

theorem wordI_lt (hop : op < 64) : wordI op wd wa imm < 2 ^ 32 := by
  have := imm.isLt
  unfold wordI
  omega

theorem wordP_lt (hop : op < 64) : wordP op wd p size x pm off < 2 ^ 32 := by
  have := off.isLt
  unfold wordP
  split
  all_goals
    split
    all_goals omega

theorem badP_of_forbidden (h : size = 3 ∨ (pm = true ∧ off ≠ 0)) : badP size pm off = true := by
  unfold badP
  obtain rfl | ⟨rfl, hoff⟩ := h
  · rfl
  · rw [decide_eq_true hoff]
    exact Bool.or_true _

theorem State.special_none {s : State} {b c : Nat} (h : 11 < num ∧ num < 16 ∨ 31 < num) : s.special b c num = none := by
  unfold State.special
  dsimp only
  iterate 12 rw [if_neg (by omega)]
  rw [if_neg (by omega), if_neg (by omega)]

theorem CtxSt.setSpecial_none {v : CtxSt} {y : BitVec 32}
    (h : 11 < num ∧ num < 16 ∨ 31 < num ∨ num = 3 ∨ 5 ≤ num ∧ num ≤ 8 ∨ num = 10 ∨ num = 11) : v.setSpecial num y = none := by
  unfold CtxSt.setSpecial
  iterate 7 rw [if_neg (by omega)]
end

/-- An instruction whose own effect is ILLEGAL with its word. -/
theorem State.issue_illegal {s : State} {b c w : Nat} {stc : Bool} {e : State → State} {i : Instr} (h : s.mayIssue b c)
    (hexec : exec i s = .next (s.issue b c stc e)) (hw : w < 2 ^ 32) (he : e (s.fetched b c) = (s.fetched b c).illegal b c w) :
    ∃ t, exec i s = .next t ∧ (s.fetched b c).faulted t b c 1 w 0 :=
  ⟨_, hexec, State.issue_faulted h (by decide) hw he⟩

end Sys2Proof.Machine

namespace Sys2Proof
open Machine

/-- Settles O5: each form's own effect is ILLEGAL with the word that its fields give. -/
theorem forbiddenFieldsAreIllegal : Obligations.ForbiddenFieldsAreIllegal := by
  unfold Obligations.ForbiddenFieldsAreIllegal
  intro s b c wd wa wb p size sh port num acc x pm imm off word i w hform h
  obtain ⟨rfl, hwb, hne, rfl⟩ | ⟨rfl, hwa, hne, rfl⟩ | ⟨rfl, himm, rfl⟩ | ⟨rfl, hbad, rfl⟩ | ⟨rfl, hbad, rfl⟩ | ⟨rfl, hsh, hsh', hw⟩ | ⟨rfl, hw⟩ |
    ⟨rfl, hnum, hbad, hw⟩ | ⟨rfl, hnum, hbad, hw⟩ | ⟨rfl, hnone, rfl⟩ := hform
  case _ => exact State.issue_illegal h rfl (wordR_lt (by decide) (by decide)) (if_pos (by omega))
  case _ => exact State.issue_illegal h rfl (wordI_lt (by decide)) (if_pos (by omega))
  case _ => exact State.issue_illegal h rfl (wordI_lt (by decide)) (if_pos himm)
  case _ => exact State.issue_illegal h rfl (wordP_lt (by decide)) (if_pos (badP_of_forbidden hbad))
  case _ =>
    refine State.issue_illegal h rfl (wordP_lt (by decide)) (if_pos ?_)
    rw [Bool.or_eq_true]
    obtain hsize | hx | hpm := hbad
    · exact .inl (badP_of_forbidden (.inl hsize))
    · exact .inr hx
    · exact .inl (badP_of_forbidden (.inr hpm))
  case _ =>
    cases hw
    exact State.issue_illegal h rfl (by unfold wordAcc; omega) (if_pos hsh)
  case _ =>
    cases hw
    exact State.issue_illegal h rfl (by omega) (if_pos (by decide))
  case _ =>
    cases hw
    refine State.issue_illegal h rfl (by omega) ?_
    rw [State.special_none (by omega)]
  case _ =>
    cases hw
    refine State.issue_illegal h rfl (by omega) ?_
    rw [CtxSt.setSpecial_none (by omega)]
  case _ => exact State.issue_illegal h rfl word.isLt (if_pos (by rw [hnone]; rfl))
end Sys2Proof

/-! # Loads and stores of an engine in bay SRAM (R178, R182, R192, R193) -/

namespace Sys2Proof.Machine
open Sys2Proof

/-! ## Bytes of memory -/

section
variable {s t : State} {a m n v i : Nat}

theorem State.bytes_add : s.bytes a (m + n) = s.bytes a m + 256 ^ m * s.bytes (a + m) n := by
  induction m generalizing a with
  | zero => simp [State.bytes]
  | succ m ih =>
    rw [Nat.add_right_comm, State.bytes, ih, State.bytes, Nat.add_assoc a 1 m, Nat.add_comm 1 m]
    ring

/-- A part of a number that memory holds. -/
theorem State.bytes_part {k : Nat} : s.bytes a (m + (n + k)) / 256 ^ m % 256 ^ n = s.bytes (a + m) n := by
  rw [State.bytes_add, Nat.add_mul_div_left _ _ (Nat.pow_pos (by decide)), Nat.div_eq_of_lt (State.bytes_lt ..), Nat.zero_add, State.bytes_add,
    Nat.add_mul_mod_self_left, Nat.mod_eq_of_lt (State.bytes_lt ..)]

/-- A number that memory holds byte by byte. -/
theorem State.bytes_of_byte (h : ∀ j < n, t.byte (a + j) = BitVec.ofNat 8 (v / 256 ^ j)) : t.bytes a n = v % 256 ^ n := by
  induction n generalizing a v with
  | zero => simp [State.bytes, Nat.mod_one]
  | succ n ih =>
    have hrest : t.bytes (a + 1) n = v / 256 % 256 ^ n := by
      refine ih fun j hj => ?_
      rw [Nat.add_right_comm, Nat.add_assoc, h (j + 1) (by omega), Nat.pow_succ', Nat.div_div_eq_div_mul]
    have hfirst : t.byte a = BitVec.ofNat 8 v := by simpa using h 0 (by omega)
    rw [State.bytes, hrest, hfirst, BitVec.toNat_ofNat, Nat.pow_succ' (n := n), Nat.mod_mul]

theorem State.byte_of_bytes (h : i < n) : s.byte (a + i) = BitVec.ofNat 8 (s.bytes a n / 256 ^ i) := by
  refine BitVec.eq_of_toNat_eq ?_
  have hpart := State.bytes_part (s := s) (a := a) (m := i) (n := 1) (k := n - 1 - i)
  rw [show i + (1 + (n - 1 - i)) = n by omega] at hpart
  rw [BitVec.toNat_ofNat]
  exact (Nat.add_zero _).symm.trans hpart.symm

theorem digit_mod (h : i < n) : v % 256 ^ n / 256 ^ i % 256 = v / 256 ^ i % 256 := by
  have hpow : 256 ^ n = 256 ^ i * (256 * 256 ^ (n - i - 1)) := by
    rw [← Nat.pow_succ', ← Nat.pow_add]
    congr 1
    omega
  rw [hpow, Nat.mod_mul_right_div_self]
  exact Nat.mod_mul_right_mod ..

theorem State.byte_setBytes (h : i < n) : (s.setBytes a n v).byte (a + i) = BitVec.ofNat 8 (v / 256 ^ i) := by
  rw [State.byte_of_bytes h, State.bytes_setBytes]
  refine BitVec.eq_of_toNat_eq ?_
  rw [BitVec.toNat_ofNat, BitVec.toNat_ofNat]
  exact digit_mod h

theorem mergeBytes_byte {be old new : Nat} (h : i < n) :
    mergeBytes n be old new / 256 ^ i % 256 = (if be.testBit i then new else old) / 256 ^ i % 256 := by
  induction n generalizing be old new i with
  | zero => omega
  | succ n ih =>
    cases i with
    | zero =>
      rw [mergeBytes, Nat.testBit_zero]
      simp only [decide_eq_true_eq, Nat.pow_zero, Nat.div_one]
      split
      all_goals omega
    | succ i =>
      have hlow : (if be % 2 = 1 then new % 256 else old % 256) / 256 = 0 := by
        split
        all_goals omega
      rw [mergeBytes, Nat.pow_succ', ← Nat.div_div_eq_div_mul, ← Nat.div_div_eq_div_mul, Nat.add_mul_div_left _ _ (by decide), hlow, Nat.zero_add,
        ih (by omega), Nat.testBit_succ, apply_ite (· / 256)]
end

/-! ## Words whose check bits agree -/

section
variable {s t : State} {b c w n be v x ea : Nat} {write : Bool}

theorem State.sramWord_agree (h : s.diff (chkSram b w) = 0) : s.sramWord b w write = (⟨s.bytes (sramA b (4 * w)) 4, false, false, 0⟩, s) := by
  unfold State.sramWord
  rw [h]
  rfl

/-- An access of a byte, a halfword or a word at an aligned address is in one word. -/
def inWord (n ea : Nat) : Prop := (n = 1 ∨ n = 2 ∨ n = 4) ∧ ea % n = 0

theorem inWord.words (h : inWord n ea) : (ea + n + 3) / 4 - ea / 4 = 1 := by
  obtain ⟨rfl | rfl | rfl, hal⟩ := h
  all_goals omega

theorem inWord.fits (h : inWord n ea) : ea % 4 + (n + (4 - ea % 4 - n)) = 4 := by
  obtain ⟨rfl | rfl | rfl, hal⟩ := h
  all_goals omega

theorem sramA_word : sramA b (4 * (ea / 4)) + ea % 4 = sramA b ea := by
  unfold sramA
  omega

/-- A read in one word answers its bytes. -/
theorem State.sramRead_agree (h : inWord n ea) (hd : s.diff (chkSram b (ea / 4)) = 0) : s.sramRead b ea n = (s.bytes (sramA b ea) n, false, s) := by
  have hpart := State.bytes_part (s := s) (a := sramA b (4 * (ea / 4))) (m := ea % 4) (n := n) (k := 4 - ea % 4 - n)
  rw [h.fits, sramA_word] at hpart
  unfold State.sramRead
  rw [h.words, State.sramWords, State.sramWords, State.sramWord_agree hd, ← hpart, Nat.pow_mul, Nat.pow_mul]
  rfl

/-! ## Loads -/

/-- A load whose post-modify is allowed, aligned in bay SRAM, from a word whose check bits agree. -/
def State.loadFits (s : State) (b c : Nat) (a : LoadAcc) : Prop :=
  (s.cx b c).badMode a.ptr = false ∧ inWord a.size a.ea ∧ a.ea < 0x40000 ∧ s.diff (chkSram b (a.ea / 4)) = 0

/-- Loads that fit answer what memory holds, and change nothing. -/
theorem State.doLoads_fit {ext : Option (State → Nat → Nat → (Nat × Nat) × State)} {l : List LoadAcc} (h : ∀ a ∈ l, s.loadFits b c a) :
    State.doLoads b c ext l s = (.done (l.map fun a => s.bytes (sramA b a.ea) a.size), s) := by
  induction l with
  | nil => rfl
  | cons a rest ih =>
    obtain ⟨hmode, hword, hea, hd⟩ := h a (.head _)
    have hrest := ih fun a' ha' => h a' (.tail _ ha')
    unfold State.doLoads
    rw [hmode, if_neg (by decide), if_neg (by rw [hword.2]; decide), if_pos hea, State.sramRead_agree hword hd]
    dsimp only
    rw [if_neg (by decide), hrest]
    rfl

/-- A load instruction whose loads fit. -/
theorem State.loadInstr_fit {i : Instr} (h : ∀ a ∈ (s.cx b c).loadPlan i, s.loadFits b c a) :
    s.loadInstr b c i = (s.modCtx b c fun v => CtxSt.takeLoads (v.loadPlan i) (((s.cx b c).loadPlan i).map fun a => s.bytes (sramA b a.ea) a.size)
      (v.macPart i)).complete b c := by
  unfold State.loadInstr
  rw [State.doLoads_fit h]

/-- A load instruction whose one load is misaligned. -/
theorem State.loadInstr_misaligned {i : Instr} {a : LoadAcc} (hplan : (s.cx b c).loadPlan i = [a]) (hptr : a.ptr = none) (hal : a.ea % a.size ≠ 0) :
    s.loadInstr b c i = s.faultCtx b c 2 a.ea 0 false false := by
  have hmode : (s.cx b c).badMode a.ptr = false := by
    rw [hptr]
    rfl
  unfold State.loadInstr
  rw [hplan]
  unfold State.doLoads
  rw [hmode, if_neg (by decide), if_pos hal]

/-! ## Stores -/

/-- What is left of a context's own state once word `w` of its bay's SRAM is written (R193). -/
def CtxSt.unreserved (v : CtxSt) (w : Nat) : CtxSt := { v with resv := if v.resv = some w then none else v.resv }

theorem CtxSt.unreserved_same {v : CtxSt} (h : v.resv = some w) : v.unreserved w = { v with resv := none } := by
  unfold CtxSt.unreserved
  rw [if_pos h]

theorem CtxSt.unreserved_ne {v : CtxSt} (h : v.resv ≠ some w) : v.unreserved w = v := by
  unfold CtxSt.unreserved
  rw [if_neg h]

theorem CtxSt.unreserved_unreserved {v : CtxSt} : (v.unreserved w).unreserved w = v.unreserved w := by
  by_cases h : v.resv = some w
  · rw [CtxSt.unreserved_same h, CtxSt.unreserved_ne (by simp)]
  · rw [CtxSt.unreserved_ne h, CtxSt.unreserved_ne h]

/-- A write to word `w` ends the reservation of one context on it. -/
def State.unreserve (s : State) (b w c : Nat) : State :=
  if (s.ctx (b * 32 + c)).resv = some w then s.setCtx (b * 32 + c) { s.ctx (b * 32 + c) with resv := none } else s

theorem State.breakResv_foldl : s.breakResv b w = (List.range 32).foldl (fun s c => s.unreserve b w c) s := rfl

theorem State.unreserve_same : (s.unreserve b w c).cx b c = (s.cx b c).unreserved w := by
  unfold State.unreserve State.cx
  split
  case isTrue h => rw [State.ctx_setCtx_same, CtxSt.unreserved_same h]
  case isFalse h => rw [CtxSt.unreserved_ne h]

theorem State.unreserve_ne {c' : Nat} (h : c ≠ c') : (s.unreserve b w c').cx b c = s.cx b c := by
  unfold State.unreserve State.cx
  split
  · exact State.ctx_setCtx_ne _ _ (by omega)
  · rfl

theorem State.foldl_unreserve {l : List Nat} :
    (l.foldl (fun s c => s.unreserve b w c) s).cx b c = if c ∈ l then (s.cx b c).unreserved w else s.cx b c := by
  induction l generalizing s with
  | nil => rfl
  | cons c' l ih =>
    rw [List.foldl_cons, ih]
    by_cases hc : c = c'
    · subst hc
      rw [State.unreserve_same, CtxSt.unreserved_unreserved, ite_self, if_pos (.head _)]
    · rw [State.unreserve_ne hc]
      simp only [List.mem_cons, hc, false_or]

theorem State.breakResv_cx (hc : c < 32) : (s.breakResv b w).cx b c = (s.cx b c).unreserved w := by
  rw [State.breakResv_foldl, State.foldl_unreserve, if_pos (List.mem_range.mpr hc)]

/-- `t` differs from `s` at most in memory, its check bits and the contexts' own states. -/
def State.memOnly (s t : State) : Prop := t = { s with mem := t.mem, chk := t.chk, ctxs := t.ctxs }

theorem State.memOnly.refl : s.memOnly s := rfl

theorem State.memOnly.setByte {a : Nat} {y : Byte} (h : s.memOnly t) : s.memOnly (t.setByte a y) := by
  unfold State.memOnly at h
  rw [h]
  rfl

theorem State.memOnly.setDiff {k : Nat} (h : s.memOnly t) : s.memOnly (t.setDiff k v) := by
  unfold State.memOnly at h
  rw [h]
  rfl

theorem State.memOnly.setCtx {k : Nat} {u : CtxSt} (h : s.memOnly t) : s.memOnly (t.setCtx k u) := by
  unfold State.memOnly at h
  rw [h]
  rfl

theorem State.memOnly.setBytes {a : Nat} (h : s.memOnly t) : s.memOnly (t.setBytes a n v) := by
  induction n generalizing t a v with
  | zero => exact h
  | succ n ih => exact ih h.setByte

theorem State.memOnly.breakResv (h : s.memOnly t) : s.memOnly (t.breakResv b w) := by
  refine List.foldlRecOn (motive := s.memOnly) _ _ h fun u hu c _ => ?_
  split
  · exact hu.setCtx
  · exact hu

/-- What a write of a word of bay SRAM changes. -/
theorem State.wordPut_memOnly : s.memOnly (s.wordPut b w x) := State.memOnly.refl.setBytes.setDiff.breakResv

theorem State.setBytes_ctxs {a : Nat} : (s.setBytes a n v).ctxs = s.ctxs := by
  induction n generalizing s a v with
  | zero => rfl
  | succ n ih => exact ih

theorem State.breakResv_chk : (s.breakResv b w).chk = s.chk := by
  refine List.foldlRecOn (motive := fun t : State => t.chk = s.chk) _ _ rfl fun t ht c _ => ?_
  dsimp only
  split
  · exact ht
  · exact ht

theorem State.wordPut_cx (hc : c < 32) : (s.wordPut b w x).cx b c = (s.cx b c).unreserved w := by
  unfold State.wordPut State.setSramWord
  rw [State.breakResv_cx hc, State.cx_congr (t := (s.setBytes _ _ _).setDiff _ _) State.setBytes_ctxs]

theorem State.wordPut_diff : (s.wordPut b w x).diff (chkSram b w) = 0 := by
  unfold State.wordPut State.diff
  rw [State.breakResv_chk]
  exact State.diff_setDiff_same ..

theorem State.wordPut_byte {a : Nat} : (s.wordPut b w x).byte a = (s.setBytes (sramA b (4 * w)) 4 x).byte a :=
  State.byte_congr State.wordPut_eq.1 a

/-- A write under byte enables to a word whose check bits agree stores the enabled bytes. -/
theorem State.sramPut_agree (hopen : (s.bay b).sramOpen = true) (hbe : be % 16 ≠ 0) (hd : s.diff (chkSram b w) = 0) :
    ∃ x, s.sramPut b w be v = (false, s.wordPut b w x) ∧
      ∀ i < 4, x / 256 ^ i % 256 = (if be.testBit i then v else s.bytes (sramA b (4 * w)) 4) / 256 ^ i % 256 := by
  by_cases hfull : be % 16 = 15
  · refine ⟨v, State.sramPut_open hopen hfull, fun i hi => ?_⟩
    have hbit : be.testBit i = true := by
      have := Nat.testBit_mod_two_pow be 4 i
      rw [show (2 : Nat) ^ 4 = 16 from rfl, hfull, decide_eq_true hi, Bool.true_and] at this
      rw [← this]
      interval_cases i
      all_goals rfl
    rw [if_pos hbit]
  · refine ⟨_, ?_, fun i hi => mergeBytes_byte hi⟩
    unfold State.sramPut
    rw [hopen, if_neg (by simp [hbe]), if_neg hfull, State.sramWord_agree hd]
    rfl

/-- The bytes that an access stores, in their places in the word, and their byte enables. -/
theorem enables_testBit {i : Nat} : (allBytes n % 2 ^ n * 2 ^ (ea % 4)).testBit i = decide (ea % 4 ≤ i ∧ i < ea % 4 + n) := by
  have hpos := Nat.two_pow_pos n
  rw [allBytes, Nat.mod_eq_of_lt (by omega), Nat.testBit_mul_two_pow, Nat.testBit_two_pow_sub_one, Bool.decide_and]
  by_cases hi : ea % 4 ≤ i
  · rw [decide_eq_true hi]
    congr 1
    exact decide_eq_decide.mpr (by omega)
  · rw [decide_eq_false hi]
    rfl

theorem digit_shift {m j : Nat} (h : j < n) : v % 2 ^ (8 * n) * 2 ^ (8 * m) / 256 ^ (m + j) % 256 = v / 256 ^ j % 256 := by
  rw [Nat.pow_mul, Nat.pow_mul, Nat.pow_add, ← Nat.div_div_eq_div_mul]
  rw [show (2 : Nat) ^ 8 = 256 from rfl, Nat.mul_div_cancel _ (Nat.pow_pos (by decide)), digit_mod h]

/-- The low `n` bytes of `v` are stored at `ea` of bay `b`'s SRAM: `t` differs in them, in the check bits of their word and in its reservations. -/
def State.stores (s t : State) (b ea n v : Nat) : Prop :=
  s.memOnly t ∧ t.bytes (sramA b ea) n = v % 256 ^ n ∧ (∀ a, a < sramA b ea ∨ sramA b ea + n ≤ a → t.byte a = s.byte a) ∧
    t.diff (chkSram b (ea / 4)) = 0 ∧ ∀ c < 32, t.cx b c = (s.cx b c).unreserved (ea / 4)

theorem State.wordPut_stores (hal : ea % 4 = 0) : s.stores (s.wordPut b (ea / 4) v) b ea 4 v := by
  have hea : 4 * (ea / 4) = ea := by omega
  refine ⟨State.wordPut_memOnly, ?_, fun a ha => ?_, State.wordPut_diff, fun c hc => State.wordPut_cx hc⟩
  · rw [State.bytes_congr State.wordPut_eq.1, hea, State.bytes_setBytes]
  · rw [State.wordPut_byte, hea, State.byte_setBytes_ne _ _ _ _ ha]

/-- A store in one word whose check bits agree. -/
theorem State.sramWrite_stores (hopen : (s.bay b).sramOpen = true) (h : inWord n ea) (hd : s.diff (chkSram b (ea / 4)) = 0) :
    ∃ t, s.sramWrite b ea n (allBytes n) v = (false, t) ∧ s.stores t b ea n v := by
  have hfits := h.fits
  have hbe : allBytes n % 2 ^ n * 2 ^ (ea % 4) % 16 ≠ 0 := by
    have hpos : 2 ≤ 2 ^ n := Nat.le_self_pow (by obtain ⟨rfl | rfl | rfl, -⟩ := h <;> decide) 2
    have hm := Nat.two_pow_pos (ea % 4)
    have hle : 2 ^ n * 2 ^ (ea % 4) ≤ 2 ^ 4 := by
      rw [← Nat.pow_add]
      exact Nat.pow_le_pow_right (by decide) (by omega)
    have hlow : (2 ^ n - 1) * 2 ^ (ea % 4) < 2 ^ n * 2 ^ (ea % 4) := Nat.mul_lt_mul_of_pos_right (by omega) hm
    rw [allBytes, Nat.mod_eq_of_lt (b := 2 ^ n) (by omega), Nat.mod_eq_of_lt (by omega)]
    exact (Nat.mul_pos (by omega) hm).ne'
  obtain ⟨x, hput, hbytes⟩ := State.sramPut_agree (v := v % 2 ^ (8 * n) * 2 ^ (8 * (ea % 4))) hopen hbe hd
  have hin : ∀ i < 4, (s.wordPut b (ea / 4) x).byte (sramA b (4 * (ea / 4)) + i) = BitVec.ofNat 8 (x / 256 ^ i) := fun i hi => by
    rw [State.wordPut_byte, State.byte_setBytes hi]
  refine ⟨s.wordPut b (ea / 4) x, ?_, State.wordPut_memOnly, ?_, fun a ha => ?_, State.wordPut_diff, fun c hc => State.wordPut_cx hc⟩
  · unfold State.sramWrite
    rw [h.words]
    simp only [State.sramPuts, hput, Bool.or_false]
  · refine State.bytes_of_byte fun j hj => ?_
    rw [← sramA_word, Nat.add_assoc, hin _ (by omega)]
    refine BitVec.eq_of_toNat_eq ?_
    rw [BitVec.toNat_ofNat, BitVec.toNat_ofNat, hbytes _ (by omega), enables_testBit, if_pos (by simp [hj])]
    exact digit_shift hj
  · by_cases hword : sramA b (4 * (ea / 4)) ≤ a ∧ a < sramA b (4 * (ea / 4)) + 4
    · obtain ⟨i, rfl⟩ := Nat.exists_eq_add_of_le hword.1
      have hi : i < 4 := by omega
      have hout : ¬(ea % 4 ≤ i ∧ i < ea % 4 + n) := by
        have := sramA_word (b := b) (ea := ea)
        omega
      rw [hin i hi, State.byte_of_bytes hi]
      refine BitVec.eq_of_toNat_eq ?_
      rw [BitVec.toNat_ofNat, BitVec.toNat_ofNat, hbytes i hi, enables_testBit, if_neg (by rw [decide_eq_false hout]; decide)]
    · rw [State.wordPut_byte]
      exact State.byte_setBytes_ne _ _ _ _ (by omega)

/-- A store may be followed by a change that leaves the context's own state as the store did. -/
theorem State.stores.modCtx {c : Nat} {g : CtxSt → CtxSt} (h : s.stores t b ea n v) (hg : g (t.cx b c) = t.cx b c) :
    s.stores (t.modCtx b c g) b ea n v := by
  obtain ⟨honly, hbytes, hkept, hdiff, hcx⟩ := h
  refine ⟨honly.setCtx, (State.bytes_congr (s := t) (t := t.modCtx b c g) rfl).trans hbytes, hkept, hdiff, fun c' hc' => ?_⟩
  by_cases heq : c' = c
  · subst heq
    rw [State.modCtx_cx, hg, hcx _ hc']
  · exact (State.ctx_setCtx_ne _ _ (by omega)).trans (hcx _ hc')

/-- What a store leaves of its context, once its instruction has left `u` of it and completed. -/
def State.storedBy (s t : State) (b c ea n v : Nat) (u : CtxSt) : Prop :=
  t.bytes (sramA b ea) n = v % 256 ^ n ∧ (∀ a, a < sramA b ea ∨ sramA b ea + n ≤ a → t.byte a = s.byte a) ∧ t.diff (chkSram b (ea / 4)) = 0 ∧
    t.cx b c = u.afterBody (s.pcOf b c) ∧ t.pcOf b c = u.nextPc (s.pcOf b c) / 4 * 4 % 2 ^ 32 ∧
    ∀ k, k ≠ key (ctxA b c) R.CTX_PC.PC → Tab.get regReset t.flds k = Tab.get regReset s.flds k

/-- An instruction whose own effect stores, changes its context's own state and completes. -/
theorem State.issue_storedBy {stc : Bool} {e : State → State} {g : CtxSt → CtxSt} (h : s.mayIssue b c) (hstore : (s.fetched b c).stores t b ea n v)
    (he : e (s.fetched b c) = (t.modCtx b c g).complete b c) :
    (s.fetched b c).storedBy (s.issue b c stc e) b c ea n v (g (((s.fetched b c).cx b c).unreserved (ea / 4))) := by
  obtain ⟨honly, hbytes, hkept, hdiff, hcx⟩ := hstore
  have hflds : t.flds = (s.fetched b c).flds := by rw [honly]
  have hdbgs : t.dbgs = (s.fetched b c).dbgs := by rw [honly]
  have hpc : t.pcOf b c = (s.fetched b c).pcOf b c := by
    unfold State.pcOf State.rd
    rw [hflds]
  obtain ⟨hdone, hdcx, hdpc⟩ := State.modCtx_complete_completes (s := t) (b := b) (c := c) (g := g)
  have hnone : ((((t.modCtx b c g).complete b c).dbg b).deferred) = none := by
    rw [hdone.dbg, State.dbg_congr hdbgs]
    exact State.deferred_fetched h
  rw [← he] at hdone hdcx hdpc hnone
  rw [State.issue_eq h hnone]
  obtain ⟨hst, -, hdflds⟩ := hdone
  have hmem : (e (s.fetched b c)).mem = t.mem := by rw [hst]
  have hchk : (e (s.fetched b c)).chk = t.chk := by rw [hst]
  rw [hcx c (State.canIssue_lt h.1).2, hpc] at hdcx hdpc
  refine ⟨(State.bytes_congr hmem).trans hbytes, fun a ha => (State.byte_congr hmem a).trans (hkept a ha), ?_, hdcx, hdpc,
    fun k hk => (hdflds k hk).trans (by rw [hflds])⟩
  unfold State.diff
  rw [hchk]
  exact hdiff

/-- A store instruction whose post-modify is allowed, and whose access is aligned in open bay SRAM, in a word whose check bits agree. -/
theorem State.storeInstr_fit {i : Instr} {a : StoreAcc} (hplan : (s.cx b c).storePlan i = some a) (hmode : (s.cx b c).badMode a.ptr = false)
    (h : inWord a.size a.ea) (hea : a.ea < 0x40000) (hopen : (s.bay b).sramOpen = true) (hd : s.diff (chkSram b (a.ea / 4)) = 0) :
    ∃ t, s.stores t b a.ea a.size a.data ∧ s.storeInstr b c i = (t.modCtx b c fun v => v.modifyPtr a.ptr).complete b c := by
  obtain ⟨t, hwrite, hstores⟩ := State.sramWrite_stores (v := a.data) hopen h hd
  refine ⟨t, hstores, ?_⟩
  unfold State.storeInstr
  rw [hplan]
  dsimp only
  rw [hmode, if_neg (by decide), if_neg (by rw [h.2]; decide), if_pos hea, hwrite]
  rfl

/-- A store instruction whose access is misaligned. -/
theorem State.storeInstr_misaligned {i : Instr} {a : StoreAcc} (hplan : (s.cx b c).storePlan i = some a) (hptr : a.ptr = none)
    (hal : a.ea % a.size ≠ 0) : s.storeInstr b c i = s.faultCtx b c 2 a.ea 0 true false := by
  have hmode : (s.cx b c).badMode a.ptr = false := by
    rw [hptr]
    rfl
  unfold State.storeInstr
  rw [hplan]
  dsimp only
  rw [hmode, if_neg (by decide), if_pos hal]
end
end Sys2Proof.Machine

/-! # The load and store instructions (R192, R193) -/

namespace Sys2Proof.Machine
open Sys2Proof

section
variable {s : State} {v : CtxSt} {b c wd wa w p k n ea : Nat} {imm : BitVec 16} {off : BitVec 14} {sx x pm : Bool} {i : Instr}

/-! ## What the instructions issue -/

theorem ldp_issues (hbad : badP k pm off = false) :
    ∃ e, exec (.ldp b c w p k x pm off) s = .next (s.issue b c false e) ∧ ∀ t, e t = t.loadInstr b c (.ldp b c w p k x pm off) :=
  ⟨_, rfl, fun _ => if_neg (by rw [hbad]; decide)⟩

theorem stp_issues (hbad : badP k pm off = false) :
    ∃ e, exec (.stp b c w p k false pm off) s = .next (s.issue b c false e) ∧ ∀ t, e t = t.storeInstr b c (.stp b c w p k false pm off) :=
  ⟨_, rfl, fun _ => if_neg (by rw [hbad]; decide)⟩

theorem badP_postModify (hk : k < 3) : badP k true 0 = false := by
  unfold badP
  rw [decide_eq_false (by omega)]
  rfl

theorem loadRows_plan (h : (i, n, sx, ea) ∈ loadRows v b c wd wa p imm off) :
    v.loadPlan i = [⟨ea, n, sx, wd, none⟩] ∧ (∀ u : CtxSt, u.macPart i = u) ∧ (n = 1 ∨ n = 2 ∨ n = 4) ∧ ea < 2 ^ 32 ∧
      ∃ e, exec i s = .next (s.issue b c false e) ∧ ∀ t, e t = t.loadInstr b c i := by
  simp only [loadRows, List.mem_cons, Prod.mk.injEq, List.not_mem_nil, or_false] at h
  obtain ⟨rfl, rfl, rfl, rfl⟩ | ⟨rfl, rfl, rfl, rfl⟩ | ⟨rfl, rfl, rfl, rfl⟩ | ⟨rfl, rfl, rfl, rfl⟩ | ⟨rfl, rfl, rfl, rfl⟩ | hp := h
  case inr.inr.inr.inr.inr =>
    obtain ⟨rfl, rfl, rfl, rfl⟩ | ⟨rfl, rfl, rfl, rfl⟩ | ⟨rfl, rfl, rfl, rfl⟩ | ⟨rfl, rfl, rfl, rfl⟩ | ⟨rfl, rfl, rfl, rfl⟩ |
      ⟨rfl, rfl, rfl, rfl⟩ := hp
    all_goals exact ⟨rfl, fun _ => rfl, by decide, BitVec.isLt _, ldp_issues rfl⟩
  all_goals exact ⟨rfl, fun _ => rfl, by decide, BitVec.isLt _, _, rfl, fun _ => rfl⟩

theorem storeRows_plan (h : (i, n, ea) ∈ storeRows v b c wd wa p imm off) :
    (∃ x, v.storePlan i = some ⟨ea, n, x, none⟩ ∧ x % 2 ^ (8 * n) = (v.getW wd).toNat % 2 ^ (8 * n)) ∧ (n = 1 ∨ n = 2 ∨ n = 4) ∧ ea < 2 ^ 32 ∧
      ∃ e, exec i s = .next (s.issue b c false e) ∧ ∀ t, e t = t.storeInstr b c i := by
  simp only [storeRows, List.mem_cons, Prod.mk.injEq, List.not_mem_nil, or_false] at h
  obtain ⟨rfl, rfl, rfl⟩ | ⟨rfl, rfl, rfl⟩ | ⟨rfl, rfl, rfl⟩ | hp := h
  case inr.inr.inr =>
    obtain ⟨rfl, rfl, rfl⟩ | ⟨rfl, rfl, rfl⟩ | ⟨rfl, rfl, rfl⟩ := hp
    all_goals exact ⟨⟨_, rfl, Nat.mod_mod _ _⟩, by decide, BitVec.isLt _, stp_issues rfl⟩
  all_goals exact ⟨⟨_, rfl, by simp⟩, by decide, BitVec.isLt _, _, rfl, fun _ => rfl⟩

theorem pow_size (hk : k < 3) : 2 ^ k = 1 ∨ 2 ^ k = 2 ∨ 2 ^ k = 4 := by
  interval_cases k
  all_goals decide

theorem CtxSt.badMode_of_modify {q : BitVec 32} (h : v.modify p = some q) : v.badMode (some p) = false := by
  unfold CtxSt.badMode
  dsimp only
  rw [h]
  rfl

/-- The post-modify of a pointer looks at the pointers, their lengths and steps, and MODE. -/
theorem CtxSt.modify_congr {u : CtxSt} (hp : u.p = v.p) (hm : u.m = v.m) (hst : u.st = v.st) (hmode : u.mode = v.mode) : u.modify p = v.modify p := by
  unfold CtxSt.modify CtxSt.reversed CtxSt.getP CtxSt.getM CtxSt.getS
  rw [hp, hm, hst, hmode]

theorem CtxSt.modify_setW {y : BitVec 32} : (v.setW n y).modify p = v.modify p := CtxSt.modify_congr rfl rfl rfl rfl

theorem CtxSt.modify_unreserved : (v.unreserved n).modify p = v.modify p := CtxSt.modify_congr rfl rfl rfl rfl

theorem CtxSt.modifyPtr_some {q : BitVec 32} (h : v.modify p = some q) : v.modifyPtr (some p) = v.setP p q := by
  unfold CtxSt.modifyPtr
  dsimp only
  rw [h]
  rfl

theorem CtxSt.getP_setP {q : BitVec 32} : (v.setP p q).getP p = q := Tab.get_put_same ..

theorem CtxSt.getP_afterBody {pc : Nat} : (v.afterBody pc).getP p = v.getP p := by
  unfold CtxSt.afterBody
  split
  · rfl
  · split
    · rfl
    · rfl

/-! ## One load, one store -/

/-- An instruction with one load that fits: its register takes the value, and its pointer is post-modified. -/
theorem State.load_completes {a : LoadAcc} (h : s.mayIssue b c) (hplan : ((s.fetched b c).cx b c).loadPlan i = [a])
    (hmac : ∀ u : CtxSt, u.macPart i = u) (hissue : ∃ e, exec i s = .next (s.issue b c false e) ∧ ∀ t, e t = t.loadInstr b c i)
    (hfits : (s.fetched b c).loadFits b c a) :
    ∃ t, exec i s = .next t ∧ (s.fetched b c).completes t b c
      ((((s.fetched b c).cx b c).setW a.wd (a.extend ((s.fetched b c).bytes (sramA b a.ea) a.size))).modifyPtr a.ptr) := by
  obtain ⟨e, hexec, he⟩ := hissue
  have hdone := State.issue_modCtx (stc := false) h ((he _).trans (State.loadInstr_fit fun a' ha' => by
    rw [hplan, List.mem_singleton] at ha'
    rwa [ha']))
  rw [hplan, hmac] at hdone
  exact ⟨_, hexec, hdone⟩

/-- An instruction whose store fits. -/
theorem State.store_storedBy {a : StoreAcc} (h : s.mayIssue b c) (hplan : ((s.fetched b c).cx b c).storePlan i = some a)
    (hissue : ∃ e, exec i s = .next (s.issue b c false e) ∧ ∀ t, e t = t.storeInstr b c i)
    (hmode : ((s.fetched b c).cx b c).badMode a.ptr = false) (hword : inWord a.size a.ea) (hea : a.ea < 0x40000)
    (hopen : ((s.fetched b c).bay b).sramOpen = true) (hd : (s.fetched b c).diff (chkSram b (a.ea / 4)) = 0) :
    ∃ t, exec i s = .next t ∧ (s.fetched b c).storedBy t b c a.ea a.size a.data
      ((((s.fetched b c).cx b c).unreserved (a.ea / 4)).modifyPtr a.ptr) := by
  obtain ⟨e, hexec, he⟩ := hissue
  obtain ⟨t, hstores, hstore⟩ := State.storeInstr_fit hplan hmode hword hea hopen hd
  exact ⟨_, hexec, State.issue_storedBy h hstores ((he _).trans hstore)⟩

theorem LoadAcc.extend_eq {a : LoadAcc} {y : Nat} : a.extend y = extended a.size a.sx y := rfl

/-! ## LDL and STC -/

/-- The effect of LDL at the address `ea`. -/
theorem ldl_issues : ∃ e, exec (.ldl b c wd wa imm) s = .next (s.issue b c false e) ∧
    ∀ t : State, ((t.cx b c).getW wa + imm.signExtend 32).toNat = ea →
      (0x40000 ≤ ea → e t = t.faultCtx b c 7 ea 0 false false) ∧ (ea < 0x40000 → ea % 4 ≠ 0 → e t = t.faultCtx b c 2 ea 0 false false) ∧
      (ea < 0x40000 → ea % 4 = 0 → t.diff (chkSram b (ea / 4)) = 0 →
        e t = (t.modCtx b c fun v => { v with resv := some (ea / 4) }).result b c wd (BitVec.ofNat 32 (t.bytes (sramA b ea) 4))) := by
  refine ⟨_, rfl, fun t hea => ?_⟩
  dsimp only
  rw [hea]
  refine ⟨fun hout => if_pos hout, fun hin hal => ?_, fun hin hal hd => ?_⟩
  · rw [if_neg (by omega), if_pos hal]
  · rw [if_neg (by omega), if_neg (by omega), State.sramWord_agree hd, if_neg Bool.false_ne_true, show 4 * (ea / 4) = ea by omega]

/-- The store of STC under its reservation, and the end of the reservation. -/
theorem State.reserved_stores {v : Nat} (hal : ea % 4 = 0) (hc : c < 32) (hresv : (s.cx b c).resv = some (ea / 4)) :
    s.stores ((s.wordPut b (ea / 4) v).modCtx b c fun v => { v with resv := none }) b ea 4 v := by
  refine (State.wordPut_stores hal).modCtx ?_
  rw [State.wordPut_cx hc, CtxSt.unreserved_same hresv]

/-- The effect of STC at the address `ea`. -/
theorem stc_issues {wb : Nat} : ∃ e, exec (.stc b c wd wa wb) s = .next (s.issue b c true e) ∧
    ∀ t : State, ((t.cx b c).getW wa).toNat = ea →
      (0x40000 ≤ ea → e t = t.faultCtx b c 7 ea 0 true false) ∧ (ea < 0x40000 → ea % 4 ≠ 0 → e t = t.faultCtx b c 2 ea 0 true false) ∧
      (ea < 0x40000 → ea % 4 = 0 → (t.cx b c).resv ≠ some (ea / 4) → e t = (t.modCtx b c fun v => { v with resv := none }).result b c wd 0) ∧
      (ea < 0x40000 → ea % 4 = 0 → (t.cx b c).resv = some (ea / 4) →
        e t = ((t.sramPut b (ea / 4) 15 ((t.cx b c).getW wb).toNat).2.modCtx b c fun v => { v with resv := none }).result b c wd 1) := by
  refine ⟨_, rfl, fun t hea => ?_⟩
  dsimp only
  rw [hea]
  refine ⟨fun hout => if_pos hout, fun hin hal => ?_, fun hin hal hresv => ?_, fun hin hal hresv => ?_⟩
  · rw [if_neg (by omega), if_pos hal]
  · rw [if_neg (by omega), if_neg (by omega), if_neg hresv]
  · rw [if_neg (by omega), if_neg (by omega), if_pos hresv]
end
end Sys2Proof.Machine

namespace Sys2Proof
open Machine

/-- Settles O6: the one load of each row fits, and so do LDP's and STP's with PM = 1. -/
theorem sramLoads : Obligations.SramLoads := by
  unfold Obligations.SramLoads
  refine ⟨fun s b c wd wa p imm off i n sx ea hrow h hal hea hd => ?_, fun s b c w p k q h hk hq hal hea hd => ⟨fun x => ?_, fun hopen => ?_⟩⟩
  · obtain ⟨hplan, hmac, hn, -, hissue⟩ := loadRows_plan (s := s) hrow
    exact State.load_completes h hplan hmac hissue ⟨rfl, ⟨hn, hal⟩, hea, hd⟩
  · obtain ⟨t, ht, hdone⟩ := State.load_completes (i := .ldp b c w p k x true 0) (a := ⟨_, 2 ^ k, x, w, some p⟩) h rfl (fun _ => rfl)
      (ldp_issues (badP_postModify hk)) ⟨CtxSt.badMode_of_modify hq, ⟨pow_size hk, hal⟩, hea, hd⟩
    rw [LoadAcc.extend_eq, CtxSt.modifyPtr_some (CtxSt.modify_setW.trans hq)] at hdone
    exact ⟨t, ht, hdone⟩
  · obtain ⟨t, ht, hbytes, hkept, -, hcx, -⟩ := State.store_storedBy (i := .stp b c w p k false true 0)
      (a := ⟨_, 2 ^ k, _, some p⟩) h rfl (stp_issues (badP_postModify hk)) (CtxSt.badMode_of_modify hq) ⟨pow_size hk, hal⟩ hea hopen hd
    refine ⟨t, ht, ?_, ?_, hkept⟩
    · rw [hcx, CtxSt.getP_afterBody, CtxSt.modifyPtr_some (CtxSt.modify_unreserved.trans hq), CtxSt.getP_setP]
    · exact hbytes.trans (by rw [Nat.pow_mul]; exact Nat.mod_mod ..)

/-- Settles O7: the one store of each row fits; STC stores the whole word that its reservation names. -/
theorem sramStoresAndReservations : Obligations.SramStoresAndReservations := by
  unfold Obligations.SramStoresAndReservations
  refine ⟨fun s b c wd wa p imm off i n ea hrow h _ hal hea hopen hd => ?_, fun s b c wd wa wb imm h => ⟨fun hea hal hd => ?_, fun hea hal =>
    ⟨fun hresv => ?_, fun hresv hopen => ?_⟩⟩⟩
  · obtain ⟨⟨x, hplan, hx⟩, hn, -, hissue⟩ := storeRows_plan (s := s) hrow
    obtain ⟨t, ht, hbytes, hkept, hdiff, hcx, hpc, hflds⟩ := State.store_storedBy h hplan hissue rfl ⟨hn, hal⟩ hea hopen hd
    exact ⟨t, ht, hbytes.trans (by rw [← hx, Nat.pow_mul]), hkept, hdiff, hcx, hpc, hflds⟩
  · obtain ⟨e, hexec, he⟩ := ldl_issues (s := s) (b := b) (c := c) (wd := wd)
    obtain ⟨-, -, hload⟩ := he _ rfl
    exact ⟨_, hexec, State.issue_of_completes h (hload hea hal hd ▸ State.modCtx_result_completes)⟩
  · obtain ⟨e, hexec, he⟩ := stc_issues (s := s) (b := b) (c := c) (wd := wd) (wb := wb)
    obtain ⟨-, -, hlost, -⟩ := he _ rfl
    exact ⟨_, hexec, State.issue_of_completes h (hlost hea hal hresv ▸ State.modCtx_result_completes)⟩
  · obtain ⟨e, hexec, he⟩ := stc_issues (s := s) (b := b) (c := c) (wd := wd) (wb := wb)
    obtain ⟨-, -, -, hstore⟩ := he _ rfl
    have hput := hstore hea hal hresv
    rw [State.sramPut_open hopen (by decide), State.result_eq] at hput
    dsimp only at hput
    have hstores := State.reserved_stores (v := (((s.fetched b c).cx b c).getW wb).toNat) hal (State.canIssue_lt h.1).2 hresv
    obtain ⟨hbytes, hkept, -, hdone, -⟩ := State.issue_storedBy (stc := true) (g := fun v => v.setW wd 1) h hstores hput
    rw [CtxSt.unreserved_same hresv] at hdone
    exact ⟨_, hexec, hbytes.trans (Nat.mod_eq_of_lt (BitVec.isLt _)), hkept, hdone⟩
end Sys2Proof

/-! # What faults before an instruction's own effect (R178, R182, R205 to R207, R219) -/

namespace Sys2Proof.Machine
open Sys2Proof

/-! ## Every engine instruction issues -/

/-- `i` does nothing but issue in context `c` of bay `b`. -/
def issuesIn (b c : Nat) (i : Instr) : Prop := ∀ s : State, ∃ stc e, exec i s = .next (s.issue b c stc e)

section
variable {b c op v wd wa wb n : Nat} {i : Instr}

theorem decodeAlu_issuesIn (h : decodeAlu b c wd wa wb n = some i) : issuesIn b c i := by
  unfold decodeAlu at h
  split at h
  case h_20 => cases h
  all_goals
    cases h
    exact fun s => ⟨_, _, rfl⟩

theorem decodeI_issuesIn (h : decodeI b c op v = some i) : issuesIn b c i := by
  unfold decodeI at h
  split at h
  case h_20 => cases h
  all_goals
    cases h
    exact fun s => ⟨_, _, rfl⟩

theorem decodePtr_issuesIn (h : decodePtr b c v = some i) : issuesIn b c i := by
  unfold decodePtr at h
  dsimp only at h
  split at h
  case h_4 => cases h
  all_goals
    split at h
    case isFalse => cases h
    cases h
    exact fun s => ⟨_, _, rfl⟩

theorem decodeAcc_issuesIn (h : decodeAcc b c v = some i) : issuesIn b c i := by
  unfold decodeAcc at h
  dsimp only at h
  split at h
  case h_6 => cases h
  all_goals
    split at h
    case isFalse => cases h
    cases h
    exact fun s => ⟨_, _, rfl⟩

theorem decodeB_issuesIn (h : decodeB b c v = some i) : issuesIn b c i := by
  unfold decodeB at h
  dsimp only at h
  split at h
  case h_7 => cases h
  all_goals
    cases h
    exact fun s => ⟨_, _, rfl⟩

theorem decodeX_issuesIn (h : decodeX b c op v = some i) : issuesIn b c i := by
  unfold decodeX at h
  dsimp only at h
  split at h
  case h_3 =>
    split at h
    case isTrue => cases h
    split at h
    case isTrue =>
      split at h
      case isFalse => cases h
      cases h
      exact fun s => ⟨_, _, rfl⟩
    case isFalse =>
      cases h
      exact fun s => ⟨_, _, rfl⟩
  case h_16 => cases h
  all_goals
    split at h
    case isFalse => cases h
    cases h
    exact fun s => ⟨_, _, rfl⟩

/-- What a word decodes to is an instruction of its context, whose meaning is its issue. -/
theorem decodeEngine_issuesIn (h : decodeEngine b c v = some i) : issuesIn b c i := by
  unfold decodeEngine at h
  dsimp only at h
  split at h
  case isTrue =>
    split at h
    case isFalse => cases h
    case isTrue => exact decodeAlu_issuesIn h
  split at h
  case isTrue => exact decodeI_issuesIn h
  split at h
  case isTrue =>
    split at h
    case isFalse => cases h
    cases h
    exact fun s => ⟨_, _, rfl⟩
  split at h
  case isTrue => exact decodePtr_issuesIn h
  iterate 2
    split at h
    case isTrue =>
      cases h
      exact fun s => ⟨_, _, rfl⟩
  split at h
  case isTrue => exact decodeAcc_issuesIn h
  split at h
  case isTrue => exact decodeB_issuesIn h
  iterate 3
    split at h
    case isTrue =>
      cases h
      exact fun s => ⟨_, _, rfl⟩
  exact decodeX_issuesIn h
end

/-! ## What the issue does first -/

section
variable {s : State} {b c : Nat} {stc : Bool} {e : State → State}

theorem State.issue_not (h : s.canIssue b c = false) : s.issue b c stc e = s := if_neg (by rw [h]; decide)

theorem State.issue_pendVa {va : Nat} (h : s.canIssue b c = true) (hpend : (s.cx b c).pendVa = some va) :
    s.issue b c stc e = s.faultCtx b c 0x16 (va % 2 ^ 32) (va / 2 ^ 32) true true := by
  unfold State.cx at hpend
  unfold State.issue
  rw [if_pos h, hpend]

theorem State.issue_fetch (h : s.canIssue b c = true) (hpend : (s.cx b c).pendVa = none) (hpc : 0x40000 ≤ s.pcOf b c) :
    s.issue b c stc e = s.faultCtx b c 3 (s.pcOf b c) 0 false false := by
  unfold State.cx at hpend
  unfold State.issue
  rw [if_pos h, hpend]
  exact if_pos hpc

theorem State.issue_fetchError (h : s.canIssue b c = true) (hpend : (s.cx b c).pendVa = none) (hpc : s.pcOf b c < 0x40000)
    (hue : (s.fetchCheck b c).1 = true) : s.issue b c stc e = (s.fetched b c).faultCtx b c 4 (s.pcOf b c) 0 false false := by
  unfold State.cx at hpend
  unfold State.issue
  rw [if_pos h, hpend]
  dsimp only
  rw [if_neg (by omega), if_pos hue]
  rfl

/-- A fault at the issue itself. -/
theorem State.issue_fault {cause info infoh : Nat} {write imprecise : Bool} (h : s.canIssue b c = true) (hd : (s.dbg b).deferred = none)
    (hcause : cause < 2 ^ 8) (hinfo : info < 2 ^ 32) (hinfoh : infoh < 2 ^ 16)
    (heq : s.issue b c stc e = s.faultCtx b c cause info infoh write imprecise) :
    s.faulted (s.issue b c stc e) b c cause info infoh ∧
      (s.issue b c stc e).rd (ctxA b c) R.CTX_CAUSE.IMPRECISE = if imprecise then 1 else 0 := by
  obtain ⟨hfaulted, himp, -⟩ := State.faultCtx_faulted (write := write) (imprecise := imprecise) (State.bayHere_of_canIssue h) (State.canIssue_lt h).2
    hd hcause hinfo hinfoh
  rw [heq]
  exact ⟨hfaulted, himp⟩

theorem State.issue_fetchError_faulted (h : s.canIssue b c = true) (hd : (s.dbg b).deferred = none) (hpend : (s.cx b c).pendVa = none)
    (hpc : s.pcOf b c < 0x40000) (hue : (s.fetchCheck b c).1 = true) : (s.fetched b c).faulted (s.issue b c stc e) b c 4 (s.pcOf b c) 0 := by
  obtain ⟨-, hdbgs, -, hfuses⟩ := (State.fetched_logOnly (s := s) (b := b) (c := c)).engine
  rw [State.issue_fetchError h hpend hpc hue]
  exact (State.faultCtx_faulted ((State.bayHere_congr hfuses).trans (State.bayHere_of_canIssue h)) (State.canIssue_lt h).2
    ((congrArg _ (State.dbg_congr hdbgs)).trans hd) (by decide) (by omega) (by decide)).1
end

/-! ## Faults of the instructions' own addresses -/

section
variable {s : State} {b c wd wq wa ea : Nat} {w : Bool} {code : BitVec 16}

theorem qpush_issues : ∃ e, exec (.qpush b c wd wq wa w) s = .next (s.issue b c false e) ∧
    ∀ t : State, ((t.cx b c).getW wa).toNat = ea →
      (0x40000 ≤ ea → e t = t.faultCtx b c 7 ea 0 false false) ∧ (ea < 0x40000 → ea % 32 ≠ 0 → e t = t.faultCtx b c 2 ea 0 false false) := by
  refine ⟨_, rfl, fun t hea => ?_⟩
  dsimp only
  rw [hea]
  refine ⟨fun hout => if_pos hout, fun hin hal => ?_⟩
  rw [if_neg (by omega), if_pos hal]

theorem qpop_issues : ∃ e, exec (.qpop b c wd wq wa w) s = .next (s.issue b c false e) ∧
    ∀ t : State, ((t.cx b c).getW wa).toNat = ea →
      (0x40000 ≤ ea → e t = t.faultCtx b c 7 ea 0 false false) ∧ (ea < 0x40000 → ea % 32 ≠ 0 → e t = t.faultCtx b c 2 ea 0 false false) := by
  refine ⟨_, rfl, fun t hea => ?_⟩
  dsimp only
  rw [hea]
  refine ⟨fun hout => if_pos hout, fun hin hal => ?_⟩
  rw [if_neg (by omega), if_pos hal]

theorem brk_issues : ∃ e, exec (.brk b c code) s = .next (s.issue b c false e) ∧
    ∀ t : State, t.bit (dbgEngA b) R.DBG_ENG_CTRL.BRK_EN = false ∨ t.level < 2 → e t = t.faultCtx b c 5 code.toNat 0 false false := by
  refine ⟨_, rfl, fun t ht => if_neg ?_⟩
  rw [Bool.and_eq_true, decide_eq_true_eq]
  rintro ⟨hon, hlevel⟩
  obtain hoff | hlow := ht
  · exact absurd (hoff.symm.trans hon) (by decide)
  · omega

/-- An instruction with two ways to fault at its address: outside bay SRAM and misaligned. -/
theorem State.address_faulted {i : Instr} {stc write : Bool} {e : State → State} {m : Nat} (h : s.mayIssue b c)
    (hexec : exec i s = .next (s.issue b c stc e)) (hlt : ea < 2 ^ 32)
    (hout : 0x40000 ≤ ea → e (s.fetched b c) = (s.fetched b c).faultCtx b c 7 ea 0 write false)
    (hmis : ea < 0x40000 → ea % m ≠ 0 → e (s.fetched b c) = (s.fetched b c).faultCtx b c 2 ea 0 write false) :
    (0x40000 ≤ ea → ∃ t, exec i s = .next t ∧ (s.fetched b c).faulted t b c 7 ea 0) ∧
      (ea < 0x40000 → ea % m ≠ 0 → ∃ t, exec i s = .next t ∧ (s.fetched b c).faulted t b c 2 ea 0) :=
  ⟨fun h7 => ⟨_, hexec, State.issue_faulted h (by decide) hlt (hout h7)⟩,
    fun hin hal => ⟨_, hexec, State.issue_faulted h (by decide) hlt (hmis hin hal)⟩⟩
end
end Sys2Proof.Machine

namespace Sys2Proof
open Machine

/-- Settles O11: what the issue does first is the same for every instruction; each address fault is the instruction's own first step. -/
theorem issueAndAddressFaults : Obligations.IssueAndAddressFaults := by
  unfold Obligations.IssueAndAddressFaults
  refine ⟨fun s b c w i hdec => ?_, fun s b c wd wa wb p imm off v i n ea sx w h hv => ⟨fun hrow hal => ?_, fun j m a hrow => ?_, fun hbrk => ?_⟩⟩
  · obtain ⟨stc, e, hexec⟩ := decodeEngine_issuesIn hdec s
    refine ⟨fun hno => hexec.trans (by rw [State.issue_not hno]), fun hcan hd => ⟨fun va hva hlt => ?_, fun hpend hpc hlt => ?_,
      fun hpend hpc hue => ?_⟩⟩
    · obtain ⟨hfaulted, himp⟩ := State.issue_fault (stc := stc) (e := e) hcan hd (by decide) (Nat.mod_lt va (by decide)) (by omega)
        (State.issue_pendVa hcan hva)
      exact ⟨_, hexec, hfaulted, himp.trans (if_pos rfl)⟩
    · obtain ⟨hfaulted, himp⟩ := State.issue_fault (stc := stc) (e := e) hcan hd (by decide) hlt (by decide) (State.issue_fetch hcan hpend hpc)
      exact ⟨_, hexec, hfaulted, himp.trans (if_neg Bool.false_ne_true)⟩
    · exact ⟨_, hexec, State.issue_fetchError_faulted hcan hd hpend hpc hue⟩
  · subst hv
    obtain hrow | hrow := hrow
    · obtain ⟨hplan, -, -, hlt, e, hexec, he⟩ := loadRows_plan (s := s) hrow
      have hfault := State.loadInstr_misaligned hplan rfl hal
      rw [← he] at hfault
      exact ⟨_, hexec, State.issue_faulted h (by decide) hlt hfault⟩
    · obtain ⟨⟨x, hplan, -⟩, -, hlt, e, hexec, he⟩ := storeRows_plan (s := s) hrow
      have hfault := State.storeInstr_misaligned hplan rfl hal
      rw [← he] at hfault
      exact ⟨_, hexec, State.issue_faulted h (by decide) hlt hfault⟩
  · subst hv
    simp only [List.mem_cons, Prod.mk.injEq, List.not_mem_nil, or_false] at hrow
    obtain ⟨rfl, rfl, rfl⟩ | ⟨rfl, rfl, rfl⟩ | ⟨rfl, rfl, rfl⟩ | ⟨rfl, rfl, rfl⟩ := hrow
    · obtain ⟨e, hexec, he⟩ := ldl_issues (s := s) (b := b) (c := c) (wd := wd)
      obtain ⟨hout, hmis, -⟩ := he _ rfl
      exact State.address_faulted h hexec (BitVec.isLt _) hout hmis
    · obtain ⟨e, hexec, he⟩ := stc_issues (s := s) (b := b) (c := c) (wd := wd) (wb := wb)
      obtain ⟨hout, hmis, -⟩ := he _ rfl
      exact State.address_faulted h hexec (BitVec.isLt _) hout hmis
    · obtain ⟨e, hexec, he⟩ := qpush_issues (s := s) (b := b) (c := c) (wd := wd) (wq := wb) (w := w)
      obtain ⟨hout, hmis⟩ := he _ rfl
      exact State.address_faulted h hexec (BitVec.isLt _) hout hmis
    · obtain ⟨e, hexec, he⟩ := qpop_issues (s := s) (b := b) (c := c) (wd := wd) (wq := wb) (w := w)
      obtain ⟨hout, hmis⟩ := he _ rfl
      exact State.address_faulted h hexec (BitVec.isLt _) hout hmis
  · obtain ⟨e, hexec, he⟩ := brk_issues (s := s) (b := b) (c := c) (code := imm)
    exact ⟨_, hexec, State.issue_faulted h (by decide) (by have := imm.isLt; omega) (he _ hbrk)⟩
end Sys2Proof

/-! # Pointers, accumulators, the window and multiply-accumulate (R172, R173, R194 to R196, R199) -/

namespace Sys2Proof.Machine
open Sys2Proof

/-! ## The rows' results and the model's -/

section
variable {p : BitVec 32} {a : BitVec 40} {imm : BitVec 16} {sh : Nat}

theorem advancePtr_zero : advancePtr p 0 imm.toInt = p + imm.signExtend 32 := by
  rw [advancePtr, if_pos rfl, BitVec.ofInt_add, BitVec.signExtend, BitVec.ofInt_natCast, BitVec.ofNat_toNat, BitVec.setWidth_eq]

theorem shl_ofInt : p.signExtend 40 <<< sh = BitVec.ofInt 40 (p.toInt * 2 ^ sh) := by
  have hpow : BitVec.twoPow 40 sh = BitVec.ofInt 40 (2 ^ sh) := by
    refine BitVec.eq_of_toNat_eq ?_
    rw [BitVec.toNat_twoPow, ← BitVec.toNat_ofNat, ← BitVec.ofInt_natCast]
    norm_cast
  rw [BitVec.shiftLeft_eq_mul_twoPow, BitVec.ofInt_mul, hpow, BitVec.signExtend]

/-- The guard bits of an accumulator. -/
theorem guard_ofInt : (a.sshiftRight 32).truncate 32 = BitVec.ofInt 32 (a.toInt / 2 ^ 32) := by
  refine BitVec.eq_of_toNat_eq ?_
  rw [BitVec.truncate, BitVec.toNat_setWidth, BitVec.sshiftRight, BitVec.toNat_ofInt, BitVec.toNat_ofInt, Int.shiftRight_eq_div_pow]
  norm_num
  omega
end

/-! ## The window cleared -/

section
variable {v : CtxSt} {n k : Nat}

theorem CtxSt.phys_setPhys_same {x : BitVec 32} : (v.setPhys k x).phys k = x := Tab.get_put_same ..

theorem CtxSt.phys_setPhys_ne {x : BitVec 32} (h : k ≠ n) : (v.setPhys n x).phys k = v.phys k := Tab.get_put_ne _ _ _ h

theorem CtxSt.clearWindow_foldl : (List.range n).foldl (fun (v : CtxSt) k => v.setPhys (16 + k) 0) v =
    { v with w := ((List.range n).foldl (fun (v : CtxSt) k => v.setPhys (16 + k) 0) v).w } := by
  refine List.foldlRecOn (motive := fun u : CtxSt => u = { v with w := u.w }) _ _ rfl fun u hu j _ => ?_
  rw [hu]
  rfl

theorem CtxSt.foldl_phys : ((List.range n).foldl (fun (v : CtxSt) k => v.setPhys (16 + k) 0) v).phys k =
    if 16 ≤ k ∧ k < 16 + n then 0 else v.phys k := by
  induction n with
  | zero => rw [if_neg (by omega)]; rfl
  | succ n ih =>
    rw [List.range_succ, List.foldl_append]
    generalize (List.range n).foldl _ v = u at ih
    by_cases hk : k = 16 + n
    · rw [if_pos (by omega), hk]
      exact CtxSt.phys_setPhys_same
    · refine (CtxSt.phys_setPhys_ne hk).trans (ih.trans ?_)
      exact if_congr (by omega) rfl rfl

theorem CtxSt.clearWindow_eq : v.clearWindow = { v with w := v.clearWindow.w, rb := 0 } := CtxSt.clearWindow_foldl (v := { v with rb := 0 })

theorem CtxSt.clearWindow_phys : v.clearWindow.phys k = if 16 ≤ k ∧ k < 32 then 0 else v.phys k :=
  CtxSt.foldl_phys (n := 16) (v := { v with rb := 0 })

theorem CtxSt.clearWindow_high (h : 16 ≤ n) (h' : n < 32) : v.clearWindow.getW n = 0 := by
  have hphys : 16 ≤ physReg v.clearWindow.rb.toNat n ∧ physReg v.clearWindow.rb.toNat n < 32 := by
    unfold physReg
    split
    all_goals omega
  exact CtxSt.clearWindow_phys.trans (if_pos hphys)

theorem CtxSt.clearWindow_low (h : n < 16) : v.clearWindow.getW n = v.getW n := by
  have hphys : ∀ rb, physReg rb n = n := fun rb => by
    unfold physReg
    rw [if_pos (by omega)]
    omega
  unfold CtxSt.getW
  rw [hphys, hphys, CtxSt.clearWindow_phys, if_neg (by omega)]
end

/-! ## The loads of MAC and MSU -/

section
variable {s : State} {b c : Nat} {v u : CtxSt} {l m : List LoadAcc} {f : LoadAcc → Nat} {a : LoadAcc} {p n : Nat} {q x : BitVec 32} {ld sub : Bool}

theorem CtxSt.takeLoads_append : CtxSt.takeLoads (l ++ m) ((l ++ m).map f) v = CtxSt.takeLoads m (m.map f) (CtxSt.takeLoads l (l.map f) v) := by
  induction l generalizing v with
  | nil =>
    unfold CtxSt.takeLoads
    rfl
  | cons a l ih => exact ih

/-- A load that is asked for. -/
def askedFor (ld : Bool) (a : LoadAcc) : List LoadAcc := if ld then [a] else []

theorem CtxSt.takeLoads_askedFor : CtxSt.takeLoads (askedFor ld a) ((askedFor ld a).map f) v =
    if ld then (v.setW a.wd (a.extend (f a))).modifyPtr a.ptr else v := by
  cases ld
  · rfl
  · rfl

theorem CtxSt.modify_setP (h : n % 8 ≠ p % 8) : (v.setP n q).modify p = v.modify p := by
  have hget : (v.setP n q).getP p = v.getP p := Tab.get_put_ne _ _ _ h.symm
  unfold CtxSt.modify
  rw [hget]
  rfl

/-- The multiply-accumulate leaves the pointers, their lengths and steps, and MODE. -/
theorem CtxSt.modify_macc {acc wa wb : Nat} : (v.macc sub acc wa wb).modify p = v.modify p := by
  unfold CtxSt.macc CtxSt.stick
  dsimp only
  split
  all_goals
    split
    all_goals exact CtxSt.modify_congr rfl rfl rfl rfl

/-- MAC, or MSU where `sub` says so. -/
def macInstr (sub : Bool) (b c acc wa wb la pa lb pb : Nat) (ldA ldB : Bool) : Instr :=
  if sub then .msu b c acc wa wb la pa lb pb ldA ldB else .mac b c acc wa wb la pa lb pb ldA ldB

/-- The load of MAC and MSU through pointer `p` to register `n`. -/
def CtxSt.macLoad (v : CtxSt) (p n : Nat) : LoadAcc := ⟨(v.getP p).toNat, 2, !v.mode.getLsbD 3, n, some p⟩

section
variable {acc wa wb la pa lb pb : Nat} {ldA ldB : Bool} {qa qb : BitVec 32}

theorem macInstr_issues : ∃ e, exec (macInstr sub b c acc wa wb la pa lb pb ldA ldB) s = .next (s.issue b c false e) ∧
    ∀ t, e t = t.loadInstr b c (macInstr sub b c acc wa wb la pa lb pb ldA ldB) := by
  cases sub
  · exact ⟨_, rfl, fun _ => rfl⟩
  · exact ⟨_, rfl, fun _ => rfl⟩

theorem macInstr_macPart : v.macPart (macInstr sub b c acc wa wb la pa lb pb ldA ldB) = v.macc sub acc wa wb := by
  cases sub
  · rfl
  · rfl

theorem macInstr_loadPlan (hla : la < 16) (hlb : lb < 16) (hpa : pa < 4) (hpb : pb < 4) :
    v.loadPlan (macInstr sub b c acc wa wb la pa lb pb ldA ldB) =
      askedFor ldA (v.macLoad pa (16 + la)) ++ askedFor ldB (v.macLoad (4 + pb) (16 + lb)) := by
  have hplan : v.loadPlan (macInstr sub b c acc wa wb la pa lb pb ldA ldB) = v.accM la pa lb pb ldA ldB := by
    cases sub
    · rfl
    · rfl
  rw [hplan]
  unfold CtxSt.accM
  rw [Nat.mod_eq_of_lt hla, Nat.mod_eq_of_lt hlb, Nat.mod_eq_of_lt hpa, Nat.mod_eq_of_lt hpb]
  rfl

/-- A load of MAC that is asked for, after a change that leaves its pointer's post-modify. -/
theorem CtxSt.takeLoads_macLoad {f : LoadAcc → Nat} (h : ld = true → u.modify p = some q) :
    CtxSt.takeLoads (askedFor ld (v.macLoad p n)) ((askedFor ld (v.macLoad p n)).map f) u =
      if ld then (u.setW n (extended 2 (!v.mode.getLsbD 3) (f (v.macLoad p n)))).setP p q else u := by
  rw [CtxSt.takeLoads_askedFor]
  cases ld
  · rfl
  · exact CtxSt.modifyPtr_some (CtxSt.modify_setW.trans (h rfl))

/-- Load A leaves the post-modify of load B's pointer. -/
theorem CtxSt.modify_loadA (hn : n % 8 ≠ p % 8) {k : Nat} : (if ld then (u.setW k x).setP n q else u).modify p = u.modify p := by
  split
  · exact (CtxSt.modify_setP hn).trans CtxSt.modify_setW
  · rfl

theorem State.macLoad_fits {ea : Nat} (hea : (((s.cx b c).getP p).toNat) = ea) (hal : ea % 2 = 0) (hlt : ea < 0x40000)
    (hd : s.diff (chkSram b (ea / 4)) = 0) (hq : (s.cx b c).modify p = some q) : s.loadFits b c ((s.cx b c).macLoad p n) := by
  subst hea
  exact ⟨CtxSt.badMode_of_modify hq, ⟨.inr (.inl rfl), hal⟩, hlt, hd⟩

theorem mem_askedFor {a' : LoadAcc} (h : a' ∈ askedFor ld a) : ld = true ∧ a' = a := by
  cases ld
  · cases h
  · exact ⟨rfl, List.mem_singleton.mp h⟩
end
end
end Sys2Proof.Machine

namespace Sys2Proof
open Machine

/-- Settles O8: each row changes its context's own state in one step; a MAC's loads fit, and take their values in order. -/
theorem pointersAccumulatorsAndMac : Obligations.PointersAccumulatorsAndMac := by
  unfold Obligations.PointersAccumulatorsAndMac
  refine ⟨⟨fun s b c p w acc n sh k imm rnd wide uns i u hrow h => ?_, fun s b c h => ?_⟩, ?_⟩
  · obtain ⟨rfl, rfl⟩ | ⟨rfl, rfl⟩ | ⟨rfl, hm, rfl⟩ | ⟨rfl, -, rfl⟩ | ⟨rfl, rfl⟩ | ⟨rfl, hn, rfl⟩ | ⟨rfl, hsh, rfl⟩ | ⟨rfl, rfl⟩ | ⟨rfl, rfl⟩ |
      ⟨rfl, -, rfl⟩ | ⟨rfl, rfl⟩ := hrow
    case _ => exact ⟨_, rfl, State.issue_completes (G := fun _ v => v.setP p (v.getW w)) h⟩
    case _ => exact ⟨_, rfl, State.issue_completes (G := fun s v => v.setW w ((s.cx b c).getP p)) h⟩
    case _ =>
      have hdone := State.issue_completes (stc := false) (G := fun _ v => v.setP p (advancePtr (v.getP p) (v.getM p).toNat imm.toInt)) h
      rw [hm, advancePtr_zero] at hdone
      exact ⟨_, rfl, hdone⟩
    case _ => exact ⟨_, rfl, State.issue_completes (G := fun _ v => v.setP p (advancePtr (v.getP p) (v.getM p).toNat imm.toInt)) h⟩
    case _ => exact ⟨_, rfl, State.issue_completes (G := fun _ v => v.setA acc 0) h⟩
    case _ =>
      refine ⟨_, rfl, State.issue_of_completes h ?_⟩
      dsimp only
      rw [Nat.mod_eq_of_lt hn]
      exact State.modCtx_complete_completes
    case _ =>
      refine ⟨_, rfl, State.issue_of_completes h ?_⟩
      rw [if_neg (by omega), ← shl_ofInt]
      exact State.modCtx_complete_completes
    case _ =>
      rw [← guard_ofInt]
      exact ⟨_, rfl, State.issue_completes (G := fun s v => v.setW w (((s.cx b c).getA acc).sshiftRight 32 |>.truncate 32)) h⟩
    case _ => exact ⟨_, rfl, State.issue_completes (G := fun s v => v.setW w (((s.cx b c).getA acc).truncate 32)) h⟩
    case _ => exact ⟨_, rfl, State.issue_completes (G := fun _ v => v.rotate k) h⟩
    case _ => exact ⟨_, rfl, State.issue_of_completes h State.complete_completes⟩
  · exact ⟨_, _, rfl, State.issue_completes (G := fun _ v => v.clearWindow) h, by rw [CtxSt.clearWindow_eq], fun _ => CtxSt.clearWindow_high,
      fun _ => CtxSt.clearWindow_low, CtxSt.clearWindow_eq⟩
  · intro s b c acc wa wb la pa lb pb ldA ldB sub qa qb v u1 u2 u3 pr sm h hla hlb hpa hpb hv hA hB hpr hsm hu1 hu2 hu3
    subst hv hpr hsm hu1 hu2 hu3
    obtain ⟨e, hexec, he⟩ := macInstr_issues (s := s) (b := b) (c := c) (sub := sub) (acc := acc) (wa := wa) (wb := wb) (la := la)
      (pa := pa) (lb := lb) (pb := pb) (ldA := ldA) (ldB := ldB)
    have hplan := macInstr_loadPlan (v := (s.fetched b c).cx b c) (b := b) (c := c) (sub := sub) (acc := acc) (wa := wa) (wb := wb) (ldA := ldA)
      (ldB := ldB) hla hlb hpa hpb
    have hdone := State.issue_modCtx (stc := false) h ((he _).trans (State.loadInstr_fit fun a ha => by
      rw [hplan, List.mem_append] at ha
      obtain ha | ha := ha
      · obtain ⟨hld, rfl⟩ := mem_askedFor ha
        obtain ⟨hal, hlt, hd, hq⟩ := hA hld
        exact State.macLoad_fits rfl hal hlt hd hq
      · obtain ⟨hld, rfl⟩ := mem_askedFor ha
        obtain ⟨hal, hlt, hd, hq⟩ := hB hld
        exact State.macLoad_fits rfl hal hlt hd hq))
    have hqa (hld : ldA = true) : ((s.fetched b c).cx b c).modify pa = some qa := by
      obtain ⟨-, -, -, hq⟩ := hA hld
      exact hq
    have hqb (hld : ldB = true) : ((s.fetched b c).cx b c).modify (4 + pb) = some qb := by
      obtain ⟨-, -, -, hq⟩ := hB hld
      exact hq
    rw [hplan, macInstr_macPart, CtxSt.takeLoads_append, CtxSt.takeLoads_macLoad fun hld => CtxSt.modify_macc.trans (hqa hld),
      CtxSt.takeLoads_macLoad fun hld => (CtxSt.modify_loadA (by omega)).trans (CtxSt.modify_macc.trans (hqb hld))] at hdone
    exact ⟨_, hexec, hdone⟩
end Sys2Proof

/-! # Branches, jumps, calls and loops (R172, R197, R198) -/

namespace Sys2Proof.Machine
open Sys2Proof

section
variable {s t : State} {b c target wa wb len : Nat} {stc rot : Bool} {f : State → State} {g : CtxSt → CtxSt} {v : CtxSt} {off : BitVec 13} {i : Instr}
  {cond : BitVec 32 → BitVec 32 → Prop}

/-! ## Taken branches -/

/-- A taken branch ends the loop, and the PC is the target. -/
theorem State.branchTo_branches : s.branches (s.branchTo b c target) b c (s.cx b c) target := by
  refine ⟨State.onlyCtx_modCtx.trans State.onlyCtx_setPc, ?_, State.setPc_pcOf⟩
  exact (State.modCtx_cx (g := fun v => { v with loop := none }))

theorem State.modCtx_branchTo_branches : s.branches ((s.modCtx b c g).branchTo b c target) b c (g (s.cx b c)) target := by
  obtain ⟨honly, hcx, hpc⟩ := State.branchTo_branches (s := s.modCtx b c g) (b := b) (c := c) (target := target)
  rw [State.modCtx_cx] at hcx
  exact ⟨State.onlyCtx_modCtx.trans honly, hcx, hpc⟩

theorem State.issue_of_branches (h : s.mayIssue b c) (hf : (s.fetched b c).branches (f (s.fetched b c)) b c v target) :
    (s.fetched b c).branches (s.issue b c stc f) b c v target := by
  rw [State.issue_onlyCtx h hf.1]
  exact hf

/-! ## Conditional branches -/

theorem branchRows_cond (h : (i, cond) ∈ branchRows b c wa wb off) :
    ∃ k, exec i s = .next (s.branch b c k wa wb off) ∧ ∀ x y, branchCond k x y = true ↔ cond x y := by
  simp only [branchRows, List.mem_cons, Prod.mk.injEq, List.not_mem_nil, or_false] at h
  obtain ⟨rfl, rfl⟩ | ⟨rfl, rfl⟩ | ⟨rfl, rfl⟩ | ⟨rfl, rfl⟩ | ⟨rfl, rfl⟩ | ⟨rfl, rfl⟩ := h
  · exact ⟨0, rfl, fun x y => beq_iff_eq⟩
  · exact ⟨1, rfl, fun x y => bne_iff_ne⟩
  · exact ⟨2, rfl, fun x y => BitVec.slt_iff_toInt_lt⟩
  · refine ⟨3, rfl, fun x y => ?_⟩
    rw [branchCond, Bool.not_eq_true', ← Bool.not_eq_true, BitVec.slt_iff_toInt_lt, Int.not_lt]
  · exact ⟨4, rfl, fun x y => BitVec.ult_iff_toNat_lt⟩
  · refine ⟨5, rfl, fun x y => ?_⟩
    rw [branchCond, Bool.not_eq_true', ← Bool.not_eq_true, BitVec.ult_iff_toNat_lt, Nat.not_lt]
    all_goals omega

theorem State.branch_taken {k : Nat} (h : s.mayIssue b c)
    (hcond : branchCond k (((s.fetched b c).cx b c).getW wa) (((s.fetched b c).cx b c).getW wb) = true) :
    (s.fetched b c).branches (s.branch b c k wa wb off) b c ((s.fetched b c).cx b c) ((s.fetched b c).target b c off.toInt) := by
  refine State.issue_of_branches h ?_
  rw [if_pos hcond]
  exact State.branchTo_branches

theorem State.branch_not_taken {k : Nat} (h : s.mayIssue b c)
    (hcond : ¬branchCond k (((s.fetched b c).cx b c).getW wa) (((s.fetched b c).cx b c).getW wb) = true) :
    (s.fetched b c).completes (s.branch b c k wa wb off) b c ((s.fetched b c).cx b c) := by
  refine State.issue_of_completes h ?_
  rw [if_neg hcond]
  exact State.complete_completes

/-! ## BDEC and LOOP -/

/-- What BDEC leaves of its context's own state. -/
def CtxSt.counted (v : CtxSt) (wa : Nat) (rot : Bool) : CtxSt :=
  if rot then { v.setW wa (v.getW wa - 1) with rb := v.rb - 1 } else v.setW wa (v.getW wa - 1)

/-- BDEC changes its context's own state first, and then goes on or branches. -/
theorem bdec_issues {off : BitVec 20} : ∃ e, exec (.bdec b c wa rot off) s = .next (s.issue b c false e) ∧
    ∀ t : State, ∃ g, g (t.cx b c) = (t.cx b c).counted wa rot ∧
      e t = if (t.cx b c).getW wa - 1 ≠ 0 then (t.modCtx b c g).branchTo b c (t.target b c off.toInt) else (t.modCtx b c g).complete b c :=
  ⟨_, rfl, fun _ => ⟨_, rfl, rfl⟩⟩

theorem loop_issues : ∃ e, exec (.loop b c wa len rot) s = .next (s.issue b c false e) ∧ ∀ t : State, (t.cx b c).loop = none → len < 32 →
    e t = if (t.cx b c).getW wa = 0 then t.setPc b c (t.pcOf b c + 4 * (len + 2)) else
      (t.modCtx b c fun v => { v with loop := some ⟨t.pcOf b c + 4, t.pcOf b c + 4 * (len + 1), ((t.cx b c).getW wa).toNat, rot, false⟩ }).setPc b c
        (t.pcOf b c + 4) := by
  refine ⟨_, rfl, fun t hloop hlen => ?_⟩
  dsimp only
  rw [hloop, if_neg (show ¬(none : Option LoopSt).isSome = true from nofun), Nat.mod_eq_of_lt hlen]
  exact if_congr (BitVec.toNat_inj (y := 0#32)) rfl rfl
end
end Sys2Proof.Machine

namespace Sys2Proof
open Machine

/-- Settles O9, row by row: a taken branch ends the loop and sets the PC, any other instruction completes. -/
theorem branchesJumpsAndLoops : Obligations.BranchesJumpsAndLoops := by
  unfold Obligations.BranchesJumpsAndLoops
  refine ⟨fun s b c wa wb off i cond hrow h => ?_, fun s b c wa len rot off20 off26 v u pc h hv hpc => ?_⟩
  · obtain ⟨k, hexec, hcond⟩ := branchRows_cond (s := s) hrow
    exact ⟨_, hexec, fun hyes => State.branch_taken h ((hcond _ _).mpr hyes), fun hno => State.branch_not_taken h (mt (hcond _ _).mp hno)⟩
  · subst hv hpc
    refine ⟨fun hu => ?_, ⟨_, rfl, State.issue_of_branches h State.branchTo_branches⟩,
      ⟨_, rfl, State.issue_of_branches h State.modCtx_branchTo_branches⟩,
      fun hal => ⟨_, rfl, State.issue_of_branches h ?_⟩, fun hloop hlen => ?_⟩
    · subst hu
      obtain ⟨e, hexec, he⟩ := bdec_issues (s := s) (b := b) (c := c) (wa := wa) (rot := rot) (off := off20)
      obtain ⟨g, hg, hif⟩ := he (s.fetched b c)
      refine ⟨_, hexec, fun hne => State.issue_of_branches h ?_, fun hone => State.issue_of_completes h ?_⟩
      · rw [hif, if_pos (sub_ne_zero.mpr hne)]
        have hdone := State.modCtx_branchTo_branches (s := s.fetched b c) (b := b) (c := c) (g := g)
          (target := (s.fetched b c).target b c off20.toInt)
        rw [hg] at hdone
        exact hdone
      · rw [hif, if_neg (not_not.mpr (sub_eq_zero.mpr hone))]
        have hdone := State.modCtx_complete_completes (s := s.fetched b c) (b := b) (c := c) (g := g)
        rw [hg] at hdone
        exact hdone
    · rw [if_neg (not_not.mpr hal)]
      exact State.branchTo_branches
    · obtain ⟨e, hexec, he⟩ := loop_issues (s := s) (b := b) (c := c) (wa := wa) (len := len) (rot := rot)
      have heff := he _ hloop hlen
      by_cases hzero : ((s.fetched b c).cx b c).getW wa = 0
      · rw [if_pos hzero] at heff
        have honly : (s.fetched b c).onlyCtx (e (s.fetched b c)) b c := heff ▸ State.onlyCtx_setPc
        refine ⟨_, hexec, ?_⟩
        rw [State.issue_onlyCtx h honly, heff]
        exact ⟨State.onlyCtx_setPc, fun _ => ⟨rfl, State.setPc_pcOf⟩, fun hne => absurd hzero hne⟩
      · rw [if_neg hzero] at heff
        have honly : (s.fetched b c).onlyCtx (e (s.fetched b c)) b c := heff ▸ State.onlyCtx_modCtx.trans State.onlyCtx_setPc
        refine ⟨_, hexec, ?_⟩
        rw [State.issue_onlyCtx h honly, heff]
        refine ⟨State.onlyCtx_modCtx.trans State.onlyCtx_setPc, fun hz => absurd hz hzero, fun _ => ⟨?_, State.setPc_pcOf⟩⟩
        rw [State.setPc_cx, State.modCtx_cx]
end Sys2Proof

/-! # Special registers (R175 to R177, R201) -/

namespace Sys2Proof.Machine
open Sys2Proof

/-! ## MODE as MTS writes it -/

section
variable {x k : BitVec 32} {i : Nat}

/-- The writable bits of MODE beside MMODE. -/
theorem modeMask_testBit : (0xFF0C : Nat).testBit i = decide (2 ≤ i ∧ i < 4 ∨ 8 ≤ i ∧ i < 16) := by
  by_cases h : i < 16
  · interval_cases i
    all_goals rfl
  · rw [decide_eq_false (by omega)]
    exact Nat.testBit_lt_two_pow (Nat.lt_of_lt_of_le (by decide) (Nat.pow_le_pow_right (by decide) (Nat.not_lt.mp h)))

theorem low_testBit (hk : k.toNat < 4) (hi : 2 ≤ i) : k.toNat.testBit i = false :=
  Nat.testBit_lt_two_pow (Nat.lt_of_lt_of_le hk (Nat.pow_le_pow_right (n := 2) (by decide) hi))

/-- What MTS writes to MODE, where `k` is its MMODE. -/
def modeWritten (x k : BitVec 32) : BitVec 32 := (x &&& 0xFF0C) ||| k

theorem modeWritten_testBit (hk : k.toNat < 4) : (modeWritten x k).toNat.testBit i =
    if i < 2 then k.toNat.testBit i else x.toNat.testBit i && decide (2 ≤ i ∧ i < 4 ∨ 8 ≤ i ∧ i < 16) := by
  have hmask : (0xFF0C : BitVec 32).toNat = 0xFF0C := rfl
  rw [modeWritten, BitVec.toNat_or, BitVec.toNat_and, hmask, Nat.testBit_or, Nat.testBit_and, modeMask_testBit]
  split
  case isTrue h => rw [decide_eq_false (by omega), Bool.and_false, Bool.false_or]
  case isFalse h => rw [low_testBit hk (by omega), Bool.or_false]

theorem modeWritten_mmode (hk : k.toNat < 4) : (modeWritten x k).toNat % 2 ^ 2 = k.toNat := by
  refine Nat.eq_of_testBit_eq fun i => ?_
  rw [Nat.testBit_mod_two_pow, modeWritten_testBit hk]
  by_cases h : i < 2
  · rw [if_pos h, decide_eq_true h, Bool.true_and]
  · rw [decide_eq_false h, Bool.false_and, low_testBit hk (by omega)]

theorem modeWritten_middle (hk : k.toNat < 4) : (modeWritten x k).toNat / 2 ^ 2 % 2 ^ 2 = x.toNat / 2 ^ 2 % 2 ^ 2 := by
  refine Nat.eq_of_testBit_eq fun i => ?_
  rw [Nat.testBit_mod_two_pow, Nat.testBit_mod_two_pow, Nat.testBit_div_two_pow, Nat.testBit_div_two_pow, modeWritten_testBit hk, if_neg (by omega)]
  by_cases h : i < 2
  · rw [decide_eq_true (p := 2 ≤ i + 2 ∧ _ ∨ _) (by omega), Bool.and_true]
  · rw [decide_eq_false h, Bool.false_and, Bool.false_and]

theorem modeWritten_high (hk : k.toNat < 4) : (modeWritten x k).toNat / 2 ^ 8 = x.toNat / 2 ^ 8 % 2 ^ 8 := by
  refine Nat.eq_of_testBit_eq fun i => ?_
  rw [Nat.testBit_mod_two_pow, Nat.testBit_div_two_pow, Nat.testBit_div_two_pow, modeWritten_testBit hk, if_neg (by omega), Bool.and_comm]
  congr 1
  exact decide_eq_decide.mpr (by omega)

theorem modeWritten_reserved (hk : k.toNat < 4) : (modeWritten x k).toNat / 2 ^ 4 % 2 ^ 4 = 0 := by
  refine Nat.eq_of_testBit_eq fun i => ?_
  rw [Nat.testBit_mod_two_pow, Nat.testBit_div_two_pow, modeWritten_testBit hk, if_neg (by omega), Nat.zero_testBit]
  by_cases h : i < 4
  · rw [decide_eq_false (p := 2 ≤ i + 4 ∧ _ ∨ _) (by omega), Bool.and_false, Bool.and_false]
  · rw [decide_eq_false h, Bool.false_and]

theorem and_three_toNat : (x &&& 3).toNat = x.toNat % 4 := by
  rw [BitVec.toNat_and]
  exact Nat.and_two_pow_sub_one_eq_mod x.toNat 2
end

/-! ## MFS and MTS -/

section
variable {s : State} {b c wd wa num k : Nat} {x y : BitVec 32} {u v : CtxSt}

theorem State.mfs_completes (h : s.mayIssue b c) (hx : (s.fetched b c).special b c (num % 256) = some y) :
    ∃ t, exec (.mfs b c wd num) s = .next t ∧ (s.fetched b c).completes t b c (((s.fetched b c).cx b c).setW wd y) := by
  refine ⟨_, rfl, State.issue_of_completes h ?_⟩
  rw [hx]
  exact State.modCtx_complete_completes

theorem State.mts_completes (h : s.mayIssue b c) (hu : ((s.fetched b c).cx b c).setSpecial (num % 256) (((s.fetched b c).cx b c).getW wa) = some u) :
    ∃ t, exec (.mts b c wa num) s = .next t ∧ (s.fetched b c).completes t b c u := by
  refine ⟨_, rfl, State.issue_of_completes h ?_⟩
  rw [hu]
  exact State.modCtx_complete_completes (g := fun _ => u)

theorem State.special_rows (hk : k < 8)
    (h : (num, y) ∈ [(0, (s.cx b c).mode), (1, (s.cx b c).flags.zeroExtend 32), (2, (s.cx b c).rb.zeroExtend 32), (4, (s.cx b c).vhi.zeroExtend 32),
      (5, BitVec.ofNat 32 c), (6, (s.cx b c).tsec), (7, (s.cx b c).tsech), (8, (s.cx b c).tfrac.zeroExtend 32), (9, (s.cx b c).epend),
      (0x10 + k, ((s.cx b c).getM k).zeroExtend 32), (0x18 + k, ((s.cx b c).getS k).zeroExtend 32)]) : s.special b c (num % 256) = some y := by
  simp only [List.mem_cons, Prod.mk.injEq, List.not_mem_nil, or_false] at h
  obtain ⟨rfl, rfl⟩ | ⟨rfl, rfl⟩ | ⟨rfl, rfl⟩ | ⟨rfl, rfl⟩ | ⟨rfl, rfl⟩ | ⟨rfl, rfl⟩ | ⟨rfl, rfl⟩ | ⟨rfl, rfl⟩ |
    ⟨rfl, rfl⟩ | ⟨rfl, rfl⟩ | ⟨rfl, rfl⟩ := h
  case inr.inr.inr.inr.inr.inr.inr.inr.inr.inl | inr.inr.inr.inr.inr.inr.inr.inr.inr.inr =>
    interval_cases k
    all_goals rfl
  all_goals rfl

theorem CtxSt.setSpecial_rows
    (h : (num, u) ∈ [(1, { v with flags := x.truncate 3 }), (2, { v with rb := x.truncate 4 }), (4, { v with vhi := x.truncate 16 }),
      (9, { v with epend := v.epend &&& ~~~x })]) : v.setSpecial (num % 256) x = some u := by
  simp only [List.mem_cons, Prod.mk.injEq, List.not_mem_nil, or_false] at h
  obtain ⟨rfl, rfl⟩ | ⟨rfl, rfl⟩ | ⟨rfl, rfl⟩ | ⟨rfl, rfl⟩ := h
  all_goals rfl

/-- The MMODE that MTS of MODE leaves: an unlisted one is not taken. -/
def CtxSt.mmodeTaken (v : CtxSt) (x : BitVec 32) : BitVec 32 := if x.toNat % 4 = 3 then v.mode &&& 3 else x &&& 3

theorem CtxSt.mmodeTaken_toNat : (v.mmodeTaken x).toNat = if x.toNat % 4 = 3 then v.mode.toNat % 4 else x.toNat % 4 := by
  rw [CtxSt.mmodeTaken, apply_ite BitVec.toNat, and_three_toNat, and_three_toNat]

theorem CtxSt.mmodeTaken_lt : (v.mmodeTaken x).toNat < 4 := by
  rw [CtxSt.mmodeTaken_toNat]
  split
  all_goals exact Nat.mod_lt _ (by decide)

theorem CtxSt.setSpecial_mode : v.setSpecial (0 % 256) x = some { v with mode := modeWritten x (v.mmodeTaken x) } := rfl

/-- One of eight entries of a table that is replaced. -/
theorem Tab.get_put_eight {α : Type} [DecidableEq α] {d : Nat → α} {l : Tab α} {z : α} (hk : k < 8) : Tab.get d (Tab.put d l k z) (k % 8) = z := by
  rw [Nat.mod_eq_of_lt hk, Tab.get_put_same]

theorem Tab.get_put_eight_ne {α : Type} [DecidableEq α] {d : Nat → α} {l : Tab α} {z : α} {j : Nat} (hj : j < 8) (hne : j ≠ k) :
    Tab.get d (Tab.put d l k z) (j % 8) = Tab.get d l (j % 8) := Tab.get_put_ne _ _ _ (by omega)

theorem CtxSt.setSpecial_length (hk : k < 8) :
    v.setSpecial ((0x10 + k) % 256) x = some { v with m := Tab.put (fun _ => 0) v.m k (x.truncate 24) } := by
  interval_cases k
  all_goals rfl

theorem CtxSt.setSpecial_step (hk : k < 8) :
    v.setSpecial ((0x18 + k) % 256) x = some { v with st := Tab.put (fun _ => 0) v.st k (x.truncate 16) } := by
  interval_cases k
  all_goals rfl
end
end Sys2Proof.Machine

namespace Sys2Proof
open Machine

/-- Settles O10, register by register. -/
theorem specialRegisterMoves : Obligations.SpecialRegisterMoves := by
  unfold Obligations.SpecialRegisterMoves
  intro s b c wd wa k v x h hv hx hk
  subst hv hx
  refine ⟨fun num y hrow => State.mfs_completes h (State.special_rows hk hrow), fun num u hrow => State.mts_completes h (CtxSt.setSpecial_rows hrow),
    ?_, ?_, ?_, ⟨_, rfl, ?_⟩⟩
  · obtain ⟨t, ht, hdone⟩ := State.mts_completes h CtxSt.setSpecial_mode
    exact ⟨t, _, ht, hdone, rfl, (modeWritten_mmode CtxSt.mmodeTaken_lt).trans CtxSt.mmodeTaken_toNat, modeWritten_middle CtxSt.mmodeTaken_lt,
      modeWritten_high CtxSt.mmodeTaken_lt, modeWritten_reserved CtxSt.mmodeTaken_lt⟩
  · obtain ⟨t, ht, hdone⟩ := State.mts_completes h (CtxSt.setSpecial_length hk)
    exact ⟨t, _, ht, hdone, rfl, Tab.get_put_eight hk, fun j hj hne => Tab.get_put_eight_ne hj hne⟩
  · obtain ⟨t, ht, hdone⟩ := State.mts_completes h (CtxSt.setSpecial_step hk)
    exact ⟨t, _, ht, hdone, rfl, Tab.get_put_eight hk, fun j hj hne => Tab.get_put_eight_ne hj hne⟩
  · exact State.issue_completes (G := fun s v =>
      { v.setW wd (BitVec.ofNat 32 (nsOf (stampOf (s.nowQ (b / 32))))) with
        tsec := BitVec.ofNat 32 (secOf (stampOf (s.nowQ (b / 32)))), tsech := BitVec.ofNat 32 (secOf (stampOf (s.nowQ (b / 32))) / 2 ^ 32),
        tfrac := BitVec.ofNat 16 (fracOf (stampOf (s.nowQ (b / 32)))) }) h
end Sys2Proof

/-! # Stimulus and the trace sink (R204, R505 to R507, R510) -/

namespace Sys2Proof.Machine
open Sys2Proof

section
variable {s t : State} {b c q e port size data : Nat} {f g : Fld} {p : TrcPkt}

/-! ## STIM -/

/-- With the trace sink off, nothing is staged. -/
theorem State.tracePkt_off {kind : Nat} (h : s.bit (trcA (b / 32)) R.TRC_CFG.EN = false) : s.tracePkt b kind size c port data = s := by
  unfold State.tracePkt
  rw [h]
  rfl

theorem State.tracePkt_staged {kind : Nat} (h : s.bit (trcA (b / 32)) R.TRC_CFG.EN = true) (hroom : (s.dbg b).stage.length < 8) :
    (s.tracePkt b kind size c port data).dbg b = { s.dbg b with
      stage := (s.dbg b).stage ++ [⟨stampOf (s.nowQ (b / 32)), kind, (s.dbg b).loss, size, b, c, port, data⟩], loss := false } := by
  unfold State.tracePkt
  rw [h, if_pos rfl]
  dsimp only
  rw [if_neg (by omega), State.dbg_setDbg_same]

theorem State.tracePkt_dropped {kind : Nat} (h : s.bit (trcA (b / 32)) R.TRC_CFG.EN = true) (hfull : 8 ≤ (s.dbg b).stage.length) :
    s.tracePkt b kind size c port data = (s.bump (dbgEngA b) R.STIM_DROP.COUNT 1).setDbg b { s.dbg b with loss := true } := by
  unfold State.tracePkt
  rw [h, if_pos rfl]
  exact if_pos hfull

/-- Whether STIM's port is enabled. -/
def State.stimOn (s : State) (b port : Nat) : Bool := (s.rd (dbgEngA b) (R.STIM_EN.EN.shift (4 * (port / 32)))).testBit (port % 32)

/-- The effect of STIM before it completes. -/
def State.stimmed (s : State) (b c port wa size : Nat) : State :=
  if s.stimOn b port then s.tracePkt b 0 size c port (((s.cx b c).getW wa).toNat % 2 ^ (8 * 2 ^ size)) else s

theorem stim_issues {wa : Nat} (hport : port < 256) (hsize : size < 3) :
    ∃ e, exec (.stim b c port wa size) s = .next (s.issue b c false e) ∧ ∀ t, e t = (t.stimmed b c port wa size).complete b c := by
  refine ⟨_, rfl, fun t => ?_⟩
  dsimp only
  rw [if_neg (by omega), Nat.mod_eq_of_lt hport]
  rfl

theorem State.stimmed_eq {wa : Nat} : (s.stimmed b c port wa size).core = s.core ∧ (s.stimmed b c port wa size).ctxs = s.ctxs ∧
    ((s.stimmed b c port wa size).dbg b).deferred = (s.dbg b).deferred ∧
    ∀ k, k ≠ key (dbgEngA b) R.STIM_DROP.COUNT → Tab.get regReset (s.stimmed b c port wa size).flds k = Tab.get regReset s.flds k := by
  unfold State.stimmed
  split
  · exact State.tracePkt_eq
  · exact ⟨rfl, rfl, rfl, fun _ _ => rfl⟩

theorem State.stimmed_on {wa : Nat} (h : s.stimOn b port = true) :
    s.stimmed b c port wa size = s.tracePkt b 0 size c port (((s.cx b c).getW wa).toNat % 2 ^ (8 * 2 ^ size)) := if_pos h

theorem State.stimmed_off {wa : Nat} (h : s.stimOn b port = false ∨ s.bit (trcA (b / 32)) R.TRC_CFG.EN = false) :
    s.stimmed b c port wa size = s := by
  unfold State.stimmed
  split
  case isTrue hon =>
    obtain hport | hen := h
    · exact absurd (hport.symm.trans hon) (by decide)
    · exact State.tracePkt_off hen
  case isFalse => rfl

theorem State.stimmed_complete_deferred {wa : Nat} (h : (s.dbg b).deferred = none) :
    (((s.stimmed b c port wa size).complete b c).dbg b).deferred = none := by
  obtain ⟨-, -, hdeferred, -⟩ := State.stimmed_eq (s := s) (b := b) (c := c) (port := port) (wa := wa) (size := size)
  obtain ⟨honly, -⟩ := State.complete_completes (s := s.stimmed b c port wa size) (b := b) (c := c)
  rw [honly.dbg, hdeferred, h]

/-- STIM completes whatever its packet does: its context goes on as if there were none. -/
theorem State.stimmed_complete {wa : Nat} (hb : b < 128) (hc : c < 32) :
    ((s.stimmed b c port wa size).complete b c).cx b c = (s.cx b c).afterBody (s.pcOf b c) ∧
      ((s.stimmed b c port wa size).complete b c).pcOf b c = (s.cx b c).nextPc (s.pcOf b c) / 4 * 4 % 2 ^ 32 ∧
      ((s.stimmed b c port wa size).complete b c).mem = s.mem ∧
      ((s.stimmed b c port wa size).complete b c).dbg b = (s.stimmed b c port wa size).dbg b ∧
      ((s.stimmed b c port wa size).complete b c).rd (dbgEngA b) R.STIM_DROP.COUNT =
        (s.stimmed b c port wa size).rd (dbgEngA b) R.STIM_DROP.COUNT := by
  obtain ⟨hcore, hctxs, -, hflds⟩ := State.stimmed_eq (s := s) (b := b) (c := c) (port := port) (wa := wa) (size := size)
  have hpc : (s.stimmed b c port wa size).pcOf b c = s.pcOf b c := congrArg (· * 4) (hflds _ (ctxA_ne_dbgEngA hb hc (by decide)))
  simp only [State.core, Prod.mk.injEq] at hcore
  obtain ⟨-, -, hmem, -⟩ := hcore
  generalize s.stimmed b c port wa size = t at *
  obtain ⟨⟨hst, -, hkept⟩, hcx, hnext⟩ := State.complete_completes (s := t) (b := b) (c := c)
  rw [State.cx_congr hctxs, hpc] at hcx hnext
  have hdone : (t.complete b c).mem = t.mem := by rw [hst]
  have hdbgs : (t.complete b c).dbgs = t.dbgs := by rw [hst]
  exact ⟨hcx, hnext, hdone.trans hmem, State.dbg_congr hdbgs, hkept _ (ctxA_ne_dbgEngA hb hc (by decide)).symm⟩

/-! ## The trace sink -/

theorem State.emit_sink {o : Output} : (s.emit o).sink q = s.sink q := rfl

theorem State.emit_bit {o : Output} {a : Nat} : (s.emit o).bit a f = s.bit a f := rfl

theorem State.modDbg_dbg {k : DbgSt → DbgSt} : (s.modDbg b k).dbg b = k (s.dbg b) := State.dbg_setDbg_same ..

theorem State.bayOk_quad (h : s.bayOk b = true) : b / 32 < 4 ∧ s.quadOk (b / 32) = true := by
  have hb := State.bayOk_lt h
  unfold State.bayOk at h
  rw [Bool.and_eq_true] at h
  exact ⟨by omega, State.quadOk_of_live h.2⟩

theorem State.tracePacket_takes {net : Net} {rest : List TrcPkt} (hok : s.bayOk b = true) (hen : s.bit (trcA (b / 32)) R.TRC_CFG.EN = true)
    (hstage : (s.dbg b).stage = p :: rest) :
    exec (.tracePacket b net) s = .next ((s.modDbg b fun v => { v with stage := rest }).sinkTake (b / 32) p net) := by
  refine congrArg Host.Outcome.next ?_
  rw [hstage]
  dsimp only
  rw [hok, hen, Bool.and_self, if_pos rfl]

theorem State.sink_setSink {v : SinkSt} : (s.setSink q v).sink q = v := Tab.get_put_same ..

theorem State.sinkTake_room {net : Net} (hring : s.rd (trcA q) R.TRC_CFG.RING = 0) (hroom : (s.sink q).fifo.length < 64) :
    s.sinkTake q p net = s.setSink q ⟨(s.sink q).fifo ++ [{ p with loss := p.loss || (s.sink q).loss }], false⟩ := by
  unfold State.sinkTake
  dsimp only
  rw [if_pos hring, if_pos hroom]

theorem State.sinkTake_full {net : Net} (hring : s.rd (trcA q) R.TRC_CFG.RING = 0) (hfull : 64 ≤ (s.sink q).fifo.length) :
    s.sinkTake q p net = s.dropTrace q := by
  unfold State.sinkTake
  dsimp only
  rw [if_pos hring, if_neg (by omega)]

theorem trcA_ne_evtA (hoff : f.off < 0x100 ∧ f.lo < 32) (he : e < 1024) (hg : g.off < 0x10 ∧ g.lo < 32) : key (trcA q) f ≠ key (evtA e) g := by
  obtain ⟨hoff, hlo⟩ := hoff
  obtain ⟨hoff', hlo'⟩ := hg
  unfold key trcA evtA quadA
  omega

theorem dbgA_ne_evtA (hoff : f.off < 0x100 ∧ f.lo < 32) (he : e < 1024) (hg : g.off < 0x10 ∧ g.lo < 32) : key (dbgA q) f ≠ key (evtA e) g := by
  obtain ⟨hoff, hlo⟩ := hoff
  obtain ⟨hoff', hlo'⟩ := hg
  unfold key dbgA evtA quadA
  omega

theorem State.trcEvt_ok (hq : q < 4) (h : s.quadOk q = true) : s.evtOk (740 + q) = true := by
  have hsub : 740 + q - 740 = q := by omega
  unfold State.evtOk
  iterate 15 rw [if_neg (by omega)]
  rw [if_pos (by omega), hsub, h]

/-- A packet that the FIFO has no room for is counted, and raises the quadrant's event. -/
theorem State.dropTrace_eq (hq : q < 4) (h : s.quadOk q = true) :
    (s.dropTrace q).dbgs = s.dbgs ∧ (s.dropTrace q).sink q = { s.sink q with loss := true } ∧
    (s.dropTrace q).rd (trcA q) R.TRC_DROP.COUNT = min (s.rd (trcA q) R.TRC_DROP.COUNT + 1) (2 ^ 32 - 1) ∧
    s.occurred (s.dropTrace q) (740 + q) 1 := by
  have hregs : ((s.bump (trcA q) R.TRC_DROP.COUNT 1).setSink q { s.sink q with loss := true }).regsOnly (s.dropTrace q) := State.raise_regsOnly
  have hevt : ((s.bump (trcA q) R.TRC_DROP.COUNT 1).setSink q { s.sink q with loss := true }).evtOk (740 + q) = true := State.trcEvt_ok hq h
  have hdbgs : (s.dropTrace q).dbgs = ((s.bump (trcA q) R.TRC_DROP.COUNT 1).setSink q { s.sink q with loss := true }).dbgs := by rw [hregs]
  have hsinks : (s.dropTrace q).sinks = ((s.bump (trcA q) R.TRC_DROP.COUNT 1).setSink q { s.sink q with loss := true }).sinks := by rw [hregs]
  refine ⟨hdbgs, ?_, ?_, (State.occurred_raise hevt).congr (State.rd_wr_ne _ _ (trcA_ne_evtA (by decide) (by omega) (by decide)).symm) rfl⟩
  · unfold State.sink
    rw [hsinks]
    exact Tab.get_put_same ..
  · exact (State.raise_rd (trcA_ne_evtA (by decide) (by omega) (by decide)) (trcA_ne_evtA (by decide) (by omega) (by decide))).trans State.bump_rd

/-- The words that a read of TRC_POP latches are registers. -/
theorem State.holdWords_ctxRegs {w : Nat} :
    s.ctxRegs ((List.range 3).foldl (fun s i => s.wr (trcA q) (R.TRC_HOLD.WORD.shift (4 * i)) (w / 2 ^ (32 * (i + 1)))) s) :=
  List.foldlRecOn (motive := s.ctxRegs) _ _ .refl fun _ ht _ _ => ht.wr

theorem State.ctxRegs.kept (h : s.ctxRegs t) : t.sinks = s.sinks ∧ t.out = s.out ∧ t.mem = s.mem := by
  rw [h]
  exact ⟨rfl, rfl, rfl⟩

theorem State.sink_congr (h : t.sinks = s.sinks) : t.sink q = s.sink q := by
  unfold State.sink
  rw [h]

theorem State.trcPop_eq : (s.trcPop q).2.sink q = { s.sink q with fifo := (s.sink q).fifo.drop 1 } ∧ (s.trcPop q).2.out = s.out ∧
    (s.trcPop q).2.mem = s.mem := by
  unfold State.trcPop
  dsimp only
  obtain ⟨hsinks, hout, hmem⟩ := (State.holdWords_ctxRegs (s := s.setSink q { s.sink q with fifo := (s.sink q).fifo.drop 1 }) (q := q)).kept
  exact ⟨(State.sink_congr hsinks).trans State.sink_setSink, hout, hmem⟩

theorem State.trcPop_word : (s.trcPop q).1 = (((s.sink q).fifo.head?.map fun k => k.pack false % 2 ^ 32).getD 0) := by
  unfold State.trcPop
  dsimp only
  cases (s.sink q).fifo with
  | nil => rw [List.head?_nil, Option.map_none, Option.getD_none, Nat.zero_mod]
  | cons k l => rw [List.head?_cons, Option.map_some, Option.getD_some]

theorem State.levelDenied_eq : (s.levelDenied q).sinks = s.sinks ∧ (s.levelDenied q).out = s.out ∧
    (s.levelDenied q).bit (dbgA q) R.DBG_STAT.LEVEL_DENIED = true := by
  unfold State.levelDenied State.setFlag
  split
  case isTrue hset => exact ⟨rfl, rfl, hset⟩
  case isFalse =>
    have hregs : (s.wr (dbgA q) R.DBG_STAT.LEVEL_DENIED 1).regsOnly ((s.wr (dbgA q) R.DBG_STAT.LEVEL_DENIED 1).raise 738) := State.raise_regsOnly
    have hrd : ((s.wr (dbgA q) R.DBG_STAT.LEVEL_DENIED 1).raise 738).rd (dbgA q) R.DBG_STAT.LEVEL_DENIED = 1 % 2 ^ 1 :=
      (State.raise_rd (dbgA_ne_evtA (by decide) (by decide) (by decide)) (dbgA_ne_evtA (by decide) (by decide) (by decide))).trans
        (State.rd_wr_same ..)
    obtain ⟨hsinks, hout, -⟩ := (State.ctxRegs.refl (s := s)).wr (a := dbgA q) (f := R.DBG_STAT.LEVEL_DENIED) (v := 1) |>.kept
    refine ⟨(by rw [hregs] : _ = (s.wr (dbgA q) R.DBG_STAT.LEVEL_DENIED 1).sinks).trans hsinks,
      (by rw [hregs] : _ = (s.wr (dbgA q) R.DBG_STAT.LEVEL_DENIED 1).out).trans hout, ?_⟩
    unfold State.bit
    rw [hrd]
    rfl
end
end Sys2Proof.Machine

namespace Sys2Proof
open Machine

/-- Settles O17: STIM's packet leaves the context to its completion; the sink's FIFO takes, drops and gives packets in order. -/
theorem stimulusAndTraceSink : Obligations.StimulusAndTraceSink := by
  unfold Obligations.StimulusAndTraceSink
  refine ⟨fun s b c port wa size v s0 h hport hsize hs0 hv => ?_, fun s b q net p rest => ⟨fun hok hen hring hstage => ?_, fun hq hlevel => ?_,
    fun hq hlevel => ?_⟩⟩
  · subst hv hs0
    obtain ⟨e, hexec, he⟩ := stim_issues (s := s) (b := b) (c := c) (wa := wa) hport hsize
    have hissue : s.issue b c false e = ((s.fetched b c).stimmed b c port wa size).complete b c := by
      rw [State.issue_eq h, he]
      rw [he]
      exact State.stimmed_complete_deferred (State.deferred_fetched h)
    obtain ⟨hb, hc⟩ := State.canIssue_lt h.1
    obtain ⟨hcx, hpc, hmem, hdbg, hflds⟩ := State.stimmed_complete (s := s.fetched b c) (port := port) (wa := wa) (size := size) hb hc
    refine ⟨_, hexec.trans (congrArg _ hissue), hcx, hmem, fun hoff => ?_, fun hon hen => ⟨hpc, fun hroom => ?_, fun hfull => ?_⟩⟩
    · rw [State.stimmed_off hoff]
      exact State.complete_completes
    · rw [hdbg, State.stimmed_on hon, State.tracePkt_staged hen hroom]
      exact ⟨rfl, rfl⟩
    · rw [hdbg, hflds, State.stimmed_on hon, State.tracePkt_dropped hen hfull, State.dbg_setDbg_same]
      exact ⟨rfl, rfl, State.bump_rd⟩
  · obtain ⟨hlt, hquad⟩ := State.bayOk_quad hok
    have htake := State.tracePacket_takes (net := net) hok hen hstage
    have hstaged : ((s.modDbg b fun v => { v with stage := rest }).dbg b).stage = rest := by rw [State.modDbg_dbg]
    obtain hroom | hfull := Nat.lt_or_ge (s.sink (b / 32)).fifo.length 64
    · rw [State.sinkTake_room (s := s.modDbg b fun v => { v with stage := rest }) hring hroom] at htake
      exact ⟨_, htake, (congrArg DbgSt.stage (State.dbg_congr rfl)).trans hstaged, fun _ => ⟨congrArg SinkSt.fifo State.sink_setSink, rfl⟩,
        fun hfull => absurd hfull (by omega)⟩
    · rw [State.sinkTake_full (s := s.modDbg b fun v => { v with stage := rest }) hring hfull] at htake
      obtain ⟨hdbgs, hsink, hdrop, hocc⟩ := State.dropTrace_eq (s := s.modDbg b fun v => { v with stage := rest }) hlt hquad
      have hfifo := congrArg SinkSt.fifo hsink
      have hloss := congrArg SinkSt.loss hsink
      exact ⟨_, htake, (congrArg DbgSt.stage (State.dbg_congr hdbgs)).trans hstaged, fun hroom => absurd hroom (by omega),
        fun _ => ⟨hfifo, hloss, hdrop, hocc⟩⟩
  · have hexec : exec (.trcPop q) s = .next ((s.trcPop q).2.emit (.regValue (trcA q + 0x14) (s.trcPop q).1)) := by
      refine congrArg Host.Outcome.next ?_
      rw [if_pos hq, if_neg (by omega)]
    obtain ⟨hsink, hout, hmem⟩ := State.trcPop_eq (s := s) (q := q)
    exact ⟨_, hexec, congrArg SinkSt.fifo (State.emit_sink.trans hsink), (State.emit_out ..).trans (by rw [State.trcPop_word, hout]),
      (State.emit_mem ..).trans hmem⟩
  · have hexec : exec (.trcPop q) s = .next ((s.levelDenied q).emit (.regValue (trcA q + 0x14) 0)) := by
      refine congrArg Host.Outcome.next ?_
      rw [if_pos hq, if_pos hlevel]
    obtain ⟨hsinks, hout, hbit⟩ := State.levelDenied_eq (s := s) (q := q)
    exact ⟨_, hexec, congrArg SinkSt.fifo (State.emit_sink.trans (State.sink_congr hsinks)), State.emit_bit.trans hbit,
      (State.emit_out ..).trans (by rw [hout])⟩
end Sys2Proof

/-! # Waits and what ends them (R180, R202 to R204, R208, R213, R214) -/

namespace Sys2Proof.Machine
open Sys2Proof

section
variable {s t : State} {b c r : Nat} {w : Wait} {v : CtxSt} {f g : Fld}

/-! ## The state of a context and the running context -/

theorem State.setCtxState_state {n : Nat} (hn : n < 8) : (s.setCtxState b c n).ctxState b c = n :=
  (State.rd_wr_same ..).trans (Nat.mod_eq_of_lt hn)

theorem State.setCtxState_ctx {n k : Nat} : (s.setCtxState b c n).ctx k = s.ctx k := by
  unfold State.setCtxState State.ctx
  rw [State.wr_ctxs]

theorem State.stopRunning_ctx {k : Nat} : (s.stopRunning b).ctx k = s.ctx k := by
  unfold State.stopRunning State.ctx
  rw [State.wr_ctxs]

theorem State.modCtx_ctx {k : Nat} {u : CtxSt → CtxSt} (h : k ≠ b * 32 + c) : (s.modCtx b c u).ctx k = s.ctx k := State.ctx_setCtx_ne _ _ h

theorem State.stopRunning_pcOf : (s.stopRunning b).pcOf b c = s.pcOf b c :=
  congrArg (· * 4) (State.rd_wr_ne _ _ (ctxA_ne_schedA (by decide) (by decide)))

theorem State.setCtxState_pcOf {n : Nat} : (s.setCtxState b c n).pcOf b c = s.pcOf b c :=
  congrArg (· * 4) (State.rd_wr_ne _ _ (key_ne _ (by decide)))

theorem State.stopRunning_state : (s.stopRunning b).ctxState b c = s.ctxState b c :=
  State.rd_wr_ne _ _ (ctxA_ne_schedA (by decide) (by decide))

theorem State.stopRunning_running : (s.stopRunning b).running b = none := by
  have hoff : (s.stopRunning b).rd (schedA b) R.SCHED_STAT.ACTIVE = 0 := State.rd_wr_same ..
  unfold State.running State.bit
  rw [hoff]
  rfl

/-- Fields of two contexts at different offsets. -/
theorem ctxA_ne_ctxA (hf : ctxFits f) (hg : ctxFits g) (hne : f.off ≠ g.off) : key (ctxA b r) f ≠ key (ctxA b c) g := by
  obtain ⟨hoff, hlo⟩ := hf
  obtain ⟨hoff', hlo'⟩ := hg
  unfold key ctxA
  omega

theorem State.running_congr (hactive : t.rd (schedA b) R.SCHED_STAT.ACTIVE = s.rd (schedA b) R.SCHED_STAT.ACTIVE)
    (hcur : t.rd (schedA b) R.SCHED_STAT.CUR = s.rd (schedA b) R.SCHED_STAT.CUR) : t.running b = s.running b := by
  unfold State.running State.bit
  rw [hactive, hcur]

theorem State.effState_of_state (h : s.ctxState b c = 4) : s.effState b c = 4 := by
  unfold State.effState
  rw [h, if_neg (by decide)]

theorem State.setCtxState_running {n : Nat} : (s.setCtxState b c n).running b = s.running b :=
  State.running_congr (State.rd_wr_ne _ _ (ctxA_ne_schedA (by decide) (by decide)).symm)
    (State.rd_wr_ne _ _ (ctxA_ne_schedA (by decide) (by decide)).symm)

theorem State.setCtxState_prio {n : Nat} : (s.setCtxState b c n).prio b r = s.prio b r :=
  State.rd_wr_ne _ _ (ctxA_ne_ctxA (by decide) (by decide) (by decide))

/-! ## Giving way -/

/-- The running context gives way and waits. -/
theorem State.giveWay_waits (h : (s.dbg b).deferred = none) : s.waits (s.giveWay b c w) b c w ∧ ((s.giveWay b c w).dbg b).deferred = none := by
  have hregs : s.ctxRegs (((s.modCtx b c fun v => { v with wait := w }).setCtxState b c 4).stopRunning b) := .wr (.wr (.modCtx .refl))
  have hdbgs : (((s.modCtx b c fun v => { v with wait := w }).setCtxState b c 4).stopRunning b).dbgs = s.dbgs := by rw [hregs]
  have hnone : ((((s.modCtx b c fun v => { v with wait := w }).setCtxState b c 4).stopRunning b).dbg b).deferred = none := by
    rw [State.dbg_congr hdbgs, h]
  unfold State.giveWay
  rw [State.settleHalt_none hnone]
  refine ⟨⟨hregs, State.stopRunning_state.trans (State.setCtxState_state (by decide)), State.stopRunning_running, ?_, ?_, fun k hk => ?_⟩, hnone⟩
  · unfold State.cx
    rw [State.stopRunning_ctx, State.setCtxState_ctx]
    exact State.modCtx_cx
  · rw [State.stopRunning_pcOf, State.setCtxState_pcOf, State.modCtx_pcOf]
  · rw [State.stopRunning_ctx, State.setCtxState_ctx, State.modCtx_ctx hk]

/-- An instruction whose own effect is to wait. -/
theorem State.issue_waits {stc : Bool} {e : State → State} (h : s.mayIssue b c) (he : e (s.fetched b c) = (s.fetched b c).giveWay b c w) :
    (s.fetched b c).waits (s.issue b c stc e) b c w := by
  obtain ⟨hwaits, hnone⟩ := State.giveWay_waits (c := c) (w := w) (State.deferred_fetched h)
  rw [← he] at hwaits hnone
  rw [State.issue_eq h hnone]
  exact hwaits

/-! ## IDLE -/

/-- A running context leaves the set of runnable contexts. -/
theorem State.goIdle_eq (hstate : s.ctxState b c = 3) (h : (s.dbg b).deferred = none) :
    s.goIdle b c = (((s.complete b c).modCtx b c fun v => { v with wait := .none }).stopRunning b).setCtxState b c 1 := by
  obtain ⟨honly, -⟩ := State.complete_completes (s := s) (b := b) (c := c)
  obtain ⟨hst, -, hflds⟩ := honly
  have hdbgs : (s.complete b c).dbgs = s.dbgs := by rw [hst]
  have hrun : ((s.complete b c).modCtx b c fun v => { v with wait := .none }).ctxState b c = 3 := (hflds _ (key_ne _ (by decide))).trans hstate
  generalize hu : (s.complete b c).modCtx b c (fun v => { v with wait := .none }) = u at hrun
  have hudbgs : u.dbgs = s.dbgs := by
    rw [← hu]
    exact hdbgs
  have hregs : u.ctxRegs ((u.stopRunning b).setCtxState b c 1) := .wr (.wr .refl)
  have hnone : (((u.stopRunning b).setCtxState b c 1).dbg b).deferred = none := by
    rw [State.dbg_congr (s := u) (by rw [hregs]), State.dbg_congr hudbgs, h]
  unfold State.goIdle State.setEff
  dsimp only
  rw [hu, if_pos hrun, if_neg (by rw [State.stopRunning_state, hrun]; decide), State.settleHalt_none hnone]

theorem idle_issues (hposted : ((s.fetched b c).cx b c).posted = []) :
    ∃ e, exec (.idle b c) s = .next (s.issue b c false e) ∧ e (s.fetched b c) = (s.fetched b c).goIdle b c :=
  ⟨_, rfl, if_pos (by rw [hposted]; rfl)⟩

theorem State.goIdle_idle (hstate : s.ctxState b c = 3) (h : (s.dbg b).deferred = none) :
    (s.goIdle b c).ctxState b c = 1 ∧ (s.goIdle b c).running b = none ∧ (s.goIdle b c).pcOf b c = (s.cx b c).nextPc (s.pcOf b c) / 4 * 4 % 2 ^ 32 ∧
      (s.goIdle b c).mem = s.mem ∧ ((s.goIdle b c).dbg b).deferred = none := by
  obtain ⟨honly, -, hpc⟩ := State.complete_completes (s := s) (b := b) (c := c)
  rw [State.goIdle_eq hstate h]
  have hregs : (s.complete b c).ctxRegs ((((s.complete b c).modCtx b c fun v => { v with wait := .none }).stopRunning b).setCtxState b c 1) :=
    .wr (.wr (.modCtx .refl))
  have hmem : (s.complete b c).mem = s.mem := by rw [honly.1]
  refine ⟨State.setCtxState_state (by decide), State.setCtxState_running.trans State.stopRunning_running, ?_, ?_, ?_⟩
  · rw [State.setCtxState_pcOf, State.stopRunning_pcOf, State.modCtx_pcOf, hpc]
  · rw [← hmem, hregs]
  · rw [State.dbg_congr (s := s.complete b c) (by rw [hregs]), honly.dbg, h]

/-! ## The end of a wait -/

/-- A waiting context is READY, and the running one goes on unless its priority is lower. -/
theorem State.makeReady_eq (hstate : s.ctxState b c = 4) (hprio : ∀ r, s.running b = some r → s.prio b r ≤ s.prio b c) :
    s.makeReady b c = (s.modCtx b c fun v => { v with wait := .none }).setCtxState b c 2 := by
  have hmod : (s.modCtx b c fun v => { v with wait := .none }).ctxState b c = 4 := hstate
  unfold State.makeReady State.setEff
  dsimp only
  rw [hmod, if_neg (by decide), State.setCtxState_running]
  cases hrun : (s.modCtx b c fun v => { v with wait := .none }).running b with
  | none => rfl
  | some r =>
    dsimp only
    rw [State.setCtxState_prio, State.setCtxState_prio]
    exact if_neg fun hlow => Nat.not_lt.mpr (hprio r hrun) hlow.1

/-- A waiting context that completes is READY; nothing gives way to it. -/
theorem State.makeReady_of_completes (h : s.completes t b c v) (hstate : s.ctxState b c = 4)
    (hprio : ∀ r, s.running b = some r → s.prio b r ≤ s.prio b c) :
    (t.makeReady b c).ctxState b c = 2 ∧ (t.makeReady b c).cx b c = { v.afterBody (s.pcOf b c) with wait := .none } ∧
      (t.makeReady b c).pcOf b c = v.nextPc (s.pcOf b c) / 4 * 4 % 2 ^ 32 := by
  obtain ⟨⟨-, -, hflds⟩, hcx, hpc⟩ := h
  have hsched : ∀ f : Fld, f.off < 0x400 ∧ f.lo < 32 → t.rd (schedA b) f = s.rd (schedA b) f := fun f hf =>
    hflds _ (ctxA_ne_schedA (by decide) hf).symm
  have hrun : t.running b = s.running b := State.running_congr (hsched _ (by decide)) (hsched _ (by decide))
  have hp : ∀ r, t.prio b r = s.prio b r := fun r => hflds _ (ctxA_ne_ctxA (by decide) (by decide) (by decide))
  rw [State.makeReady_eq ((hflds _ (key_ne _ (by decide))).trans hstate) fun r hr => by rw [hp, hp]; exact hprio r (hrun.symm.trans hr)]
  refine ⟨State.setCtxState_state (by decide), ?_, ?_⟩
  · unfold State.cx at hcx ⊢
    rw [State.setCtxState_ctx, ← hcx]
    exact State.modCtx_cx
  · rw [State.setCtxState_pcOf, State.modCtx_pcOf, hpc]

theorem State.finishWait_eq {wd : Nat} {x : BitVec 32} :
    s.finishWait b c wd x = ((s.modCtx b c fun v => v.setW wd x).complete b c).makeReady b c := rfl

section
variable {wd since limit : Nat} {mask : BitVec 32} (hwaiting : (s.engineOn b && decide (c < 32) && decide (s.effState b c = 4)) = true)
include hwaiting

theorem fsyncWake_ends (hwait : (s.cx b c).wait = .fsync wd since) (hnew : (s.bay b).boundaries ≠ since) : exec (.fsyncWake b c) s =
    .next (((s.modCtx b c fun v => v.setW wd (BitVec.ofNat 32 (s.rd (bayA b) R.FRAME_NO.FRAME_NO))).complete b c).makeReady b c) := by
  refine congrArg Host.Outcome.next ?_
  rw [if_pos hwaiting, hwait, ← State.finishWait_eq]
  exact if_neg hnew

theorem wfeEvent_ends (hwait : (s.cx b c).wait = .wfe wd mask limit) (hgot : (s.cx b c).epend &&& mask ≠ 0) : exec (.wfeEvent b c) s =
    .next (((s.modCtx b c fun v => { v with epend := v.epend &&& ~~~mask }).result b c wd ((s.cx b c).epend &&& mask)).makeReady b c) := by
  refine congrArg Host.Outcome.next ?_
  rw [if_pos hwaiting, hwait]
  exact if_neg hgot

theorem wfeTimeout_ends (hwait : (s.cx b c).wait = .wfe wd mask limit) (hgot : (s.cx b c).epend &&& mask = 0) (hlimit : limit ≠ 0) :
    exec (.wfeTimeout b c) s = .next (((s.modCtx b c fun v => v.setW wd 0).complete b c).makeReady b c) := by
  refine congrArg Host.Outcome.next ?_
  rw [if_pos hwaiting, hwait, ← State.finishWait_eq]
  dsimp only
  rw [if_neg hlimit, if_pos hgot]
end
end
end Sys2Proof.Machine

namespace Sys2Proof
open Machine

/-- Settles O12: a wait stops the context where it is; what ends it completes the instruction and makes the context READY. -/
theorem engineWaits : Obligations.EngineWaits := by
  unfold Obligations.EngineWaits
  refine ⟨fun s b c wd wa wb v h hv => ?_, fun s b c wd hon hc hstate hprio => ?_⟩
  · subst hv
    have hd := State.deferred_fetched h
    have hempty : ∀ l : List Posted, l ≠ [] → ¬l.isEmpty = true := fun l hl he => hl (List.isEmpty_iff.mp he)
    refine ⟨fun hgot => ⟨_, rfl, State.issue_of_completes h ?_⟩, fun hgot => ⟨_, rfl, State.issue_waits h (if_neg (not_not.mpr hgot))⟩,
      ⟨_, rfl, State.issue_waits h rfl⟩, fun hposted => ⟨_, rfl, State.issue_of_completes h ?_⟩,
      fun hposted => ⟨_, rfl, State.issue_waits h (if_neg (hempty _ hposted))⟩, fun hposted hrun => ?_,
      fun hposted => ⟨_, rfl, State.issue_waits h (if_neg (hempty _ hposted))⟩⟩
    · dsimp only
      rw [if_pos hgot]
      exact State.modCtx_result_completes
    · rw [if_pos (by rw [hposted]; rfl)]
      exact State.complete_completes
    · obtain ⟨hstate, hnone, hpc, hmem, hdefer⟩ := State.goIdle_idle hrun hd
      obtain ⟨e, hexec, he⟩ := idle_issues hposted
      rw [← he] at hstate hnone hpc hmem hdefer
      rw [← State.issue_eq h hdefer] at hstate hnone hpc hmem
      exact ⟨_, hexec, hstate, hnone, hpc, hmem⟩
  · have hwaiting : (s.engineOn b && decide (c < 32) && decide (s.effState b c = 4)) = true := by
      rw [hon, State.effState_of_state hstate, decide_eq_true hc]
      rfl
    refine ⟨fun since hwait hnew => ⟨_, fsyncWake_ends hwaiting hwait hnew, ?_⟩,
      fun mask limit hwait hgot => ⟨_, wfeEvent_ends hwaiting hwait hgot, ?_⟩,
      fun mask limit hwait hgot hlimit => ⟨_, wfeTimeout_ends hwaiting hwait hgot hlimit, ?_⟩⟩
    · exact State.makeReady_of_completes State.modCtx_complete_completes hstate hprio
    · exact State.makeReady_of_completes State.modCtx_result_completes hstate hprio
    · exact State.makeReady_of_completes State.modCtx_complete_completes hstate hprio
end Sys2Proof

/-! # A posted-store error beside an earlier one (R216, R219) -/

namespace Sys2Proof.Machine
open Sys2Proof

/-- Context 0 of bay 0 waits, with one posted store, and with an earlier posted-store error that it has not taken. -/
def twoErrors : State :=
  ((({ State.reset with power := { PowerSt.init with stepsDone := true } }).wr (bayA 0) R.BAY_STATE.STATE 0).wr (ctxA 0 0) R.CTX_STATE.STATE 4).setCtx
    0 { CtxSt.init with posted := [⟨8, 8, 4, 0⟩], pendVa := some 0 }

end Sys2Proof.Machine

namespace Sys2Proof
open Machine

/-- Refutes O25: with an earlier posted-store error not yet taken, POSTED_STORE_ERROR sets MULTI and the context still waits. -/
theorem not_queueAndTranslatedWaitsEnd : ¬ Obligations.QueueAndTranslatedWaitsEnd := by
  unfold Obligations.QueueAndTranslatedWaitsEnd
  intro h
  obtain ⟨-, hposted, -⟩ := h twoErrors 0 0 (by decide) (by decide)
  obtain ⟨t, ht, -, -, hfaults, -⟩ := hposted ⟨8, 8, 4, 0⟩ [] (by decide)
  obtain ⟨hstate, -⟩ := hfaults (.inr (by decide)) (by decide)
  cases ht
  exact absurd hstate (by decide)
end Sys2Proof
